-- ==== Sys2Proof/Word.lean ====
section
/-!
DEFINITION. The words of the part: field extraction, little-endian byte strings (R34, R50: multi-byte
fields are little-endian), wrapping and saturating counters, two's complement. A value that the manual
numbers as a word is a `Nat` kept below its width by these helpers, or a `BitVec` where it is shifted and
masked whole.
-/

namespace Sys2Proof

/-- A byte string, first byte first; every entry is below 256. -/
abbrev Bytes := List Nat

/-- Bits `[lo+w-1 : lo]` of `x`. -/
def bits (x lo w : Nat) : Nat := (x >>> lo) % 2 ^ w

/-- Bit `i` of `x`. -/
def bit (x i : Nat) : Bool := x.testBit i

/-- `x` with bits `[lo+w-1 : lo]` replaced by `v`. -/
def setBits (x lo w v : Nat) : Nat :=
  x % 2 ^ lo + (v % 2 ^ w) * 2 ^ lo + (x >>> (lo + w)) * 2 ^ (lo + w)

/-- 1 or 0. -/
def b2n (b : Bool) : Nat := if b then 1 else 0

/-- `x` with bit `i` set. -/
def orBit (x i : Nat) : Nat := if bit x i then x else x + 2 ^ i

/-- `x` with bit `i` clear. -/
def clearBit (x i : Nat) : Nat := if bit x i then x - 2 ^ i else x

/-- The `n` low bytes of `x`, least significant first. -/
def leBytes : Nat → Nat → Bytes
  | 0, _ => []
  | n + 1, x => x % 256 :: leBytes n (x / 256)

/-- The value of a little-endian byte string. -/
def leNat : Bytes → Nat
  | [] => 0
  | b :: bs => b % 256 + 256 * leNat bs

/-- `n` zero bytes. -/
def zeros (n : Nat) : Bytes := List.replicate n 0

/-- The zero bytes that pad a string of `n` bytes to a multiple of 4 (R51). -/
def pad4 (n : Nat) : Bytes := zeros ((4 - n % 4) % 4)

/-- A counter of `w` bits counted up by `d`, staying at its maximum. The manual gives no wrap of a counter
that reports (DESIGN CHOICE, log entry 11). -/
def satAdd (w x d : Nat) : Nat := min (x + d) (2 ^ w - 1)

/-- An `x` of `w` bits after adding `d`, wrapping (sequence numbers, generations, pointers). -/
def wrapAdd (w x d : Nat) : Nat := (x + d) % 2 ^ w

/-- Two's complement of `w` bits, as an integer. -/
def toSigned (w x : Nat) : Int :=
  if x % 2 ^ w < 2 ^ (w - 1) then ((x % 2 ^ w : Nat) : Int) else ((x % 2 ^ w : Nat) : Int) - ((2 ^ w : Nat) : Int)

/-- The `w`-bit two's complement word of an integer. -/
def ofSigned (w : Nat) (i : Int) : Nat := (i % ((2 ^ w : Nat) : Int)).toNat

/-- Whether a byte string is well-formed UTF-8 (R34): the lead byte fixes the number of continuation bytes,
no overlong form, no surrogate, nothing above U+10FFFF. -/
def utf8Ok : Bytes → Bool
  | [] => true
  | b :: r =>
    if b < 0x80 then utf8Ok r
    else
      match r with
      | c :: r1 =>
        if 0xC2 ≤ b ∧ b ≤ 0xDF then decide (0x80 ≤ c ∧ c < 0xC0) && utf8Ok r1
        else
          match r1 with
          | d :: r2 =>
            if 0xE0 ≤ b ∧ b ≤ 0xEF then
              decide (0x80 ≤ c ∧ c < 0xC0 ∧ 0x80 ≤ d ∧ d < 0xC0 ∧ (b = 0xE0 → 0xA0 ≤ c) ∧ (b = 0xED → c < 0xA0))
                && utf8Ok r2
            else
              match r2 with
              | e :: r3 =>
                decide (0xF0 ≤ b ∧ b ≤ 0xF4 ∧ 0x80 ≤ c ∧ c < 0xC0 ∧ 0x80 ≤ d ∧ d < 0xC0 ∧ 0x80 ≤ e ∧ e < 0xC0
                  ∧ (b = 0xF0 → 0x90 ≤ c) ∧ (b = 0xF4 → c < 0x90)) && utf8Ok r3
              | [] => false
          | [] => false
      | [] => false

/-- The value of one hexadecimal digit character, 16 when the byte is none. -/
def hexDigit (b : Nat) : Nat :=
  if 0x30 ≤ b ∧ b ≤ 0x39 then b - 0x30
  else if 0x41 ≤ b ∧ b ≤ 0x46 then b - 0x37
  else if 0x61 ≤ b ∧ b ≤ 0x66 then b - 0x57
  else 16

/-- Bytes written as pairs of hexadecimal characters, high digit first; none when the string is not that. -/
def hexBytes : Bytes → Option Bytes
  | [] => some []
  | [_] => none
  | a :: b :: r =>
    if hexDigit a < 16 ∧ hexDigit b < 16 then (hexBytes r).map (fun t => (hexDigit a * 16 + hexDigit b) :: t)
    else none

/-- The bytes of an ASCII text. -/
def ascii (t : String) : Bytes := t.toList.map Char.toNat

/-- The first entry of a list that satisfies `p`, with its position. -/
def findAt {α : Type} (p : α → Bool) (l : List α) : Option (Nat × α) :=
  (l.zipIdx.find? (fun x => p x.1)).map (fun x => (x.2, x.1))

/-- Replaces every entry that satisfies `p`. -/
def updWhere {α : Type} (p : α → Bool) (f : α → α) (l : List α) : List α :=
  l.map (fun x => if p x then f x else x)

/-- Inserts into a list sorted by `le`. -/
def insertBy {α : Type} (le : α → α → Bool) (x : α) : List α → List α
  | [] => [x]
  | y :: r => if le x y then x :: y :: r else y :: insertBy le x r

/-- Sorts by insertion. -/
def sortBy {α : Type} (le : α → α → Bool) (l : List α) : List α := l.foldr (insertBy le) []

/-- Replaces the entry at position `i`. -/
def updAt {α : Type} (i : Nat) (f : α → α) (l : List α) : List α := l.modify i f

end Sys2Proof
end

