-- ==== Sys2Proof/Syntax.lean ====
section
/-!
DEFINITION. Syntax.lean: the commands of the part, one constructor per row of spec/opcode_table.json, with the
operands each row carries, and the operand types. The table gives no row any bits.
-/

namespace Sys2Proof

/-- The carrier a Rendi message came over (R66 to R69): a management port, a data port with the VLAN of the
frame (in-band), or the PF mailbox. -/
inductive Carrier where
  | meth (n : Nat)
  | inband (port vlan : Nat)
  | mailbox
deriving DecidableEq, Repr

/-- The header of a received Rendi message (Table 2-6) and how it arrived: source IPv4 address, UDP destination
port, fragmented or not, and the number of authenticated requests then queued (R61). `len` is the `LEN` field. -/
structure Hdr where
  carrier : Carrier
  src : Nat
  dport : Nat
  frag : Bool
  queued : Nat
  ver : Nat
  kind : Nat
  pend : Bool
  len : Nat
  session : Nat
  seq : Nat
  rtag : Nat
  auth : Bytes
deriving DecidableEq, Repr

/-- An item of a Rendi body (R51). -/
structure Item where
  idx : Nat
  sub : Nat
  flags : Nat
  row : Nat
  len : Nat
  stat : Nat
  value : Bytes
deriving DecidableEq, Repr


/-- A 4 KiB block of a stripe as a step has it from the members: column, block row, whether it could be read, its data
and its 16 bytes of metadata. -/
structure Cell where
  col : Nat
  row : Nat
  ok : Bool
  data : Nat
  pi : Nat
deriving DecidableEq, Repr

/-- A received RoCEv2 or CM packet, or a message of `n` packets that arrives whole, as the port sees it: port and
sub-port, frame length, whether it overlapped an uncorrectable FEC codeword, whether its ICRC failed, which of the
device's own addresses its destination MAC is (offset from `id.mac_base`; none otherwise), source MAC, VLAN and PCP,
IPv6 or IPv4, addresses, UDP ports, DSCP, CE mark, destination QPN, PSN, AckReq, packets. -/
structure Pkt where
  port : Nat
  sub : Nat
  len : Nat
  fecBad : Bool
  icrcBad : Bool
  dmac : Option Nat
  smac : Nat
  vlan : Nat
  pcp : Nat
  v6 : Bool
  src : Nat
  dst : Nat
  sport : Nat
  dport : Nat
  dscp : Nat
  ce : Bool
  qpn : Nat
  psn : Nat
  ackReq : Bool
  n : Nat
deriving DecidableEq, Repr

/-- What a CM REQ carries (R226, R227): communication identifier, record format and queue ID, requester's responder
resources and initiator depth, HRQSIZE and HSQSIZE, path MTU in bytes, requester's QPN and starting PSN, DSCP of the
primary path, controller ID asked for. -/
structure CmReq where
  comm : Nat
  fmt : Nat
  qid : Nat
  resources : Nat
  depth : Nat
  hrq : Nat
  hsq : Nat
  mtu : Nat
  qpn : Nat
  psn : Nat
  dscp : Nat
deriving DecidableEq, Repr

/-- The data pointer of a capsule: a keyed SGL (address, key, length, remote invalidation asked for) or in-capsule
data. -/
structure Sgl where
  va : Nat
  key : Nat
  len : Nat
  inval : Bool
  inCapsule : Bool
  data : Nat
deriving DecidableEq, Repr

/-- Protection information fields of a block command (R245): PRACT, PRCHK (guard bit 2, application bit 1, reference
bit 0), expected reference tag, application tag and its mask. -/
structure PrInfo where
  pract : Bool
  prchk : Nat
  ref : Nat
  app : Nat
  mask : Nat
deriving DecidableEq, Repr

/-- The CETH of a CHAIN ARM or CHAIN DISARM (R275). -/
structure Ceth where
  ckey : Nat
  slot : Nat
  count : Nat
  rearm : Bool
  scope : Nat
  tagchk : Nat
  landKey : Nat
  landOff : Nat
  landLen : Nat
deriving DecidableEq, Repr

/-- The fields of a function's configuration space (Table 12-1): identification, Command (bus-master enable, memory space
enable, Interrupt Disable), Device Control (Relaxed Ordering Enable, Max Payload Size, Max Read Request Size, in bytes),
Device Control 2 (Completion Timeout Value and Disable), MSI-X (Enable, Function Mask), SR-IOV (VF Enable, NumVFs), power
state (0 D0, 3 D3hot), BARs, and any capability not listed. -/
inductive CfgField where
  | vendor | device | revision | classCode | subVendor | subDevice | serial
  | master | memory | intxDisable | relaxed | mps | mrrs | ctoValue | ctoDisable | msixEnable | msixMask
  | vfEnable | numVfs | totalVfs | power | bar0 | bar2 | absent
deriving DecidableEq, Repr

/-- The header of a received twin link frame (Table 14-4): `SEQ`, `ACK`, `CREDIT` in KiB, `EPOCH`, and whether the header
and payload CRCs pass. -/
structure TwHdr where
  seq : Nat
  ack : Nat
  credit : Nat
  epoch : Nat
  crcOk : Bool
deriving DecidableEq, Repr

/-- The header of a received skein message (Table 14-2) and how it came: path (0 twin link, 1 data ports, 2 management
ports), port, source IPv4 address and DSCP of a datagram, the twin link frame that carried it. `seq` is the whole 64-bit `SEQ`. -/
structure SkHdr where
  path : Nat
  port : Nat
  src : Nat
  dscp : Nat
  tw : Option TwHdr
  row : Nat
  role : Nat
  term : Nat
  seq : Nat
  sender : Nat
  auth : Bytes
deriving DecidableEq, Repr

/-- A directory entry (R475): a skein row (role, present in the manager's view, shelf), a shelf (state, array, free raw
bytes, namespaces present, host digests), the current side of a namespace of a shelf. -/
inductive DirEnt where
  | row (r role : Nat) (view : Bool) (shelf : Nat)
  | shelf (sh state array free count : Nat) (digests : List Nat)
  | ns (sh n side : Nat)
deriving DecidableEq, Repr

/-- The key of a hoop frame (R137): namespace row, bolt entry, slot selector, stripe, column, generation. -/
structure FKey where
  ns : Nat
  entry : Nat
  sel : Nat
  stripe : Nat
  col : Nat
  gen : Nat
deriving DecidableEq, Repr

/-- A basting record as it travels or lies on a journal member (Table 4-3): kind (0 DESTAGE, 1 RECONSTRUCT, 2 COPYBACK,
3 MIGRATE, 4 RESYNC, 5 CHECKPOINT, 6 RETIRE). -/
structure JArg where
  kind : Nat
  geo : Nat
  gen : Nat
  jseq : Nat
  entry : Nat
  sel : Nat
  stripe : Nat
  members : Nat
  stitches : Nat
  sbase : Nat
  time : Nat
  aux : Nat
  retires : List Nat
deriving DecidableEq, Repr

/-- What a KEEPER frame carries (R363, R373, R514): a criterion of Table 10-4 met at a bay; a member row after a
transition (state, position, reason); a map entry update (the fields of Table 3-7); a ramp asked for, granted, its rails
ON; the mean power of a bay's paths. -/
inductive KMsg where
  | criterion (bay reason : Nat)
  | member (bay st pos reason : Nat)
  | mapUpd (entry base tbase st geo tgeo : Nat) (suspect lost : Bool) (cursor ns : Nat)
  | rampAsk (bay : Nat)
  | rampGrant (bay : Nat)
  | rampEnd (bay : Nat)
  | power (bay watts : Nat)
deriving DecidableEq, Repr

/-- What a bring-up stage found. S1: nothing. S2: whether each MSQ copy passed its self-test, the check of R493 each
firmware slot's image fails (0 none; 1, 3, 4 or 5). S4: the DIMM size in GiB of each of the 12 channels (0 none). S5: the
retention record and its digest valid (R159); the newest vault generation readable with every CRC good; the stripes (key
numbers) of frames that neither it nor the partner's half supplied (R156, R160); a journal copy readable (R147); the records whose P and Q did not match; the
namespaces whose ownership record names the other side (R161). -/
structure StageArg where
  msqA : Bool
  msqB : Bool
  fwA : Nat
  fwB : Nat
  dimms : List Nat
  retained : Bool
  vaultOk : Bool
  missing : List Nat
  journal : Bool
  wrong : List Nat
  taken : List Nat
deriving DecidableEq, Repr

/-- The commands. -/
inductive Instr where
  /-- PD_REQUEST (R22): A write of pd.request to an internal power domain row requests it on or off under Table 1-14. -/
  | pdRequest (h : Hdr) (row value : Nat)
  /-- DOMAIN_READY (R22): A WAKING domain becomes ready and goes ON, opening fabric port and work admission. -/
  | domainReady (row : Nat)
  /-- DOMAIN_DRAIN_DONE (R22): A DRAINING domain has no work in flight, opens its switch and goes OFF. -/
  | domainDrainDone (row : Nat)
  /-- DOMAIN_DRAIN_TIMEOUT (R22): After 100 ms of draining with work in flight, the off request is refused and the domain returns to ON. -/
  | domainDrainTimeout (row : Nat)
  /-- PTP_SYNC (R16): A PTP Sync message received on the chosen port disciplines the timebase. -/
  | ptpSync (port domain transport : Nat) (offset : Int)
  /-- DETECTION (R519): A detector senses a fault condition, counts it, engages its fence and writes an event record. -/
  | detection (det stype scope detail : Nat)
  /-- NOTIFY_TIMER_EXPIRY (R64): 1 ms after the first unsent record, a notification is sent with the records ready. -/
  | notifyTimerExpiry (sub : Nat)
  /-- COALESCE_WINDOW_EXPIRY (R522): At the end of the evt.coalesce window one record with ACT 7 reports the suppressed repeats. -/
  | coalesceWindowExpiry (det stype scope : Nat)
  /-- HELLO (R55): A HELLO request opens a half-open session and returns the device nonce and session identifier. -/
  | hello (h : Hdr) (slot level : Nat) (nonce : Bytes)
  /-- OPEN (R55): An OPEN request completes session setup and grants the lower of the requested level and key.level. -/
  | openReq (h : Hdr)
  /-- CLOSE (R58): A CLOSE request closes the session and removes its subscriptions. -/
  | closeReq (h : Hdr)
  /-- READ (R53): A READ request returns the value of every item, or pending values with the PENDING flag. -/
  | readReq (h : Hdr) (items : List Item)
  /-- WRITE (R53): A WRITE request writes objects without behaviour of their own, stopping at the first failing item. -/
  | writeReq (h : Hdr) (items : List Item)
  /-- COMMIT (R42): A COMMIT snapshots and validates pending values and starts writing the image to the inactive slot. -/
  | commitReq (h : Hdr)
  /-- COMMIT_WRITE_DONE (R42): The image write completes; the digest is checked, the slot marked valid, pending RWC values applied and OK sent. -/
  | commitWriteDone (ok : Bool)
  /-- SUBSCRIBE (R63): A SUBSCRIBE request creates a subscription for the selected detector groups and scope types. -/
  | subscribe (h : Hdr) (groups scopes start : Nat)
  /-- UNSUBSCRIBE (R63): An UNSUBSCRIBE request removes a subscription. -/
  | unsubscribe (h : Hdr) (sub : Nat)
  /-- HALF_OPEN_EXPIRY (R55): A half-open session not opened within 1 s is discarded. -/
  | halfOpenExpiry (id : Nat)
  /-- SESSION_IDLE_TIMEOUT (R58): A session without an accepted request for rendi.idle_timeout is closed. -/
  | sessionIdleTimeout (row : Nat)
  /-- DICT_RESTORE_DISCARD (R48): dict.restore argument 1 discards all pending values. -/
  | dictRestoreDiscard (h : Hdr)
  /-- DICT_RESTORE_FACTORY (R48): dict.restore argument 2 sets factory defaults as pending values except keys and management ports. -/
  | dictRestoreFactory (h : Hdr)
  /-- DICT_RESTORE_SLOT (R48): dict.restore argument 3 sets the inactive slot's image values as pending values. -/
  | dictRestoreSlot (h : Hdr)
  /-- DICT_RESTORE_ALL (R48): dict.restore_all sets factory defaults for every P object, including keys and management ports, as pending values. -/
  | dictRestoreAll (h : Hdr)
  /-- SESS_CLOSE (R58): The sess.close action closes the session in its row. -/
  | sessClose (h : Hdr) (row : Nat)
  /-- KEY_VALUE_WRITE (R59): A wrapped key written to key.value is unwrapped and stored, closing sessions on the row. -/
  | keyValueWrite (h : Hdr) (row : Nat) (value : Bytes)
  /-- KEY_LEVEL_WRITE (R58): A write of key.level changes the slot's level and closes sessions on the row. -/
  | keyLevelWrite (h : Hdr) (row level : Nat)
  /-- MAILBOX_GO (R69): Setting EP_MBX_CTRL.GO submits the request buffer to the device. -/
  | mailboxGo (queued : Nat)
  /-- REGISTER_WRITE (R6): A write to a BAR register field that has no behaviour of its own stores the value. -/
  | registerWrite (func off : Nat) (value : BitVec 32)
  /-- SMB_SELECT_OBJECT (R71): SMBus command 0x10 selects a dictionary object for later reads. -/
  | smbSelectObject (idx sub flags row : Nat) (pecBad : Bool)
  /-- GEO_ACTIVATE (R84): geo.activate argument 1 checks R81 and starts generating the pattern and spare tables. -/
  | geoActivate (h : Hdr) (g : Nat)
  /-- GEO_TABLES_GENERATED (R84): Table generation ends; passing tables are written to all map copies, or the activation fails. -/
  | geoTablesGenerated (g : Nat)
  /-- GEO_MAP_ACK (R84): Map copies acknowledge the tables; they are loaded on die and the geometry becomes ACTIVE. -/
  | geoMapAck (g : Nat) (ok : Bool)
  /-- GEO_RETIRE (R84): geo.activate argument 2 returns an unused ACTIVE geometry to FREE, or fails with detail 5. -/
  | geoRetire (h : Hdr) (g : Nat)
  /-- MAP_COPY_ACK (R78): The map copies acknowledge a bolt map block write and MSQ applies the entry update. -/
  | mapCopyAck (blk : Nat)
  /-- NS_SLOTS_FREED (R95): Slots of a deleted namespace return to the free list once commands that looked up them complete. -/
  | nsSlotsFreed (ns : Nat)
  /-- ZERO_INIT_DONE (R99): Zero full stripes of a ZERO bolt are written; the entry goes MAPPED and the waiting destage proceeds. -/
  | zeroInitDone (entry : Nat)
  /-- BOLT_MIGRATE (R111): bolt.migrate requests migration of one bolt to a target geometry. -/
  | boltMigrate (h : Hdr) (entry geo : Nat)
  /-- MIGRATION_START (R111): A waiting bolt gets a target slot and an active migration place and is set MIGRATING. -/
  | migrationStart (entry : Nat)
  /-- MIGRATION_STRIPE_COPY (R111): The range of the next target stripe is held, read newest first and written as a full stripe under a record. -/
  | migrationStripeCopy (entry : Nat) (cells : List Cell)
  /-- MIGRATION_RECORD_RETIRE (R111): The copy's record retires, CURSOR advances and the range is released. -/
  | migrationRecordRetire (entry : Nat)
  /-- MIGRATION_SOURCE_FREE (R111): The source slot is freed after every command that looked up the old entry has completed. -/
  | migrationSourceFree (entry : Nat)
  /-- COPYBACK_STRIPE (R107): Copy-back copies or reconstructs the stitches of one stripe for the refilled position and advances its cursor. -/
  | copybackStripe (pos : Nat) (cells : List Cell)
  /-- FRAME_RESERVE (R122): A waiting write reserves hoop frames in its partition as they become available. -/
  | frameReserve (ns : Nat)
  /-- FILL_READ_DONE (R126): The read filling a partly written 4 KiB block completes and the write is merged. -/
  | fillReadDone (cmd range row : Nat) (ok : Bool) (data pi : Nat)
  /-- HOLD_TIMER_EXPIRY (R127): A stripe's hold timer expires and its destage is triggered. -/
  | holdTimerExpiry (entry sel stripe : Nat)
  /-- DESTAGE_START (R128): A triggered FILLING stripe without a live record starts fill-in. -/
  | destageStart (entry sel stripe : Nat)
  /-- FILL_IN_DONE (R129): Fill-in completes and the DESTAGE record is submitted for persistence. -/
  | fillInDone (entry sel stripe : Nat) (cells : List Cell)
  /-- BASTING_RECORD_PERSISTED (R140): A basting record is held in every existing place and its stripe goes to BASTED. -/
  | bastingRecordPersisted (jseq : Nat)
  /-- DESTAGE_ENCODE (R132): A darning engine reads the BASTED stripe, computes P and Q and streams k + 2 stitches to members. -/
  | destageEncode (entry sel stripe : Nat) (bad : List Cell)
  /-- MEMBER_COMPLETION (R356): A member command completes or fails on its I/O queue and its owner proceeds. -/
  | memberCompletion (tag status : Nat) (data : List (Nat × Nat))
  /-- DARNING_DECODE_DONE (R169): A darning engine finishes decoding missing blocks for a degraded read or a pass. -/
  | darningDecodeDone (cmd blk : Nat)
  /-- JOURNAL_PAGE_WRITE_DONE (R141): A journal page write to a journal member completes. -/
  | journalPageWriteDone (page copy : Nat) (ok : Bool)
  /-- BAST_JOURNAL_MOVE (R145): bast.journal_move moves the second journal copy to a named position. -/
  | bastJournalMove (h : Hdr) (pos : Nat)
  /-- VAULT_CHUNK_WRITE_DONE (R153): A vault chunk write completes, or fails and is repeated at the next position. -/
  | vaultChunkWriteDone (ok : Bool)
  /-- VAULT_FLUSH_DONE (R153): The Flush to every written member completes and the COMPLETE header is written. -/
  | vaultFlushDone (held : Bool)
  /-- VAULT_TEST (R158): vault.test runs a complete dump without quiescing hosts and measures vault.rate. -/
  | vaultTest (h : Hdr)
  /-- RECONSTRUCT_STRIPE (R172): A normal pass reconstructs the failed position's stitch of the next stripe into its spare slot. -/
  | reconstructStripe (pos : Nat) (cells : List Cell)
  /-- RATE_CONTROLLER_WINDOW (R179): Every rb.window the controller recomputes the ceiling, rb.rate and bg.rate. -/
  | rateControllerWindow (reads p99 : Nat)
  /-- SCRUB_START (R200): scrub.start ends the current pass and starts a new one at entry 0. -/
  | scrubStart (h : Hdr)
  /-- PROACTIVE_COPY_START (R201): A waiting proactive copy takes a lane once one qualifies. -/
  | proactiveCopyStart (pos : Nat)
  /-- ETH_LINK_UP (R207): A sub-port link comes up after auto-negotiation and training; held frames leave first. -/
  | ethLinkUp (port sub : Nat) (matched : Bool)
  /-- ETH_LINK_DOWN (R240): A sub-port link goes down; QPs keep state and the link-down hold starts. -/
  | ethLinkDown (port sub : Nat)
  /-- ARP_REQUEST (R212): An ARP request for a gid entry's address is answered. -/
  | arpRequest (k : Pkt) (target : Nat)
  /-- NEIGHBOR_SOLICITATION (R212): An IPv6 Neighbor Solicitation for an entry's address is answered. -/
  | neighborSolicitation (k : Pkt) (target : Nat)
  /-- PFC_PAUSE (R220): A received PAUSE stops egress of the priority's class queues for the pause time. -/
  | pfcPause (port prio quanta : Nat)
  /-- PAUSE_QUANTA_EXPIRY (R220): The received pause time runs out and egress of the priority resumes. -/
  | pauseQuantaExpiry (port prio : Nat)
  /-- PFC_REPEAT_TIMER (R220): Every half quanta while above xoff, PAUSE is sent again. -/
  | pfcRepeatTimer (port prio level : Nat)
  /-- PFC_WATCHDOG_EXPIRY (R221): Egress paused longer than eth.pfc_wd trips the watchdog and PAUSE is ignored for the priority. -/
  | pfcWatchdogExpiry (port prio : Nat)
  /-- CM_REQ (R228): A CM REQ is queued for admission, dropped when the queue is full, or answered if duplicate. -/
  | cmReq (k : Pkt) (q : CmReq)
  /-- CM_RTU (R229): An RTU moves a CONNECTING QP to ACTIVE. -/
  | cmRtu (k : Pkt) (row : Nat)
  /-- CM_REJ (R229): A REJ returns a CONNECTING QP to IDLE. -/
  | cmRej (k : Pkt) (row : Nat)
  /-- CM_DREQ (R229): A DREQ moves a QP to DRAINING or a CONNECTING QP to IDLE. -/
  | cmDreq (k : Pkt) (row : Nat)
  /-- CONNECTING_TIMEOUT (R229): No RTU within four REP timeouts returns the QP to IDLE. -/
  | connectingTimeout (row : Nat)
  /-- ACK (R238): An ACK received as requester retires packets and restores the retry count. -/
  | ack (k : Pkt)
  /-- NAK_SEQUENCE_ERROR (R238): A PSN sequence error NAK starts go-back-N retransmission. -/
  | nakSequenceError (k : Pkt)
  /-- RNR_NAK (R239): An RNR NAK received as requester starts the RNR wait. -/
  | rnrNak (k : Pkt)
  /-- NAK_ERROR (R229): A NAK Invalid Request or Remote Access Error moves the QP to ERROR. -/
  | nakError (k : Pkt) (code : Nat)
  /-- RDMA_READ_RESPONSE (R246): An RDMA READ response delivers write data into reserved frames. -/
  | rdmaReadResponse (k : Pkt) (len data : Nat)
  /-- CNP (R219): A received CNP reduces the QP's send rate and raises alpha. -/
  | cnp (k : Pkt)
  /-- INVALID_OPCODE_PACKET (R224): A packet with an unsupported opcode or field gets NAK Invalid Request and the QP goes to ERROR. -/
  | invalidOpcodePacket (k : Pkt) (op : Nat)
  /-- ACK_TIMEOUT (R238): The local ACK timeout expires and retransmission restarts, consuming a retry. -/
  | ackTimeout (row : Nat)
  /-- RNR_WAIT_EXPIRY (R239): The RNR wait ends and the requester resends from the NAKed PSN. -/
  | rnrWaitExpiry (row : Nat)
  /-- ACK_COALESCE_TIMER (R237): 2 µs after an unacknowledged accepted packet a coalesced ACK is sent. -/
  | ackCoalesceTimer (row : Nat)
  /-- ALPHA_TIMER (R219): Every tp.alpha_timer without a CNP alpha decays. -/
  | alphaTimer (row : Nat)
  /-- RP_TIMER (R219): Every tp.rp_timer without a CNP the rate recovers towards its target. -/
  | rpTimer (row : Nat)
  /-- CONTEXT_FETCH_START (R235): A context fetch starts once a resident context is eligible for eviction. -/
  | contextFetchStart (row : Nat)
  /-- CONTEXT_FETCH_DONE (R233): A fetched context becomes resident and its miss-queued packets are processed in order. -/
  | contextFetchDone (row : Nat)
  /-- QP_DRAIN_COMPLETE (R229): A DRAINING or ERROR QP has nothing in flight, sends DREQ or DREP and frees its context. -/
  | qpDrainComplete (row : Nat)
  /-- DRAIN_TIMEOUT (R231): tp.drain_timeout elapses; remaining work is abandoned and the QP goes IDLE. -/
  | drainTimeout (row : Nat)
  /-- KEEPALIVE_EXPIRY (R247): No keep-alive within KATO drains the controller's QPs and deletes the controller. -/
  | keepaliveExpiry (ctrl : Nat)
  /-- QP_CLOSE (R229): qp.close moves an ACTIVE QP to DRAINING. -/
  | qpClose (h : Hdr) (row : Nat)
  /-- QP_PIN_WRITE (R236): A write of qp.pin pins a context resident, refused beyond 1,024 pins. -/
  | qpPinWrite (h : Hdr) (row value : Nat)
  /-- CONNECT (R248): A Fabrics Connect checks the host NQN and creates or joins a controller. -/
  | fabricsConnect (k : Pkt) (cid qid sqsize kato cntlid : Nat) (tbkas : Bool) (nqn subnqn hostId : Nat)
  /-- PROPERTY_GET (R243): A Fabrics Property Get returns a controller property. -/
  | propertyGet (k : Pkt) (cid off : Nat)
  /-- PROPERTY_SET (R243): A Fabrics Property Set writes a controller property. -/
  | propertySet (k : Pkt) (cid off value : Nat)
  /-- DISCONNECT (R229): A Fabrics Disconnect moves the QP to DRAINING. -/
  | disconnect (k : Pkt) (cid : Nat)
  /-- IDENTIFY (R244): Identify returns controller or namespace data. -/
  | identify (k : Pkt) (cid cns nsid : Nat) (sgl : Sgl)
  /-- GET_LOG_PAGE (R243): Get Log Page returns error, SMART, changed namespace, ANA or discovery log data. -/
  | getLogPage (k : Pkt) (cid lid off : Nat) (rae : Bool) (sgl : Sgl)
  /-- SET_FEATURES (R243): Set Features sets a supported feature or returns Invalid Field. -/
  | setFeatures (k : Pkt) (cid fid value : Nat)
  /-- GET_FEATURES (R243): Get Features returns a supported feature. -/
  | getFeatures (k : Pkt) (cid fid : Nat)
  /-- ASYNCHRONOUS_EVENT_REQUEST (R243): An Asynchronous Event Request is held outstanding for later notices. -/
  | asynchronousEventRequest (k : Pkt) (cid : Nat)
  /-- KEEP_ALIVE (R247): Keep Alive restarts the controller's keep-alive timer. -/
  | keepAlive (k : Pkt) (cid : Nat)
  /-- ABORT (R243): Abort completes with not aborted. -/
  | abort (k : Pkt) (cid : Nat)
  /-- NVME_READ (R246): An NVMe Read is served from the hoop or members and its data written before the response. -/
  | nvmeRead (k : Pkt) (cid nsid slba nlb : Nat) (pr : PrInfo) (sgl : Sgl)
  /-- NVME_WRITE (R246): An NVMe Write is admitted per stitch, fetches its data and completes under R123. -/
  | nvmeWrite (k : Pkt) (cid nsid slba nlb : Nat) (pr : PrInfo) (sgl : Sgl)
  /-- WRITE_ZEROES (R243): Write Zeroes is processed as a write of zero blocks through the hoop. -/
  | writeZeroes (k : Pkt) (cid nsid slba nlb : Nat)
  /-- NVME_FLUSH (R243): An NVMe Flush completes at once since completed writes are durable. -/
  | nvmeFlush (k : Pkt) (cid nsid : Nat)
  /-- RDMA_WRITE (R260): An RDMA WRITE into an eyelet is checked at its first packet and admitted or rejected. -/
  | rdmaWrite (k : Pkt) (first last : Bool) (key va len plen payload : Nat)
  /-- KNOT_WRITE (R263): A KNOT WRITE is checked and held until every earlier write of its QP is placed. -/
  | knotWrite (k : Pkt) (key va len payload : Nat)
  /-- RDMA_READ (R264): An RDMA READ of an eyelet waits for earlier writes to be placed and returns placed data. -/
  | rdmaRead (k : Pkt) (key va len : Nat)
  /-- FLUSH (R265): A FLUSH waits for earlier writes of its QP to be placed and durable. -/
  | eyeletFlush (k : Pkt)
  /-- EYELET_WRITE_PLACED (R262): An eyelet write becomes placed, releasing dependent knots, flushes, reads and triggers. -/
  | eyeletWritePlaced (id : Nat)
  /-- CHAIN_ARM (R275): CHAIN ARM validates a chain slot and its work requests and arms it. -/
  | chainArm (k : Pkt) (c : Ceth)
  /-- CHAIN_DISARM (R280): CHAIN DISARM empties a chain or stops a running one. -/
  | chainDisarm (k : Pkt) (c : Ceth)
  /-- SEND_WITH_IMMEDIATE (R276): A SEND with Immediate is received as a chain trigger and held until earlier writes are placed. -/
  | sendWithImmediate (k : Pkt) (imm len payload : Nat)
  /-- WR_READ (R277): A chain READ work request issues as block reads into its destination eyelet. -/
  | wrRead (slot : Nat)
  /-- WR_WRITE (R278): A chain WRITE work request issues on its destination QP. -/
  | wrWrite (slot : Nat)
  /-- WR_SEND (R278): A chain SEND work request issues on its destination QP. -/
  | wrSend (slot : Nat)
  /-- WR_LINK (R277): A chain LINK work request starts its target chain. -/
  | wrLink (slot : Nat)
  /-- WR_NOP (R277): A chain NOP completes at issue. -/
  | wrNop (slot : Nat)
  /-- WORK_REQUEST_COMPLETE (R277): A work request completes, writes STATUS and TIME, and may end, fail or stop its chain. -/
  | workRequestComplete (slot wr : Nat)
  /-- CHAIN_DISARM_ACTION (R280): chain.disarm empties a chain or moves a running one to STOPPING. -/
  | chainDisarmAction (h : Hdr) (slot : Nat)
  /-- EYE_REGISTER (R257): eye.register checks and registers an eyelet row, issuing a new key. -/
  | eyeRegister (h : Hdr) (row : Nat)
  /-- EYE_REVOKE (R271): eye.revoke sets the eyelet REVOKING at one update point. -/
  | eyeRevoke (h : Hdr) (row : Nat)
  /-- EYE_REVOKE_TIMEOUT (R271): 64 µs after the update point remaining accesses are aborted and the row goes DEAD. -/
  | eyeRevokeTimeout (row : Nat)
  /-- EYE_COMMIT (R272): eye.commit applies the shadow window at one update point and raises WGEN. -/
  | eyeCommit (h : Hdr) (row : Nat)
  /-- KEY_CACHE_UPDATE_DONE (R272): The key cache update ends and stalled first packets are checked against the new window. -/
  | keyCacheUpdateDone (row : Nat)
  /-- EYE_COMMIT_TIMEOUT (R273): 64 µs after a window commit, accesses of the previous WGEN are aborted. -/
  | eyeCommitTimeout (row : Nat)
  /-- FENCE_RELEASE (R295): fen.release moves a FENCED row to DRAINING or fails with a detail. -/
  | fenceRelease (h : Hdr) (row : Nat) (clear : Bool)
  /-- FENCE_DRAIN_DONE (R295): Nothing of the scope is in flight; the fence bit clears and the row goes RELEASED. -/
  | fenceDrainDone (row : Nat)
  /-- FENCE_DRAIN_TIMEOUT (R295): sel.drain_timeout elapses in DRAINING and the release fails back to FENCED. -/
  | fenceDrainTimeout (row : Nat)
  /-- FENCE_RELEASED_TIMEOUT (R295): A RELEASED row whose unit is not back in service is freed after sel.drain_timeout. -/
  | fenceReleasedTimeout (row : Nat)
  /-- SEL_ENGAGE (R298): sel.engage engages an operator fence on the named scope. -/
  | selEngage (h : Hdr)
  /-- MSQ_MISMATCH (R302): A compare mismatch or faulty copy starts the MSQ switch-over. -/
  | msqMismatch (slices : Nat) (aFaulty bFaulty : Bool)
  /-- MSQ_REPAIR (R307): msq.repair self-tests the fenced copy and starts copying the survivor's state. -/
  | msqRepair (h : Hdr) (selfTest : Bool)
  /-- MSQ_RESYNC_DONE (R306): The state copy completes; equal signatures return the pair to PAIRED. -/
  | msqResyncDone (equal : Bool)
  /-- MSQ_CMP_TEST (R310): msq.cmp_test runs the comparator slice test. -/
  | msqCmpTest (h : Hdr) (pass : Bool)
  /-- CMP_TEST_PERIOD_EXPIRY (R310): The automatic slice test runs one msq.cmp_test_period after the latest reference moment. -/
  | cmpTestPeriodExpiry (pass : Bool)
  /-- MSQ_SWITCH_TEST (R311): msq.switch_test performs a real switch-over blaming the named copy. -/
  | msqSwitchTest (h : Hdr) (arg : Nat)
  /-- CELL_ARRIVAL (R318): A cell reaches the hem and is discarded, stored or linked in sequence order. -/
  | cellArrival (src dst cls seq plane : Nat) (crcOk : Bool)
  /-- RECEIPT_CREDIT (R316): A receipt credit frees a cell from the input's replay store. -/
  | receiptCredit (src dst cls seq : Nat)
  /-- HEM_GAP_TIMEOUT (R319): A flow's missing cell after bxb.hem_timeout triggers a replay request or an unrecovered gap. -/
  | hemGapTimeout (src dst cls : Nat)
  /-- FRAME_ASSEMBLY (R324): An RoCEv2 frame is assembled at an Ethernet output and marked or dropped by depth. -/
  | frameAssembly (port sub : Nat)
  /-- HOLD_EXPIRY (R327): The link-down hold expires and every held frame of the sub-port is flushed. -/
  | holdExpiry (port sub : Nat)
  /-- PLANE_TEST (R332): plane.test powers a fenced plane in isolation and runs test cells. -/
  | planeTest (h : Hdr) (plane : Nat)
  /-- PLANE_TEST_DONE (R332): The plane test ends, sets plane.test_ok and switches the plane off again. -/
  | planeTestDone (plane : Nat) (pass : Bool)
  /-- FRAME_TRANSMIT (R333): A sub-port picks its next eligible frame by strict and deficit round robin order. -/
  | frameTransmit (port sub : Nat)
  /-- CALENDAR_SLOT (R337): A calendar wheel slot makes its flows eligible and recomputes waiting flows. -/
  | calendarSlot (port : Nat)
  /-- BUCKET_REFILL (R338): In bucket mode every shaper is refilled every 4.096 µs. -/
  | bucketRefill (port : Nat)
  /-- TENSION_MODE_SWITCH_BACK (R336): After 10 ms at or below 960 entries the port returns to calendar mode. -/
  | tensionModeSwitchBack (port : Nat)
  /-- POLICER_MODE_WRITE (R345): A write of pol.mode or pol.aware refills both buckets. -/
  | policerModeWrite (h : Hdr) (row : Nat) (aware : Bool) (value : Nat)
  /-- DRIVE_LINK_DOWN (R354): A bay link goes down and the root port enters containment. -/
  | driveLinkDown (bay : Nat)
  /-- DRIVE_UNCORRECTABLE_ERROR (R354): An uncorrectable error on a root port enters containment. -/
  | driveUncorrectableError (bay : Nat)
  /-- DRIVE_LINK_RECOVERED (R355): Retraining and controller re-enable succeed; reissued writes complete and containment ends. -/
  | driveLinkRecovered (bay speed width : Nat)
  /-- DRIVE_RECOVER_TIMEOUT (R355): dlink.recover_time passes without recovery and the member state decides. -/
  | driveRecoverTimeout (bay : Nat) (partnerPath : Bool)
  /-- DLINK_RETRAIN (R557): dlink.retrain restarts recovery, probes the bay or retrains the link. -/
  | dlinkRetrain (h : Hdr) (bay : Nat)
  /-- PERST_DEASSERT (R353): t_pvperl after both rails ON, BAYn_PERST_N is deasserted. -/
  | perstDeassert (bay : Nat)
  /-- DRIVE_LINK_UP (R351): A bay link trains and is checked against speed and width limits. -/
  | driveLinkUp (bay speed width : Nat)
  /-- PROBE_DONE (R358): A probe finishes or fails and the member row takes its state under Table 10-3. -/
  | probeDone (bay fail serial model capacity queues : Nat) (volatile : Bool) (array gen : Nat)
  /-- COMMAND_TIMEOUT (R359): A member I/O command times out; the device aborts, reissues or resets the controller. -/
  | commandTimeout (tag : Nat)
  /-- ABORT_TIMEOUT (R359): An Abort unanswered after 1 s resets the member controller. -/
  | abortTimeout (tag : Nat)
  /-- CONTROLLER_FATAL_STATUS (R359): CSTS.CFS = 1 starts a controller reset. -/
  | controllerFatalStatus (bay : Nat)
  /-- CONTROLLER_RESET_DONE (R359): A member controller reset completes and queues are recreated, or the reset fails. -/
  | controllerResetDone (bay : Nat) (ok : Bool)
  /-- HEALTH_POLL (R360): Every arr.health_period the SMART log is read and failing criteria judged. -/
  | healthPoll (bay warn pct media : Nat)
  /-- MEMBER_ASYNC_EVENT (R360): A SMART asynchronous event from a member triggers a health read. -/
  | memberAsyncEvent (bay warn pct media : Nat)
  /-- MEMBER_TEMP_POLL (R360): Every second the member's composite temperature is read into mem.temp. -/
  | memberTempPoll (bay temp : Nat)
  /-- ABSENT_GRACE_EXPIRY (R361): arr.absent_grace expires; the bay is unbound and the position goes FAILED or ABSENT. -/
  | absentGraceExpiry (bay : Nat)
  /-- MEM_ASSIGN (R361): mem.assign binds a SPARE bay to a position. -/
  | memAssign (h : Hdr) (bay arg : Nat)
  /-- MEM_RETIRE (R361): mem.retire retires a member directly or through proactive copy. -/
  | memRetire (h : Hdr) (bay : Nat)
  /-- MEM_CLEAR_FAILING (R361): mem.clear_failing returns a FAILING member to IN_SERVICE. -/
  | memClearFailing (h : Hdr) (bay : Nat)
  /-- PRESENCE_CHANGE (R371): A bay presence pin changes level, starting or restarting debounce or removing power. -/
  | presenceChange (bay : Nat) (aLow bLow : Bool)
  /-- DEBOUNCE_COMPLETE (R371): Both presence pins stayed low for bay.debounce and the bay waits for a grant. -/
  | debounceComplete (bay : Nat)
  /-- SAFETY_PASS (R504): Every 10 ms the rank 1 pass runs the thermal and power loops and bay grant decisions. -/
  | safetyPass (sensors : List Int) (watts : Nat) (hot : Bool) (idle : List Nat) (busyEngines busyGroups : Bool)
  /-- PARTNER_RAMP_TIMEOUT (R373): 500 ms after the keeper's grant the other device ramps its path. -/
  | partnerRampTimeout (bay : Nat)
  /-- RAIL_ON (R374): A rail meets the ON condition; 3.3 V ON starts the 12 V ramp. -/
  | railOn (bay : Nat) (rail33 : Bool)
  /-- RAMP_TIMEOUT (R374): A rail not ON within its ramp timeout trips with cause 4. -/
  | rampTimeout (bay : Nat) (rail33 : Bool) (cur src : Nat)
  /-- CURRENT_LIMIT_REACHED (R375): A rail's current reaches its limit and it enters LIMITING. -/
  | currentLimitReached (bay : Nat) (rail33 : Bool)
  /-- LIMIT_EXIT (R375): Current below 95 % of the limit for 100 µs returns the rail to ON or RAMPING. -/
  | limitExit (bay : Nat) (rail33 : Bool)
  /-- FAULT_TIMER_EXPIRY (R376): The fault timer reaches bay.ftimer and the rail trips with cause 1. -/
  | faultTimerExpiry (bay : Nat) (rail33 : Bool) (cur src : Nat)
  /-- FAST_TRIP (R377): Current above the fast-trip level trips the rail with cause 2. -/
  | fastTrip (bay : Nat) (rail33 : Bool) (cur src : Nat)
  /-- SRC_DISCHARGED (R378): SRC falls below 0.8 V and the bay moves to RETRY_WAIT, LOCKED_OUT or the next off step. -/
  | srcDischarged (bay : Nat) (both : Bool)
  /-- RETRY_TIMER_EXPIRY (R381): bay.retry_time after RETRY_WAIT entry the bay ramps, seats or goes OFF. -/
  | retryTimerExpiry (bay : Nat)
  /-- GOOD_TIME_EXPIRY (R379): Both rails ON for bay.good_time resets the fault count. -/
  | goodTimeExpiry (bay : Nat)
  /-- PASS_ELEMENT_FAULT (R382): SRC above 0.8 V for 2 ms while commanded off locks the bay out with cause 3. -/
  | passElementFault (bay : Nat) (rail33 : Bool) (cur src : Nat)
  /-- ORING_REVERSE (R383): VOUT above SRC by 10 mV turns Q2 off within 0.5 µs. -/
  | oringReverse (bay : Nat) (rail33 : Bool)
  /-- ORING_DROP_HIGH (R383): ORing drop above 300 mV at over 1 A for 10 ms raises a cause 7 event. -/
  | oringDropHigh (bay : Nat) (rail33 : Bool) (cur src : Nat)
  /-- BAY_ENABLE_WRITE (R384): A write of bay.enable turns a bay off in sequence or starts debounce. -/
  | bayEnableWrite (h : Hdr) (bay value : Nat)
  /-- PERST_OFF_WAIT_EXPIRY (R384): t_perl after BAYn_PERST_N asserts for a commanded off, the 12 V rail turns off. -/
  | perstOffWaitExpiry (bay : Nat)
  /-- BAY_LIMIT_WRITE (R396): A write of a rail limit or fast multiple is checked against R369 and applied. -/
  | bayLimitWrite (h : Hdr) (bay sub value : Nat)
  /-- BAY_CLEAR (R379): bay.clear zeroes the fault count and leaves LOCKED_OUT if SRC is low. -/
  | bayClear (h : Hdr) (bay : Nat)
  /-- SHUNT_CALIBRATION (R392): bay.cal12 or bay.cal33 starts averaging a known current for 1 s. -/
  | shuntCalibration (h : Hdr) (bay : Nat) (rail33 : Bool) (known : Nat)
  /-- SHUNT_CALIBRATION_DONE (R392): The calibration second ends and the gain is written or the action fails. -/
  | shuntCalibrationDone (bay : Nat) (rail33 : Bool) (measured : Nat) (varied : Bool)
  /-- EP_PERST (R492): EP_PERST_N asserted resets the endpoint only. -/
  | epPerst (low : Bool)
  /-- CONFIG_REQUEST (R485): A configuration request is served, or answered with Retry Status before S7. -/
  | configRequest (fn : Nat) (f : CfgField) (w : Option Nat)
  /-- FUNCTION_LEVEL_RESET (R416): An FLR clears the function's rings, channels, windows and MSI-X state. -/
  | functionLevelReset (fn : Nat)
  /-- BME_CLEAR (R416): Clearing bus-master enable stops the function's rings and channels and holds completions. -/
  | bmeClear (fn : Nat)
  /-- D3HOT_ENTRY (R399): Entry to D3hot acts as clearing bus-master enable. -/
  | d3hotEntry (fn : Nat)
  /-- FN_RESUME (R417): EP_FN_CTRL.RESUME writes held completions and resumes fetch. -/
  | fnResume (fn : Nat)
  /-- CONTAINMENT_RELEASE (R420): EP_CONT_CTRL.RELEASE or ep.release requests release of the endpoint freeze. -/
  | containmentRelease (h : Option Hdr) (clear : Bool)
  /-- MSIX_UNMASK (R405): Unmasking a vector sends its pending message. -/
  | msixUnmask (fn vec : Nat)
  /-- PEER_WRITE (R408): A BAR2 write TLP is translated through its window and checked against the eyelet. -/
  | peerWrite (reqid off len data : Nat) (ro poison : Bool)
  /-- PEER_READ (R413): A BAR2 read waits for earlier writes of its Requester ID to be placed and durable. -/
  | peerRead (reqid tag off len : Nat) (ro : Bool)
  /-- WINDOW_COMMIT (R411): EP_WIN_COMMIT.GO checks the shadow and activates it at one update point. -/
  | windowCommit (w : Nat)
  /-- PCIE_COMPLETION (R416): A completion TLP for an endpoint read arrives and is delivered or discarded. -/
  | pcieCompletion (id fn status data : Nat)
  /-- COMPLETION_TIMEOUT (R419): An endpoint read times out; its entry fails and the ring or channel fence engages. -/
  | completionTimeout (id : Nat)
  /-- RING_DB (R432): A doorbell write makes a RUNNING ring active for fetch. -/
  | ringDb (fn loc : Nat)
  /-- RING_FETCH_DONE (R428): Fetched entries are checked for ownership, lap and form, and complete jobs start. -/
  | ringFetchDone (id : Nat) (ents : List Nat)
  /-- NOP (R425): A NOP job completes at fetch. -/
  | nop (r idx : Nat)
  /-- NS_READ (R425): An NS_READ job reads namespace blocks into host memory. -/
  | nsRead (r idx : Nat)
  /-- NS_WRITE (R425): An NS_WRITE job writes host data to a namespace durably. -/
  | nsWrite (r idx : Nat)
  /-- EYE_READ (R425): An EYE_READ job reads an eyelet into host memory. -/
  | eyeRead (r idx : Nat)
  /-- EYE_WRITE (R425): An EYE_WRITE job writes host data into an eyelet. -/
  | eyeWrite (r idx : Nat)
  /-- EYE_FLUSH (R425): An EYE_FLUSH job completes once earlier EYE_WRITEs are placed and durable. -/
  | eyeFlush (r idx : Nat)
  /-- RING_JOB_COMPLETE (R430): A finished job's completion is written back, in order for strict jobs. -/
  | ringJobComplete (r idx : Nat)
  /-- RING_ENABLE (R438): RING_CTRL.EN = 1 checks the ring configuration and starts it. -/
  | ringEnable (fn loc value : Nat)
  /-- RING_DISABLE (R438): RING_CTRL.EN = 0 stops fetch and disables the ring. -/
  | ringDisable (fn loc value : Nat)
  /-- RING_RESTART (R435): RING_CTRL.RESTART returns a STOPPED_ERR ring to RUNNING at the latched index. -/
  | ringRestart (fn loc value : Nat)
  /-- IRQ_HOLDOFF_EXPIRY (R437): The ring's holdoff ends and a pending interrupt may be signalled again. -/
  | irqHoldoffExpiry (r : Nat)
  /-- SHUTTLE_ENQUEUE (R448): A write of SHTL_ENQ_HI enqueues a descriptor list. -/
  | shuttleEnqueue (fn c value : Nat)
  /-- SHUTTLE_GO (R448): SHTL_CTRL.GO resumes a STOPPED channel. -/
  | shuttleGo (fn c : Nat)
  /-- SHUTTLE_STOP (R448): SHTL_CTRL.STOP stops the channel at the next descriptor boundary. -/
  | shuttleStop (fn c : Nat)
  /-- SHUTTLE_RESET (R448): SHTL_CTRL.RESET returns the channel to IDLE, clearing the FIFO and held record. -/
  | shuttleReset (fn c : Nat)
  /-- SHUTTLE_CQ_HEAD (R445): A write of SHTL_CQ_HEAD frees queue room and writes a held record. -/
  | shuttleCqHead (fn c value : Nat)
  /-- SHUTTLE_DESCRIPTOR_FETCHED (R439): A descriptor read completes and the descriptor starts after its checks. -/
  | shuttleDescriptorFetched (id word : Nat)
  /-- SHUTTLE_DESCRIPTOR_DONE (R442): A descriptor's writes are issued or acknowledged and its record is written. -/
  | shuttleDescriptorDone (c : Nat)
  /-- STAGE_COMPLETE (R481): A bring-up stage completes and the next stage starts, or bring-up halts. -/
  | stageComplete (fail : Nat) (f : StageArg)
  /-- BOOT_RESET_COLD (R489): boot.reset argument 1 drains, dumps and cold resets. -/
  | bootResetCold (h : Hdr)
  /-- BOOT_RESET_WARM (R489): boot.reset argument 2 drains and warm resets with retention. -/
  | bootResetWarm (h : Hdr)
  /-- BOOT_DOMAIN_RESET (R491): boot.domain_reset drains, resets and wakes one internal domain. -/
  | bootDomainReset (h : Hdr) (row : Nat)
  /-- BOOT_DEPART (R499): boot.depart starts a planned departure. -/
  | bootDepart (h : Hdr) (arg : Nat)
  /-- FWU_BEGIN (R495): fwu.begin erases the inactive firmware slot. -/
  | fwuBegin (h : Hdr)
  /-- FWU_DATA (R503): A write of fwu.data stores image bytes at fwu.offset. -/
  | fwuData (h : Hdr) (value : Bytes)
  /-- FWU_VERIFY (R493): fwu.verify applies the six image checks to the inactive slot. -/
  | fwuVerify (h : Hdr) (hashOk sigOk digestOk : Bool)
  /-- FWU_ACTIVATE (R495): fwu.activate marks the verified slot as trial for the next bring-up. -/
  | fwuActivate (h : Hdr)
  /-- FWU_CONFIRM (R495): fwu.confirm makes the running trial image the active slot. -/
  | fwuConfirm (h : Hdr)
  /-- FWU_RAISE_SVN (R497): fwu.raise_svn raises the OTP minimum security version. -/
  | fwuRaiseSvn (h : Hdr) (cells : Bool)
  /-- WATCHDOG_EXPIRY (R515): A core watchdog expires; the core restarts or a second expiry warm resets. -/
  | watchdogExpiry (core : Nat)
  /-- TELEMETRY_PASS (R505): Every 1 ms rank 6 updates percentiles, rates and means. -/
  | telemetryPass (loads : List Nat) (lag : Nat) (flushP99 readP99 : Nat)
  /-- INJECTION (R527): An injection point action checks and sets its first occurrence. -/
  | injection (h : Hdr) (det row n : Nat)
  /-- INJECTION_OCCURRENCE (R527): inj.spacing after the last, the next injected occurrence is checked and set. -/
  | injectionOccurrence (det row : Nat)
  /-- PFC_WATCHDOG_RECOVERY (R221): After 1 s with no PAUSE received for a tripped priority, the port again honours received PAUSE for it. -/
  | pfcWatchdogRecovery (port prio : Nat)
  /-- MEASUREMENT_SAMPLE (R393): Each 62.5 µs Skamo sample adds V × I to the rail's energy accumulator, counts in bay.samples and closes 1 ms and 1 s windows. -/
  | measurementSample (bay : Nat) (i12 : Int) (v12 : Nat) (i33 : Int) (v33 src12 src33 : Nat)
  /-- ENDPOINT_LINK_UP (R397): The endpoint link trains and reports ep.link_speed and ep.link_width. -/
  | endpointLinkUp (speed width : Nat)
  /-- MGMT_LINK_UP (R485): A management port link comes up and mport.link reads 1, so Rendi and skein traffic can flow on it. -/
  | mgmtLinkUp (port : Nat)
  /-- WINDOW_UPDATE_POINT (R411): At most 2 µs after GO, the peer window shadow becomes active, GEN rises, BUSY clears and stalled TLPs are translated under the new generation. -/
  | windowUpdatePoint (w : Nat)
  /-- RESYNC_STRIPE (R150): Resync recomputes and writes P and Q of the next SUSPECT stripe. -/
  | resyncStripe (cells : List Cell)
  /-- CRITICAL_STRIPE (R175): A critical pass decodes both missing stitches of the next stripe of the pair. -/
  | criticalStripe (a b : Nat) (cells : List Cell)
  /-- RELIST_STRIPE (R192): Relisting reads the next stripe of a LOST bolt and relists its poison blocks. -/
  | relistStripe (cells : List Cell)
  /-- SCRUB_STRIPE (R199): Scrub reads and checks the next stripe and repairs mismatches. -/
  | scrubStripe (cells : List Cell)
  /-- PROACTIVE_COPY_STRIPE (R201): The proactive copy copies the FAILING member's stitch of the next stripe to the spare slot. -/
  | proactiveCopyStripe (pos : Nat) (cells : List Cell)
  /-- HEARTBEAT (R460): A HEARTBEAT message is accepted and its sender counts as heard. -/
  | heartbeat (h : SkHdr) (stage flags owned dirver : Nat)
  /-- VIEW_EXPIRY (R453): A row not heard within t_d leaves the view, possibly losing the partner or changing roles. -/
  | viewExpiry (row : Nat)
  /-- JOIN (R455): A JOIN is checked against the row digest and answered with WELCOME or refused. -/
  | joinMsg (h : SkHdr) (digest hosts : Nat)
  /-- WELCOME (R455): A WELCOME delivers the deputy row and the directory. -/
  | welcome (h : SkHdr) (deputy version : Nat) (dir : List DirEnt)
  /-- LEAVE (R456): A LEAVE removes the sender from the manager's view at once. -/
  | leaveMsg (h : SkHdr)
  /-- DIR_UPDATE (R475): A DIR_UPDATE reports or pushes changed directory entries. -/
  | dirUpdate (h : SkHdr) (version : Nat) (dir : List DirEnt)
  /-- DIR_ACK (R475): A DIR_ACK acknowledges a directory version. -/
  | dirAck (h : SkHdr) (version : Nat)
  /-- CONFIRM_QUERY (R467): A CONFIRM_QUERY is answered from the manager's or deputy's view. -/
  | confirmQuery (h : SkHdr) (row : Nat)
  /-- CONFIRM_REPLY (R467): A CONFIRM_REPLY releases held namespaces and decides whether takeover follows. -/
  | confirmReply (h : SkHdr) (row : Nat) (missing : Bool) (ms : Nat) (taken : List Nat)
  /-- TAKEOVER_REQUEST (R467): A TAKEOVER_REQUEST from the partner starts takeover at once. -/
  | takeoverRequest (h : SkHdr) (cause : Nat)
  /-- TAKEOVER_NOTICE (R469): A TAKEOVER_NOTICE lets the manager update the directory. -/
  | takeoverNotice (h : SkHdr) (lost adopted : Nat)
  /-- HANDOVER (R473): A HANDOVER message advances a namespace move between partners. -/
  | handover (h : SkHdr) (nss : List Nat) (step : Nat)
  /-- TAKEOVER_PREEMPT_DONE (R468): A Reservation Preempt completes; the contest advances, is won, lost or abandoned. -/
  | takeoverPreemptDone (pos result solo : Nat) (recs : List JArg)
  /-- TWIN_LINK_UP (R466): The twin link trains and each device sends PAIR. -/
  | twinLinkUp (lanes : Nat)
  /-- PAIR (R466): A PAIR frame identifies the peer and restarts link sequencing and mirroring. -/
  | pair (h : TwHdr) (dev side : Nat) (region : Bool) (ceiling : Nat)
  /-- TWIN_IDLE (R462): An IDLE frame carries acknowledgment and credit. -/
  | twinIdle (h : TwHdr)
  /-- TWIN_NAK (R463): A twin NAK makes the sender resend from the named SEQ. -/
  | twinNak (h : TwHdr)
  /-- MIRROR_WRITE (R137): A MIRROR_WRITE frame is applied to the partner's mirror region in sequence order. -/
  | mirrorWrite (h : TwHdr) (k : FKey) (mseq : Nat) (blks : List Cell)
  /-- MIRROR_ACK (R133): A MIRROR_ACK makes frames DIRTY and stitch ranges acknowledged. -/
  | mirrorAck (h : TwHdr) (seqs : List Nat)
  /-- RELEASE (R137): A RELEASE frame frees the named mirror frames on the partner. -/
  | mirrorRelease (h : TwHdr) (keys : List FKey)
  /-- JOURNAL (R140): A JOURNAL frame stores basting records in the partner's journal mirror. -/
  | journalFrame (h : TwHdr) (recs : List JArg)
  /-- VAULT_NOTICE (R152): A VAULT_NOTICE tells the partner a vault dump has begun. -/
  | vaultNotice (h : TwHdr)
  /-- KEEPER (R363): A KEEPER frame carries criteria, member transitions, map updates or bay grants. -/
  | keeperFrame (h : TwHdr) (m : KMsg)
  /-- PROXY_CMD (R364): A PROXY_CMD is issued on the member's proxy queues for the partner. -/
  | proxyCmd (h : TwHdr) (tag bay kind lba count : Nat) (data : List (Nat × Nat))
  /-- PROXY_CPL (R364): A PROXY_CPL returns a proxied command's completion and data. -/
  | proxyCpl (h : TwHdr) (tag status : Nat) (data : List (Nat × Nat))
  /-- OWN_MOVE (R473): own.move starts moving one namespace to the other side. -/
  | ownMove (h : Hdr) (ns : Nat)
  /-- OWN_MOVE_HOME (R473): own.move_home moves every namespace not on its home side. -/
  | ownMoveHome (h : Hdr)
  /-- SKN_LEAVE (R456): skn.leave argument 1 hands namespaces over and sends LEAVE. -/
  | sknLeave (h : Hdr)
  /-- SKN_REJOIN (R456): skn.leave argument 2 sends JOIN to rejoin the skein. -/
  | sknRejoin (h : Hdr)
  /-- PTP_LOCK_LOST (R18): No valid Sync for t_lock declares loss of lock; the counter keeps its last adjustment and an event is raised. -/
  | ptpLockLost
  /-- MAILBOX_RSP_CLEAR (R69): Clearing RSP_VALID frees the response buffer and lets the next request proceed. -/
  | mailboxRspClear
  /-- MAILBOX_NTF_CLEAR (R69): Clearing NTF_VALID frees the notification buffer for the next notification. -/
  | mailboxNtfClear
  /-- SMB_READ_STAGE (R70): SMBus command 0x00 returns the stage, halt and alert byte from hardware. -/
  | smbReadStage
  /-- SMB_READ_IDENTITY (R70): SMBus command 0x01 returns part, stepping and firmware version. -/
  | smbReadIdentity
  /-- SMB_READ_EVENTS (R70): SMBus command 0x02 returns and clears the event summary. -/
  | smbReadEvents
  /-- SMB_READ_OBJECT (R70): SMBus command 0x11 returns the status and value of the selected object. -/
  | smbReadObject
  /-- SMB_ALERT_RESPONSE (R71): A read of the Alert Response Address is answered with the device address. -/
  | smbAlertResponse
  /-- MAP_COPY_DONE (R79): The copy of array metadata to the new map position completes. -/
  | mapCopyDone
  /-- ZERO_WALK_STEP (R99): The background walker initialises the next ZERO bolt at the background rate. -/
  | zeroWalkStep
  /-- MIRROR_RESYNC_DONE (R139): The copy of DIRTY frames to a returned partner ends and the mirror state goes to 0. -/
  | mirrorResyncDone
  /-- MIRROR_REGION_SHRINK (R120): The partner shrinks its mirror region once the device's dirty bytes have fallen to a lowered ceiling. -/
  | mirrorRegionShrink
  /-- JOURNAL_PAGE_TIMER (R141): bast.page_wait after its first record, a journal page is written to the journal members. -/
  | journalPageTimer
  /-- JOURNAL_REHOME_DONE (R145): The working copy is written to the replacement journal member and the array header names the new pair. -/
  | journalRehomeDone
  /-- PWRFAIL_FILTERED (R152): A filtered PWRFAIL_N assertion quiesces the device and starts the vault dump. -/
  | pwrfailFiltered
  /-- CM_REQ_ADMIT (R226): Thimble checks a queued REQ and creates a QP with a REP or sends a REJ. -/
  | cmReqAdmit
  /-- CHAIN_HELD_TRIGGER_START (R279): A held trigger starts its chain once fewer than 512 chains run. -/
  | chainHeldTriggerStart
  /-- VAUX_UNDERVOLTAGE (R385): VAUX below 1.6 V resets the Skamo die with every rail OFF. -/
  | vauxUndervoltage
  /-- POLL_SILENCE_TIMEOUT (R517): 100 ms without a main-die poll stops new ramps on the Skamo die. -/
  | pollSilenceTimeout
  /-- HOT_RESET (R492): A hot reset resets the endpoint and its configuration space. -/
  | hotReset
  /-- EP_LINK_DOWN (R492): The endpoint link goes down, resetting the endpoint. -/
  | epLinkDown
  /-- RING_FETCH_TURN (R433): An active ring takes its arbitration turn and issues a fetch read. -/
  | ringFetchTurn
  /-- HEARTBEAT_PERIOD (R460): Every skn.hb_period heartbeats are sent and held queries and contests repeated. -/
  | heartbeatPeriod
  /-- GUARD_EXPIRY (R467): skn.guard after partner loss the takeover contest starts. -/
  | guardExpiry
  /-- TWIN_LINK_DOWN (R464): The twin link is declared down and the replay buffer is discarded. -/
  | twinLinkDown
  /-- TWIN_IDLE_TIMER (R462): 1 µs without other traffic an IDLE frame is sent. -/
  | twinIdleTimer
  /-- TWIN_ACK_TIMEOUT (R463): ACK not advancing for 10 µs resends from the oldest unacknowledged frame. -/
  | twinAckTimeout
  /-- MOVE_DRAIN_DONE (R473): The current owner's commands drain and the keeper writes the ownership records. -/
  | moveDrainDone
  /-- MOVE_TIMEOUT (R473): Drain not finished within 1 s undoes the move. -/
  | moveTimeout
  /-- VAUX_POWER_ON (R480): VAUX within tolerance brings the Skamo die to S0. -/
  | vauxPowerOn
  /-- PWRON_RST_ASSERT (R488): PWRON_RST_N low holds the main die in cold reset. -/
  | pwronRstAssert
  /-- PWRON_RST_DEASSERT (R481): PWRON_RST_N deasserted starts bring-up at S1. -/
  | pwronRstDeassert
  /-- WARM_RST_EDGE (R489): A WARM_RST_N falling edge requests a warm reset. -/
  | warmRstEdge
  /-- S6_LIMIT_EXPIRY (R483): boot.s6_limit passes and S6 completes with unsettled bays. -/
  | s6LimitExpiry
  /-- PRE_RESET_DRAIN_DONE (R489): The pre-reset destage ends or 100 ms pass and the reset sequence continues. -/
  | preResetDrainDone
  /-- DEPART_GRACE_EXPIRY (R499): boot.depart_grace passes; ports go down and the chosen reset follows. -/
  | departGraceExpiry
  /-- FWU_ERASE_DONE (R495): The slot erase completes and waiting data writes proceed. -/
  | fwuEraseDone
  /-- FWU_TRIAL_CONFIRM_EXPIRY (R495): fwu.trial_confirm seconds at S7 confirm the trial image automatically. -/
  | fwuTrialConfirmExpiry
  /-- SAFETY_DEADLINE_EXPIRY (R516): 100 ms without a rank 1 pass forces L = 8. -/
  | safetyDeadlineExpiry
  /-- ANATT_EXPIRY (R469): ANATT after the takeover decision, namespaces of a repeatedly abandoned contest move from ANA change to inaccessible. -/
  | anattExpiry
deriving DecidableEq, Repr

end Sys2Proof
end

