-- ==== Sys2Proof/Config.lean ====
section
/-!
DEFINITION. Config.lean: what an implementation fixes and the free values. A free value is an opaque constant:
nothing can evaluate it, so a claim holds whatever it is. `Config.draw` is applied to the plain counter
`State.free`, which the model advances at each use (log entry 2).
-/

namespace Sys2Proof

/-- The n-th value the manual leaves open (a nonce, a random key generation, a starting PSN, a bounded gap,
unstated content): each use applies it to the counter `State.free` and advances the counter. -/
opaque Config.draw : Nat → Nat

/-- The pattern table and spare table that generation makes of W, k, s and a seed (R84: deterministic in them; the
algorithm is not given). -/
opaque Config.genTables : Nat → Nat → Nat → Nat → List (List (Nat × Nat)) × List (List (List (Nat × Nat)))

/-- `id.serial` (R49: 16 characters, fixed in manufacture). -/
opaque Config.serial : List Nat
/-- `id.device_id` (R49: unique per device). -/
opaque Config.deviceId : Nat
/-- `id.mac_base` (R49, R211). -/
opaque Config.macBase : Nat
/-- `id.bootrom_version` (R49). -/
opaque Config.bootromVersion : Nat
/-- `id.skamo_rev` (R49). -/
opaque Config.skamoRev : Nat
/-- `mport.ipv6_hi` and `mport.ipv6_lo` of a management port (R72: the link-local or SLAAC address). -/
opaque Config.mportIpv6 : Nat → Nat × Nat
/-- `mport.ipv4_now` of a management port under DHCP (R72: the address the network assigns). -/
opaque Config.mportIpv4 : Nat → Nat

/-- Controller property CAP and VS (R243: the properties' values are not stated). -/
opaque Config.nvmeCap : Nat
opaque Config.nvmeVs : Nat
/-- t_f: the time of the members' Flush in µs (Table 4-6: the member's data sheet gives it). -/
opaque Config.flushUs : Nat
/-- The chunk writes' part of `vault.est_time` for a dump of so many bytes while no dump or test has measured a rate (R154
gives none). -/
opaque Config.vaultXfer : Nat → Nat
/-- Bytes of Identify data (by CNS) and of log pages that the manual does not state. -/
opaque Config.identByte : Nat → Nat → Nat
opaque Config.logByte : Nat → Nat → Nat

/-- The Ethernet addresses of other devices of the skein (their `gid` rows), by skein row: whether IPv6, address, PORTID
[7:0]. R476 lists them; R475 does not say how the directory carries them. -/
opaque Config.peerGids : Nat → List (Bool × Nat × Nat)
/-- The bytes of directory entries in a WELCOME or DIR_UPDATE body, from the numbers they hold: Table 14-3 gives no
encoding. -/
opaque Config.dirBytes : List Nat → List Nat
/-- `id.fw_version`, security version, key index and schema of the firmware image of manufacture. -/
opaque Config.fwVersion : Nat
opaque Config.fwSvn : Nat
opaque Config.fwKey : Nat
opaque Config.fwSchema : Nat

end Sys2Proof
end

