-- ==== Sys2Proof/Machine/Objects.lean ====
section
/-!
DEFINITION. Machine/Objects.lean: the objects of the Pricking (R31 to R49), one descriptor for each row of the
object tables of the manual (Tables 1-17, 2-5, 2-11, 3-9 to 3-11, 4-8 to 4-10, 5-8, 5-9, 6-7 to 6-9, 7-9, 7-10,
8-6, 8-7, 9-6, 9-7, 10-5, 10-6, 11-7, 12-11, 13-12, 14-8 to 14-10, 15-11, 16-5, 16-6). An object's code is its
index times 256 plus its subindex; the numbered copies of an index (bay n at 0x3000 + n) share the code of the
first and take n as their row.
-/

namespace Sys2Proof.Machine

/-- Types of Table 2-1. -/
inductive Ty where
  | bool | u8 | u16 | u32 | u64 | i16 | i32 | q16 | str | table | action
deriving DecidableEq, Repr

/-- Access codes of Table 0-4. -/
inductive Acc where
  | ro | rw | rwc | wo | act
deriving DecidableEq, Repr

/-- One object: subindex, whether it carries a row, type, access, level (1 OBSERVE, 2 OPERATE, 3 SERVICE),
persistence P (R38; the objects of R115 and R477 are dictionary-volatile), whether a commit takes effect only at
the next cold reset (R45), factory default, allowed ranges (lowest, highest, step; none listed: any value) and
longest string. -/
structure Desc where
  sub : Nat
  row : Bool
  ty : Ty
  acc : Acc
  lvl : Nat
  persist : Bool
  late : Bool
  dflt : Nat
  rng : List (Nat × Nat × Nat)
  strMax : Nat
deriving DecidableEq, Repr

/-- Objects of index 0x1000. -/
def objs1000 : List Desc := [
  ⟨0x01, false, .str, .ro, 1, false, false, 0, [], 16⟩,
  ⟨0x02, false, .str, .ro, 1, false, false, 0, [], 8⟩,
  ⟨0x03, false, .str, .ro, 1, false, false, 0, [], 2⟩,
  ⟨0x04, false, .str, .ro, 1, false, false, 0, [], 16⟩,
  ⟨0x05, false, .u64, .ro, 1, false, false, 0, [], 0⟩,
  ⟨0x06, false, .u32, .ro, 1, false, false, 0, [], 0⟩,
  ⟨0x07, false, .u8, .ro, 1, false, false, 0, [], 0⟩,
  ⟨0x08, false, .u32, .ro, 1, false, false, 0, [], 0⟩,
  ⟨0x09, false, .u32, .ro, 1, false, false, 0, [], 0⟩,
  ⟨0x0A, false, .u8, .ro, 1, false, false, 0, [], 0⟩,
  ⟨0x0B, false, .u64, .ro, 1, false, false, 0, [], 0⟩,
  ⟨0x0C, false, .u8, .ro, 1, false, false, 0, [], 0⟩,
  ⟨0x0D, false, .u8, .ro, 1, false, false, 0, [], 0⟩]

/-- Objects of index 0x1100. -/
def objs1100 : List Desc := [
  ⟨0x01, false, .u8, .ro, 1, false, false, 0, [], 0⟩,
  ⟨0x02, false, .u32, .ro, 1, false, false, 0, [], 0⟩,
  ⟨0x03, false, .u8, .ro, 1, false, false, 0, [], 0⟩,
  ⟨0x04, false, .u16, .ro, 1, false, false, 0, [], 0⟩,
  ⟨0x05, false, .u32, .ro, 1, false, false, 0, [], 0⟩,
  ⟨0x06, false, .u64, .ro, 1, false, false, 0, [], 0⟩]

/-- Objects of index 0x1101. -/
def objs1101 : List Desc := [
  ⟨0x01, false, .action, .act, 2, false, false, 0, [], 0⟩,
  ⟨0x02, false, .action, .act, 3, false, false, 0, [], 0⟩]

/-- Objects of index 0x1110. -/
def objs1110 : List Desc := [
  ⟨0x01, true, .str, .wo, 3, true, false, 0, [], 64⟩,
  ⟨0x02, true, .u32, .ro, 1, false, false, 0, [], 0⟩,
  ⟨0x03, true, .u8, .rw, 3, true, false, 0, [(0, 0, 1), (1, 1, 1), (2, 2, 1), (3, 3, 1)], 0⟩,
  ⟨0x04, true, .u32, .ro, 1, false, false, 0, [], 0⟩]

/-- Objects of index 0x1120. -/
def objs1120 : List Desc := [
  ⟨0x01, true, .u16, .ro, 1, false, false, 0, [], 0⟩,
  ⟨0x02, true, .u8, .ro, 1, false, false, 0, [], 0⟩,
  ⟨0x03, true, .u8, .ro, 1, false, false, 0, [], 0⟩,
  ⟨0x04, true, .u8, .ro, 1, false, false, 0, [], 0⟩,
  ⟨0x05, true, .u32, .ro, 1, false, false, 0, [], 0⟩,
  ⟨0x06, true, .action, .act, 3, false, false, 0, [], 0⟩]

/-- Objects of index 0x1130. -/
def objs1130 : List Desc := [
  ⟨0x01, false, .u64, .ro, 1, false, false, 0, [], 0⟩,
  ⟨0x02, false, .u64, .ro, 1, false, false, 0, [], 0⟩,
  ⟨0x03, false, .u64, .ro, 1, false, false, 0, [], 0⟩,
  ⟨0x04, false, .u64, .ro, 1, false, false, 0, [], 0⟩,
  ⟨0x05, false, .u64, .ro, 1, false, false, 0, [], 0⟩,
  ⟨0x06, false, .u64, .ro, 1, false, false, 0, [], 0⟩]

/-- Objects of index 0x1200. -/
def objs1200 : List Desc := [
  ⟨0x01, false, .u8, .ro, 1, false, false, 0, [], 0⟩,
  ⟨0x02, false, .bool, .ro, 1, false, false, 0, [], 0⟩,
  ⟨0x03, false, .u8, .ro, 1, false, false, 0, [], 0⟩,
  ⟨0x04, false, .u8, .ro, 1, false, false, 0, [], 0⟩,
  ⟨0x05, false, .u32, .ro, 1, false, false, 0, [], 0⟩,
  ⟨0x06, true, .u32, .ro, 1, false, false, 0, [], 0⟩,
  ⟨0x07, false, .bool, .ro, 1, false, false, 0, [], 0⟩]

/-- Objects of index 0x1201. -/
def objs1201 : List Desc := [
  ⟨0x01, false, .action, .act, 3, false, false, 0, [], 0⟩,
  ⟨0x02, false, .action, .act, 2, false, false, 0, [], 0⟩,
  ⟨0x03, false, .u16, .rw, 2, true, false, 100, [(10, 5000, 1)], 0⟩,
  ⟨0x04, false, .action, .act, 3, false, false, 0, [], 0⟩,
  ⟨0x05, false, .u16, .rw, 2, true, false, 30, [(5, 300, 1)], 0⟩]

/-- Objects of index 0x1202. -/
def objs1202 : List Desc := [
  ⟨0x01, false, .u8, .ro, 1, false, false, 0, [], 0⟩,
  ⟨0x02, false, .action, .act, 3, false, false, 0, [], 0⟩,
  ⟨0x03, false, .u32, .rw, 3, false, false, 0, [(0, 25165823, 1)], 0⟩,
  ⟨0x04, false, .str, .wo, 3, true, false, 0, [], 254⟩,
  ⟨0x05, false, .action, .act, 3, false, false, 0, [], 0⟩,
  ⟨0x06, false, .action, .act, 3, false, false, 0, [], 0⟩,
  ⟨0x07, false, .action, .act, 3, false, false, 0, [], 0⟩,
  ⟨0x08, false, .u16, .rw, 3, true, false, 600, [(0, 0, 1), (60, 86400, 1)], 0⟩,
  ⟨0x09, false, .bool, .ro, 1, false, false, 0, [], 0⟩,
  ⟨0x0A, false, .action, .act, 3, false, false, 0, [], 0⟩,
  ⟨0x0B, false, .u8, .ro, 1, false, false, 0, [], 0⟩,
  ⟨0x0C, false, .u8, .ro, 1, false, false, 0, [], 0⟩]

/-- Objects of index 0x1203. -/
def objs1203 : List Desc := [
  ⟨0x01, true, .u8, .ro, 1, false, false, 0, [], 0⟩,
  ⟨0x02, true, .u32, .ro, 1, false, false, 0, [], 0⟩,
  ⟨0x03, true, .u8, .ro, 1, false, false, 0, [], 0⟩,
  ⟨0x04, true, .u8, .ro, 1, false, false, 0, [], 0⟩]

/-- Objects of index 0x1400. -/
def objs1400 : List Desc := [
  ⟨0x01, true, .u8, .rwc, 3, true, false, 1, [(0, 0, 1), (1, 1, 1), (2, 2, 1)], 0⟩,
  ⟨0x02, true, .bool, .rwc, 2, true, false, 1, [(0, 1, 1)], 0⟩,
  ⟨0x03, true, .u32, .rwc, 2, true, false, 0, [], 0⟩,
  ⟨0x04, true, .u8, .rwc, 2, true, false, 24, [(8, 30, 1)], 0⟩,
  ⟨0x05, true, .u32, .rwc, 2, true, false, 0, [], 0⟩,
  ⟨0x06, true, .u16, .rwc, 2, true, false, 0, [(0, 0, 1), (1, 4094, 1)], 0⟩,
  ⟨0x07, true, .u8, .ro, 1, false, false, 0, [], 0⟩,
  ⟨0x08, true, .u32, .ro, 1, false, false, 0, [], 0⟩,
  ⟨0x09, true, .u64, .ro, 1, false, false, 0, [], 0⟩,
  ⟨0x0A, true, .u64, .ro, 1, false, false, 0, [], 0⟩]

/-- Objects of index 0x1401. -/
def objs1401 : List Desc := [
  ⟨0x01, false, .u16, .rwc, 3, true, false, 7140, [(1024, 65535, 1)], 0⟩,
  ⟨0x02, false, .u16, .rw, 2, true, false, 60, [(5, 3600, 1)], 0⟩,
  ⟨0x03, false, .bool, .rwc, 3, true, false, 0, [(0, 1, 1)], 0⟩,
  ⟨0x04, false, .u8, .rwc, 3, true, false, 0, [], 0⟩,
  ⟨0x05, false, .u16, .rwc, 3, true, false, 1, [(1, 4094, 1)], 0⟩]

/-- Objects of index 0x1402. -/
def objs1402 : List Desc := [
  ⟨0x01, true, .u32, .rwc, 3, true, false, 0, [], 0⟩,
  ⟨0x02, true, .u8, .rwc, 3, true, false, 0, [(0, 0, 1), (8, 32, 1)], 0⟩]

/-- Objects of index 0x1403. -/
def objs1403 : List Desc := [
  ⟨0x01, false, .u8, .ro, 1, false, false, 0, [], 0⟩,
  ⟨0x02, false, .u16, .rw, 2, true, false, 17539, [], 0⟩]

/-- Objects of index 0x2000. -/
def objs2000 : List Desc := [
  ⟨0x01, false, .u32, .ro, 1, false, false, 0, [], 0⟩,
  ⟨0x02, false, .u16, .rwc, 3, true, true, 8800, [(4800, 8800, 400)], 0⟩]

/-- Objects of index 0x2001. -/
def objs2001 : List Desc := [
  ⟨0x01, false, .u64, .ro, 1, false, false, 0, [], 0⟩,
  ⟨0x02, false, .u8, .rw, 2, true, false, 0, [(0, 0, 1), (1, 1, 1)], 0⟩,
  ⟨0x03, false, .u8, .rw, 2, true, false, 8, [(0, 7, 1), (8, 8, 1), (9, 9, 1)], 0⟩,
  ⟨0x04, false, .u8, .rw, 2, true, false, 0, [(0, 127, 1)], 0⟩,
  ⟨0x05, false, .u8, .rw, 2, true, false, 0, [(0, 0, 1), (1, 1, 1), (2, 2, 1)], 0⟩,
  ⟨0x06, false, .i32, .ro, 1, false, false, 0, [], 0⟩,
  ⟨0x07, false, .bool, .ro, 1, false, false, 0, [], 0⟩,
  ⟨0x08, false, .i32, .ro, 1, false, false, 0, [], 0⟩]

/-- Objects of index 0x2002. -/
def objs2002 : List Desc := [
  ⟨0x01, false, .u16, .ro, 1, false, false, 0, [], 0⟩,
  ⟨0x02, false, .u64, .ro, 1, false, false, 0, [], 0⟩,
  ⟨0x03, false, .u64, .ro, 1, false, false, 0, [], 0⟩]

/-- Objects of index 0x2010. -/
def objs2010 : List Desc := [
  ⟨0x01, true, .u8, .ro, 1, false, false, 0, [], 0⟩,
  ⟨0x02, true, .u8, .rw, 2, true, false, 1, [(0, 1, 1)], 0⟩,
  ⟨0x03, true, .u8, .ro, 1, false, false, 0, [], 0⟩,
  ⟨0x04, true, .u64, .ro, 1, false, false, 0, [], 0⟩]

/-- Objects of index 0x2100. -/
def objs2100 : List Desc := [
  ⟨0x01, false, .i16, .ro, 1, false, false, 0, [], 0⟩,
  ⟨0x02, false, .u8, .rw, 2, true, false, 110, [(85, 118, 1)], 0⟩,
  ⟨0x03, false, .u8, .rw, 2, true, false, 5, [(2, 20, 1)], 0⟩,
  ⟨0x04, false, .u8, .rw, 2, true, false, 75, [(40, 90, 1)], 0⟩,
  ⟨0x05, false, .u8, .ro, 1, false, false, 0, [], 0⟩,
  ⟨0x06, false, .u16, .ro, 1, false, false, 65535, [], 0⟩,
  ⟨0x07, false, .u64, .ro, 1, false, false, 0, [], 0⟩]

/-- Objects of index 0x2101. -/
def objs2101 : List Desc := [
  ⟨0x01, false, .u16, .ro, 1, false, false, 0, [], 0⟩,
  ⟨0x02, false, .u16, .rw, 2, true, false, 270, [(150, 270, 1)], 0⟩,
  ⟨0x03, false, .u8, .ro, 1, false, false, 0, [], 0⟩,
  ⟨0x04, false, .bool, .rw, 2, true, false, 0, [(0, 1, 1)], 0⟩,
  ⟨0x05, false, .u16, .ro, 1, false, false, 0, [], 0⟩]

/-- Objects of index 0x2102. -/
def objs2102 : List Desc := [
  ⟨0x01, false, .u16, .rw, 2, true, false, 2400, [(100, 12000, 1)], 0⟩,
  ⟨0x02, false, .u8, .rw, 2, true, false, 4, [(1, 96, 1)], 0⟩,
  ⟨0x03, false, .u16, .ro, 1, false, false, 0, [], 0⟩,
  ⟨0x04, false, .u8, .ro, 1, false, false, 0, [], 0⟩]

/-- Objects of index 0x2103. -/
def objs2103 : List Desc := [
  ⟨0x01, true, .u8, .ro, 1, false, false, 0, [], 0⟩]

/-- Objects of index 0x2104. -/
def objs2104 : List Desc := [
  ⟨0x01, false, .u32, .ro, 1, false, false, 0, [], 0⟩,
  ⟨0x02, false, .u16, .rw, 3, true, false, 1000, [(100, 10000, 1)], 0⟩,
  ⟨0x03, false, .u32, .ro, 1, false, false, 0, [], 0⟩]

/-- Objects of index 0x2105. -/
def objs2105 : List Desc := [
  ⟨0x01, false, .u8, .rw, 3, false, false, 0, [(0, 2, 1)], 0⟩,
  ⟨0x02, false, .u32, .rw, 3, false, false, 1000, [(1, 1000000, 1)], 0⟩,
  ⟨0x03, false, .u32, .ro, 1, false, false, 0, [], 0⟩]

/-- Objects of index 0x2300. -/
def objs2300 : List Desc := [
  ⟨0x01, false, .u32, .ro, 1, false, false, 0, [], 0⟩,
  ⟨0x02, false, .u32, .ro, 1, false, false, 0, [], 0⟩,
  ⟨0x03, false, .bool, .rw, 2, true, false, 0, [(0, 1, 1)], 0⟩,
  ⟨0x04, false, .u32, .rw, 2, false, false, 0, [], 0⟩,
  ⟨0x05, false, .u16, .rw, 2, true, false, 100, [(0, 10000, 1)], 0⟩,
  ⟨0x06, false, .u32, .ro, 1, false, false, 0, [], 0⟩,
  ⟨0x07, false, .u64, .ro, 1, false, false, 0, [], 0⟩,
  ⟨0x08, false, .u32, .ro, 1, false, false, 0, [], 0⟩]

/-- Objects of index 0x2301. -/
def objs2301 : List Desc := [
  ⟨0x01, true, .u64, .ro, 1, false, false, 0, [], 0⟩,
  ⟨0x02, true, .u64, .ro, 1, false, false, 0, [], 0⟩,
  ⟨0x03, true, .u64, .ro, 1, false, false, 0, [], 0⟩,
  ⟨0x04, true, .u64, .ro, 1, false, false, 0, [], 0⟩]

/-- Objects of index 0x3000. -/
def objs3000 : List Desc := [
  ⟨0x01, false, .u8, .ro, 1, false, false, 0, [], 0⟩,
  ⟨0x02, false, .u8, .ro, 1, false, false, 0, [], 0⟩,
  ⟨0x03, false, .u8, .ro, 1, false, false, 0, [], 0⟩,
  ⟨0x04, false, .bool, .rw, 2, true, false, 1, [(0, 1, 1)], 0⟩,
  ⟨0x05, false, .u8, .rwc, 3, true, false, 0, [(0, 0, 1), (1, 1, 1)], 0⟩,
  ⟨0x06, false, .u16, .rw, 2, true, false, 500, [(50, 600, 1)], 0⟩,
  ⟨0x07, false, .u16, .rw, 2, true, false, 100, [(10, 150, 1)], 0⟩,
  ⟨0x08, false, .u8, .rw, 2, true, false, 10, [(8, 16, 1)], 0⟩,
  ⟨0x09, false, .u16, .rw, 2, true, false, 10000, [(100, 50000, 1)], 0⟩,
  ⟨0x0A, false, .u16, .rw, 2, true, false, 500, [(50, 2000, 1)], 0⟩,
  ⟨0x0B, false, .u16, .rw, 2, true, false, 1000, [(50, 2000, 1)], 0⟩,
  ⟨0x0C, false, .u8, .rw, 2, true, false, 3, [(0, 15, 1), (255, 255, 1)], 0⟩,
  ⟨0x0D, false, .u16, .rw, 2, true, false, 1000, [(100, 60000, 1)], 0⟩,
  ⟨0x0E, false, .u16, .rw, 2, true, false, 10, [(1, 600, 1)], 0⟩,
  ⟨0x0F, false, .u16, .rw, 2, true, false, 250, [(10, 2000, 1)], 0⟩,
  ⟨0x10, false, .u8, .ro, 1, false, false, 0, [], 0⟩,
  ⟨0x11, false, .u16, .ro, 1, false, false, 0, [], 0⟩,
  ⟨0x12, false, .action, .act, 2, false, false, 0, [], 0⟩,
  ⟨0x13, false, .u16, .rwc, 3, true, false, 2000, [(1000, 5000, 1)], 0⟩,
  ⟨0x14, false, .u16, .rwc, 3, true, false, 10000, [(5000, 25000, 1)], 0⟩,
  ⟨0x15, false, .i32, .ro, 1, false, false, 0, [], 0⟩,
  ⟨0x16, false, .u32, .ro, 1, false, false, 0, [], 0⟩,
  ⟨0x17, false, .u32, .ro, 1, false, false, 0, [], 0⟩,
  ⟨0x18, false, .u64, .ro, 1, false, false, 0, [], 0⟩,
  ⟨0x19, false, .i32, .ro, 1, false, false, 0, [], 0⟩,
  ⟨0x1A, false, .u32, .ro, 1, false, false, 0, [], 0⟩,
  ⟨0x1B, false, .u32, .ro, 1, false, false, 0, [], 0⟩,
  ⟨0x1C, false, .u64, .ro, 1, false, false, 0, [], 0⟩,
  ⟨0x1D, false, .u32, .ro, 1, false, false, 0, [], 0⟩,
  ⟨0x1E, false, .u32, .ro, 1, false, false, 0, [], 0⟩,
  ⟨0x1F, false, .u32, .ro, 1, false, false, 0, [], 0⟩,
  ⟨0x20, false, .u32, .ro, 1, false, false, 0, [], 0⟩,
  ⟨0x21, false, .u64, .ro, 1, false, false, 0, [], 0⟩,
  ⟨0x22, false, .action, .act, 3, false, false, 0, [], 0⟩,
  ⟨0x23, false, .action, .act, 3, false, false, 0, [], 0⟩,
  ⟨0x24, false, .q16, .rw, 3, true, false, 65536, [(64225, 66847, 1)], 0⟩,
  ⟨0x25, false, .q16, .rw, 3, true, false, 65536, [(64225, 66847, 1)], 0⟩,
  ⟨0x26, false, .u16, .rw, 2, true, false, 75, [(1, 120, 1)], 0⟩,
  ⟨0x27, false, .u8, .ro, 1, false, false, 0, [], 0⟩,
  ⟨0x28, false, .u32, .ro, 1, false, false, 0, [], 0⟩,
  ⟨0x29, false, .u64, .ro, 1, false, false, 0, [], 0⟩]

/-- Objects of index 0x3100. -/
def objs3100 : List Desc := [
  ⟨0x01, false, .u8, .ro, 1, false, false, 0, [], 0⟩,
  ⟨0x02, false, .u8, .ro, 1, false, false, 0, [], 0⟩,
  ⟨0x03, false, .u8, .ro, 1, false, false, 0, [], 0⟩,
  ⟨0x04, false, .bool, .rwc, 3, true, false, 0, [(0, 1, 1)], 0⟩,
  ⟨0x05, false, .u8, .rwc, 3, true, false, 0, [(0, 0, 1), (1, 1, 1)], 0⟩,
  ⟨0x06, false, .u8, .rw, 2, true, false, 32, [(16, 16, 1), (32, 32, 1), (64, 64, 1)], 0⟩,
  ⟨0x07, false, .u16, .rw, 2, true, false, 500, [(50, 10000, 1)], 0⟩,
  ⟨0x08, false, .u8, .ro, 1, false, false, 0, [], 0⟩,
  ⟨0x09, false, .u32, .ro, 1, false, false, 0, [], 0⟩,
  ⟨0x0A, false, .u64, .ro, 1, false, false, 0, [], 0⟩,
  ⟨0x0B, false, .u32, .ro, 1, false, false, 0, [], 0⟩,
  ⟨0x0C, false, .action, .act, 2, false, false, 0, [], 0⟩]

/-- Objects of index 0x3200. -/
def objs3200 : List Desc := [
  ⟨0x01, true, .u8, .ro, 1, false, false, 0, [], 0⟩,
  ⟨0x02, true, .u8, .ro, 1, false, false, 255, [], 0⟩,
  ⟨0x03, true, .str, .ro, 1, false, false, 0, [], 20⟩,
  ⟨0x04, true, .str, .ro, 1, false, false, 0, [], 40⟩,
  ⟨0x05, true, .u64, .ro, 1, false, false, 0, [], 0⟩,
  ⟨0x06, true, .u8, .ro, 1, false, false, 0, [], 0⟩,
  ⟨0x07, true, .bool, .ro, 1, false, false, 0, [], 0⟩,
  ⟨0x08, true, .action, .act, 2, false, false, 0, [], 0⟩,
  ⟨0x09, true, .action, .act, 2, false, false, 0, [], 0⟩,
  ⟨0x0A, true, .action, .act, 2, false, false, 0, [], 0⟩,
  ⟨0x0B, true, .i16, .ro, 1, false, false, 0, [], 0⟩,
  ⟨0x0C, true, .u8, .ro, 1, false, false, 0, [], 0⟩,
  ⟨0x0D, true, .u64, .ro, 1, false, false, 0, [], 0⟩,
  ⟨0x0E, true, .u32, .ro, 1, false, false, 0, [], 0⟩,
  ⟨0x0F, true, .u32, .ro, 1, false, false, 0, [], 0⟩,
  ⟨0x10, true, .u8, .ro, 1, false, false, 0, [], 0⟩]

/-- Objects of index 0x3201. -/
def objs3201 : List Desc := [
  ⟨0x01, true, .u8, .ro, 1, false, false, 0, [], 0⟩,
  ⟨0x02, true, .u8, .ro, 1, false, false, 255, [], 0⟩]

/-- Objects of index 0x3202. -/
def objs3202 : List Desc := [
  ⟨0x01, false, .u16, .rw, 2, true, false, 2000, [(100, 30000, 1)], 0⟩,
  ⟨0x02, false, .u8, .rw, 2, true, false, 3, [(1, 20, 1)], 0⟩,
  ⟨0x03, false, .u16, .rw, 2, true, false, 60, [(10, 3600, 1)], 0⟩,
  ⟨0x04, false, .u8, .rw, 2, true, false, 95, [(50, 255, 1)], 0⟩,
  ⟨0x05, false, .u16, .rw, 2, true, false, 32, [(1, 10000, 1)], 0⟩,
  ⟨0x06, false, .u16, .rw, 2, true, false, 30, [(0, 600, 1)], 0⟩,
  ⟨0x07, false, .bool, .rw, 2, true, false, 1, [(0, 1, 1)], 0⟩]

/-- Objects of index 0x4000. -/
def objs4000 : List Desc := [
  ⟨0x01, true, .u8, .ro, 1, false, false, 0, [], 0⟩,
  ⟨0x02, true, .u8, .rw, 3, false, false, 48, [(6, 48, 1)], 0⟩,
  ⟨0x03, true, .u8, .rw, 3, false, false, 16, [(4, 22, 1)], 0⟩,
  ⟨0x04, true, .u8, .rw, 3, false, false, 2, [(0, 3, 1)], 0⟩,
  ⟨0x05, true, .u32, .rw, 3, false, false, 0, [], 0⟩,
  ⟨0x06, true, .action, .act, 3, false, false, 0, [], 0⟩,
  ⟨0x07, true, .u32, .ro, 1, false, false, 0, [], 0⟩,
  ⟨0x08, true, .u8, .ro, 1, false, false, 0, [], 0⟩,
  ⟨0x09, true, .u16, .ro, 1, false, false, 0, [], 0⟩,
  ⟨0x0A, true, .u16, .ro, 1, false, false, 0, [], 0⟩,
  ⟨0x0B, true, .u32, .ro, 1, false, false, 0, [], 0⟩,
  ⟨0x0C, true, .u32, .ro, 1, false, false, 0, [], 0⟩,
  ⟨0x0D, true, .u8, .ro, 1, false, false, 0, [], 0⟩,
  ⟨0x0E, true, .u16, .ro, 1, false, false, 0, [], 0⟩,
  ⟨0x0F, true, .u16, .ro, 1, false, false, 0, [], 0⟩,
  ⟨0x10, true, .u32, .ro, 1, false, false, 0, [], 0⟩,
  ⟨0x11, true, .u32, .ro, 1, false, false, 0, [], 0⟩,
  ⟨0x12, true, .u32, .ro, 1, false, false, 0, [], 0⟩]

/-- Objects of index 0x4001. -/
def objs4001 : List Desc := [
  ⟨0x01, false, .u8, .rw, 3, false, false, 2, [(0, 4, 1)], 0⟩,
  ⟨0x02, false, .u32, .ro, 1, false, false, 0, [], 0⟩,
  ⟨0x03, false, .u32, .ro, 1, false, false, 0, [], 0⟩,
  ⟨0x04, false, .u64, .ro, 1, false, false, 0, [], 0⟩]

/-- Objects of index 0x4003. -/
def objs4003 : List Desc := [
  ⟨0x01, true, .u8, .ro, 1, false, false, 255, [], 0⟩,
  ⟨0x02, true, .u8, .ro, 1, false, false, 0, [], 0⟩]

/-- Objects of index 0x4010. -/
def objs4010 : List Desc := [
  ⟨0x01, true, .u32, .ro, 1, false, false, 0, [], 0⟩,
  ⟨0x02, true, .u32, .ro, 1, false, false, 0, [], 0⟩]

/-- Objects of index 0x4100. -/
def objs4100 : List Desc := [
  ⟨0x01, true, .u8, .ro, 1, false, false, 0, [], 0⟩,
  ⟨0x02, true, .u32, .rwc, 2, false, false, 0, [(0, 3145728, 1)], 0⟩,
  ⟨0x03, true, .u8, .rwc, 2, false, false, 0, [(0, 7, 1)], 0⟩,
  ⟨0x04, true, .u16, .rwc, 2, false, false, 4096, [(512, 512, 1), (4096, 4096, 1)], 0⟩,
  ⟨0x05, true, .u8, .rwc, 2, false, false, 0, [(0, 6, 1)], 0⟩,
  ⟨0x06, true, .u8, .rwc, 2, false, false, 0, [(0, 0, 1), (1, 1, 1)], 0⟩,
  ⟨0x07, true, .u16, .rw, 2, false, false, 0, [(0, 65534, 1)], 0⟩,
  ⟨0x08, true, .u32, .ro, 1, false, false, 0, [], 0⟩,
  ⟨0x09, true, .u32, .ro, 1, false, false, 0, [], 0⟩,
  ⟨0x0A, true, .u64, .ro, 1, false, false, 0, [], 0⟩]

/-- Objects of index 0x4101. -/
def objs4101 : List Desc := [
  ⟨0x01, true, .u64, .ro, 1, false, false, 0, [], 0⟩,
  ⟨0x02, true, .u64, .ro, 1, false, false, 0, [], 0⟩,
  ⟨0x03, true, .action, .act, 2, false, false, 0, [], 0⟩]

/-- Objects of index 0x4102. -/
def objs4102 : List Desc := [
  ⟨0x01, false, .u8, .rw, 2, false, false, 8, [(1, 64, 1)], 0⟩,
  ⟨0x02, false, .u32, .ro, 1, false, false, 0, [], 0⟩]

/-- Objects of index 0x4200. -/
def objs4200 : List Desc := [
  ⟨0x01, false, .u32, .rwc, 2, true, false, 8192, [(1024, 65536, 1024)], 0⟩,
  ⟨0x02, false, .u32, .rw, 2, true, false, 5000, [(50, 100000, 1)], 0⟩,
  ⟨0x03, false, .u8, .rw, 2, true, false, 75, [(50, 95, 1)], 0⟩,
  ⟨0x04, false, .u64, .ro, 1, false, false, 0, [], 0⟩,
  ⟨0x05, false, .bool, .rwc, 3, true, false, 1, [(0, 1, 1)], 0⟩,
  ⟨0x06, false, .u8, .ro, 1, false, false, 0, [], 0⟩,
  ⟨0x07, false, .u64, .ro, 1, false, false, 0, [], 0⟩,
  ⟨0x08, false, .u64, .ro, 1, false, false, 0, [], 0⟩,
  ⟨0x09, false, .u64, .ro, 1, false, false, 0, [], 0⟩,
  ⟨0x0A, false, .u64, .ro, 1, false, false, 0, [], 0⟩,
  ⟨0x0B, false, .u32, .ro, 1, false, false, 0, [], 0⟩]

/-- Objects of index 0x4201. -/
def objs4201 : List Desc := [
  ⟨0x01, true, .u32, .rwc, 2, true, false, 256, [(64, 1048576, 4)], 0⟩,
  ⟨0x02, true, .u32, .rw, 2, true, false, 0, [(0, 0, 1), (50, 100000, 1)], 0⟩,
  ⟨0x03, true, .u64, .ro, 1, false, false, 0, [], 0⟩,
  ⟨0x04, true, .u64, .ro, 1, false, false, 0, [], 0⟩,
  ⟨0x05, true, .u32, .ro, 1, false, false, 0, [], 0⟩,
  ⟨0x06, true, .u64, .ro, 1, false, false, 0, [], 0⟩]

/-- Objects of index 0x4300. -/
def objs4300 : List Desc := [
  ⟨0x01, false, .u32, .ro, 1, false, false, 0, [], 0⟩,
  ⟨0x02, false, .u8, .ro, 1, false, false, 0, [], 0⟩,
  ⟨0x03, false, .u32, .ro, 1, false, false, 0, [], 0⟩,
  ⟨0x04, false, .u64, .ro, 1, false, false, 0, [], 0⟩,
  ⟨0x05, false, .u64, .ro, 1, false, false, 0, [], 0⟩,
  ⟨0x06, false, .u8, .ro, 1, false, false, 0, [], 0⟩,
  ⟨0x07, false, .u16, .rw, 2, true, false, 4, [(1, 100, 1)], 0⟩,
  ⟨0x08, false, .u32, .ro, 1, false, false, 0, [], 0⟩,
  ⟨0x09, false, .u32, .ro, 1, false, false, 0, [], 0⟩,
  ⟨0x0A, false, .action, .act, 3, false, false, 0, [], 0⟩]

/-- Objects of index 0x4400. -/
def objs4400 : List Desc := [
  ⟨0x01, false, .bool, .rwc, 3, true, false, 1, [(0, 1, 1)], 0⟩,
  ⟨0x02, false, .u8, .ro, 1, false, false, 0, [], 0⟩,
  ⟨0x03, false, .u32, .ro, 1, false, false, 0, [], 0⟩,
  ⟨0x04, false, .u64, .ro, 1, false, false, 0, [], 0⟩,
  ⟨0x05, false, .u8, .ro, 1, false, false, 0, [], 0⟩,
  ⟨0x06, false, .u64, .ro, 1, false, false, 0, [], 0⟩,
  ⟨0x07, false, .u32, .ro, 1, false, false, 0, [], 0⟩,
  ⟨0x08, false, .u16, .rw, 3, true, false, 10, [(1, 1000, 1)], 0⟩,
  ⟨0x09, false, .u32, .ro, 1, false, false, 0, [], 0⟩,
  ⟨0x0A, false, .action, .act, 3, false, false, 0, [], 0⟩]

/-- Objects of index 0x4500. -/
def objs4500 : List Desc := [
  ⟨0x01, false, .u8, .ro, 1, false, false, 0, [], 0⟩,
  ⟨0x02, false, .u64, .ro, 1, false, false, 0, [], 0⟩,
  ⟨0x03, false, .u64, .ro, 1, false, false, 0, [], 0⟩,
  ⟨0x04, false, .u64, .ro, 1, false, false, 0, [], 0⟩]

/-- Objects of index 0x4501. -/
def objs4501 : List Desc := [
  ⟨0x01, false, .u32, .rw, 2, true, false, 2000, [(500, 40000, 1)], 0⟩,
  ⟨0x02, false, .u32, .rw, 2, true, false, 400, [(50, 10000, 1)], 0⟩,
  ⟨0x03, false, .u16, .rw, 2, true, false, 100, [(10, 1000, 1)], 0⟩,
  ⟨0x04, false, .u32, .rw, 3, true, false, 14600, [(1000, 30000, 1)], 0⟩,
  ⟨0x05, false, .bool, .rw, 2, false, false, 0, [(0, 1, 1)], 0⟩,
  ⟨0x06, false, .bool, .rw, 2, true, false, 1, [(0, 1, 1)], 0⟩,
  ⟨0x07, false, .u8, .rw, 2, true, false, 1, [(0, 3, 1)], 0⟩,
  ⟨0x08, false, .u32, .ro, 1, false, false, 0, [], 0⟩,
  ⟨0x09, false, .u32, .ro, 1, false, false, 0, [], 0⟩,
  ⟨0x0A, false, .u32, .ro, 1, false, false, 0, [], 0⟩,
  ⟨0x0B, false, .u64, .ro, 1, false, false, 0, [], 0⟩]

/-- Objects of index 0x4502. -/
def objs4502 : List Desc := [
  ⟨0x01, true, .u8, .ro, 1, false, false, 0, [], 0⟩,
  ⟨0x02, true, .u64, .ro, 1, false, false, 0, [], 0⟩,
  ⟨0x03, true, .u64, .ro, 1, false, false, 0, [], 0⟩,
  ⟨0x04, true, .u64, .ro, 1, false, false, 0, [], 0⟩,
  ⟨0x05, true, .u32, .ro, 1, false, false, 0, [], 0⟩]

/-- Objects of index 0x4503. -/
def objs4503 : List Desc := [
  ⟨0x01, false, .u32, .rw, 2, true, false, 8000, [(100, 40000, 1)], 0⟩,
  ⟨0x02, false, .u32, .rw, 2, true, false, 500, [(100, 40000, 1)], 0⟩,
  ⟨0x03, false, .u32, .ro, 1, false, false, 0, [], 0⟩,
  ⟨0x04, false, .u8, .ro, 1, false, false, 0, [], 0⟩]

/-- Objects of index 0x4600. -/
def objs4600 : List Desc := [
  ⟨0x01, false, .u64, .ro, 1, false, false, 0, [], 0⟩,
  ⟨0x02, false, .u64, .ro, 1, false, false, 0, [], 0⟩,
  ⟨0x03, false, .u64, .ro, 1, false, false, 0, [], 0⟩,
  ⟨0x04, false, .u64, .ro, 1, false, false, 0, [], 0⟩,
  ⟨0x05, false, .u64, .ro, 1, false, false, 0, [], 0⟩,
  ⟨0x06, false, .u64, .ro, 1, false, false, 0, [], 0⟩]

/-- Objects of index 0x4601. -/
def objs4601 : List Desc := [
  ⟨0x01, false, .bool, .rw, 2, true, false, 1, [(0, 1, 1)], 0⟩,
  ⟨0x02, false, .u16, .rw, 2, true, false, 28, [(1, 365, 1)], 0⟩,
  ⟨0x03, false, .u32, .ro, 1, false, false, 0, [], 0⟩,
  ⟨0x04, false, .u64, .ro, 1, false, false, 0, [], 0⟩,
  ⟨0x05, false, .u64, .ro, 1, false, false, 0, [], 0⟩,
  ⟨0x06, false, .bool, .ro, 1, false, false, 0, [], 0⟩,
  ⟨0x07, false, .action, .act, 2, false, false, 0, [], 0⟩]

/-- Objects of index 0x4602. -/
def objs4602 : List Desc := [
  ⟨0x01, false, .u32, .ro, 1, false, false, 0, [], 0⟩,
  ⟨0x02, false, .u32, .ro, 1, false, false, 0, [], 0⟩,
  ⟨0x03, false, .bool, .ro, 1, false, false, 1, [], 0⟩,
  ⟨0x04, false, .u64, .ro, 1, false, false, 0, [], 0⟩,
  ⟨0x05, true, .u64, .ro, 1, false, false, 0, [], 0⟩,
  ⟨0x06, true, .u64, .ro, 1, false, false, 0, [], 0⟩]

/-- Objects of index 0x5000. -/
def objs5000 : List Desc := [
  ⟨0x01, false, .u8, .rwc, 2, true, false, 1, [(0, 3, 1)], 0⟩,
  ⟨0x02, false, .u8, .rwc, 2, true, false, 0, [(0, 0, 1), (1, 1, 1)], 0⟩,
  ⟨0x03, false, .u16, .rwc, 2, true, false, 9216, [(1518, 9216, 1)], 0⟩,
  ⟨0x04, false, .u8, .ro, 1, false, false, 0, [], 0⟩,
  ⟨0x05, false, .u64, .ro, 1, false, false, 0, [], 0⟩,
  ⟨0x06, false, .u64, .ro, 1, false, false, 0, [], 0⟩,
  ⟨0x07, false, .bool, .rw, 2, true, false, 1, [(0, 1, 1)], 0⟩,
  ⟨0x08, false, .u8, .rwc, 2, true, false, 0, [], 0⟩,
  ⟨0x09, false, .u16, .rw, 3, true, false, 1024, [(64, 1984, 1)], 0⟩,
  ⟨0x0A, false, .u16, .rw, 3, true, false, 896, [(32, 1952, 1)], 0⟩,
  ⟨0x0B, false, .u16, .rw, 2, true, false, 100, [(0, 0, 1), (10, 1000, 1)], 0⟩,
  ⟨0x0C, false, .u32, .rw, 2, true, false, 1985229328, [], 0⟩,
  ⟨0x0D, false, .u64, .ro, 1, false, false, 0, [], 0⟩,
  ⟨0x0E, false, .u64, .ro, 1, false, false, 0, [], 0⟩,
  ⟨0x0F, false, .u64, .ro, 1, false, false, 0, [], 0⟩,
  ⟨0x10, false, .u64, .ro, 1, false, false, 0, [], 0⟩,
  ⟨0x11, false, .u64, .ro, 1, false, false, 0, [], 0⟩,
  ⟨0x12, false, .u64, .ro, 1, false, false, 0, [], 0⟩,
  ⟨0x13, false, .u64, .ro, 1, false, false, 0, [], 0⟩,
  ⟨0x14, false, .u16, .ro, 1, false, false, 0, [], 0⟩,
  ⟨0x15, false, .u64, .ro, 1, false, false, 0, [], 0⟩,
  ⟨0x16, false, .u64, .ro, 1, false, false, 0, [], 0⟩,
  ⟨0x17, false, .u64, .ro, 1, false, false, 0, [], 0⟩,
  ⟨0x18, false, .u64, .ro, 1, false, false, 0, [], 0⟩,
  ⟨0x19, false, .u64, .ro, 1, false, false, 0, [], 0⟩,
  ⟨0x1A, false, .u32, .ro, 1, false, false, 0, [], 0⟩,
  ⟨0x1B, false, .u64, .ro, 1, false, false, 0, [], 0⟩,
  ⟨0x1C, false, .u64, .ro, 1, false, false, 0, [], 0⟩,
  ⟨0x1D, false, .u32, .ro, 1, false, false, 0, [], 0⟩]

/-- Objects of index 0x5100. -/
def objs5100 : List Desc := [
  ⟨0x01, false, .u32, .ro, 1, false, false, 0, [], 0⟩,
  ⟨0x02, false, .u16, .ro, 1, false, false, 0, [], 0⟩,
  ⟨0x03, false, .u8, .rw, 2, true, false, 12, [(8, 20, 1)], 0⟩,
  ⟨0x04, false, .u8, .rw, 2, true, false, 7, [(0, 7, 1)], 0⟩,
  ⟨0x05, false, .u8, .rw, 2, true, false, 5, [(1, 31, 1)], 0⟩,
  ⟨0x06, false, .u8, .rw, 2, true, false, 7, [(0, 7, 1), (7, 7, 1)], 0⟩,
  ⟨0x07, false, .u8, .rw, 2, true, false, 16, [(1, 64, 1)], 0⟩,
  ⟨0x08, false, .u16, .rw, 2, true, false, 50, [(1, 1000, 1)], 0⟩,
  ⟨0x09, false, .u8, .rw, 2, true, false, 48, [(0, 63, 1)], 0⟩,
  ⟨0x0A, false, .bool, .rw, 2, true, false, 1, [(0, 1, 1)], 0⟩,
  ⟨0x0B, false, .u16, .rw, 2, true, false, 300, [(10, 10000, 1)], 0⟩,
  ⟨0x0C, false, .u16, .rw, 2, true, false, 55, [(10, 10000, 1)], 0⟩,
  ⟨0x0D, false, .u32, .rw, 2, true, false, 2000, [(10, 50000, 1)], 0⟩,
  ⟨0x0E, false, .u32, .rw, 2, true, false, 100, [(10, 10000, 1)], 0⟩,
  ⟨0x0F, false, .u16, .rw, 2, true, false, 100, [(10, 10000, 1)], 0⟩,
  ⟨0x10, false, .u16, .ro, 1, false, false, 0, [], 0⟩,
  ⟨0x11, false, .u32, .ro, 1, false, false, 0, [], 0⟩,
  ⟨0x12, false, .u64, .ro, 1, false, false, 0, [], 0⟩,
  ⟨0x13, false, .u64, .ro, 1, false, false, 0, [], 0⟩,
  ⟨0x14, false, .u64, .ro, 1, false, false, 0, [], 0⟩,
  ⟨0x15, false, .u64, .ro, 1, false, false, 0, [], 0⟩,
  ⟨0x16, false, .u64, .ro, 1, false, false, 0, [], 0⟩,
  ⟨0x17, false, .u64, .ro, 1, false, false, 0, [], 0⟩,
  ⟨0x18, false, .u64, .ro, 1, false, false, 0, [], 0⟩,
  ⟨0x19, false, .str, .ro, 1, false, false, 0, [], 223⟩,
  ⟨0x1A, false, .u64, .ro, 1, false, false, 0, [], 0⟩]

/-- Objects of index 0x5101. -/
def objs5101 : List Desc := [
  ⟨0x01, true, .u8, .rwc, 2, true, false, 0, [(0, 2, 1)], 0⟩,
  ⟨0x02, true, .u64, .rwc, 2, true, false, 0, [], 0⟩,
  ⟨0x03, true, .u64, .rwc, 2, true, false, 0, [], 0⟩,
  ⟨0x04, true, .u8, .rwc, 2, true, false, 24, [(8, 128, 1)], 0⟩,
  ⟨0x05, true, .u16, .rwc, 2, true, false, 0, [(0, 0, 1), (1, 4094, 1)], 0⟩]

/-- Objects of index 0x5102. -/
def objs5102 : List Desc := [
  ⟨0x01, true, .u8, .rw, 2, true, false, 0, [(0, 7, 1)], 0⟩]

/-- Objects of index 0x5103. -/
def objs5103 : List Desc := [
  ⟨0x01, true, .bool, .rwc, 2, true, false, 0, [(0, 1, 1)], 0⟩,
  ⟨0x02, true, .str, .rwc, 2, true, false, 0, [], 223⟩,
  ⟨0x03, true, .u64, .rwc, 2, true, false, 0, [], 0⟩,
  ⟨0x04, true, .u64, .rwc, 2, true, false, 0, [], 0⟩,
  ⟨0x05, true, .u8, .rwc, 2, true, false, 128, [(0, 128, 1)], 0⟩,
  ⟨0x06, true, .u16, .rw, 2, true, false, 32, [(2, 1024, 1)], 0⟩,
  ⟨0x07, true, .u16, .rw, 2, true, false, 1024, [(32, 1024, 1)], 0⟩,
  ⟨0x08, true, .u16, .rw, 2, true, false, 64, [(0, 0, 1), (1, 1000, 1)], 0⟩,
  ⟨0x09, true, .u16, .rw, 2, true, false, 65535, [(0, 4095, 1), (65535, 65535, 1)], 0⟩,
  ⟨0x0A, true, .u16, .ro, 1, false, false, 0, [], 0⟩,
  ⟨0x0B, true, .u16, .ro, 1, false, false, 0, [], 0⟩,
  ⟨0x0C, true, .u64, .ro, 1, false, false, 0, [], 0⟩,
  ⟨0x0D, true, .bool, .ro, 1, false, false, 0, [], 0⟩]

/-- Objects of index 0x5104. -/
def objs5104 : List Desc := [
  ⟨0x01, true, .u16, .rwc, 2, true, false, 65535, [(0, 2047, 1), (65535, 65535, 1)], 0⟩,
  ⟨0x02, true, .u16, .rwc, 2, true, false, 0, [(0, 4095, 1)], 0⟩]

/-- Objects of index 0x5105. -/
def objs5105 : List Desc := [
  ⟨0x01, true, .u8, .ro, 1, false, false, 0, [], 0⟩,
  ⟨0x02, true, .u16, .ro, 1, false, false, 0, [], 0⟩,
  ⟨0x03, true, .u8, .ro, 1, false, false, 0, [], 0⟩,
  ⟨0x04, true, .u32, .ro, 1, false, false, 0, [], 0⟩,
  ⟨0x05, true, .bool, .ro, 1, false, false, 0, [], 0⟩,
  ⟨0x06, true, .bool, .rw, 2, false, false, 0, [(0, 1, 1)], 0⟩,
  ⟨0x07, true, .u32, .ro, 1, false, false, 0, [], 0⟩,
  ⟨0x08, true, .u32, .ro, 1, false, false, 0, [], 0⟩,
  ⟨0x09, true, .action, .act, 2, false, false, 0, [], 0⟩]

/-- Objects of index 0x5200. -/
def objs5200 : List Desc := [
  ⟨0x01, true, .u8, .ro, 1, false, false, 0, [], 0⟩,
  ⟨0x02, true, .u8, .rw, 2, false, false, 0, [(0, 0, 1), (1, 1, 1), (2, 2, 1)], 0⟩,
  ⟨0x03, true, .u16, .rw, 2, false, false, 65535, [(0, 2047, 1), (65535, 65535, 1)], 0⟩,
  ⟨0x04, true, .u16, .rw, 2, false, false, 0, [(0, 4095, 1)], 0⟩,
  ⟨0x05, true, .u64, .rw, 2, false, false, 0, [], 0⟩,
  ⟨0x06, true, .u64, .rw, 2, false, false, 0, [], 0⟩,
  ⟨0x07, true, .u8, .rw, 2, false, false, 0, [(0, 15, 1)], 0⟩,
  ⟨0x08, true, .u8, .rw, 2, false, false, 0, [(0, 1, 1)], 0⟩,
  ⟨0x09, true, .action, .act, 2, false, false, 0, [], 0⟩,
  ⟨0x0A, true, .u32, .ro, 1, false, false, 0, [], 0⟩,
  ⟨0x0B, true, .u64, .rw, 2, false, false, 0, [], 0⟩,
  ⟨0x0C, true, .u64, .rw, 2, false, false, 0, [], 0⟩,
  ⟨0x0D, true, .u8, .rw, 2, false, false, 0, [(0, 15, 1)], 0⟩,
  ⟨0x0E, true, .u8, .rw, 2, false, false, 0, [(0, 1, 1)], 0⟩,
  ⟨0x0F, true, .action, .act, 2, false, false, 0, [], 0⟩,
  ⟨0x10, true, .action, .act, 2, false, false, 0, [], 0⟩,
  ⟨0x11, true, .u16, .ro, 1, false, false, 0, [], 0⟩,
  ⟨0x12, true, .u16, .ro, 1, false, false, 0, [], 0⟩,
  ⟨0x13, true, .u32, .ro, 1, false, false, 0, [], 0⟩,
  ⟨0x14, true, .u8, .ro, 1, false, false, 0, [], 0⟩]

/-- Objects of index 0x5201. -/
def objs5201 : List Desc := [
  ⟨0x01, true, .u8, .ro, 1, false, false, 0, [], 0⟩,
  ⟨0x02, true, .u16, .ro, 1, false, false, 65535, [], 0⟩,
  ⟨0x03, true, .u16, .ro, 1, false, false, 65535, [], 0⟩,
  ⟨0x04, true, .u16, .ro, 1, false, false, 0, [], 0⟩,
  ⟨0x05, true, .u16, .ro, 1, false, false, 0, [], 0⟩,
  ⟨0x06, true, .u32, .ro, 1, false, false, 0, [], 0⟩,
  ⟨0x07, true, .u32, .ro, 1, false, false, 0, [], 0⟩,
  ⟨0x08, true, .action, .act, 2, false, false, 0, [], 0⟩]

/-- Objects of index 0x5202. -/
def objs5202 : List Desc := [
  ⟨0x01, false, .u16, .ro, 1, false, false, 0, [], 0⟩,
  ⟨0x02, false, .u64, .ro, 1, false, false, 0, [], 0⟩,
  ⟨0x03, false, .u16, .ro, 1, false, false, 0, [], 0⟩,
  ⟨0x04, false, .u16, .ro, 1, false, false, 0, [], 0⟩]

/-- Objects of index 0x5203. -/
def objs5203 : List Desc := [
  ⟨0x01, false, .u16, .rwc, 3, true, true, 16, [(0, 1024, 1)], 0⟩]

/-- Objects of index 0x5204. -/
def objs5204 : List Desc := [
  ⟨0x01, true, .u16, .rw, 2, true, false, 65535, [(0, 2047, 1), (65535, 65535, 1)], 0⟩]

/-- Objects of index 0x5205. -/
def objs5205 : List Desc := [
  ⟨0x01, true, .u32, .rw, 2, true, false, 0, [(0, 0, 1), (1000, 800000, 1)], 0⟩]

/-- Objects of index 0x5300. -/
def objs5300 : List Desc := [
  ⟨0x01, false, .bool, .rw, 2, true, false, 0, [(0, 1, 1)], 0⟩,
  ⟨0x02, false, .u32, .ro, 1, false, false, 0, [], 0⟩,
  ⟨0x03, false, .u64, .ro, 1, false, false, 0, [], 0⟩,
  ⟨0x04, false, .u32, .ro, 1, false, false, 0, [], 0⟩]

/-- Objects of index 0x6000. -/
def objs6000 : List Desc := [
  ⟨0x01, false, .u8, .ro, 1, false, false, 15, [], 0⟩,
  ⟨0x02, false, .u16, .rw, 3, true, false, 2000, [(500, 20000, 1)], 0⟩,
  ⟨0x03, false, .u8, .rw, 3, true, false, 3, [(1, 7, 1)], 0⟩,
  ⟨0x04, false, .u16, .rw, 3, true, false, 16, [(1, 1000, 1)], 0⟩,
  ⟨0x05, false, .u32, .rw, 2, true, false, 82977, [], 0⟩]

/-- Objects of index 0x6001. -/
def objs6001 : List Desc := [
  ⟨0x01, true, .u64, .ro, 1, false, false, 0, [], 0⟩,
  ⟨0x02, true, .u64, .ro, 1, false, false, 0, [], 0⟩,
  ⟨0x03, true, .u64, .ro, 1, false, false, 0, [], 0⟩,
  ⟨0x04, true, .action, .act, 3, false, false, 0, [], 0⟩,
  ⟨0x05, true, .bool, .ro, 1, false, false, 0, [], 0⟩]

/-- Objects of index 0x6002. -/
def objs6002 : List Desc := [
  ⟨0x01, true, .u64, .ro, 1, false, false, 0, [], 0⟩,
  ⟨0x02, true, .u64, .ro, 1, false, false, 0, [], 0⟩,
  ⟨0x03, true, .u32, .ro, 1, false, false, 0, [], 0⟩,
  ⟨0x04, true, .u64, .ro, 1, false, false, 0, [], 0⟩,
  ⟨0x05, true, .u32, .ro, 1, false, false, 0, [], 0⟩]

/-- Objects of index 0x6003. -/
def objs6003 : List Desc := [
  ⟨0x01, true, .u16, .rwc, 2, true, false, 256, [(16, 4096, 16)], 0⟩,
  ⟨0x02, true, .u16, .rwc, 2, true, false, 2048, [(16, 4096, 16)], 0⟩,
  ⟨0x03, true, .u16, .rw, 2, true, false, 128, [(16, 4096, 16)], 0⟩,
  ⟨0x04, true, .u32, .ro, 1, false, false, 0, [], 0⟩,
  ⟨0x05, true, .u64, .ro, 1, false, false, 0, [], 0⟩,
  ⟨0x06, true, .u64, .ro, 1, false, false, 0, [], 0⟩,
  ⟨0x07, true, .u64, .ro, 1, false, false, 0, [], 0⟩]

/-- Objects of index 0x6004. -/
def objs6004 : List Desc := [
  ⟨0x01, true, .u8, .rw, 2, true, false, 1, [(0, 100, 1)], 0⟩,
  ⟨0x02, true, .u64, .ro, 1, false, false, 0, [], 0⟩,
  ⟨0x03, true, .u64, .ro, 1, false, false, 0, [], 0⟩,
  ⟨0x04, true, .u64, .ro, 1, false, false, 0, [], 0⟩]

/-- Objects of index 0x6100. -/
def objs6100 : List Desc := [
  ⟨0x01, true, .u8, .ro, 1, false, false, 0, [], 0⟩,
  ⟨0x02, true, .u16, .ro, 1, false, false, 0, [], 0⟩,
  ⟨0x03, true, .u8, .rw, 2, true, false, 20, [(0, 64, 1)], 0⟩,
  ⟨0x04, true, .u8, .rw, 2, true, false, 0, [(0, 127, 1)], 0⟩,
  ⟨0x05, true, .u32, .rw, 2, true, false, 17895697, [], 0⟩,
  ⟨0x06, true, .u64, .ro, 1, false, false, 0, [], 0⟩,
  ⟨0x07, true, .u32, .ro, 1, false, false, 0, [], 0⟩]

/-- Objects of index 0x6101. -/
def objs6101 : List Desc := [
  ⟨0x01, true, .u32, .rw, 2, true, false, 0, [(0, 0, 1), (10, 800000, 1)], 0⟩,
  ⟨0x02, true, .u16, .rw, 2, true, false, 64, [(16, 4096, 1)], 0⟩,
  ⟨0x03, true, .u32, .rw, 2, true, false, 0, [(0, 0, 1), (10, 800000, 1)], 0⟩]

/-- Objects of index 0x6102. -/
def objs6102 : List Desc := [
  ⟨0x01, true, .u64, .ro, 1, false, false, 0, [], 0⟩,
  ⟨0x02, true, .bool, .ro, 1, false, false, 0, [], 0⟩]

/-- Objects of index 0x6200. -/
def objs6200 : List Desc := [
  ⟨0x01, true, .u8, .rw, 2, true, false, 0, [(0, 0, 1), (1, 1, 1), (2, 2, 1)], 0⟩,
  ⟨0x02, true, .bool, .rw, 2, true, false, 0, [(0, 1, 1)], 0⟩,
  ⟨0x03, true, .u8, .rw, 2, true, false, 0, [(0, 0, 1), (1, 1, 1)], 0⟩,
  ⟨0x04, true, .u32, .rw, 2, true, false, 1000, [(1, 800000, 1)], 0⟩,
  ⟨0x05, true, .u32, .rw, 2, true, false, 64, [(16, 65536, 1)], 0⟩,
  ⟨0x06, true, .u32, .rw, 2, true, false, 64, [(0, 65536, 1)], 0⟩,
  ⟨0x07, true, .u32, .rw, 2, true, false, 2000, [(1, 800000, 1)], 0⟩,
  ⟨0x08, true, .u8, .rw, 2, true, false, 0, [(0, 0, 1), (1, 1, 1)], 0⟩,
  ⟨0x09, true, .u8, .rw, 2, true, false, 1, [(0, 0, 1), (1, 1, 1)], 0⟩,
  ⟨0x0A, true, .u64, .ro, 1, false, false, 0, [], 0⟩,
  ⟨0x0B, true, .u64, .ro, 1, false, false, 0, [], 0⟩,
  ⟨0x0C, true, .u64, .ro, 1, false, false, 0, [], 0⟩,
  ⟨0x0D, true, .u64, .ro, 1, false, false, 0, [], 0⟩]

/-- Objects of index 0x6201. -/
def objs6201 : List Desc := [
  ⟨0x01, true, .u8, .rw, 2, true, false, 0, [(0, 0, 1), (1, 1, 1), (2, 2, 1)], 0⟩,
  ⟨0x02, true, .u8, .rw, 2, true, false, 0, [(0, 0, 1), (1, 1, 1), (2, 2, 1)], 0⟩]

/-- Objects of index 0x6800. -/
def objs6800 : List Desc := [
  ⟨0x01, false, .u8, .ro, 1, false, false, 0, [], 0⟩,
  ⟨0x02, false, .u32, .ro, 1, false, false, 0, [], 0⟩,
  ⟨0x03, false, .u64, .ro, 1, false, false, 0, [], 0⟩,
  ⟨0x04, false, .u64, .ro, 1, false, false, 0, [], 0⟩,
  ⟨0x05, false, .u8, .ro, 1, false, false, 0, [], 0⟩,
  ⟨0x06, false, .u8, .ro, 1, false, false, 0, [], 0⟩,
  ⟨0x07, false, .action, .act, 3, false, false, 0, [], 0⟩,
  ⟨0x08, false, .action, .act, 2, false, false, 0, [], 0⟩,
  ⟨0x09, false, .u32, .rw, 2, true, false, 3600, [(0, 0, 1), (60, 86400, 1)], 0⟩,
  ⟨0x0A, false, .bool, .ro, 1, false, false, 1, [], 0⟩,
  ⟨0x0B, false, .action, .act, 3, false, false, 0, [], 0⟩,
  ⟨0x0C, false, .u64, .ro, 1, false, false, 0, [], 0⟩,
  ⟨0x0D, false, .u64, .ro, 1, false, false, 0, [], 0⟩,
  ⟨0x0E, false, .u64, .ro, 1, false, false, 0, [], 0⟩]

/-- Objects of index 0x6801. -/
def objs6801 : List Desc := [
  ⟨0x01, false, .u16, .ro, 1, false, false, 0, [], 0⟩,
  ⟨0x02, false, .u32, .ro, 1, false, false, 0, [], 0⟩,
  ⟨0x03, false, .u8, .rw, 2, false, false, 6, [(1, 11, 1)], 0⟩,
  ⟨0x04, false, .u32, .rw, 2, false, false, 0, [], 0⟩,
  ⟨0x05, false, .action, .act, 2, false, false, 0, [], 0⟩,
  ⟨0x06, false, .u16, .rw, 2, true, false, 100, [(10, 10000, 1)], 0⟩]

/-- Objects of index 0x6802. -/
def objs6802 : List Desc := [
  ⟨0x01, true, .u8, .ro, 1, false, false, 0, [], 0⟩,
  ⟨0x02, true, .u8, .ro, 1, false, false, 0, [], 0⟩,
  ⟨0x03, true, .u32, .ro, 1, false, false, 0, [], 0⟩,
  ⟨0x04, true, .u16, .ro, 1, false, false, 0, [], 0⟩,
  ⟨0x05, true, .u16, .ro, 1, false, false, 65535, [], 0⟩,
  ⟨0x06, true, .u64, .ro, 1, false, false, 0, [], 0⟩,
  ⟨0x07, true, .u32, .ro, 1, false, false, 0, [], 0⟩,
  ⟨0x08, true, .action, .act, 2, false, false, 0, [], 0⟩]

/-- Objects of index 0x6810. -/
def objs6810 : List Desc := [
  ⟨0x01, true, .bool, .rwc, 2, true, false, 0, [(0, 1, 1)], 0⟩,
  ⟨0x02, true, .u16, .ro, 1, false, false, 0, [], 0⟩]

/-- Objects of index 0x6811. -/
def objs6811 : List Desc := [
  ⟨0x01, true, .u16, .rwc, 2, true, false, 65535, [(0, 255, 1), (65535, 65535, 1)], 0⟩,
  ⟨0x02, true, .u8, .rwc, 2, true, false, 6, [(1, 10, 1)], 0⟩,
  ⟨0x03, true, .u32, .rwc, 2, true, false, 0, [], 0⟩]

/-- Objects of index 0x7000. -/
def objs7000 : List Desc := [
  ⟨0x01, false, .bool, .rwc, 3, true, true, 1, [(0, 1, 1)], 0⟩,
  ⟨0x02, false, .u8, .rwc, 3, true, true, 36, [(30, 38, 1)], 0⟩,
  ⟨0x03, false, .u16, .rwc, 3, true, true, 8043, [], 0⟩,
  ⟨0x04, false, .u16, .rwc, 3, true, true, 1, [], 0⟩,
  ⟨0x05, false, .u8, .ro, 1, false, false, 0, [], 0⟩,
  ⟨0x06, false, .u8, .ro, 1, false, false, 0, [], 0⟩,
  ⟨0x07, false, .u8, .ro, 1, false, false, 0, [], 0⟩,
  ⟨0x08, false, .u8, .ro, 1, false, false, 0, [], 0⟩,
  ⟨0x09, false, .u32, .ro, 1, false, false, 0, [], 0⟩,
  ⟨0x0A, false, .action, .act, 2, false, false, 0, [], 0⟩,
  ⟨0x0B, false, .u64, .ro, 1, false, false, 0, [], 0⟩,
  ⟨0x0C, false, .u64, .ro, 1, false, false, 0, [], 0⟩,
  ⟨0x0D, false, .u64, .ro, 1, false, false, 0, [], 0⟩,
  ⟨0x0E, false, .u8, .ro, 1, false, false, 0, [], 0⟩]

/-- Objects of index 0x7001. -/
def objs7001 : List Desc := [
  ⟨0x01, true, .u16, .rwc, 2, true, false, 65535, [(0, 2047, 1), (65535, 65535, 1)], 0⟩,
  ⟨0x02, true, .u16, .rwc, 2, true, false, 0, [(0, 2047, 1)], 0⟩,
  ⟨0x03, true, .u16, .rwc, 2, true, false, 128, [(0, 2048, 1)], 0⟩,
  ⟨0x04, true, .u32, .rwc, 2, true, false, 4294967295, [], 0⟩,
  ⟨0x05, true, .bool, .ro, 1, false, false, 0, [], 0⟩,
  ⟨0x06, true, .u8, .ro, 1, false, false, 0, [], 0⟩,
  ⟨0x07, true, .u32, .ro, 1, false, false, 0, [], 0⟩]

/-- Objects of index 0x7002. -/
def objs7002 : List Desc := [
  ⟨0x01, true, .u32, .ro, 1, false, false, 0, [], 0⟩,
  ⟨0x02, true, .u16, .ro, 1, false, false, 0, [], 0⟩,
  ⟨0x03, true, .u32, .ro, 1, false, false, 0, [], 0⟩]

/-- Objects of index 0x7100. -/
def objs7100 : List Desc := [
  ⟨0x01, true, .u8, .ro, 1, false, false, 0, [], 0⟩,
  ⟨0x02, true, .u8, .ro, 1, false, false, 255, [], 0⟩,
  ⟨0x03, true, .u64, .ro, 1, false, false, 0, [], 0⟩,
  ⟨0x04, true, .u16, .ro, 1, false, false, 0, [], 0⟩,
  ⟨0x05, true, .u32, .ro, 1, false, false, 0, [], 0⟩,
  ⟨0x06, true, .u32, .ro, 1, false, false, 0, [], 0⟩,
  ⟨0x07, true, .u16, .ro, 1, false, false, 0, [], 0⟩]

/-- Objects of index 0x7101. -/
def objs7101 : List Desc := [
  ⟨0x01, false, .u16, .rw, 2, true, false, 256, [(16, 256, 1)], 0⟩,
  ⟨0x02, false, .u16, .ro, 1, false, false, 0, [], 0⟩]

/-- Objects of index 0x7200. -/
def objs7200 : List Desc := [
  ⟨0x01, true, .u8, .ro, 1, false, false, 0, [], 0⟩,
  ⟨0x02, true, .u8, .ro, 1, false, false, 255, [], 0⟩,
  ⟨0x03, true, .u64, .ro, 1, false, false, 0, [], 0⟩,
  ⟨0x04, true, .u64, .ro, 1, false, false, 0, [], 0⟩,
  ⟨0x05, true, .u32, .ro, 1, false, false, 0, [], 0⟩,
  ⟨0x06, true, .u32, .ro, 1, false, false, 0, [], 0⟩,
  ⟨0x07, true, .u32, .ro, 1, false, false, 0, [], 0⟩]

/-- Objects of index 0x7201. -/
def objs7201 : List Desc := [
  ⟨0x01, false, .u16, .rw, 2, true, false, 64, [(4, 1024, 1)], 0⟩]

/-- Objects of index 0x7800. -/
def objs7800 : List Desc := [
  ⟨0x01, false, .u8, .ro, 1, false, false, 4, [], 0⟩,
  ⟨0x02, false, .u8, .ro, 1, false, false, 255, [], 0⟩,
  ⟨0x03, false, .u32, .ro, 1, false, false, 0, [], 0⟩,
  ⟨0x04, false, .u32, .ro, 1, false, false, 0, [], 0⟩,
  ⟨0x05, false, .u16, .rwc, 2, true, false, 10, [(5, 1000, 1)], 0⟩,
  ⟨0x06, false, .u8, .rwc, 2, true, false, 3, [(2, 10, 1)], 0⟩,
  ⟨0x07, false, .u16, .rwc, 2, true, false, 10, [(5, 1000, 1)], 0⟩,
  ⟨0x08, false, .u8, .rwc, 2, true, false, 7, [(0, 7, 1)], 0⟩,
  ⟨0x09, false, .u16, .rwc, 3, true, false, 7141, [(1024, 65535, 1)], 0⟩,
  ⟨0x0A, false, .u8, .rwc, 2, true, false, 56, [(0, 63, 1)], 0⟩,
  ⟨0x0B, false, .u16, .rwc, 2, true, false, 65535, [(0, 511, 1), (65535, 65535, 1)], 0⟩,
  ⟨0x0C, false, .str, .wo, 3, true, false, 0, [], 64⟩,
  ⟨0x0D, false, .u32, .ro, 1, false, false, 0, [], 0⟩,
  ⟨0x0E, false, .u32, .ro, 1, false, false, 0, [], 0⟩,
  ⟨0x0F, false, .action, .act, 2, false, false, 0, [], 0⟩,
  ⟨0x10, false, .u64, .ro, 1, false, false, 0, [], 0⟩]

/-- Objects of index 0x7801. -/
def objs7801 : List Desc := [
  ⟨0x01, true, .bool, .rwc, 3, true, false, 0, [(0, 1, 1)], 0⟩,
  ⟨0x02, true, .u64, .rwc, 3, true, false, 0, [], 0⟩,
  ⟨0x03, true, .u8, .rwc, 3, true, false, 0, [(0, 15, 1)], 0⟩,
  ⟨0x04, true, .bool, .rwc, 3, true, false, 1, [(0, 1, 1)], 0⟩,
  ⟨0x05, true, .u32, .rwc, 2, true, false, 0, [], 0⟩,
  ⟨0x06, true, .u32, .rwc, 2, true, false, 0, [], 0⟩,
  ⟨0x07, true, .u32, .ro, 1, false, false, 4294967295, [], 0⟩,
  ⟨0x08, true, .u8, .ro, 1, false, false, 4, [], 0⟩]

/-- Objects of index 0x7802. -/
def objs7802 : List Desc := [
  ⟨0x01, false, .bool, .rwc, 3, true, false, 1, [(0, 1, 1)], 0⟩,
  ⟨0x02, false, .u8, .ro, 1, false, false, 0, [], 0⟩,
  ⟨0x03, false, .u16, .rw, 2, true, false, 1, [(1, 100, 1)], 0⟩,
  ⟨0x04, false, .u64, .ro, 1, false, false, 0, [], 0⟩,
  ⟨0x05, false, .u32, .ro, 1, false, false, 0, [], 0⟩,
  ⟨0x06, false, .u64, .ro, 1, false, false, 0, [], 0⟩,
  ⟨0x07, false, .u64, .ro, 1, false, false, 0, [], 0⟩,
  ⟨0x08, false, .u32, .ro, 1, false, false, 0, [], 0⟩]

/-- Objects of index 0x7803. -/
def objs7803 : List Desc := [
  ⟨0x01, true, .u8, .rwc, 2, false, false, 0, [(0, 1, 1)], 0⟩,
  ⟨0x02, true, .u8, .ro, 1, false, false, 0, [], 0⟩,
  ⟨0x03, true, .u32, .ro, 1, false, false, 0, [], 0⟩,
  ⟨0x04, true, .action, .act, 2, false, false, 0, [], 0⟩]

/-- Objects of index 0x7804. -/
def objs7804 : List Desc := [
  ⟨0x01, false, .action, .act, 2, false, false, 0, [], 0⟩]

/-- Objects of index 0x7805. -/
def objs7805 : List Desc := [
  ⟨0x01, false, .bool, .rw, 2, true, false, 1, [(0, 1, 1)], 0⟩,
  ⟨0x02, false, .u8, .ro, 1, false, false, 0, [], 0⟩,
  ⟨0x03, false, .u32, .ro, 1, false, false, 0, [], 0⟩,
  ⟨0x04, false, .u32, .ro, 1, false, false, 0, [], 0⟩]

/-- Objects of index 0x7806. -/
def objs7806 : List Desc := [
  ⟨0x01, true, .u8, .ro, 1, false, false, 0, [], 0⟩,
  ⟨0x02, true, .u64, .ro, 1, false, false, 0, [], 0⟩,
  ⟨0x03, true, .u64, .ro, 1, false, false, 0, [], 0⟩,
  ⟨0x04, true, .u16, .ro, 1, false, false, 0, [], 0⟩]

/-- Every index with its number of rows (0: no table) and its objects. -/
def objTable : List (Nat × Nat × List Desc) := [
  (0x1000, 0, objs1000),
  (0x1100, 0, objs1100),
  (0x1101, 0, objs1101),
  (0x1110, 8, objs1110),
  (0x1120, 16, objs1120),
  (0x1130, 0, objs1130),
  (0x1200, 8, objs1200),
  (0x1201, 0, objs1201),
  (0x1202, 0, objs1202),
  (0x1203, 2, objs1203),
  (0x1400, 2, objs1400),
  (0x1401, 0, objs1401),
  (0x1402, 32, objs1402),
  (0x1403, 0, objs1403),
  (0x2000, 0, objs2000),
  (0x2001, 0, objs2001),
  (0x2002, 0, objs2002),
  (0x2010, 140, objs2010),
  (0x2100, 0, objs2100),
  (0x2101, 0, objs2101),
  (0x2102, 0, objs2102),
  (0x2103, 6, objs2103),
  (0x2104, 0, objs2104),
  (0x2105, 0, objs2105),
  (0x2300, 0, objs2300),
  (0x2301, 2097152, objs2301),
  (0x3000, 0, objs3000),
  (0x3100, 0, objs3100),
  (0x3200, 48, objs3200),
  (0x3201, 48, objs3201),
  (0x3202, 0, objs3202),
  (0x4000, 8, objs4000),
  (0x4001, 0, objs4001),
  (0x4003, 4, objs4003),
  (0x4010, 9216, objs4010),
  (0x4100, 4096, objs4100),
  (0x4101, 3145728, objs4101),
  (0x4102, 0, objs4102),
  (0x4200, 0, objs4200),
  (0x4201, 4096, objs4201),
  (0x4300, 0, objs4300),
  (0x4400, 0, objs4400),
  (0x4500, 0, objs4500),
  (0x4501, 0, objs4501),
  (0x4502, 48, objs4502),
  (0x4503, 0, objs4503),
  (0x4600, 0, objs4600),
  (0x4601, 0, objs4601),
  (0x4602, 4194304, objs4602),
  (0x5000, 0, objs5000),
  (0x5100, 0, objs5100),
  (0x5101, 512, objs5101),
  (0x5102, 512, objs5102),
  (0x5103, 2048, objs5103),
  (0x5104, 65536, objs5104),
  (0x5105, 65536, objs5105),
  (0x5200, 16384, objs5200),
  (0x5201, 4096, objs5201),
  (0x5202, 0, objs5202),
  (0x5203, 0, objs5203),
  (0x5204, 2048, objs5204),
  (0x5205, 2048, objs5205),
  (0x5300, 0, objs5300),
  (0x6000, 0, objs6000),
  (0x6001, 4, objs6001),
  (0x6002, 25, objs6002),
  (0x6003, 64, objs6003),
  (0x6004, 8, objs6004),
  (0x6100, 8, objs6100),
  (0x6101, 2048, objs6101),
  (0x6102, 65536, objs6102),
  (0x6200, 4096, objs6200),
  (0x6201, 64, objs6201),
  (0x6800, 0, objs6800),
  (0x6801, 0, objs6801),
  (0x6802, 4096, objs6802),
  (0x6810, 256, objs6810),
  (0x6811, 16384, objs6811),
  (0x7000, 0, objs7000),
  (0x7001, 128, objs7001),
  (0x7002, 64, objs7002),
  (0x7100, 2112, objs7100),
  (0x7101, 0, objs7101),
  (0x7200, 32, objs7200),
  (0x7201, 0, objs7201),
  (0x7800, 0, objs7800),
  (0x7801, 32, objs7801),
  (0x7802, 0, objs7802),
  (0x7803, 4096, objs7803),
  (0x7804, 0, objs7804),
  (0x7805, 0, objs7805),
  (0x7806, 16, objs7806)]

end Sys2Proof.Machine

namespace Sys2Proof.Obj

/-- `id.vendor` -/
abbrev idVendor : Nat := 0x100001
/-- `id.part` -/
abbrev idPart : Nat := 0x100002
/-- `id.stepping` -/
abbrev idStepping : Nat := 0x100003
/-- `id.serial` -/
abbrev idSerial : Nat := 0x100004
/-- `id.device_id` -/
abbrev idDeviceId : Nat := 0x100005
/-- `id.fw_version` -/
abbrev idFwVersion : Nat := 0x100006
/-- `id.fw_slot` -/
abbrev idFwSlot : Nat := 0x100007
/-- `id.bootrom_version` -/
abbrev idBootromVersion : Nat := 0x100008
/-- `id.schema` -/
abbrev idSchema : Nat := 0x100009
/-- `id.skamo_rev` -/
abbrev idSkamoRev : Nat := 0x10000A
/-- `id.mac_base` -/
abbrev idMacBase : Nat := 0x10000B
/-- `id.bays` -/
abbrev idBays : Nat := 0x10000C
/-- `id.eth_ports` -/
abbrev idEthPorts : Nat := 0x10000D
/-- `dict.commit_state` -/
abbrev dictCommitState : Nat := 0x110001
/-- `dict.commit_gen` -/
abbrev dictCommitGen : Nat := 0x110002
/-- `dict.active_slot` -/
abbrev dictActiveSlot : Nat := 0x110003
/-- `dict.pending_count` -/
abbrev dictPendingCount : Nat := 0x110004
/-- `dict.commit_count` -/
abbrev dictCommitCount : Nat := 0x110005
/-- `dict.commit_time` -/
abbrev dictCommitTime : Nat := 0x110006
/-- `dict.restore` -/
abbrev dictRestore : Nat := 0x110101
/-- `dict.restore_all` -/
abbrev dictRestoreAll : Nat := 0x110102
/-- `key.value` -/
abbrev keyValue : Nat := 0x111001
/-- `key.fingerprint` -/
abbrev keyFingerprint : Nat := 0x111002
/-- `key.level` -/
abbrev keyLevel : Nat := 0x111003
/-- `key.uses` -/
abbrev keyUses : Nat := 0x111004
/-- `sess.id` -/
abbrev sessId : Nat := 0x112001
/-- `sess.level` -/
abbrev sessLevel : Nat := 0x112002
/-- `sess.carrier` -/
abbrev sessCarrier : Nat := 0x112003
/-- `sess.key_slot` -/
abbrev sessKeySlot : Nat := 0x112004
/-- `sess.idle` -/
abbrev sessIdle : Nat := 0x112005
/-- `sess.close` -/
abbrev sessClose : Nat := 0x112006
/-- `rendi.rx_ok` -/
abbrev rendiRxOk : Nat := 0x113001
/-- `rendi.bad_tag` -/
abbrev rendiBadTag : Nat := 0x113002
/-- `rendi.replay` -/
abbrev rendiReplay : Nat := 0x113003
/-- `rendi.busy` -/
abbrev rendiBusy : Nat := 0x113004
/-- `rendi.not_ready` -/
abbrev rendiNotReady : Nat := 0x113005
/-- `rendi.malformed` -/
abbrev rendiMalformed : Nat := 0x113006
/-- `boot.stage` -/
abbrev bootStage : Nat := 0x120001
/-- `boot.halted` -/
abbrev bootHalted : Nat := 0x120002
/-- `boot.halt_cause` -/
abbrev bootHaltCause : Nat := 0x120003
/-- `boot.last_reset` -/
abbrev bootLastReset : Nat := 0x120004
/-- `boot.epoch` -/
abbrev bootEpoch : Nat := 0x120005
/-- `boot.stage_time` -/
abbrev bootStageTime : Nat := 0x120006
/-- `boot.retained` -/
abbrev bootRetained : Nat := 0x120007
/-- `boot.reset` -/
abbrev bootReset : Nat := 0x120101
/-- `boot.depart` -/
abbrev bootDepart : Nat := 0x120102
/-- `boot.depart_grace` -/
abbrev bootDepartGrace : Nat := 0x120103
/-- `boot.domain_reset` -/
abbrev bootDomainReset : Nat := 0x120104
/-- `boot.s6_limit` -/
abbrev bootS6Limit : Nat := 0x120105
/-- `fwu.state` -/
abbrev fwuState : Nat := 0x120201
/-- `fwu.begin` -/
abbrev fwuBegin : Nat := 0x120202
/-- `fwu.offset` -/
abbrev fwuOffset : Nat := 0x120203
/-- `fwu.data` -/
abbrev fwuData : Nat := 0x120204
/-- `fwu.verify` -/
abbrev fwuVerify : Nat := 0x120205
/-- `fwu.activate` -/
abbrev fwuActivate : Nat := 0x120206
/-- `fwu.confirm` -/
abbrev fwuConfirm : Nat := 0x120207
/-- `fwu.trial_confirm` -/
abbrev fwuTrialConfirm : Nat := 0x120208
/-- `fwu.fallback` -/
abbrev fwuFallback : Nat := 0x120209
/-- `fwu.raise_svn` -/
abbrev fwuRaiseSvn : Nat := 0x12020A
/-- `fwu.otp_svn` -/
abbrev fwuOtpSvn : Nat := 0x12020B
/-- `fwu.keys_revoked` -/
abbrev fwuKeysRevoked : Nat := 0x12020C
/-- `fws.state` -/
abbrev fwsState : Nat := 0x120301
/-- `fws.version` -/
abbrev fwsVersion : Nat := 0x120302
/-- `fws.svn` -/
abbrev fwsSvn : Nat := 0x120303
/-- `fws.key` -/
abbrev fwsKey : Nat := 0x120304
/-- `mport.mode` -/
abbrev mportMode : Nat := 0x140001
/-- `mport.dhcp` -/
abbrev mportDhcp : Nat := 0x140002
/-- `mport.ipv4_addr` -/
abbrev mportIpv4Addr : Nat := 0x140003
/-- `mport.ipv4_prefix` -/
abbrev mportIpv4Prefix : Nat := 0x140004
/-- `mport.ipv4_gw` -/
abbrev mportIpv4Gw : Nat := 0x140005
/-- `mport.vlan` -/
abbrev mportVlan : Nat := 0x140006
/-- `mport.link` -/
abbrev mportLink : Nat := 0x140007
/-- `mport.ipv4_now` -/
abbrev mportIpv4Now : Nat := 0x140008
/-- `mport.ipv6_hi` -/
abbrev mportIpv6Hi : Nat := 0x140009
/-- `mport.ipv6_lo` -/
abbrev mportIpv6Lo : Nat := 0x14000A
/-- `rendi.udp_port` -/
abbrev rendiUdpPort : Nat := 0x140101
/-- `rendi.idle_timeout` -/
abbrev rendiIdleTimeout : Nat := 0x140102
/-- `rendi.inband_enable` -/
abbrev rendiInbandEnable : Nat := 0x140103
/-- `rendi.inband_ports` -/
abbrev rendiInbandPorts : Nat := 0x140104
/-- `rendi.inband_vlan` -/
abbrev rendiInbandVlan : Nat := 0x140105
/-- `allow.ipv4` -/
abbrev allowIpv4 : Nat := 0x140201
/-- `allow.prefix` -/
abbrev allowPrefix : Nat := 0x140202
/-- `smb.addr` -/
abbrev smbAddr : Nat := 0x140301
/-- `smb.alert_mask` -/
abbrev smbAlertMask : Nat := 0x140302
/-- `clk.pll_lock` -/
abbrev clkPllLock : Nat := 0x200001
/-- `clk.ddr_rate` -/
abbrev clkDdrRate : Nat := 0x200002
/-- `time.now` -/
abbrev timeNow : Nat := 0x200101
/-- `time.source` -/
abbrev timeSource : Nat := 0x200102
/-- `time.ptp_port` -/
abbrev timePtpPort : Nat := 0x200103
/-- `time.ptp_domain` -/
abbrev timePtpDomain : Nat := 0x200104
/-- `time.ptp_transport` -/
abbrev timePtpTransport : Nat := 0x200105
/-- `time.offset` -/
abbrev timeOffset : Nat := 0x200106
/-- `time.locked` -/
abbrev timeLocked : Nat := 0x200107
/-- `time.freq_adj` -/
abbrev timeFreqAdj : Nat := 0x200108
/-- `dram.populated` -/
abbrev dramPopulated : Nat := 0x200201
/-- `dram.size` -/
abbrev dramSize : Nat := 0x200202
/-- `dram.ce_count` -/
abbrev dramCeCount : Nat := 0x200203
/-- `pd.state` -/
abbrev pdState : Nat := 0x201001
/-- `pd.request` -/
abbrev pdRequest : Nat := 0x201002
/-- `pd.owner` -/
abbrev pdOwner : Nat := 0x201003
/-- `pd.on_time` -/
abbrev pdOnTime : Nat := 0x201004
/-- `therm.tj` -/
abbrev thermTj : Nat := 0x210001
/-- `therm.throttle` -/
abbrev thermThrottle : Nat := 0x210002
/-- `therm.hyst` -/
abbrev thermHyst : Nat := 0x210003
/-- `therm.member_limit` -/
abbrev thermMemberLimit : Nat := 0x210004
/-- `therm.level` -/
abbrev thermLevel : Nat := 0x210005
/-- `therm.sensors` -/
abbrev thermSensors : Nat := 0x210006
/-- `therm.throttle_time` -/
abbrev thermThrottleTime : Nat := 0x210007
/-- `pwr.device_w` -/
abbrev pwrDeviceW : Nat := 0x210101
/-- `pwr.cap` -/
abbrev pwrCap : Nat := 0x210102
/-- `pwr.level` -/
abbrev pwrLevel : Nat := 0x210103
/-- `pwr.shed` -/
abbrev pwrShed : Nat := 0x210104
/-- `pwr.shed_rows` -/
abbrev pwrShedRows : Nat := 0x210105
/-- `bpw.budget` -/
abbrev bpwBudget : Nat := 0x210201
/-- `bpw.max_ramping` -/
abbrev bpwMaxRamping : Nat := 0x210202
/-- `bpw.counted` -/
abbrev bpwCounted : Nat := 0x210203
/-- `bpw.waiting` -/
abbrev bpwWaiting : Nat := 0x210204
/-- `thm.load` -/
abbrev thmLoad : Nat := 0x210301
/-- `thm.telemetry_lag` -/
abbrev thmTelemetryLag : Nat := 0x210401
/-- `wd.period` -/
abbrev wdPeriod : Nat := 0x210402
/-- `wd.expiries` -/
abbrev wdExpiries : Nat := 0x210403
/-- `inj.enable` -/
abbrev injEnable : Nat := 0x210501
/-- `inj.spacing` -/
abbrev injSpacing : Nat := 0x210502
/-- `inj.count` -/
abbrev injCount : Nat := 0x210503
/-- `evt.head_seq` -/
abbrev evtHeadSeq : Nat := 0x230001
/-- `evt.oldest_seq` -/
abbrev evtOldestSeq : Nat := 0x230002
/-- `evt.hold` -/
abbrev evtHold : Nat := 0x230003
/-- `evt.ack_seq` -/
abbrev evtAckSeq : Nat := 0x230004
/-- `evt.coalesce` -/
abbrev evtCoalesce : Nat := 0x230005
/-- `evt.overflow` -/
abbrev evtOverflow : Nat := 0x230006
/-- `evt.overwritten` -/
abbrev evtOverwritten : Nat := 0x230007
/-- `evt.held` -/
abbrev evtHeld : Nat := 0x230008
/-- `evr.w0` -/
abbrev evrW0 : Nat := 0x230101
/-- `evr.w1` -/
abbrev evrW1 : Nat := 0x230102
/-- `evr.w2` -/
abbrev evrW2 : Nat := 0x230103
/-- `evr.w3` -/
abbrev evrW3 : Nat := 0x230104
/-- `bay.state12` -/
abbrev bayState12 : Nat := 0x300001
/-- `bay.state33` -/
abbrev bayState33 : Nat := 0x300002
/-- `bay.present` -/
abbrev bayPresent : Nat := 0x300003
/-- `bay.enable` -/
abbrev bayEnable : Nat := 0x300004
/-- `bay.mode` -/
abbrev bayMode : Nat := 0x300005
/-- `bay.limit12` -/
abbrev bayLimit12 : Nat := 0x300006
/-- `bay.limit33` -/
abbrev bayLimit33 : Nat := 0x300007
/-- `bay.fast_mult` -/
abbrev bayFastMult : Nat := 0x300008
/-- `bay.ftimer` -/
abbrev bayFtimer : Nat := 0x300009
/-- `bay.slew12` -/
abbrev baySlew12 : Nat := 0x30000A
/-- `bay.slew33` -/
abbrev baySlew33 : Nat := 0x30000B
/-- `bay.retries` -/
abbrev bayRetries : Nat := 0x30000C
/-- `bay.retry_time` -/
abbrev bayRetryTime : Nat := 0x30000D
/-- `bay.good_time` -/
abbrev bayGoodTime : Nat := 0x30000E
/-- `bay.debounce` -/
abbrev bayDebounce : Nat := 0x30000F
/-- `bay.fault_count` -/
abbrev bayFaultCount : Nat := 0x300010
/-- `bay.last_fault` -/
abbrev bayLastFault : Nat := 0x300011
/-- `bay.clear` -/
abbrev bayClear : Nat := 0x300012
/-- `bay.shunt12` -/
abbrev bayShunt12 : Nat := 0x300013
/-- `bay.shunt33` -/
abbrev bayShunt33 : Nat := 0x300014
/-- `bay.i12` -/
abbrev bayI12 : Nat := 0x300015
/-- `bay.v12` -/
abbrev bayV12 : Nat := 0x300016
/-- `bay.p12` -/
abbrev bayP12 : Nat := 0x300017
/-- `bay.e12` -/
abbrev bayE12 : Nat := 0x300018
/-- `bay.i33` -/
abbrev bayI33 : Nat := 0x300019
/-- `bay.v33` -/
abbrev bayV33 : Nat := 0x30001A
/-- `bay.p33` -/
abbrev bayP33 : Nat := 0x30001B
/-- `bay.e33` -/
abbrev bayE33 : Nat := 0x30001C
/-- `bay.vsrc12` -/
abbrev bayVsrc12 : Nat := 0x30001D
/-- `bay.vsrc33` -/
abbrev bayVsrc33 : Nat := 0x30001E
/-- `bay.p_avg` -/
abbrev bayPAvg : Nat := 0x30001F
/-- `bay.p_peak` -/
abbrev bayPPeak : Nat := 0x300020
/-- `bay.samples` -/
abbrev baySamples : Nat := 0x300021
/-- `bay.cal12` -/
abbrev bayCal12 : Nat := 0x300022
/-- `bay.cal33` -/
abbrev bayCal33 : Nat := 0x300023
/-- `bay.gain12` -/
abbrev bayGain12 : Nat := 0x300024
/-- `bay.gain33` -/
abbrev bayGain33 : Nat := 0x300025
/-- `bay.alloc_w` -/
abbrev bayAllocW : Nat := 0x300026
/-- `bay.or_state` -/
abbrev bayOrState : Nat := 0x300027
/-- `bay.trips` -/
abbrev bayTrips : Nat := 0x300028
/-- `bay.samples33` -/
abbrev baySamples33 : Nat := 0x300029
/-- `dlink.state` -/
abbrev dlinkState : Nat := 0x310001
/-- `dlink.speed` -/
abbrev dlinkSpeed : Nat := 0x310002
/-- `dlink.width` -/
abbrev dlinkWidth : Nat := 0x310003
/-- `dlink.bond` -/
abbrev dlinkBond : Nat := 0x310004
/-- `dlink.clocking` -/
abbrev dlinkClocking : Nat := 0x310005
/-- `dlink.min_speed` -/
abbrev dlinkMinSpeed : Nat := 0x310006
/-- `dlink.recover_time` -/
abbrev dlinkRecoverTime : Nat := 0x310007
/-- `dlink.path` -/
abbrev dlinkPath : Nat := 0x310008
/-- `dlink.retrains` -/
abbrev dlinkRetrains : Nat := 0x310009
/-- `dlink.correctable` -/
abbrev dlinkCorrectable : Nat := 0x31000A
/-- `dlink.uncorrectable` -/
abbrev dlinkUncorrectable : Nat := 0x31000B
/-- `dlink.retrain` -/
abbrev dlinkRetrain : Nat := 0x31000C
/-- `mem.state` -/
abbrev memState : Nat := 0x320001
/-- `mem.position` -/
abbrev memPosition : Nat := 0x320002
/-- `mem.serial` -/
abbrev memSerial : Nat := 0x320003
/-- `mem.model` -/
abbrev memModel : Nat := 0x320004
/-- `mem.capacity` -/
abbrev memCapacity : Nat := 0x320005
/-- `mem.reason` -/
abbrev memReason : Nat := 0x320006
/-- `mem.foreign` -/
abbrev memForeign : Nat := 0x320007
/-- `mem.assign` -/
abbrev memAssign : Nat := 0x320008
/-- `mem.retire` -/
abbrev memRetire : Nat := 0x320009
/-- `mem.clear_failing` -/
abbrev memClearFailing : Nat := 0x32000A
/-- `mem.temp` -/
abbrev memTemp : Nat := 0x32000B
/-- `mem.pct_used` -/
abbrev memPctUsed : Nat := 0x32000C
/-- `mem.media_errors` -/
abbrev memMediaErrors : Nat := 0x32000D
/-- `mem.timeouts` -/
abbrev memTimeouts : Nat := 0x32000E
/-- `mem.resets` -/
abbrev memResets : Nat := 0x32000F
/-- `mem.io_queues` -/
abbrev memIoQueues : Nat := 0x320010
/-- `pos.state` -/
abbrev posState : Nat := 0x320101
/-- `pos.bay` -/
abbrev posBay : Nat := 0x320102
/-- `arr.io_timeout` -/
abbrev arrIoTimeout : Nat := 0x320201
/-- `arr.reset_limit` -/
abbrev arrResetLimit : Nat := 0x320202
/-- `arr.health_period` -/
abbrev arrHealthPeriod : Nat := 0x320203
/-- `arr.wear_limit` -/
abbrev arrWearLimit : Nat := 0x320204
/-- `arr.media_limit` -/
abbrev arrMediaLimit : Nat := 0x320205
/-- `arr.absent_grace` -/
abbrev arrAbsentGrace : Nat := 0x320206
/-- `arr.auto_replace` -/
abbrev arrAutoReplace : Nat := 0x320207
/-- `geo.state` -/
abbrev geoState : Nat := 0x400001
/-- `geo.width` -/
abbrev geoWidth : Nat := 0x400002
/-- `geo.data` -/
abbrev geoData : Nat := 0x400003
/-- `geo.stitch` -/
abbrev geoStitch : Nat := 0x400004
/-- `geo.seed` -/
abbrev geoSeed : Nat := 0x400005
/-- `geo.activate` -/
abbrev geoActivate : Nat := 0x400006
/-- `geo.seed_used` -/
abbrev geoSeedUsed : Nat := 0x400007
/-- `geo.period` -/
abbrev geoPeriod : Nat := 0x400008
/-- `geo.bolt_stripes` -/
abbrev geoBoltStripes : Nat := 0x400009
/-- `geo.slot_stripes` -/
abbrev geoSlotStripes : Nat := 0x40000A
/-- `geo.member_data` -/
abbrev geoMemberData : Nat := 0x40000B
/-- `geo.member_spare` -/
abbrev geoMemberSpare : Nat := 0x40000C
/-- `geo.spare_depth` -/
abbrev geoSpareDepth : Nat := 0x40000D
/-- `geo.pair_min` -/
abbrev geoPairMin : Nat := 0x40000E
/-- `geo.pair_max` -/
abbrev geoPairMax : Nat := 0x40000F
/-- `geo.digest` -/
abbrev geoDigest : Nat := 0x400010
/-- `geo.bolts` -/
abbrev geoBolts : Nat := 0x400011
/-- `geo.free_bolts` -/
abbrev geoFreeBolts : Nat := 0x400012
/-- `place.spare_lanes` -/
abbrev placeSpareLanes : Nat := 0x400101
/-- `place.map_positions` -/
abbrev placeMapPositions : Nat := 0x400102
/-- `place.skipped` -/
abbrev placeSkipped : Nat := 0x400103
/-- `place.data_space` -/
abbrev placeDataSpace : Nat := 0x400104
/-- `lane.position` -/
abbrev lanePosition : Nat := 0x400301
/-- `lane.state` -/
abbrev laneState : Nat := 0x400302
/-- `pat.entry` -/
abbrev patEntry : Nat := 0x401001
/-- `pat.spare` -/
abbrev patSpare : Nat := 0x401002
/-- `ns.state` -/
abbrev nsState : Nat := 0x410001
/-- `ns.bolts` -/
abbrev nsBolts : Nat := 0x410002
/-- `ns.geometry` -/
abbrev nsGeometry : Nat := 0x410003
/-- `ns.lba_size` -/
abbrev nsLbaSize : Nat := 0x410004
/-- `ns.pi_format` -/
abbrev nsPiFormat : Nat := 0x410005
/-- `ns.pi_mode` -/
abbrev nsPiMode : Nat := 0x410006
/-- `ns.app_tag` -/
abbrev nsAppTag : Nat := 0x410007
/-- `ns.map_base` -/
abbrev nsMapBase : Nat := 0x410008
/-- `ns.migrating` -/
abbrev nsMigrating : Nat := 0x410009
/-- `ns.capacity` -/
abbrev nsCapacity : Nat := 0x41000A
/-- `bolt.lo` -/
abbrev boltLo : Nat := 0x410101
/-- `bolt.hi` -/
abbrev boltHi : Nat := 0x410102
/-- `bolt.migrate` -/
abbrev boltMigrate : Nat := 0x410103
/-- `migrate.active` -/
abbrev migrateActive : Nat := 0x410201
/-- `migrate.waiting` -/
abbrev migrateWaiting : Nat := 0x410202
/-- `hoop.dirty_ceiling` -/
abbrev hoopDirtyCeiling : Nat := 0x420001
/-- `hoop.hold_time` -/
abbrev hoopHoldTime : Nat := 0x420002
/-- `hoop.high_water` -/
abbrev hoopHighWater : Nat := 0x420003
/-- `hoop.own_space` -/
abbrev hoopOwnSpace : Nat := 0x420004
/-- `hoop.mirror` -/
abbrev hoopMirror : Nat := 0x420005
/-- `hoop.mirror_state` -/
abbrev hoopMirrorState : Nat := 0x420006
/-- `hoop.dirty` -/
abbrev hoopDirty : Nat := 0x420007
/-- `hoop.mirror_region` -/
abbrev hoopMirrorRegion : Nat := 0x420008
/-- `hoop.fill_reads` -/
abbrev hoopFillReads : Nat := 0x420009
/-- `hoop.destages` -/
abbrev hoopDestages : Nat := 0x42000A
/-- `hoop.unrecovered` -/
abbrev hoopUnrecovered : Nat := 0x42000B
/-- `hpart.size` -/
abbrev hpartSize : Nat := 0x420101
/-- `hpart.hold_time` -/
abbrev hpartHoldTime : Nat := 0x420102
/-- `hpart.dirty` -/
abbrev hpartDirty : Nat := 0x420103
/-- `hpart.reserved` -/
abbrev hpartReserved : Nat := 0x420104
/-- `hpart.waiting` -/
abbrev hpartWaiting : Nat := 0x420105
/-- `hpart.admit_waits` -/
abbrev hpartAdmitWaits : Nat := 0x420106
/-- `bast.journal_positions` -/
abbrev bastJournalPositions : Nat := 0x430001
/-- `bast.state` -/
abbrev bastState : Nat := 0x430002
/-- `bast.live` -/
abbrev bastLive : Nat := 0x430003
/-- `bast.head_seq` -/
abbrev bastHeadSeq : Nat := 0x430004
/-- `bast.tail_seq` -/
abbrev bastTailSeq : Nat := 0x430005
/-- `bast.rehome_done` -/
abbrev bastRehomeDone : Nat := 0x430006
/-- `bast.page_wait` -/
abbrev bastPageWait : Nat := 0x430007
/-- `bast.suspect_bolts` -/
abbrev bastSuspectBolts : Nat := 0x430008
/-- `bast.resync_entry` -/
abbrev bastResyncEntry : Nat := 0x430009
/-- `bast.journal_move` -/
abbrev bastJournalMove : Nat := 0x43000A
/-- `vault.enable` -/
abbrev vaultEnable : Nat := 0x440001
/-- `vault.state` -/
abbrev vaultState : Nat := 0x440002
/-- `vault.est_time` -/
abbrev vaultEstTime : Nat := 0x440003
/-- `vault.capacity` -/
abbrev vaultCapacity : Nat := 0x440004
/-- `vault.last_result` -/
abbrev vaultLastResult : Nat := 0x440005
/-- `vault.last_bytes` -/
abbrev vaultLastBytes : Nat := 0x440006
/-- `vault.last_time` -/
abbrev vaultLastTime : Nat := 0x440007
/-- `vault.pwrfail_filter` -/
abbrev vaultPwrfailFilter : Nat := 0x440008
/-- `vault.rate` -/
abbrev vaultRate : Nat := 0x440009
/-- `vault.test` -/
abbrev vaultTest : Nat := 0x44000A
/-- `darn.engines` -/
abbrev darnEngines : Nat := 0x450001
/-- `darn.encoded` -/
abbrev darnEncoded : Nat := 0x450002
/-- `darn.decoded` -/
abbrev darnDecoded : Nat := 0x450003
/-- `darn.degraded_reads` -/
abbrev darnDegradedReads : Nat := 0x450004
/-- `rb.floor` -/
abbrev rbFloor : Nat := 0x450101
/-- `rb.lat_target` -/
abbrev rbLatTarget : Nat := 0x450102
/-- `rb.window` -/
abbrev rbWindow : Nat := 0x450103
/-- `rb.member_bw` -/
abbrev rbMemberBw : Nat := 0x450104
/-- `rb.pause` -/
abbrev rbPause : Nat := 0x450105
/-- `rb.critical_full` -/
abbrev rbCriticalFull : Nat := 0x450106
/-- `rb.keep_lanes` -/
abbrev rbKeepLanes : Nat := 0x450107
/-- `rb.rate` -/
abbrev rbRate : Nat := 0x450108
/-- `rb.ceiling` -/
abbrev rbCeiling : Nat := 0x450109
/-- `rb.lat_p99` -/
abbrev rbLatP99 : Nat := 0x45010A
/-- `rb.critical` -/
abbrev rbCritical : Nat := 0x45010B
/-- `rbp.state` -/
abbrev rbpState : Nat := 0x450201
/-- `rbp.cursor` -/
abbrev rbpCursor : Nat := 0x450202
/-- `rbp.done` -/
abbrev rbpDone : Nat := 0x450203
/-- `rbp.total` -/
abbrev rbpTotal : Nat := 0x450204
/-- `rbp.eta` -/
abbrev rbpEta : Nat := 0x450205
/-- `bg.max` -/
abbrev bgMax : Nat := 0x450301
/-- `bg.floor` -/
abbrev bgFloor : Nat := 0x450302
/-- `bg.rate` -/
abbrev bgRate : Nat := 0x450303
/-- `bg.active` -/
abbrev bgActive : Nat := 0x450304
/-- `pi.ingress_errors` -/
abbrev piIngressErrors : Nat := 0x460001
/-- `pi.media_errors` -/
abbrev piMediaErrors : Nat := 0x460002
/-- `pi.dram_errors` -/
abbrev piDramErrors : Nat := 0x460003
/-- `pi.decode_errors` -/
abbrev piDecodeErrors : Nat := 0x460004
/-- `pi.repairs` -/
abbrev piRepairs : Nat := 0x460005
/-- `pi.egress_errors` -/
abbrev piEgressErrors : Nat := 0x460006
/-- `scrub.enable` -/
abbrev scrubEnable : Nat := 0x460101
/-- `scrub.period` -/
abbrev scrubPeriod : Nat := 0x460102
/-- `scrub.entry` -/
abbrev scrubEntry : Nat := 0x460103
/-- `scrub.pass_start` -/
abbrev scrubPassStart : Nat := 0x460104
/-- `scrub.parity_fixed` -/
abbrev scrubParityFixed : Nat := 0x460105
/-- `scrub.behind` -/
abbrev scrubBehind : Nat := 0x460106
/-- `scrub.start` -/
abbrev scrubStart : Nat := 0x460107
/-- `lbl.count` -/
abbrev lblCount : Nat := 0x460201
/-- `lbl.overflow` -/
abbrev lblOverflow : Nat := 0x460202
/-- `lbl.complete` -/
abbrev lblComplete : Nat := 0x460203
/-- `lbl.lost_stripes` -/
abbrev lblLostStripes : Nat := 0x460204
/-- `lbl.lo` -/
abbrev lblLo : Nat := 0x460205
/-- `lbl.time` -/
abbrev lblTime : Nat := 0x460206
/-- `eth.mode` -/
abbrev ethMode : Nat := 0x500001
/-- `eth.medium` -/
abbrev ethMedium : Nat := 0x500002
/-- `eth.mtu` -/
abbrev ethMtu : Nat := 0x500003
/-- `eth.link` -/
abbrev ethLink : Nat := 0x500004
/-- `eth.fec_corrected` -/
abbrev ethFecCorrected : Nat := 0x500005
/-- `eth.fec_uncorrected` -/
abbrev ethFecUncorrected : Nat := 0x500006
/-- `eth.ecn_enable` -/
abbrev ethEcnEnable : Nat := 0x500007
/-- `eth.pfc_enable` -/
abbrev ethPfcEnable : Nat := 0x500008
/-- `eth.pfc_xoff` -/
abbrev ethPfcXoff : Nat := 0x500009
/-- `eth.pfc_xon` -/
abbrev ethPfcXon : Nat := 0x50000A
/-- `eth.pfc_wd` -/
abbrev ethPfcWd : Nat := 0x50000B
/-- `eth.tc_pcp` -/
abbrev ethTcPcp : Nat := 0x50000C
/-- `eth.rx_frames` -/
abbrev ethRxFrames : Nat := 0x50000D
/-- `eth.tx_frames` -/
abbrev ethTxFrames : Nat := 0x50000E
/-- `eth.rx_drops` -/
abbrev ethRxDrops : Nat := 0x50000F
/-- `eth.addr_drops` -/
abbrev ethAddrDrops : Nat := 0x500010
/-- `eth.icrc_drops` -/
abbrev ethIcrcDrops : Nat := 0x500011
/-- `eth.spoof_drops` -/
abbrev ethSpoofDrops : Nat := 0x500012
/-- `eth.miss_drops` -/
abbrev ethMissDrops : Nat := 0x500013
/-- `eth.miss_max` -/
abbrev ethMissMax : Nat := 0x500014
/-- `eth.ce_received` -/
abbrev ethCeReceived : Nat := 0x500015
/-- `eth.cnp_sent` -/
abbrev ethCnpSent : Nat := 0x500016
/-- `eth.cnp_received` -/
abbrev ethCnpReceived : Nat := 0x500017
/-- `eth.pfc_rx` -/
abbrev ethPfcRx : Nat := 0x500018
/-- `eth.pfc_tx` -/
abbrev ethPfcTx : Nat := 0x500019
/-- `eth.pfc_wd_trips` -/
abbrev ethPfcWdTrips : Nat := 0x50001A
/-- `eth.tc7_remap` -/
abbrev ethTc7Remap : Nat := 0x50001B
/-- `eth.rendi_drops` -/
abbrev ethRendiDrops : Nat := 0x50001C
/-- `eth.an_fail` -/
abbrev ethAnFail : Nat := 0x50001D
/-- `tp.qp_active` -/
abbrev tpQpActive : Nat := 0x510001
/-- `tp.resident` -/
abbrev tpResident : Nat := 0x510002
/-- `tp.ack_timeout` -/
abbrev tpAckTimeout : Nat := 0x510003
/-- `tp.retry_cnt` -/
abbrev tpRetryCnt : Nat := 0x510004
/-- `tp.rnr_timer` -/
abbrev tpRnrTimer : Nat := 0x510005
/-- `tp.rnr_retry` -/
abbrev tpRnrRetry : Nat := 0x510006
/-- `tp.ack_coalesce` -/
abbrev tpAckCoalesce : Nat := 0x510007
/-- `tp.cnp_interval` -/
abbrev tpCnpInterval : Nat := 0x510008
/-- `tp.cnp_dscp` -/
abbrev tpCnpDscp : Nat := 0x510009
/-- `tp.rp_enable` -/
abbrev tpRpEnable : Nat := 0x51000A
/-- `tp.rp_timer` -/
abbrev tpRpTimer : Nat := 0x51000B
/-- `tp.alpha_timer` -/
abbrev tpAlphaTimer : Nat := 0x51000C
/-- `tp.rp_ai` -/
abbrev tpRpAi : Nat := 0x51000D
/-- `tp.rp_min_rate` -/
abbrev tpRpMinRate : Nat := 0x51000E
/-- `tp.drain_timeout` -/
abbrev tpDrainTimeout : Nat := 0x51000F
/-- `tp.admit_queue` -/
abbrev tpAdmitQueue : Nat := 0x510010
/-- `tp.admit_rate` -/
abbrev tpAdmitRate : Nat := 0x510011
/-- `tp.admit_drops` -/
abbrev tpAdmitDrops : Nat := 0x510012
/-- `tp.admit_rejects` -/
abbrev tpAdmitRejects : Nat := 0x510013
/-- `tp.miss_fetches` -/
abbrev tpMissFetches : Nat := 0x510014
/-- `tp.fetch_waits` -/
abbrev tpFetchWaits : Nat := 0x510015
/-- `tp.seq_naks` -/
abbrev tpSeqNaks : Nat := 0x510016
/-- `tp.retransmits` -/
abbrev tpRetransmits : Nat := 0x510017
/-- `tp.rnr_sent` -/
abbrev tpRnrSent : Nat := 0x510018
/-- `tp.subsys_nqn` -/
abbrev tpSubsysNqn : Nat := 0x510019
/-- `tp.drain_drops` -/
abbrev tpDrainDrops : Nat := 0x51001A
/-- `gid.type` -/
abbrev gidType : Nat := 0x510101
/-- `gid.addr_hi` -/
abbrev gidAddrHi : Nat := 0x510102
/-- `gid.addr_lo` -/
abbrev gidAddrLo : Nat := 0x510103
/-- `gid.prefix` -/
abbrev gidPrefix : Nat := 0x510104
/-- `gid.vlan` -/
abbrev gidVlan : Nat := 0x510105
/-- `dscp.tc` -/
abbrev dscpTc : Nat := 0x510201
/-- `host.enable` -/
abbrev hostEnable : Nat := 0x510301
/-- `host.nqn` -/
abbrev hostNqn : Nat := 0x510302
/-- `host.src_hi` -/
abbrev hostSrcHi : Nat := 0x510303
/-- `host.src_lo` -/
abbrev hostSrcLo : Nat := 0x510304
/-- `host.src_prefix` -/
abbrev hostSrcPrefix : Nat := 0x510305
/-- `host.max_qps` -/
abbrev hostMaxQps : Nat := 0x510306
/-- `host.max_qd` -/
abbrev hostMaxQd : Nat := 0x510307
/-- `host.err_limit` -/
abbrev hostErrLimit : Nat := 0x510308
/-- `host.policer` -/
abbrev hostPolicer : Nat := 0x510309
/-- `host.qps` -/
abbrev hostQps : Nat := 0x51030A
/-- `host.controllers` -/
abbrev hostControllers : Nat := 0x51030B
/-- `host.errors` -/
abbrev hostErrors : Nat := 0x51030C
/-- `host.fenced` -/
abbrev hostFenced : Nat := 0x51030D
/-- `att.host` -/
abbrev attHost : Nat := 0x510401
/-- `att.ns` -/
abbrev attNs : Nat := 0x510402
/-- `qp.state` -/
abbrev qpState : Nat := 0x510501
/-- `qp.host` -/
abbrev qpHost : Nat := 0x510502
/-- `qp.port` -/
abbrev qpPort : Nat := 0x510503
/-- `qp.remote_qpn` -/
abbrev qpRemoteQpn : Nat := 0x510504
/-- `qp.resident` -/
abbrev qpResident : Nat := 0x510505
/-- `qp.pin` -/
abbrev qpPin : Nat := 0x510506
/-- `qp.rate` -/
abbrev qpRate : Nat := 0x510507
/-- `qp.retransmits` -/
abbrev qpRetransmits : Nat := 0x510508
/-- `qp.close` -/
abbrev qpClose : Nat := 0x510509
/-- `eye.state` -/
abbrev eyeState : Nat := 0x520001
/-- `eye.kind` -/
abbrev eyeKind : Nat := 0x520002
/-- `eye.owner` -/
abbrev eyeOwner : Nat := 0x520003
/-- `eye.ns` -/
abbrev eyeNs : Nat := 0x520004
/-- `eye.base` -/
abbrev eyeBase : Nat := 0x520005
/-- `eye.len` -/
abbrev eyeLen : Nat := 0x520006
/-- `eye.perm` -/
abbrev eyePerm : Nat := 0x520007
/-- `eye.access` -/
abbrev eyeAccess : Nat := 0x520008
/-- `eye.register` -/
abbrev eyeRegister : Nat := 0x520009
/-- `eye.key` -/
abbrev eyeKey : Nat := 0x52000A
/-- `eye.sbase` -/
abbrev eyeSbase : Nat := 0x52000B
/-- `eye.slen` -/
abbrev eyeSlen : Nat := 0x52000C
/-- `eye.sperm` -/
abbrev eyeSperm : Nat := 0x52000D
/-- `eye.saccess` -/
abbrev eyeSaccess : Nat := 0x52000E
/-- `eye.commit` -/
abbrev eyeCommit : Nat := 0x52000F
/-- `eye.revoke` -/
abbrev eyeRevoke : Nat := 0x520010
/-- `eye.wgen` -/
abbrev eyeWgen : Nat := 0x520011
/-- `eye.admitted` -/
abbrev eyeAdmitted : Nat := 0x520012
/-- `eye.violations` -/
abbrev eyeViolations : Nat := 0x520013
/-- `eye.last_cause` -/
abbrev eyeLastCause : Nat := 0x520014
/-- `chain.state` -/
abbrev chainState : Nat := 0x520101
/-- `chain.eyelet` -/
abbrev chainEyelet : Nat := 0x520102
/-- `chain.host` -/
abbrev chainHost : Nat := 0x520103
/-- `chain.count` -/
abbrev chainCount : Nat := 0x520104
/-- `chain.next_wr` -/
abbrev chainNextWr : Nat := 0x520105
/-- `chain.runs` -/
abbrev chainRuns : Nat := 0x520106
/-- `chain.missed` -/
abbrev chainMissed : Nat := 0x520107
/-- `chain.disarm` -/
abbrev chainDisarm : Nat := 0x520108
/-- `eye.live` -/
abbrev eyeLive : Nat := 0x520201
/-- `eye.viol_total` -/
abbrev eyeViolTotal : Nat := 0x520202
/-- `chain.armed` -/
abbrev chainArmed : Nat := 0x520203
/-- `chain.running` -/
abbrev chainRunning : Nat := 0x520204
/-- `scratch.size` -/
abbrev scratchSize : Nat := 0x520301
/-- `tgrp.id` -/
abbrev tgrpId : Nat := 0x520401
/-- `tgrp.fanout_rate` -/
abbrev tgrpFanoutRate : Nat := 0x520501
/-- `ord.ring_strict` -/
abbrev ordRingStrict : Nat := 0x530001
/-- `ord.knots_held` -/
abbrev ordKnotsHeld : Nat := 0x530002
/-- `ord.knot_waits` -/
abbrev ordKnotWaits : Nat := 0x530003
/-- `ord.flush_p99` -/
abbrev ordFlushP99 : Nat := 0x530004
/-- `bxb.planes` -/
abbrev bxbPlanes : Nat := 0x600001
/-- `bxb.hem_timeout` -/
abbrev bxbHemTimeout : Nat := 0x600002
/-- `bxb.gap_retries` -/
abbrev bxbGapRetries : Nat := 0x600003
/-- `bxb.plane_err_limit` -/
abbrev bxbPlaneErrLimit : Nat := 0x600004
/-- `bxb.int_weight` -/
abbrev bxbIntWeight : Nat := 0x600005
/-- `plane.cells` -/
abbrev planeCells : Nat := 0x600101
/-- `plane.crc_errors` -/
abbrev planeCrcErrors : Nat := 0x600102
/-- `plane.replays` -/
abbrev planeReplays : Nat := 0x600103
/-- `plane.test` -/
abbrev planeTest : Nat := 0x600104
/-- `plane.test_ok` -/
abbrev planeTestOk : Nat := 0x600105
/-- `fport.cells_in` -/
abbrev fportCellsIn : Nat := 0x600201
/-- `fport.cells_out` -/
abbrev fportCellsOut : Nat := 0x600202
/-- `fport.occ_max` -/
abbrev fportOccMax : Nat := 0x600203
/-- `fport.gap_timeouts` -/
abbrev fportGapTimeouts : Nat := 0x600204
/-- `fport.unrecovered` -/
abbrev fportUnrecovered : Nat := 0x600205
/-- `ecl.min` -/
abbrev eclMin : Nat := 0x600301
/-- `ecl.max` -/
abbrev eclMax : Nat := 0x600302
/-- `ecl.ecn_thresh` -/
abbrev eclEcnThresh : Nat := 0x600303
/-- `ecl.depth` -/
abbrev eclDepth : Nat := 0x600304
/-- `ecl.frames` -/
abbrev eclFrames : Nat := 0x600305
/-- `ecl.marked` -/
abbrev eclMarked : Nat := 0x600306
/-- `ecl.thresh_drops` -/
abbrev eclThreshDrops : Nat := 0x600307
/-- `hold.time` -/
abbrev holdTime : Nat := 0x600401
/-- `hold.sent` -/
abbrev holdSent : Nat := 0x600402
/-- `hold.flushed` -/
abbrev holdFlushed : Nat := 0x600403
/-- `hold.discarded` -/
abbrev holdDiscarded : Nat := 0x600404
/-- `tns.mode` -/
abbrev tnsMode : Nat := 0x610001
/-- `tns.flows` -/
abbrev tnsFlows : Nat := 0x610002
/-- `tns.overhead` -/
abbrev tnsOverhead : Nat := 0x610003
/-- `tns.strict` -/
abbrev tnsStrict : Nat := 0x610004
/-- `tns.weights` -/
abbrev tnsWeights : Nat := 0x610005
/-- `tns.overflow` -/
abbrev tnsOverflow : Nat := 0x610006
/-- `tns.switches` -/
abbrev tnsSwitches : Nat := 0x610007
/-- `thost.rate` -/
abbrev thostRate : Nat := 0x610101
/-- `thost.burst` -/
abbrev thostBurst : Nat := 0x610102
/-- `thost.qp_rate` -/
abbrev thostQpRate : Nat := 0x610103
/-- `tflow.bytes` -/
abbrev tflowBytes : Nat := 0x610201
/-- `tflow.shaped` -/
abbrev tflowShaped : Nat := 0x610202
/-- `pol.mode` -/
abbrev polMode : Nat := 0x620001
/-- `pol.aware` -/
abbrev polAware : Nat := 0x620002
/-- `pol.color_src` -/
abbrev polColorSrc : Nat := 0x620003
/-- `pol.cir` -/
abbrev polCir : Nat := 0x620004
/-- `pol.cbs` -/
abbrev polCbs : Nat := 0x620005
/-- `pol.ebs` -/
abbrev polEbs : Nat := 0x620006
/-- `pol.pir` -/
abbrev polPir : Nat := 0x620007
/-- `pol.yellow_act` -/
abbrev polYellowAct : Nat := 0x620008
/-- `pol.red_act` -/
abbrev polRedAct : Nat := 0x620009
/-- `pol.green` -/
abbrev polGreen : Nat := 0x62000A
/-- `pol.yellow` -/
abbrev polYellow : Nat := 0x62000B
/-- `pol.red` -/
abbrev polRed : Nat := 0x62000C
/-- `pol.drops` -/
abbrev polDrops : Nat := 0x62000D
/-- `pcol.dscp` -/
abbrev pcolDscp : Nat := 0x620101
/-- `pcol.pcp` -/
abbrev pcolPcp : Nat := 0x620102
/-- `msq.state` -/
abbrev msqState : Nat := 0x680001
/-- `msq.switchovers` -/
abbrev msqSwitchovers : Nat := 0x680002
/-- `msq.last_mismatch` -/
abbrev msqLastMismatch : Nat := 0x680003
/-- `msq.last_slices` -/
abbrev msqLastSlices : Nat := 0x680004
/-- `msq.last_gap` -/
abbrev msqLastGap : Nat := 0x680005
/-- `msq.last_cause` -/
abbrev msqLastCause : Nat := 0x680006
/-- `msq.repair` -/
abbrev msqRepair : Nat := 0x680007
/-- `msq.cmp_test` -/
abbrev msqCmpTest : Nat := 0x680008
/-- `msq.cmp_test_period` -/
abbrev msqCmpTestPeriod : Nat := 0x680009
/-- `msq.cmp_ok` -/
abbrev msqCmpOk : Nat := 0x68000A
/-- `msq.switch_test` -/
abbrev msqSwitchTest : Nat := 0x68000B
/-- `msq.single_time` -/
abbrev msqSingleTime : Nat := 0x68000C
/-- `msq.ce_a` -/
abbrev msqCeA : Nat := 0x68000D
/-- `msq.ce_b` -/
abbrev msqCeB : Nat := 0x68000E
/-- `sel.engaged` -/
abbrev selEngaged : Nat := 0x680101
/-- `sel.list_overflow` -/
abbrev selListOverflow : Nat := 0x680102
/-- `sel.engage_type` -/
abbrev selEngageType : Nat := 0x680103
/-- `sel.engage_id` -/
abbrev selEngageId : Nat := 0x680104
/-- `sel.engage` -/
abbrev selEngage : Nat := 0x680105
/-- `sel.drain_timeout` -/
abbrev selDrainTimeout : Nat := 0x680106
/-- `fen.state` -/
abbrev fenState : Nat := 0x680201
/-- `fen.scope` -/
abbrev fenScope : Nat := 0x680202
/-- `fen.id` -/
abbrev fenId : Nat := 0x680203
/-- `fen.detector` -/
abbrev fenDetector : Nat := 0x680204
/-- `fen.group` -/
abbrev fenGroup : Nat := 0x680205
/-- `fen.time` -/
abbrev fenTime : Nat := 0x680206
/-- `fen.hits` -/
abbrev fenHits : Nat := 0x680207
/-- `fen.release` -/
abbrev fenRelease : Nat := 0x680208
/-- `fgrp.escalate` -/
abbrev fgrpEscalate : Nat := 0x681001
/-- `fgrp.members` -/
abbrev fgrpMembers : Nat := 0x681002
/-- `fgm.group` -/
abbrev fgmGroup : Nat := 0x681101
/-- `fgm.scope` -/
abbrev fgmScope : Nat := 0x681102
/-- `fgm.id` -/
abbrev fgmId : Nat := 0x681103
/-- `ep.enable` -/
abbrev epEnable : Nat := 0x700001
/-- `ep.bar2_size` -/
abbrev epBar2Size : Nat := 0x700002
/-- `ep.subsys_vid` -/
abbrev epSubsysVid : Nat := 0x700003
/-- `ep.subsys_id` -/
abbrev epSubsysId : Nat := 0x700004
/-- `ep.link_speed` -/
abbrev epLinkSpeed : Nat := 0x700005
/-- `ep.link_width` -/
abbrev epLinkWidth : Nat := 0x700006
/-- `ep.state` -/
abbrev epState : Nat := 0x700007
/-- `ep.freeze_cause` -/
abbrev epFreezeCause : Nat := 0x700008
/-- `ep.freezes` -/
abbrev epFreezes : Nat := 0x700009
/-- `ep.release` -/
abbrev epRelease : Nat := 0x70000A
/-- `ep.peer_stalls` -/
abbrev epPeerStalls : Nat := 0x70000B
/-- `ep.cto` -/
abbrev epCto : Nat := 0x70000C
/-- `ep.unexp_cpl` -/
abbrev epUnexpCpl : Nat := 0x70000D
/-- `ep.num_vfs` -/
abbrev epNumVfs : Nat := 0x70000E
/-- `fn.host` -/
abbrev fnHost : Nat := 0x700101
/-- `fn.ring_base` -/
abbrev fnRingBase : Nat := 0x700102
/-- `fn.ring_count` -/
abbrev fnRingCount : Nat := 0x700103
/-- `fn.shtl_mask` -/
abbrev fnShtlMask : Nat := 0x700104
/-- `fn.bme` -/
abbrev fnBme : Nat := 0x700105
/-- `fn.irq_mode` -/
abbrev fnIrqMode : Nat := 0x700106
/-- `fn.flrs` -/
abbrev fnFlrs : Nat := 0x700107
/-- `win.key` -/
abbrev winKey : Nat := 0x700201
/-- `win.gen` -/
abbrev winGen : Nat := 0x700202
/-- `win.errors` -/
abbrev winErrors : Nat := 0x700203
/-- `ring.state` -/
abbrev ringState : Nat := 0x710001
/-- `ring.func` -/
abbrev ringFunc : Nat := 0x710002
/-- `ring.jobs` -/
abbrev ringJobs : Nat := 0x710003
/-- `ring.inflight` -/
abbrev ringInflight : Nat := 0x710004
/-- `ring.malformed` -/
abbrev ringMalformed : Nat := 0x710005
/-- `ring.lap_skips` -/
abbrev ringLapSkips : Nat := 0x710006
/-- `ring.err_index` -/
abbrev ringErrIndex : Nat := 0x710007
/-- `rings.job_limit` -/
abbrev ringsJobLimit : Nat := 0x710101
/-- `rings.inflight` -/
abbrev ringsInflight : Nat := 0x710102
/-- `sh.state` -/
abbrev shState : Nat := 0x720001
/-- `sh.func` -/
abbrev shFunc : Nat := 0x720002
/-- `sh.bytes` -/
abbrev shBytes : Nat := 0x720003
/-- `sh.descs` -/
abbrev shDescs : Nat := 0x720004
/-- `sh.cq_blocks` -/
abbrev shCqBlocks : Nat := 0x720005
/-- `sh.errors` -/
abbrev shErrors : Nat := 0x720006
/-- `sh.discarded` -/
abbrev shDiscarded : Nat := 0x720007
/-- `sh.quantum` -/
abbrev shQuantum : Nat := 0x720101
/-- `skn.role` -/
abbrev sknRole : Nat := 0x780001
/-- `skn.row` -/
abbrev sknRow : Nat := 0x780002
/-- `skn.term` -/
abbrev sknTerm : Nat := 0x780003
/-- `skn.dir_version` -/
abbrev sknDirVersion : Nat := 0x780004
/-- `skn.hb_period` -/
abbrev sknHbPeriod : Nat := 0x780005
/-- `skn.hb_misses` -/
abbrev sknHbMisses : Nat := 0x780006
/-- `skn.guard` -/
abbrev sknGuard : Nat := 0x780007
/-- `skn.paths` -/
abbrev sknPaths : Nat := 0x780008
/-- `skn.udp_port` -/
abbrev sknUdpPort : Nat := 0x780009
/-- `skn.dscp` -/
abbrev sknDscp : Nat := 0x78000A
/-- `skn.data_gid` -/
abbrev sknDataGid : Nat := 0x78000B
/-- `skn.key` -/
abbrev sknKey : Nat := 0x78000C
/-- `skn.key_fp` -/
abbrev sknKeyFp : Nat := 0x78000D
/-- `skn.view` -/
abbrev sknView : Nat := 0x78000E
/-- `skn.leave` -/
abbrev sknLeave : Nat := 0x78000F
/-- `skn.auth_drops` -/
abbrev sknAuthDrops : Nat := 0x780010
/-- `srow.enable` -/
abbrev srowEnable : Nat := 0x780101
/-- `srow.device_id` -/
abbrev srowDeviceId : Nat := 0x780102
/-- `srow.shelf` -/
abbrev srowShelf : Nat := 0x780103
/-- `srow.eligible` -/
abbrev srowEligible : Nat := 0x780104
/-- `srow.mgmt_ipv4` -/
abbrev srowMgmtIpv4 : Nat := 0x780105
/-- `srow.data_ipv4` -/
abbrev srowDataIpv4 : Nat := 0x780106
/-- `srow.heard` -/
abbrev srowHeard : Nat := 0x780107
/-- `srow.role` -/
abbrev srowRole : Nat := 0x780108
/-- `twin.pair_enable` -/
abbrev twinPairEnable : Nat := 0x780201
/-- `twin.state` -/
abbrev twinState : Nat := 0x780202
/-- `twin.down_time` -/
abbrev twinDownTime : Nat := 0x780203
/-- `twin.partner_id` -/
abbrev twinPartnerId : Nat := 0x780204
/-- `twin.partner_epoch` -/
abbrev twinPartnerEpoch : Nat := 0x780205
/-- `twin.crc_errors` -/
abbrev twinCrcErrors : Nat := 0x780206
/-- `twin.replays` -/
abbrev twinReplays : Nat := 0x780207
/-- `twin.downs` -/
abbrev twinDowns : Nat := 0x780208
/-- `own.home` -/
abbrev ownHome : Nat := 0x780301
/-- `own.current` -/
abbrev ownCurrent : Nat := 0x780302
/-- `own.gen` -/
abbrev ownGen : Nat := 0x780303
/-- `own.move` -/
abbrev ownMove : Nat := 0x780304
/-- `own.move_home` -/
abbrev ownMoveHome : Nat := 0x780401
/-- `tko.enable` -/
abbrev tkoEnable : Nat := 0x780501
/-- `tko.state` -/
abbrev tkoState : Nat := 0x780502
/-- `tko.count` -/
abbrev tkoCount : Nat := 0x780503
/-- `tko.last_time` -/
abbrev tkoLastTime : Nat := 0x780504
/-- `shelf.state` -/
abbrev shelfState : Nat := 0x780601
/-- `shelf.array` -/
abbrev shelfArray : Nat := 0x780602
/-- `shelf.free_raw` -/
abbrev shelfFreeRaw : Nat := 0x780603
/-- `shelf.ns_count` -/
abbrev shelfNsCount : Nat := 0x780604
/-- `det.count` of group G, index II is at code `detCount + 256 G + II`. -/
abbrev detCount : Nat := 0x220000
/-- `inj.point` of group G, index II is at code `injPoint + 256 G + II`. -/
abbrev injPoint : Nat := 0x221000

end Sys2Proof.Obj
end

