-- ==== Sys2Proof/Machine/Sha.lean ====
section
/-!
DEFINITION. Machine/Sha.lean: SHA-256 and HMAC-SHA-256, which the manual names for session keys, message tags,
wrapped keys, fingerprints and image digests (R40, R55, R56, R59). The standard's own definition, over `Nat`
words of 32 bits.
-/

namespace Sys2Proof.Machine

/-- The 64 round constants of SHA-256. -/
def shaK : List Nat :=
  [0x428a2f98, 0x71374491, 0xb5c0fbcf, 0xe9b5dba5, 0x3956c25b, 0x59f111f1, 0x923f82a4, 0xab1c5ed5,
   0xd807aa98, 0x12835b01, 0x243185be, 0x550c7dc3, 0x72be5d74, 0x80deb1fe, 0x9bdc06a7, 0xc19bf174,
   0xe49b69c1, 0xefbe4786, 0x0fc19dc6, 0x240ca1cc, 0x2de92c6f, 0x4a7484aa, 0x5cb0a9dc, 0x76f988da,
   0x983e5152, 0xa831c66d, 0xb00327c8, 0xbf597fc7, 0xc6e00bf3, 0xd5a79147, 0x06ca6351, 0x14292967] ++
  [0x27b70a85, 0x2e1b2138, 0x4d2c6dfc, 0x53380d13, 0x650a7354, 0x766a0abb, 0x81c2c92e, 0x92722c85,
   0xa2bfe8a1, 0xa81a664b, 0xc24b8b70, 0xc76c51a3, 0xd192e819, 0xd6990624, 0xf40e3585, 0x106aa070,
   0x19a4c116, 0x1e376c08, 0x2748774c, 0x34b0bcb5, 0x391c0cb3, 0x4ed8aa4a, 0x5b9cca4f, 0x682e6ff3,
   0x748f82ee, 0x78a5636f, 0x84c87814, 0x8cc70208, 0x90befffa, 0xa4506ceb, 0xbef9a3f7, 0xc67178f2]

/-- The eight working words of SHA-256. -/
structure Sha where
  a : Nat
  b : Nat
  c : Nat
  d : Nat
  e : Nat
  f : Nat
  g : Nat
  h : Nat
deriving DecidableEq, Repr

/-- The initial hash value. -/
def shaInit : Sha :=
  ⟨0x6a09e667, 0xbb67ae85, 0x3c6ef372, 0xa54ff53a, 0x510e527f, 0x9b05688c, 0x1f83d9ab, 0x5be0cd19⟩

/-- Addition of 32-bit words. -/
def add32 (x y : Nat) : Nat := (x + y) % 4294967296

/-- Rotation right of a 32-bit word. -/
def rotr32 (x n : Nat) : Nat := (x >>> n) ||| ((x <<< (32 - n)) % 4294967296)

/-- One round. -/
def shaRound (s : Sha) (kw : Nat) : Sha :=
  let s1 := rotr32 s.e 6 ^^^ rotr32 s.e 11 ^^^ rotr32 s.e 25
  let ch := (s.e &&& s.f) ^^^ ((4294967295 - s.e) &&& s.g)
  let t1 := (s.h + s1 + ch + kw) % 4294967296
  let s0 := rotr32 s.a 2 ^^^ rotr32 s.a 13 ^^^ rotr32 s.a 22
  let mj := (s.a &&& s.b) ^^^ (s.a &&& s.c) ^^^ (s.b &&& s.c)
  ⟨add32 t1 (add32 s0 mj), s.a, s.b, s.c, add32 s.d t1, s.e, s.f, s.g⟩

/-- The message schedule, newest word first: extends 16 words by `n`. -/
def shaSched : Nat → List Nat → List Nat
  | 0, w => w
  | n + 1, w =>
    let x15 := w.getD 14 0
    let x2 := w.getD 1 0
    let g0 := rotr32 x15 7 ^^^ rotr32 x15 18 ^^^ (x15 >>> 3)
    let g1 := rotr32 x2 17 ^^^ rotr32 x2 19 ^^^ (x2 >>> 10)
    shaSched n (((w.getD 15 0) + g0 + (w.getD 6 0) + g1) % 4294967296 :: w)

/-- Compresses one block of 16 big-endian words. -/
def shaBlock (s : Sha) (w : List Nat) : Sha :=
  let t := ((shaSched 48 w.reverse).reverse.zip shaK).foldl (fun r x => shaRound r (x.1 + x.2)) s
  ⟨add32 s.a t.a, add32 s.b t.b, add32 s.c t.c, add32 s.d t.d, add32 s.e t.e, add32 s.f t.f, add32 s.g t.g,
   add32 s.h t.h⟩

/-- The big-endian words of a byte string whose length is a multiple of 4. -/
def beWords : Bytes → List Nat
  | a :: b :: c :: d :: r => (a * 16777216 + b * 65536 + c * 256 + d) :: beWords r
  | _ => []

/-- Runs the blocks; `n` bounds their number. -/
def shaBlocks : Nat → Sha → List Nat → Sha
  | 0, s, _ => s
  | n + 1, s, w => shaBlocks n (shaBlock s (w.take 16)) (w.drop 16)

/-- The four bytes of a word, most significant first. -/
def beBytes4 (x : Nat) : Bytes := [(x >>> 24) % 256, (x >>> 16) % 256, (x >>> 8) % 256, x % 256]

/-- SHA-256 of a byte string, as 32 bytes. -/
def sha256 (m : Bytes) : Bytes :=
  let n := m.length
  let p := m ++ [0x80] ++ zeros ((119 - n % 64) % 64) ++ beBytes4 (8 * n / 4294967296) ++ beBytes4 (8 * n % 4294967296)
  let s := shaBlocks (p.length / 64) shaInit (beWords p)
  beBytes4 s.a ++ beBytes4 s.b ++ beBytes4 s.c ++ beBytes4 s.d ++ beBytes4 s.e ++ beBytes4 s.f ++ beBytes4 s.g
    ++ beBytes4 s.h

/-- HMAC-SHA-256 with a key of at most 64 bytes (every key of the part has 32). -/
def hmac (key msg : Bytes) : Bytes :=
  let k := key ++ zeros (64 - key.length)
  sha256 (k.map (fun x => x ^^^ 0x5c) ++ sha256 (k.map (fun x => x ^^^ 0x36) ++ msg))

end Sys2Proof.Machine
end

