-- ==== Sys2Proof/Machine/Table.lean ====
section
/-!
DEFINITION. Machine/Table.lean: sparse tables of the part. A table is a list of (key, row) pairs, keys strictly
rising, no row equal to what an unlisted key reads as; so equal tables are equal data.
-/

namespace Sys2Proof.Machine

/-- A sparse table: keys strictly rising, no entry equal to the default row. -/
abbrev Tbl (α : Type) := List (Nat × α)

/-- The row under a key; an unlisted key reads as `d`. -/
def Tbl.get {α : Type} (d : α) : Tbl α → Nat → α
  | [], _ => d
  | (k, v) :: t, i => if i = k then v else Tbl.get d t i

/-- Removes the entry of a key, if there is one. -/
def Tbl.drop {α : Type} : Tbl α → Nat → Tbl α
  | [], _ => []
  | (k, v) :: t, i => if i = k then t else (k, v) :: Tbl.drop t i

/-- Puts an entry at its place in the rising order, replacing one of the same key. -/
def Tbl.put {α : Type} : Tbl α → Nat → α → Tbl α
  | [], i, x => [(i, x)]
  | (k, v) :: t, i, x =>
    if i < k then (i, x) :: (k, v) :: t else if i = k then (i, x) :: t else (k, v) :: Tbl.put t i x

/-- Writes a row: the default row is not listed. -/
def Tbl.set {α : Type} [DecidableEq α] (d : α) (t : Tbl α) (i : Nat) (x : α) : Tbl α :=
  if x = d then Tbl.drop t i else Tbl.put t i x

/-- Changes a row. -/
def Tbl.upd {α : Type} [DecidableEq α] (d : α) (t : Tbl α) (i : Nat) (f : α → α) : Tbl α :=
  Tbl.set d t i (f (Tbl.get d t i))

/-- Every key is at least `lo`, keys rise strictly, no row is the default. -/
def Tbl.wfFrom {α : Type} [DecidableEq α] (d : α) : Nat → Tbl α → Bool
  | _, [] => true
  | lo, (k, v) :: t => decide (lo ≤ k) && decide (v ≠ d) && Tbl.wfFrom d (k + 1) t

/-- The canonical form. -/
def Tbl.wf {α : Type} [DecidableEq α] (d : α) (t : Tbl α) : Bool := Tbl.wfFrom d 0 t

/-- Changes every listed row, dropping the rows that become the default. -/
def Tbl.mapRows {α : Type} [DecidableEq α] (d : α) (f : Nat → α → α) (t : Tbl α) : Tbl α :=
  t.filterMap (fun e => if f e.1 e.2 = d then none else some (e.1, f e.1 e.2))

/-- Changes the rows of the keys listed in `ks`. -/
def Tbl.updMany {α : Type} [DecidableEq α] (d : α) (t : Tbl α) (ks : List Nat) (f : Nat → α → α) : Tbl α :=
  ks.foldl (fun t k => Tbl.upd d t k (f k)) t

end Sys2Proof.Machine
end

