-- ==== Sys2Proof/Machine/PartCore.lean ====
section
/-!
DEFINITION. Machine/PartCore.lean: the state of clocks and power domains (Architecture of the KV4896), of the
Pricking and Rendi, of detectors and events, of fences and of the MSQ pair.
-/

namespace Sys2Proof.Machine

/-- The two parts (R2). -/
inductive Part where
  | kv4896 | kv2448
deriving DecidableEq, Repr

/-- The timebase (R15 to R18): nanoseconds and the 32-bit fraction, running from the end of S1, the frequency
adjustment in 2^-16 ppm, the last offset measured from the PTP master, and the lock; `sk` the nanoseconds the Skamo die has run. -/
structure Clk where
  ns : Nat := 0
  frac : Nat := 0
  running : Bool := false
  freqAdj : Int := 0
  offset : Int := 0
  locked : Bool := false
  sk : Nat := 0
deriving DecidableEq, Repr

/-- States of an internal power domain (Table 1-14). -/
inductive PdState where
  | off | waking | on | draining
deriving DecidableEq, Repr

/-- A row of `0x2010 pd`: state, who switched it last (Table 1-17), whether the last request was refused (R30), a request
of 0 held while WAKING (R22), the power loop's request drains or switched it off (R513), nanoseconds ON before, when it was last ON from. -/
structure Pd where
  st : PdState := .off
  owner : Nat := 3
  refused : Bool := false
  heldOff : Bool := false
  byLoop : Bool := false
  onTime : Nat := 0
  onAt : Nat := 0
deriving DecidableEq, Repr

/-- A committed dictionary image (R40 to R45): valid, generation, schema major, values that differ from the
factory defaults (key: object code × 2^32 + row). -/
structure Image where
  valid : Bool := false
  gen : Nat := 0
  schema : Nat := 0
  vals : Tbl (Option Nat) := []
deriving DecidableEq, Repr

/-- A cached response (R57). -/
structure Cached where
  seq : Nat
  op : Nat
  status : Nat
  detail : Nat
  rtag : Nat
  body : Bytes
deriving DecidableEq, Repr

/-- An open session (R55 to R58): identifier, granted level, carrier, key slot (0xFF provisioning), session key,
UDP port it was opened on, source, highest accepted `SEQ`, accepted numbers of the window, cached responses
(newest first), next notification `SEQ`, timebase of the last accepted request. -/
structure Session where
  id : Nat
  level : Nat
  carrier : Carrier
  kslot : Nat
  ks : Bytes
  dport : Nat
  src : Nat
  hi : Nat
  accepted : List Nat
  cache : List Cached
  ntfSeq : Nat
  since : Nat
deriving DecidableEq, Repr

/-- A commit past its validation (R42): the values going into the image, the pending values it took, those of them written
again since (R44), the request to answer and its session. -/
structure CommitRun where
  image : Tbl (Option Nat)
  taken : Tbl (Option Nat)
  kept : List Nat := []
  hdr : Hdr
  session : Session
deriving DecidableEq, Repr

/-- The dictionary: effective values of RW, RWC and WO objects that differ from their defaults, pending values,
the two image slots, the active one, `dict.commit_state`, the running commit, the action states of ACT objects. -/
structure Dict where
  eff : Tbl (Option Nat) := []
  pend : Tbl (Option Nat) := []
  slotA : Image := {}
  slotB : Image := {}
  active : Nat := 0
  commitState : Nat := 0
  commitCount : Nat := 0
  commitTime : Nat := 0
  run : Option CommitRun := none
  act : Tbl Nat := []
deriving DecidableEq, Repr

/-- A half-open session (R55). -/
structure HalfOpen where
  id : Nat
  level : Nat
  slot : Nat
  carrier : Carrier
  ks : Bytes
deriving DecidableEq, Repr

/-- An event record (Table 16-4). -/
structure Rec where
  time : Nat := 0
  det : Nat := 0
  stype : Nat := 0
  act : Nat := 0
  inj : Bool := false
  scope : Nat := 0
  rep : Nat := 1
  seq : Nat := 0
  detail : Nat := 0
deriving DecidableEq, Repr

/-- A subscription (R63, R64): identifier, session, detector groups, scope types, unsent records (oldest first),
lost count. -/
structure Subn where
  id : Nat
  session : Nat
  groups : Nat
  scopes : Nat
  unsent : List Rec
  lost : Nat
deriving DecidableEq, Repr

/-- Rendi: sessions by row, half-open states, subscriptions. -/
structure Rendi where
  sessions : Tbl (Option Session) := []
  half : List HalfOpen := []
  subs : List Subn := []
deriving DecidableEq, Repr

/-- The BAR0 mailbox (Table 2-9), the responses that wait for `RSP_VALID` to clear, oldest first (R69). -/
structure Mbx where
  go : Bool := false
  ntfEn : Bool := false
  rspValid : Bool := false
  ntfValid : Bool := false
  ovw : Bool := false
  reqLen : Nat := 0
  rspLen : Nat := 0
  ntfLen : Nat := 0
  req : Tbl Nat := []
  rsp : Bytes := []
  ntf : Bytes := []
  waiting : List Bytes := []
deriving DecidableEq, Repr

/-- The SMBus target (R70, R71): groups with unread events, event count, last event sequence number, the selected
object. -/
structure Smb where
  groups : Nat := 0
  count : Nat := 0
  last : Nat := 0
  sel : Item := ⟨0, 0, 0, 0, 0, 0, []⟩
deriving DecidableEq, Repr

/-- A running coalescing window (R522). -/
structure Coal where
  det : Nat
  stype : Nat
  scope : Nat
  supp : Nat
  time : Nat
  detail : Nat
  inj : Bool
deriving DecidableEq, Repr

/-- A running injection (R527): detector, row, occurrences still to set. -/
structure InjRun where
  det : Nat
  row : Nat
  left : Nat
deriving DecidableEq, Repr

/-- Detectors and the event ring (R518 to R529). The ring holds records by slot. `pre` is the on-die detector log,
`preDrop` the detections it could not hold. `dropFirst` and `dropN` are the drops no summary has reported. `force` is the
detector whose condition an injection sets in this step; none between steps. -/
structure Ev where
  counts : Tbl Nat := []
  isOpen : Bool := false
  next : Nat := 0
  ring : Tbl Rec := []
  pre : List Rec := []
  preDrop : Nat := 0
  dropFirst : Nat := 0
  dropN : Nat := 0
  coal : List Coal := []
  inj : List InjRun := []
  force : Option Nat := none
deriving DecidableEq, Repr

/-- States of a fence row (Table 8-3). -/
inductive FenState where
  | unused | fenced | draining | released
deriving DecidableEq, Repr

/-- A row of `0x6802 fen`. -/
structure Fen where
  st : FenState := .unused
  scope : Nat := 0
  id : Nat := 0
  det : Nat := 0
  group : Nat := 0xFFFF
  time : Nat := 0
  hits : Nat := 0
deriving DecidableEq, Repr

/-- Selvedge fences: the rows, and the fence bits of units (key: scope type × 2^32 + identifier) whose engagement
found no free row (R295). -/
structure Fences where
  rows : Tbl Fen := []
  loose : Tbl Nat := []
deriving DecidableEq, Repr

/-- States of the MSQ pair (Table 8-5). -/
inductive MsqState where
  | paired | singleA | singleB | resync | halted
deriving DecidableEq, Repr

/-- The MSQ pair (R300 to R311): state, the single state a re-pairing came from, the values its objects report,
whether the automatic slice test is armed (R310), when PAIRED was last left and the nanoseconds spent outside it before. -/
structure Msq where
  st : MsqState := .paired
  before : MsqState := .paired
  lastMismatch : Nat := 0
  lastSlices : Nat := 0
  lastGap : Nat := 0
  lastCause : Nat := 0
  cmpOk : Bool := true
  testArmed : Bool := false
  leftAt : Nat := 0
  away : Nat := 0
deriving DecidableEq, Repr

end Sys2Proof.Machine
end

