-- ==== Sys2Proof/Machine/PartStore.lean ====
section
/-!
DEFINITION. Machine/PartStore.lean: the state of placement, hoop, basting journal, vault, darning, drive links and
members (chapters 3, 4, 5 and 10 of the manual).
-/

namespace Sys2Proof.Machine

/-- A 4 KiB member block: its data and its 16-byte stored metadata (Table 3-6), little-endian numbers. -/
structure Blk where
  data : Nat := 0
  pi : Nat := 0
deriving DecidableEq, Repr

/-- A geometry row (R81 to R87): state (0 FREE, 1 GENERATING, 2 ACTIVE), width, data stitches, stitch bytes, lanes
at activation, pattern (rows of (position, slot index)) and spare table (rows of columns of (target, z) by lane),
seed kept, digest, whether the tables wait for the map copies' acknowledgment. -/
structure Geo where
  st : Nat := 0
  w : Nat := 0
  k : Nat := 0
  u : Nat := 0
  s : Nat := 0
  pat : List (List (Nat × Nat)) := []
  spare : List (List (List (Nat × Nat))) := []
  seedUsed : Nat := 0
  digest : Nat := 0
  writing : Bool := false
deriving DecidableEq, Repr

/-- States of a bolt map entry (Table 3-7). -/
inductive BoltSt where
  | unmapped | zero | mapped | migrating
deriving DecidableEq, Repr

/-- A bolt map entry (Table 3-7). -/
structure Bolt where
  base : Nat := 0
  tbase : Nat := 0
  st : BoltSt := .unmapped
  geo : Nat := 0
  tgeo : Nat := 0
  suspect : Bool := false
  lost : Bool := false
  cursor : Nat := 0
  ns : Nat := 0
deriving DecidableEq, Repr

/-- A namespace as hosts see it (R88, R95, R96, R249): first map entry, the base a growth moves it to, bolts visible,
bolts it is growing to, current owner side and ownership generation (R473), ANA state on this device (Table 6-5: 1
optimized, 3 inaccessible, 0xF change). -/
structure Nsp where
  mapBase : Nat := 0
  newBase : Nat := 0
  bolts : Nat := 0
  target : Nat := 0
  owner : Nat := 0xFF
  ogen : Nat := 0
  ana : Nat := 3
deriving DecidableEq, Repr

/-- An allocated slot: base in 16 KiB units, geometry, the entry and namespace it belongs to, whether it only waits for commands
that looked it up (R95, R111). -/
structure Slot where
  base : Nat
  geo : Nat
  entry : Nat
  ns : Nat
  freeing : Bool
deriving DecidableEq, Repr

/-- A bolt map update waiting for the map copies (R78). -/
structure MapWrite where
  entry : Nat
  bolt : Bolt
deriving DecidableEq, Repr

/-- A migration (Table 3-8): map entry, target geometry, whether it was refused a slot, whether the
range of the next target stripe is held and copied. -/
structure Mig where
  entry : Nat
  geo : Nat
  noSlot : Bool := false
  copied : Bool := false
  jseq : Nat := 0
deriving DecidableEq, Repr

/-- A map copy: its position (0x3F none) and whether it is valid (R78, R79). -/
structure MapCopy where
  pos : Nat := 0x3F
  valid : Bool := false
deriving DecidableEq, Repr

/-- A lane (R101): position (0xFF free) and state (Table 3-9). -/
structure Lane where
  pos : Nat := 0xFF
  st : Nat := 0
deriving DecidableEq, Repr

/-- Placement. `array` is the array identifier once the array exists; `hdrGen` the header generation the keeper
last wrote; `copyback` the copy-back cursor of a position (entry × 2^16 + stripe, none while it has none). -/
structure Place where
  array : Option Nat := none
  hdrGen : Nat := 0
  maps : List MapCopy := [{}, {}, {}]
  rehome : Option Nat := none
  geos : Tbl Geo := []
  bolts : Tbl Bolt := []
  nss : Tbl Nsp := []
  slots : List Slot := []
  mapPend : List MapWrite := []
  waiting : List Mig := []
  active : List Mig := []
  lanes : Tbl Lane := []
  copyback : Tbl (Option Nat) := []
  zeroing : List Nat := []
  zeroNext : Nat := 0
deriving DecidableEq, Repr

/-- A stripe of a slot: map entry, slot (0 `BASE`, 1 `TBASE`), stripe number. -/
structure SKey where
  entry : Nat
  sel : Nat
  stripe : Nat
deriving DecidableEq, Repr

/-- A hoop frame (R116): the command that owns it while RESERVED (0 when DIRTY), its blocks with the sector map
(a block listed is a set bit), the blocks not yet acknowledged, the newest mirror sequence it was sent under. -/
structure Frame where
  owner : Nat := 0
  blks : Tbl (Option Blk) := []
  mseq : Nat := 0
  acked : Bool := false
deriving DecidableEq, Repr

/-- States of a stripe with hoop frames (Table 4-2). -/
inductive StripeSt where
  | clean | filling | basted | destaging
deriving DecidableEq, Repr

/-- A stripe: state, generation, frames by column, the successor's frames (R130), hold-timer starts (none while
stopped) with the hold time in force at each start (R127), destage triggered, fill-in running, the `JSEQ` of its live basting record, blocks gathered for columns
without a frame (key column × 256 + row), columns still to be written, columns omitted (R104), and whether a destage
restored a SUSPECT stripe (R150). -/
structure Stripe where
  st : StripeSt := .clean
  gen : Nat := 0
  frames : Tbl (Option Frame) := []
  succ : Tbl (Option Frame) := []
  timer : Option Nat := none
  hold : Nat := 0
  succTimer : Option Nat := none
  succHold : Nat := 0
  trig : Bool := false
  fillIn : Bool := false
  live : Option Nat := none
  buf : Tbl (Option Blk) := []
  left : List Nat := []
  omitted : List Nat := []
  restored : Bool := false
deriving DecidableEq, Repr

/-- Who asked for data: an NVMe command of a QP, a ring job, a Shuttle channel, a peer TLP, an eyelet access, a
chain work request, or the device itself. -/
inductive Req where
  | nvme (qp cid : Nat)
  | ring (r slot : Nat)
  | shtl (c : Nat)
  | peer (tag : Nat)
  | eyelet (id : Nat)
  | chain (slot wr : Nat)
  | own
deriving DecidableEq, Repr

/-- A stitch range of a write (R121): stripe, column, first byte in the stitch, bytes, first byte in the command;
`st` is 0 while it waits for its frame, 1 reserved, 2 placed, 3 acknowledged; whether it needs a new frame, whether
that is a shadow frame, the mirror sequence it was sent under, whether its stripe's destage retired before the partner's
acknowledgment. -/
structure Range where
  key : SKey
  col : Nat
  at_ : Nat
  len : Nat
  off : Nat
  st : Nat := 0
  newFrame : Bool := false
  shadow : Bool := false
  mseq : Nat := 0
  onMedia : Bool := false
deriving DecidableEq, Repr

/-- A write command in progress (R121 to R123): requester, namespace, first byte and length in the namespace, its
stitch ranges in ascending order, the status it has earned. -/
structure WCmd where
  id : Nat
  req : Req
  ns : Nat
  first : Nat
  bytes : Nat
  ranges : List Range
  status : Nat := 0
deriving DecidableEq, Repr

/-- Where a block of a read stands: served, read from its member, gathering survivors, in decode, gathering what is
left of a lost row (R187), failed. -/
inductive RSt where
  | got | reading | survivors | decode | lost | failed
deriving DecidableEq, Repr

/-- A block of a read: namespace 4 KiB block number, stripe, column, block row of the stitch, the block, the
survivor blocks gathered (by column), columns found unreadable, whether its own stitch was present and failed, whether it
was decoded. -/
structure RBlk where
  nsBlk : Nat
  key : SKey
  col : Nat
  row : Nat
  st : RSt := .got
  blk : Blk := {}
  surv : Tbl (Option Blk) := []
  bad : List Nat := []
  own : Bool := false
  dec : Bool := false
deriving DecidableEq, Repr

/-- A read in progress: requester, namespace, first byte and length, its blocks. -/
structure RCmd where
  id : Nat
  req : Req
  ns : Nat
  first : Nat
  bytes : Nat
  blks : List RBlk
deriving DecidableEq, Repr

/-- Why a member command was issued. -/
inductive Owner where
  | read (cmd blk : Nat)
  | survivor (cmd blk col : Nat)
  | destage (key : SKey) (col : Nat)
  | repair (jseq : Nat)
  | proxy (tag : Nat)
deriving DecidableEq, Repr

/-- Kinds of member commands (R357). -/
inductive MKind where
  | read | write | flush
deriving DecidableEq, Repr

/-- A member command outstanding (R356, R359): tag, bay, kind, member LBA, blocks, data written, owner, whether it
was reissued, whether it waits for the link. -/
structure MCmd where
  tag : Nat
  bay : Nat
  kind : MKind
  lba : Nat
  count : Nat
  data : List Blk
  owner : Owner
  reissued : Bool := false
  held : Bool := false
deriving DecidableEq, Repr

/-- A frame of the partner held in the mirror region (R136, R137): namespace row, stripe, column, generation, mirror
sequence and epoch, blocks. -/
structure MirrorFrame where
  ns : Nat
  key : SKey
  col : Nat
  gen : Nat
  seq : Nat
  epoch : Nat
  blks : Tbl (Option Blk)
deriving DecidableEq, Repr

/-- A partly covered block that waits for its fill read (R126): command, range, block row of the stitch, first byte
and length of the new bytes in the block, the new bytes. -/
structure FillWait where
  cmd : Nat
  range : Nat
  row : Nat
  lo : Nat
  len : Nat
  data : Nat
deriving DecidableEq, Repr

/-- The hoop (R116 to R139): stripes by key number, writes and reads in progress, writes waiting for frames (oldest
first), mirror state (0 mirrored, 1 solo, 2 resyncing), next mirror sequence, frames held for the partner and the
region's bytes, a ceiling being lowered, admission stopped, namespaces whose frames were lost (R156). -/
structure Hoop where
  stripes : Tbl Stripe := []
  writes : List WCmd := []
  reads : List RCmd := []
  queue : List Nat := []
  fills : List FillWait := []
  nextCmd : Nat := 1
  mirrorState : Nat := 1
  mseq : Nat := 0
  region : List MirrorFrame := []
  regionBytes : Nat := 8589934592
  lowering : Option Nat := none
  stopped : Bool := false
  soughtNs : List Nat := []
deriving DecidableEq, Repr

/-- Kinds of a basting record (Table 4-3). -/
inductive RecKind where
  | destage | reconstruct | copyback | migrate | resync | checkpoint | retire
deriving DecidableEq, Repr

/-- A basting record (Table 4-3), with the places that hold it: working copy always, partner mirror, journal
members 0 and 1; `persisted` once every place that exists holds it. `retires` lists what a RETIRE record names; `page` is the page it
was last written in. -/
structure JRec where
  kind : RecKind
  geo : Nat := 0
  gen : Nat := 0
  jseq : Nat := 0
  key : SKey := ⟨0, 0, 0⟩
  members : Nat := 0
  stitches : Nat := 0
  sbase : Nat := 0
  time : Nat := 0
  aux : Nat := 0
  retires : List Nat := []
  destaging : Bool := false
  onPartner : Bool := false
  on0 : Bool := false
  on1 : Bool := false
  persisted : Bool := false
  page : Nat := 0
deriving DecidableEq, Repr

/-- A journal page (R141): sequence, records, and which members have taken it. -/
structure JPage where
  seq : Nat
  recs : List Nat
  out0 : Bool
  out1 : Bool
deriving DecidableEq, Repr

/-- The basting journal (R140 to R150): the working copy (oldest first), next `JSEQ`, records waiting for a page,
retirements that wait for a RETIRE record, pages being written, next page number, the two journal members (0x3F none), the re-homing target of copy 0 or 1,
`bast.state`, the resync cursor, the partner's journal mirror. -/
structure Journal where
  recs : List JRec := []
  next : Nat := 0
  waiting : List Nat := []
  retiring : List Nat := []
  pages : List JPage := []
  page : Nat := 0
  pos0 : Nat := 0x3F
  pos1 : Nat := 0x3F
  rehome : Option (Nat × Nat) := none
  state : Nat := 0
  resync : Nat := 0
  partner : List JRec := []
deriving DecidableEq, Repr

/-- Kinds of vault chunk payload (Table 4-7). -/
structure Chunk where
  kind : Nat
  index : Nat
  pos : Nat
  tries : Nat
deriving DecidableEq, Repr

/-- The vault (R151 to R158): state (0 idle, 1 dumping, 2 restoring, 3 testing), generation, chunks still to write
(kind and index), the one being written, bytes written, start time, whether `PWRFAIL_N` came back, the reported
results, and what the media hold of this device's half: newest generation, complete, valid (not retired, R156), and the frames and
records it saves; `restored` lists the stripes restored from it and neither mirrored nor destaged since. -/
structure Vault where
  state : Nat := 0
  gen : Nat := 0
  todo : List (Nat × Nat) := []
  cur : Option Chunk := none
  done : Nat := 0
  flushed : Bool := false
  start : Nat := 0
  deasserted : Bool := false
  lastResult : Nat := 0
  lastBytes : Nat := 0
  lastTime : Nat := 0
  rate : Nat := 0
  mediaGen : Nat := 0
  mediaComplete : Bool := false
  mediaValid : Bool := false
  mediaEpoch : Nat := 0
  savedRecs : List JRec := []
  savedStripes : Tbl Stripe := []
  savedRegion : List MirrorFrame := []
  restored : List Nat := []
  retention : Option Nat := none
deriving DecidableEq, Repr

/-- A rebuild pass of a position (Table 5-8): state, cursor, bytes done, bytes at start, stripes since the last
checkpoint. -/
structure Pass where
  st : Nat := 0
  cursor : Nat := 0
  done : Nat := 0
  total : Nat := 0
  since : Nat := 0
deriving DecidableEq, Repr

/-- A critical pass (R175): the pair and its cursor (slot base, stripe). -/
structure Crit where
  a : Nat
  b : Nat
  base : Nat := 0
  stripe : Nat := 0
deriving DecidableEq, Repr

/-- An entry of the lost-block log (Table 5-4). -/
structure Lost where
  block : Nat := 0
  ns : Nat := 0
  cause : Nat := 0
  time : Nat := 0
deriving DecidableEq, Repr

/-- Darning (R163 to R204): passes by position, critical passes, LOST stripes, lost-block log by row, scrub and
relist cursors (stripe key numbers), stitches skipped for want of a target (R103), stripes a resync could not restore
(R149), stitches of SUSPECT stripes that a walk passed and left missing (R149), what a critical pass did for the position of its
pair that is still out, stripes since the last checkpoint of copy-backs and of the resync, `rb.rate`, `rb.ceiling`, `bg.rate` and
`rb.lat_p99`. -/
structure Darn where
  passes : Tbl Pass := []
  crits : List Crit := []
  lostStripes : List SKey := []
  log : Tbl (Option Lost) := []
  scrub : Nat := 0
  relist : Nat := 0
  relisting : Bool := false
  skipped : List (SKey × Nat) := []
  unsynced : List SKey := []
  unbuilt : List (SKey × Nat) := []
  claims : List (Crit × Nat) := []
  cbSince : Tbl Nat := []
  rsSince : Nat := 0
  rate : Nat := 0
  ceiling : Nat := 0
  bgRate : Nat := 0
  p99 : Nat := 0
deriving DecidableEq, Repr

/-- States of a member row (Table 10-3). -/
inductive MemSt where
  | absent | probing | inService | failing | failed | rebuilding | spare | retired
deriving DecidableEq, Repr

/-- `mem.state` codes. -/
def MemSt.code : MemSt → Nat
  | .absent => 0 | .probing => 1 | .inService => 2 | .failing => 3
  | .failed => 4 | .rebuilding => 5 | .spare => 6 | .retired => 7

/-- A member row, one per bay (R361). `grace` is the absent grace running; `resets` and `timeouts` the times of the last hour and minute; `media` the readings
of the last 24 h (time, count); `warn` the SMART critical warning byte. -/
structure Member where
  st : MemSt := .absent
  pos : Nat := 0xFF
  serial : Nat := 0
  model : Nat := 0
  capacity : Nat := 0
  reason : Nat := 0
  foreign : Bool := false
  temp : Nat := 0
  pctUsed : Nat := 0
  mediaErrors : Nat := 0
  ioQueues : Nat := 0
  hdrGen : Nat := 0
  grace : Bool := false
  resetting : Bool := false
  resets : List Nat := []
  timeouts : List Nat := []
  media : List (Nat × Nat) := []
  volatile : Bool := false
  warn : Nat := 0
deriving DecidableEq, Repr

/-- A drive link (Table 10-5): state, speed, width, path, `BAYn_PERST_N` level (true high), reference clock, whether
recovery is running, retrain attempts of R351. -/
structure DLink where
  st : Nat := 0
  speed : Nat := 0
  width : Nat := 0
  path : Nat := 0
  perst : Bool := false
  refclk : Bool := false
  recovering : Bool := false
  tries : Nat := 0
deriving DecidableEq, Repr

/-- What array metadata records of a position: its state and header generation (R361). -/
structure PosRec where
  st : Nat := 0
  gen : Nat := 0
deriving DecidableEq, Repr

/-- Drive links and members: rows by bay, recorded positions, outstanding member commands, next tag,
Aborts not yet answered (tag, bay; R359). -/
structure Drives where
  links : Tbl DLink := []
  mems : Tbl Member := []
  recs : Tbl PosRec := []
  cmds : List MCmd := []
  tag : Nat := 1
  aborts : List (Nat × Nat) := []
deriving DecidableEq, Repr

end Sys2Proof.Machine
end

