-- ==== Sys2Proof/Machine/PartBay.lean ====
section
/-!
DEFINITION. Machine/PartBay.lean: the state of the bay power channels on the Skamo die (chapter 11 of the manual).
-/

namespace Sys2Proof.Machine

/-- States of a rail (Table 11-2). -/
inductive RailSt where
  | off | seating | ramping | on | limiting | tripped | retryWait | lockedOut | observe
deriving DecidableEq, Repr

/-- `bay.state12` codes. -/
def RailSt.code : RailSt → Nat
  | .off => 0 | .seating => 1 | .ramping => 2 | .on => 3 | .limiting => 4 | .tripped => 5
  | .retryWait => 6 | .lockedOut => 7 | .observe => 8

/-- One rail of a bay: state, ramp started (none while its ramp has not), ON condition met in this run, fault timer
in µs and when it was last brought up to date, ORing state, SRC in mV and bay voltage, current and power of the last
1 ms window, energy in 2^-32 µJ, samples accumulated, sums of the running window (current, voltage, V × I), calibration running:
known current in mA, whether the rail stayed ON. -/
structure Rail where
  st : RailSt := .off
  ramp : Option Nat := none
  wasOn : Bool := false
  ftimer : Nat := 0
  ftAt : Nat := 0
  or_ : Nat := 0
  src : Nat := 0
  i : Int := 0
  v : Nat := 0
  p : Int := 0
  energy : Int := 0
  samples : Nat := 0
  sumI : Int := 0
  sumV : Nat := 0
  sumP : Int := 0
  cal : Option (Nat × Bool) := none
deriving DecidableEq, Repr

/-- A bay channel: rails, presence pins read low, debounced presence, when a running debounce completes, fault count, last
fault, `bay.retries` in force at the last trip, when the retry timer expires, when the good time ends that runs since both rails are
ON or LIMITING, commanded off: 0 no, 1 waiting t_perl, 2 the 12 V rail discharging; the
keeper's grant awaited its rails (R373); measurement: samples since Skamo power-on, sum of the powers of the running
second's samples and the largest of a 1 ms window, in 10^-10 W; mean and peak power of the last whole second in mW;
the partner's mean power in mW (R514). -/
structure Bay where
  r12 : Rail := {}
  r33 : Rail := {}
  a : Bool := false
  b : Bool := false
  deb : Bool := false
  debAt : Option Nat := none
  count : Nat := 0
  last : Nat := 0
  retries : Nat := 0
  retryAt : Nat := 0
  goodAt : Option Nat := none
  offing : Nat := 0
  granted : Option Nat := none
  n : Nat := 0
  secSum : Int := 0
  secMax : Int := 0
  pAvg : Int := 0
  pPeak : Int := 0
  partnerP : Nat := 0
deriving DecidableEq, Repr

end Sys2Proof.Machine
end

