-- ==== Sys2Proof/Machine/PartBoot.lean ====
section
/-!
DEFINITION. Machine/PartBoot.lean: the state of bring-up, resets and firmware images (chapter 15 of the manual) and of the
policy loops and watchdogs (chapter 16).
-/

namespace Sys2Proof.Machine

/-- A firmware slot (Tables 15-7 and 15-8): whether it holds the image of manufacture, bytes written since it was erased
(offset in the slot and value), the check of R493 its image failed when it was last verified (0 none). -/
structure FwSlot where
  factory : Bool := false
  image : Tbl Nat := []
  fail : Nat := 1
deriving DecidableEq, Repr

/-- What a reset waits for: its drain (R489), the vault dump of a commanded cold reset. `code` is `boot.last_reset`. -/
inductive ResetWait where
  | none
  | drain (code : Nat) (cold : Bool)
  | dump (code : Nat)
deriving DecidableEq, Repr

/-- A planned departure (R499): argument; whether LEAVE has been sent and the grace runs. -/
structure Depart where
  arg : Nat
  grace : Bool := false
deriving DecidableEq, Repr

/-- A WRITE whose firmware data waits for the erase (R503): its header and session, items answered, items to come. -/
structure FwWait where
  hdr : Hdr
  session : Session
  done : List Item
  rest : List Item
deriving DecidableEq, Repr

/-- The result of a probe that ended during S6 or S5 (R482, R484). -/
structure ProbeRes where
  bay : Nat
  fail : Nat
  serial : Nat
  model : Nat
  capacity : Nat
  queues : Nat
  volatile : Bool
  array : Nat
  gen : Nat
deriving DecidableEq, Repr

/-- A throttle loop (R508, R512): level, 10 ms passes below its lower point without a break. -/
structure Loop where
  lvl : Nat := 0
  below : Nat := 0
deriving DecidableEq, Repr

/-- Bring-up and resets: VAUX within tolerance, `PWRON_RST_N` low, `SVC_OPEN`, when the stage was entered, the reset under
way is a warm one, a reset or departure that waits, held after a departure, times spent in stages, probes of S6 and S5,
domains under a domain reset, when polls of the Skamo die stopped (R517). Firmware: active slot, trial slot with attempted,
slot running, whether it is an unconfirmed trial, a watchdog expiry since S7, the two slots, data writes waiting, OTP
minimum SVN and revoked keys. Loops: thermal, power, highest valid sensor, watts, level forced by the safety deadline (R516), time L last changed,
passes with L_p at 4 or above, watchdogs that expired once, telemetry lag. -/
structure Boot where
  vaux : Bool := false
  pwron : Bool := true
  svcOpen : Bool := false
  since : Nat := 0
  warm : Bool := false
  wait : ResetWait := .none
  depart : Option Depart := none
  hold : Bool := false
  times : Tbl Nat := []
  probed : List ProbeRes := []
  domains : List Nat := []
  silentAt : Option Nat := none
  active : Nat := 0
  trial : Option (Nat × Bool) := none
  running : Nat := 0
  isTrial : Bool := false
  wdSeen : Bool := false
  slots : List FwSlot := [{ factory := true, fail := 0 }, {}]
  fwWait : List FwWait := []
  otpSvn : Nat := 0
  revoked : Nat := 0
  therm : Loop := {}
  power : Loop := {}
  tj : Option Int := none
  watts : Nat := 0
  forced : Bool := false
  lvlAt : Nat := 0
  shedN : Nat := 0
  wdOnce : List Nat := []
deriving DecidableEq, Repr

end Sys2Proof.Machine
end

