-- ==== Sys2Proof/Machine/PartSkein.lean ====
section
/-!
DEFINITION. Machine/PartSkein.lean: the state of the skein, the twin link, takeover and moves (chapter 14 of the manual).
-/

namespace Sys2Proof.Machine

/-- The skein's view of this device: its row, pairing side (R452), partner's row, whether a partner is present (heard and
neither lost nor departed). -/
structure Skn where
  row : Option Nat := none
  side : Nat := 0
  partner : Option Nat := none
  present : Bool := false
deriving DecidableEq, Repr

/-- The body of a skein message (Table 14-3). -/
inductive SkBody where
  | heartbeat (stage flags owned dirver : Nat)
  | join (digest hosts : Nat)
  | welcome (deputy version : Nat) (dir : List DirEnt)
  | leave
  | dirUpdate (version : Nat) (dir : List DirEnt)
  | dirAck (version : Nat)
  | confirmQuery (row : Nat)
  | confirmReply (row : Nat) (missing : Bool) (ms : Nat)
  | takeoverRequest (cause : Nat)
  | takeoverNotice (lost adopted : Nat)
  | handover (nss : List Nat) (step : Nat)
deriving DecidableEq, Repr

/-- A skein message as sent (Table 14-2). -/
structure SkMsg where
  row : Nat
  role : Nat
  term : Nat
  seq : Nat
  sender : Nat
  auth : Bytes
  body : SkBody
deriving DecidableEq, Repr

/-- What a twin link frame carries (Table 14-5). -/
inductive TBody where
  | pair (dev side epoch : Nat) (region : Bool) (ceiling : Nat)
  | mirrorWrite (f : MirrorFrame)
  | mirrorAck (seqs : List Nat)
  | release (keys : List (Nat × SKey × Nat × Nat))
  | journal (recs : List JRec)
  | vaultNotice
  | keeper (m : KMsg)
  | proxyCmd (tag bay : Nat) (kind : MKind) (lba count : Nat) (data : List Blk)
  | proxyCpl (tag status : Nat) (data : List Blk)
  | skein (m : SkMsg)
deriving DecidableEq, Repr

/-- The twin link (R461 to R466): `twin.state`, held down for a wrong peer, PAIR exchanged since it came up, sequence
numbers sent and expected, frames sent and not yet acknowledged (the replay buffer), frames waiting for credit or PAIR,
how often each of them was resent, the peer's credit in KiB, whether a NAK is out for the present gap, traffic since the last
IDLE, the partner's epoch and this device's own when they last paired. -/
structure Twin where
  st : Nat := 0
  held : Bool := false
  paired : Bool := false
  tx : Nat := 0
  rx : Nat := 0
  replay : List (Nat × TBody) := []
  queue : List TBody := []
  resends : Tbl Nat := []
  credit : Nat := 0
  nakSent : Bool := false
  lastEpoch : Option Nat := none
  ownEpoch : Option Nat := none
deriving DecidableEq, Repr

/-- What this device knows of a skein row: last heard, within its view, highest `SEQ` accepted and the accepted ones of the
last 64, role claimed, whether it sent LEAVE. -/
structure SkRow where
  heard : Option Nat := none
  inView : Bool := false
  hi : Nat := 0
  accepted : List Nat := []
  role : Nat := 4
  left : Bool := false
deriving DecidableEq, Repr

/-- A directory row and a directory shelf (R475). -/
structure DirRow where
  role : Nat := 4
  view : Bool := false
  shelf : Nat := 0
deriving DecidableEq, Repr
structure DirShelf where
  state : Nat := 0
  array : Nat := 0
  free : Nat := 0
  count : Nat := 0
  digests : List Nat := []
deriving DecidableEq, Repr

/-- The directory as this device holds it (R475): version, rows, shelves, current side of a namespace of a shelf (key shelf
× 4,096 + row; side + 1), the changes the deputy has not acknowledged yet. -/
structure Directory where
  version : Nat := 0
  rows : Tbl DirRow := []
  shelves : Tbl DirShelf := []
  nss : Tbl Nat := []
  waiting : List DirEnt := []
deriving DecidableEq, Repr

/-- A takeover (R467 to R469): `tko.state`, whether own namespaces are held, time of the loss, time of the decision, the
contest's positions not yet asked, those asked, successes, members without reservation support, failures, whether the contest
waits to be repeated, whether the partner's namespaces were adopted and it has not come back since. -/
structure Tko where
  st : Nat := 0
  held : Bool := false
  lost : Bool := false
  lostAt : Nat := 0
  decided : Option Nat := none
  rest : List Nat := []
  asked : List Nat := []
  ok : Nat := 0
  none_ : Nat := 0
  failed : Nat := 0
  again : Bool := false
  adopted : Bool := false
deriving DecidableEq, Repr

/-- A move of namespaces between partners (R473): rows, start, whether this device's and the partner's commands have
drained, the action that asked for it (object code and row; none where the partner started it), what follows it (0 nothing,
1 LEAVE, 2 the departure's LEAVE and grace). -/
structure Move where
  nss : List Nat
  since : Nat
  mine : Bool := false
  theirs : Bool := false
  act : Option (Nat × Nat) := none
  next : Nat := 0
deriving DecidableEq, Repr

/-- The solo record of this side in the array header (R465): epoch, highest mirror sequence sent, superseded. -/
structure SoloRec where
  epoch : Nat
  mseq : Nat
  done : Bool := false
deriving DecidableEq, Repr

/-- The skein as this device sees it (R450 to R476). -/
structure Skein where
  role : Nat := 4
  term : Nat := 0
  mgr : Nat := 0xFF
  deputy : Nat := 0xFF
  seq : Nat := 0
  rows : Tbl SkRow := []
  dir : Directory := {}
  left : Bool := false
  peerSolo : Bool := true
  ceiling : Nat := 0
  twin : Twin := {}
  tko : Tko := {}
  move : Option Move := none
  solo : Option SoloRec := none
deriving DecidableEq, Repr

end Sys2Proof.Machine
end

