-- ==== Sys2Proof/Machine/PartNet.lean ====
section
/-!
DEFINITION. Machine/PartNet.lean: the state of the Ethernet ports, queue pairs, NVMe controllers, eyelets, chains,
the bobbin crossbar, the Tension unit and the policers (chapters 6, 7 and 9 of the manual).
-/

namespace Sys2Proof.Machine

/-- States of a QP (Table 6-3). -/
inductive QpSt where
  | idle | connecting | active | draining | error | fenced
deriving DecidableEq, Repr

/-- `qp.state` codes. -/
def QpSt.code : QpSt → Nat
  | .idle => 0 | .connecting => 1 | .active => 2 | .draining => 3 | .error => 4 | .fenced => 5

/-- Requests the device sends on a QP: RDMA WRITE (address, key, immediate), SEND (immediate, key to invalidate),
RDMA READ (address, key). -/
inductive TxKind where
  | write (va key : Nat) (imm : Option Nat)
  | send (imm inv : Option Nat)
  | read (va key : Nat)
deriving DecidableEq, Repr

/-- What a sent message serves: nothing more, the range of a write whose data it fetches, a chain work request. -/
inductive TxFor where
  | plain
  | fetch (cmd idx : Nat)
  | wr (slot idx : Nat)
deriving DecidableEq, Repr

/-- A message the device sent or is about to send: first PSN and packets of PSN space, kind, length, data
(little-endian), purpose, bytes of a READ's response received, whether it has its PSNs, the tenant group whose chain
issued it. -/
structure TxMsg where
  kind : TxKind
  len : Nat
  data : Nat
  for_ : TxFor
  psn : Nat := 0
  n : Nat := 0
  got : Nat := 0
  grp : Option Nat := none
deriving DecidableEq, Repr

/-- Requests that hold a responder resource (R267). -/
inductive RspKind where
  | read | flush | arm | disarm
deriving DecidableEq, Repr

/-- One of the last 16 requests of a QP with a response (R237, R267): PSN, packets of response, the eyelet access of
a read (key, offset, length), the response of a chain request, whether it is answered. -/
structure RspReq where
  psn : Nat
  n : Nat
  kind : RspKind
  key : Nat := 0
  off : Nat := 0
  len : Nat := 0
  resp : Option Nat := none
  done : Bool := false
deriving DecidableEq, Repr

/-- A block command past its checks (R246): identifier, opcode, namespace, first block, blocks, data pointer, protection fields. -/
structure NCmd where
  cid : Nat
  op : Nat
  ns : Nat
  slba : Nat
  nlb : Nat
  sgl : Sgl
  pr : PrInfo
deriving DecidableEq, Repr

/-- A queue pair (R227 to R240): state, host row, port and sub-port, entry of `gid`, remote MAC, address, QPN, VLAN,
path MTU, DSCP and class; the values adopted at admission; responder side: expected PSN, packets accepted since the
last ACK, NAK sent for the gap, last 16 requests with responses; requester side: next PSN, oldest unacknowledged PSN, unacknowledged
messages in order, messages waiting to be issued, READ limit, retries and RNR retries left, RNR wait with the PSN it
resends from; congestion: rates in Mb/s, target, alpha × 2^32, steps, time of the last reduction and of the last CNP
sent, CNP since the last alpha and rate periods; context: resident, fetch running, time of last use; NVMe queue: ID,
depth, controller, commands outstanding, completions so far; eyelets: write messages since the last FLUSH, whether
one went to a scratch eyelet, whether a covered write was aborted, packets held behind four knots; time it left
ACTIVE and `tp.drain_timeout` then, DREQ received; congestion control in force since the last CNP, a fetch that waits for room. -/
structure Qp where
  st : QpSt := .idle
  host : Nat := 0
  port : Nat := 0
  sub : Nat := 0
  gid : Nat := 0
  mac : Nat := 0
  ip : Nat := 0
  qpn : Nat := 0
  comm : Nat := 0
  vlan : Nat := 0
  mtu : Nat := 1024
  dscp : Nat := 0
  ackTimeout : Nat := 0
  retryCnt : Nat := 0
  rnrRetry : Nat := 0
  epsn : Nat := 0
  since : Nat := 0
  nak : Bool := false
  msn : Nat := 0
  rsps : List RspReq := []
  psn : Nat := 0
  una : Nat := 0
  tx : List TxMsg := []
  txq : List TxMsg := []
  maxReads : Nat := 16
  retries : Nat := 0
  rnrLeft : Nat := 0
  rnrWait : Option Nat := none
  rc : Nat := 0
  rt : Nat := 0
  alpha : Nat := 4294967296
  steps : Nat := 0
  cutAt : Option Nat := none
  cnpAt : Option Nat := none
  cnpA : Bool := false
  cnpR : Bool := false
  resident : Bool := false
  fetching : Bool := false
  used : Nat := 0
  qid : Nat := 0
  depth : Nat := 0
  ctrl : Option Nat := none
  cmds : List NCmd := []
  sqhd : Nat := 0
  writes : Nat := 0
  scratch : Bool := false
  aborted : Bool := false
  held : List Instr := []
  leftAt : Nat := 0
  drainMs : Nat := 0
  dreq : Bool := false
  rp : Bool := false
  fetchWait : Bool := false
deriving DecidableEq, Repr

/-- A REQ waiting for admission or answered (R228): how it came, what it carries. -/
structure ReqWait where
  k : Pkt
  q : CmReq
deriving DecidableEq, Repr

/-- An Asynchronous Event waiting to be completed: type, information, log page, detail of an owner notice, eyelet. -/
structure Aev where
  ty : Nat
  info : Nat
  page : Nat
deriving DecidableEq, Repr

/-- An NVMe controller (R241 to R251): CNTLID key, host, keep-alive seconds, traffic-based keep-alive, time of the
last keep-alive, CC and CSTS, host identifier, Asynchronous Event Configuration, outstanding AER command IDs, events
waiting, changed namespaces, error log (newest first), ANA change count.; whether it is a discovery controller. -/
structure Ctrl where
  host : Nat := 0
  admin : Nat := 0
  kato : Nat := 0
  tbkas : Bool := false
  kaAt : Nat := 0
  cc : Nat := 0
  csts : Nat := 0
  hostId : Nat := 0
  aecfg : Nat := 0
  aers : List Nat := []
  events : List Aev := []
  changed : List Nat := []
  errs : List (Nat × Nat) := []
  disc : Bool := false
deriving DecidableEq, Repr

/-- An eyelet entry (Table 7-1) with what the device needs beside it: a window commit running and its key cache
update, the times of the update points of its revocation and of its last window commit. -/
structure Eye where
  st : Nat := 0
  kind : Nat := 0
  perm : Nat := 0
  kgen : Nat := 0
  owner : Nat := 0
  svalid : Bool := false
  access : Nat := 0
  ns : Nat := 0
  check : Nat := 0
  base : Nat := 0
  len : Nat := 0
  wgen : Nat := 0
  viol : Nat := 0
  lastQp : Nat := 0
  lastCause : Nat := 0
  updating : Bool := false
  committing : Bool := false
  since : Nat := 0
  commitAt : Nat := 0
deriving DecidableEq, Repr

/-- Who accesses an eyelet: a QP, an endpoint function's window, a Shuttle channel, a ring job, a chain. -/
inductive Accessor where
  | qp (row : Nat)
  | peer (tag : Nat)
  | shtl (ch : Nat)
  | ring (r slot : Nat)
  | chain (slot wr : Nat)
deriving DecidableEq, Repr

/-- An admitted access (R260): accessor, eyelet row and the translation of its `WGEN`, its kind (write, knot write,
trigger payload, read, flush), offset and length, bytes received, data, hoop command, ranges delivered, whether it is
held behind earlier writes, placed, durable, first PSN and packets; of a trigger its chain slot and host. -/
inductive EyeAccKind where
  | write | knot | trigger | read | flush
deriving DecidableEq, Repr

/-- An admitted access. -/
structure EyeAcc where
  id : Nat
  who : Accessor
  kind : EyeAccKind
  row : Nat
  wgen : Nat
  ekind : Nat
  ns : Nat
  base : Nat
  off : Nat
  len : Nat
  psn : Nat
  n : Nat
  got : Nat := 0
  data : Nat := 0
  cmd : Option Nat := none
  issued : Bool := false
  placed : Bool := false
  durable : Bool := false
  slot : Nat := 0
  host : Nat := 0
deriving DecidableEq, Repr

/-- Consequences of a step for another unit, settled before the step ends: a detection, a twin link frame, a finished
storage request (NVMe status, data as a little-endian number, bytes), frames reserved for a range of a write whose
data is now wanted, eyelet work made durable. The list is empty between steps. -/
inductive Todo where
  | detect (det stype scope detail : Nat)
  | twin (b : TBody)
  | done (r : Req) (status data len : Nat)
  | fetch (r : Req) (cmd idx : Nat)
  /-- Every command outstanding on a bay fails (R354, R361). -/
  | memDown (bay : Nat)
  /-- A read was issued to a port in containment: it fails at once (R354). -/
  | readLost (tag : Nat)
  /-- A position entered or left IN_SERVICE: map and journal copies are looked at again (R79, R145). -/
  | posMoved
  /-- A warm reset follows (R157, R515). -/
  | warmReset
  /-- Packets of a QP held behind four knots may go on (R263). -/
  | rxMore (qp : Nat)
  /-- A namespace's ANA state changed on this device (R250). -/
  | ana (ns : Nat)
  /-- An interrupt cause of a function's MSI-X vector (R405). -/
  | irq (fn vec : Nat)
  /-- An eyelet access of the endpoint side ended: a read served, a write placed (status 0), or aborted for a cause. -/
  | acc (a : EyeAcc) (status data : Nat)
deriving DecidableEq, Repr

/-- States of a chain (Table 7-8). -/
inductive ChainSt where
  | empty | armed | running | done | failed | stopping
deriving DecidableEq, Repr

/-- `chain.state` codes. -/
def ChainSt.code : ChainSt → Nat
  | .empty => 0 | .armed => 1 | .running => 2 | .done => 3 | .failed => 4 | .stopping => 5

/-- A work request in flight: index, whether its part is over (data placed, last packet left), its status then, its
accesses to the source and destination eyelets, bytes of its source read so far. -/
structure WrRun where
  idx : Nat
  ended : Bool := false
  status : Nat := 1
  src : Option Nat := none
  dst : Option Nat := none
  pos : Nat := 0
deriving DecidableEq, Repr

/-- A chain slot (R275 to R280): state, chain eyelet, arming host, count, rearm, trigger scope, tag check, landing,
next work request to issue, requests in flight, a trigger held for want of a running place (order number), who waits
for a DISARM's answer (QP rows and PSNs), the LINK that triggered it while it is held. -/
structure Chain where
  st : ChainSt := .empty
  eye : Nat := 0xFFFF
  host : Nat := 0xFFFF
  count : Nat := 0
  rearm : Bool := false
  scope : Nat := 0
  tagchk : Nat := 0
  landKey : Nat := 0
  landOff : Nat := 0
  landLen : Nat := 0
  next : Nat := 0
  flight : List WrRun := []
  held : Option Nat := none
  waiting : List (Nat × Nat) := []
  linkFrom : Option (Nat × Nat) := none
deriving DecidableEq, Repr

/-- CM messages sent. -/
inductive CmOut where
  | rep (comm qpn psn resources mtu ackTimeout retry rnr : Nat)
  | rej (comm reason status : Nat)
  | dreq (comm qpn : Nat)
  | drep (comm qpn : Nat)
deriving DecidableEq, Repr

/-- What an Ethernet frame carries. -/
inductive FBody where
  /-- Acknowledge: remote QPN, PSN, AETH syndrome (0 ACK; 0x20 + code RNR; 0x60 sequence error; 0x61 invalid request;
  0x62 remote access error), MSN. -/
  | ack (qpn psn syndrome msn : Nat)
  | req (qpn psn : Nat) (kind : TxKind) (len data : Nat) (ackReq : Bool)
  | readResp (qpn psn len data : Nat)
  /-- FLUSH RESPONSE (0xC2) or CHAIN RESPONSE (0xC5) with its 8 bytes. -/
  | resp (op qpn psn value : Nat)
  | cnp (qpn : Nat)
  | cm (m : CmOut)
  | arp (addr : Nat)
  | neighbor (addr : Nat)
  | pause (prio quanta : Nat)
deriving DecidableEq, Repr

/-- A frame on its way out of an Ethernet port: sub-port, class, bytes from destination MAC to FCS, whether marking
applies to it (an RoCEv2 data frame), ECT, CE, its QP, its host, the tenant group whose chain issued it, the work
request whose last packet it is, whether it is held from a link-down, what it carries. -/
structure EFrame where
  port : Nat
  sub : Nat
  cls : Nat
  len : Nat
  data : Bool
  ect : Bool
  ce : Bool := false
  qp : Option Nat := none
  host : Nat := 0
  grp : Option Nat := none
  wr : Option (Nat × Nat) := none
  held : Bool := false
  body : FBody
deriving DecidableEq, Repr

/-- A shaper (R334 to R340): rate in Mb/s and burst in bytes in force, calendar position (1/256 slots from the
timebase's zero), tokens in 1/256 byte, whether its flow waits for the switch to bucket mode (R336). -/
structure Shaper where
  rate : Nat
  burst : Nat
  next : Nat := 0
  tokens : Nat := 0
  waits : Bool := false
deriving DecidableEq, Repr

/-- An Ethernet port: sub-port links up, PFC priorities paused by the partner with since when and the watchdog's time then, priorities whose PAUSE
is ignored, priorities we hold paused, frames assembled (by sub-port × 8 + class, oldest first), frames waiting for assembly (by
sub-port), whether a hold runs on a sub-port, whether its hold expired, shapers (key: kind × 2^20 + number; kind 0 QP, 1 host, 2
tenant group, 3 overflow), QPs on overflow entries, bucket mode, switch asked for, time the count fell to 960, deficits
by sub × 8 + class, class last served by sub, packets waiting for contexts, `tns.overhead` of the last refill in bucket mode. -/
structure Port where
  up : List Nat := []
  paused : Tbl (Option (Nat × Nat)) := []
  ignored : List Nat := []
  pausing : List Nat := []
  queues : Tbl (List EFrame) := []
  asm : Tbl (List EFrame) := []
  holding : List Nat := []
  flushed : List Nat := []
  shapers : Tbl (Option Shaper) := []
  spill : Tbl Nat := []
  bucket : Bool := false
  switching : Bool := false
  lowSince : Option Nat := none
  deficit : Tbl Nat := []
  last : Tbl Nat := []
  miss : List Instr := []
  overhead : Nat := 0
deriving DecidableEq, Repr

/-- A cell sent and not yet receipted (R316): flow (input, output, class), sequence, plane, transfer tag, last of its
transfer, unit's own re-sends of it. -/
structure SentCell where
  src : Nat
  dst : Nat
  cls : Nat
  seq : Nat
  plane : Nat
  tag : Nat
  eop : Bool
deriving DecidableEq, Repr

/-- A transfer waiting in an input queue: flow, cells left, tag. -/
structure XOrder where
  src : Nat
  dst : Nat
  cls : Nat
  cells : Nat
  tag : Nat
deriving DecidableEq, Repr

/-- A cell held in a hem's resequencing store. -/
structure HemCell where
  flow : Nat
  seq : Nat
  tag : Nat
  eop : Bool
deriving DecidableEq, Repr

/-- The crossbar (R314 to R332): input queues, replay stores, next sequence to send and expected sequence of a flow
(key src × 2^16 + dst × 2^8 + class), hem stores, replays asked for the present gap of a flow and the `bxb.gap_retries` in force for
it, cells held in output
buffers by dst × 8 + class and reserved in an output's hem store, frames of transfers under way by tag, next tag, last plane used by an input, CRC failures
and replays of a plane in the running 1 ms window, that window's start and limit. -/
structure Xbar where
  inq : List XOrder := []
  sent : List SentCell := []
  txSeq : Tbl Nat := []
  rxSeq : Tbl Nat := []
  hem : List HemCell := []
  retries : Tbl Nat := []
  gapMax : Tbl (Option Nat) := []
  occ : Tbl Nat := []
  frames : Tbl (Option EFrame) := []
  tag : Nat := 0
  rr : Tbl Nat := []
  errs : Tbl Nat := []
  resv : Tbl Nat := []
  window : Nat := 0
  errMax : Nat := 0
deriving DecidableEq, Repr

/-- A policer instance of one port (R341 to R345): tokens of its two buckets in 1/8000 byte (a rate of 1 Mb/s adds one
a nanosecond), time of its last packet; none until its first packet, for the buckets start full. -/
structure Policer where
  c : Nat
  e : Nat
  at_ : Nat
deriving DecidableEq, Repr

/-- The network side of the part. `errTimes` holds the times QPs of a host entered ERROR within the last second;
`admits` the times of admissions within the last second; `ram` the scratch region and chain store bytes; `notices`
the owner notices not yet read (host, code, eyelet); `anaCount` the ANA log change count. -/
structure Net where
  ports : Tbl Port := []
  qps : Tbl Qp := []
  reqs : List ReqWait := []
  answered : List (ReqWait × CmOut) := []
  admits : List Nat := []
  ctrls : Tbl (Option Ctrl) := []
  eyes : Tbl Eye := []
  accs : List EyeAcc := []
  nextAcc : Nat := 1
  chains : Tbl Chain := []
  heldSeq : Nat := 0
  xbar : Xbar := {}
  policers : Tbl (Option Policer) := []
  errTimes : Tbl (List Nat) := []
  ram : Tbl Nat := []
  notices : List (Nat × Nat × Nat) := []
  anaCount : Nat := 0
  plane : List Nat := []
deriving DecidableEq, Repr

end Sys2Proof.Machine
end

