-- ==== Sys2Proof/Machine/PartEp.lean ====
section
/-!
DEFINITION. Machine/PartEp.lean: the state of the local-attach endpoint, its work rings and the Shuttle channels (chapters 12
and 13 of the manual).
-/

namespace Sys2Proof.Machine

/-- What the endpoint sends. `fn` 0xFF stands for an IRing's access to device DRAM. -/
inductive Tlp where
  /-- A read request: its number, function, address, bytes, Relaxed Ordering. -/
  | read (id fn addr len : Nat) (ro : Bool)
  | write (fn addr len data : Nat) (ro : Bool)
  | msi (fn vec addr data : Nat)
  | intx (level : Bool)
  /-- Completion of a BAR2 read: requester, tag, status (0 success, 1 UR, 4 CA), bytes, data. -/
  | cpl (reqid tag status len data : Nat) (ro : Bool)
  /-- Completion of a configuration request: status (0, 1 UR, 2 Retry Status), value. -/
  | cfg (fn status value : Nat)
  /-- An error logged in AER, or its message: 1 UR, 4 CA, 5 poisoned TLP, 6 Completion Timeout, 7 Unexpected Completion,
  8 Uncorrectable Internal Error. -/
  | err (fn code : Nat)
deriving DecidableEq, Repr

/-- A vector of an MSI-X table. -/
structure MsixVec where
  addr : Nat := 0
  data : Nat := 0
  masked : Bool := true
deriving DecidableEq, Repr

/-- A function's configuration state and registers (Tables 12-1, 12-3): bus-master enable, D3hot, Interrupt Disable,
Relaxed Ordering Enable, sizes in bytes, completion timeout, MSI-X, BARs; the bits of `EP_FN_STATUS`, `EVT`,
`EP_CTO_LOG`; the MSI-X table and PBA. -/
structure EpFn where
  bme : Bool := false
  d3 : Bool := false
  memEn : Bool := false
  intxDis : Bool := false
  ro : Bool := true
  mps : Nat := 128
  mrrs : Nat := 512
  ctoSel : Nat := 0
  ctoDis : Bool := false
  msix : Bool := false
  fmask : Bool := false
  bar0 : Nat := 0
  bar2 : Nat := 0
  bmeStop : Bool := false
  cto : Bool := false
  unexp : Bool := false
  winErr : Bool := false
  evt : Bool := false
  ctoSrc : Nat := 0
  ctoCount : Nat := 0
  vecs : Tbl MsixVec := []
  pba : List Nat := []
deriving DecidableEq, Repr

/-- Registers of a peer window that a commit copies (Table 12-7), as written. -/
structure WinRegs where
  key : Nat := 0
  eoffLo : Nat := 0
  eoffHi : Nat := 0
  len : Nat := 0
  ctrl : Nat := 0
deriving DecidableEq, Repr

/-- A peer window: shadow, the set a running commit takes, active set, generation, status, error log, TLPs stalled by a
commit. -/
structure Win where
  sh : WinRegs := {}
  take_ : WinRegs := {}
  act : WinRegs := {}
  gen : Nat := 0
  busy : Bool := false
  result : Nat := 0
  err : Bool := false
  cause : Nat := 0
  reqid : Nat := 0
  off : Nat := 0
  stalled : List Instr := []
deriving DecidableEq, Repr

/-- What a host read serves: a ring fetch, data of a ring job, a Shuttle descriptor, its data, a barrier's zero-length
read. -/
inductive RdFor where
  | fetch (r : Nat)
  | job (r id : Nat)
  | desc (c : Nat)
  | data (c : Nat)
  | barrier (c : Nat)
deriving DecidableEq, Repr

/-- A read request: number, function, address, bytes, RO, purpose, offset of its data in what it serves, issued or still
waiting, whether its data is no longer wanted, and then until when a completion is dropped silently (none: it is
accepted and discarded). -/
structure PRead where
  id : Nat
  fn : Nat
  addr : Nat
  len : Nat
  ro : Bool
  who : RdFor
  off : Nat
  issued : Bool := false
  dead : Bool := false
  till : Option Nat := none
deriving DecidableEq, Repr

/-- Ring states (Table 13-5). -/
inductive RingSt where
  | disabled | running | stoppedErr | stoppedBme | frozen
deriving DecidableEq, Repr

/-- `ring.state` codes. -/
def RingSt.code : RingSt → Nat
  | .disabled => 0 | .running => 1 | .stoppedErr => 2 | .stoppedBme => 3 | .frozen => 4

/-- Bytes gathered: the data, and the pieces that are here (offset, length). -/
structure Gather where
  data : Nat := 0
  here : List (Nat × Nat) := []
deriving DecidableEq, Repr

/-- A job in flight (R425): its number, index of its `FIRST` entry, its entries, where it stands (0 fetched, 1 under way, 2
finished and waiting to land), status and detail, bytes transferred, host data gathered, its eyelet access, data of a
read not yet written to the host. -/
structure RJob where
  id : Nat
  idx : Nat
  ents : List Nat
  st : Nat := 0
  status : Nat := 0
  detail : Nat := 0
  xfer : Nat := 0
  buf : Gather := {}
  acc : Option Nat := none
  out : Option Nat := none
deriving DecidableEq, Repr

/-- A fetch read of a ring: number of the read, entries asked for, entries once they are here. -/
structure FetchRd where
  id : Nat
  n : Nat
  got : Option (List Nat) := none
deriving DecidableEq, Repr

/-- A ring (Tables 13-5, 13-6): state, fetch index, expected lap, configuration, latched error with the lap at `IDX`,
interrupt state, whether a signal waits for the holdoff and when that ends; active for arbitration, doorbell kept, in
the present round with its credit; reads outstanding, entries of the job being fetched, jobs in flight in ring order. -/
structure Ring where
  st : RingSt := .disabled
  fetch : Nat := 0
  lap : Bool := false
  strict : Bool := false
  strictOn : Bool := false
  weight : Nat := 1
  burst : Nat := 8
  base : Nat := 0
  log2 : Nat := 0
  vec : Nat := 0
  errIdx : Nat := 0
  errCause : Nat := 0
  errOfs : Nat := 0
  errLap : Bool := false
  pend : Bool := false
  holdoff : Nat := 0
  sigWait : Bool := false
  quiet : Option Nat := none
  active : Bool := false
  db : Bool := false
  inRound : Bool := false
  credit : Nat := 0
  reads : List FetchRd := []
  part : List Nat := []
  partIdx : Nat := 0
  partLap : Bool := false
  jobs : List RJob := []
deriving DecidableEq, Repr

/-- Channel states (Table 13-10). -/
inductive ChanSt where
  | idle | running | stopping | stopped | cqBlocked | error
deriving DecidableEq, Repr

/-- `sh.state` codes. -/
def ChanSt.code : ChanSt → Nat
  | .idle => 0 | .running => 1 | .stopping => 2 | .stopped => 3 | .cqBlocked => 4 | .error => 5

/-- A completion record (Table 13-9) and whether its descriptor signals. -/
structure CqRec where
  status : Nat
  detail : Nat
  bytes : Nat
  desc : Nat
  irq : Bool
deriving DecidableEq, Repr

/-- A descriptor under way (Table 13-7): its address and words, source bytes gathered, its accesses, whether every write was
issued, whether the barrier's reads were sent, the failure it met, bytes moved. -/
structure ShRun where
  addr : Nat
  word : Nat
  buf : Gather := {}
  sacc : Option Nat := none
  dacc : Option Nat := none
  fed : Nat := 0
  issued : Bool := false
  asked : Bool := false
  status : Nat := 1
  detail : Nat := 0
deriving DecidableEq, Repr

/-- A Shuttle channel (Tables 13-10, 13-11): state, `CQ_BP`, stopped by bus-master clear, `ENQ_OVF`, `PEND`, vector, lists
queued, low half of the next list address, current descriptor, completion queue, keys, bytes moved; address of the
next descriptor (0 none), whether its read is out, the descriptor under way, a record held and the state it left
the channel in, a pending `STOP`, host ranges written since the previous barrier (address of each last byte). -/
structure Chan where
  st : ChanSt := .idle
  cqBp : Bool := false
  bme : Bool := false
  enqOvf : Bool := false
  pend : Bool := false
  vec : Nat := 0
  fifo : List Nat := []
  enqLo : Nat := 0
  cur : Nat := 0
  cqBase : Nat := 0
  cqLog2 : Nat := 0
  cqHead : Nat := 0
  cqTail : Nat := 0
  tptr : Nat := 0
  keys : List Nat := [0, 0, 0, 0]
  bytes : Nat := 0
  next : Nat := 0
  asked : Bool := false
  run : Option ShRun := none
  held : Option CqRec := none
  after : ChanSt := .running
  stop : Bool := false
  ranges : List Nat := []
deriving DecidableEq, Repr

/-- The endpoint: functions, VF Enable and NumVFs, peer windows, containment (`REL_FAIL`), level of INTA, `EP_PERST_N` low,
reads in order of request with the next number, upstream turn (whether the channels have it, bytes it moved, channel
served, bytes of that channel's turn), posted TLPs held back while the peer write buffer is full, rings and last ring
served, next job number, channels. -/
structure Ep where
  fns : Tbl EpFn := []
  vfEnable : Bool := false
  numVfs : Nat := 0
  wins : Tbl Win := []
  relFail : Nat := 0
  inta : Bool := false
  perst : Bool := false
  reads : List PRead := []
  nextRd : Nat := 1
  shSide : Bool := false
  sideBytes : Nat := 0
  shTurn : Nat := 0
  shMoved : Nat := 0
  stalled : List Instr := []
  rings : Tbl Ring := []
  turn : Nat := 0
  nextJob : Nat := 1
  chans : Tbl Chan := []
deriving DecidableEq, Repr

end Sys2Proof.Machine
end

