-- ==== Sys2Proof/Machine/State.lean ====
section
/-!
DEFINITION. Machine/State.lean: the state of the part, plain data, and the state after reset.
-/

namespace Sys2Proof.Machine

/-- Reasons a command faults: the part raises none. -/
inductive Fault where
deriving DecidableEq, Repr

/-- Reasons a command is refused. -/
inductive Refusal where
  /-- Raised by exec's arm of a command that has no meaning yet. Safe: nothing is claimed of it. -/
  | notModelled (mnemonic : String)
deriving DecidableEq, Repr

/-- What the part sends out (the model's own record of it, newest first). -/
inductive Emit where
  /-- A Rendi response or notification, whole, to a carrier and source address. -/
  | rendi (c : Carrier) (src : Nat) (msg : Bytes)
  /-- Data the SMBus target returns (R70); the Alert Response Address is answered with the device's address. -/
  | smbus (data : Bytes)
  /-- A member command (R357): tag, bay, kind, member LBA, blocks, data written. -/
  | member (tag bay : Nat) (kind : MKind) (lba count : Nat) (data : List Blk)
  /-- A background write of a walk (rebuild, copy-back, migration, resync, relisting, zero initialisation): position,
  member LBA, blocks. -/
  | walkWrite (pos lba : Nat) (data : List Blk)
  /-- Zero full stripes written to every carrying stripe of a slot (R99): geometry, slot base. -/
  | zeroSlot (geo base : Nat)
  /-- An Abort, or a controller reset, of a member (R359). -/
  | memAbort (bay tag : Nat)
  | memReset (bay : Nat)
  /-- A block of array metadata written to a map copy's position (R78): metadata block number. -/
  | mapWrite (pos block : Nat)
  /-- A member header written (R80, R361). -/
  | header (pos : Nat)
  /-- A journal page written to a journal member (R141), a vault header or chunk (R152, R153), a Flush (R153). -/
  | journalPage (pos page : Nat)
  | vaultHeader (pos gen : Nat) (complete : Bool)
  | vaultChunk (pos gen index kind : Nat)
  | memFlush (pos : Nat)
  /-- An Ethernet frame sent on a port. -/
  | frame (f : EFrame)
  /-- A TLP or message of the endpoint, or an IRing's access to device DRAM. -/
  | pcie (t : Tlp)
  /-- A twin link frame: `SEQ`, `ACK`, `EPOCH`, body (Table 14-4); an IDLE or a NAK with its `ACK`. -/
  | twin (seq ack epoch : Nat) (b : TBody)
  | twinIdle (ack : Nat)
  | twinNak (ack : Nat)
  /-- A skein message to a row over a path (1 data ports, 2 management ports). -/
  | skein (path row : Nat) (m : SkMsg)
  /-- An ownership record (R469, R473), a solo record (R465) of array metadata, a Reservation Preempt of a key (R468). -/
  | ownership (ns side gen : Nat)
  | soloRec (side : Nat) (r : Option SoloRec)
  | preempt (pos key : Nat)
  /-- A halt, warm or cold, of the main die (chapter 15): which reset starts (Table 15-6 codes). -/
  | reset (code : Nat)
deriving DecidableEq, Repr

/-- The state of the part. `pending` is the queue of commands that wait, first in first out. `outbox` (what was sent, newest
first), `free` (the free values used so far, log entry 2), `todo` (consequences left for the end of a step; empty between steps)
are the model's own; so are the fields that parts of the state call that. `cnt` holds the reported values (RO objects kept as
such), by object code × 2^32 + row. `part` is fixed in manufacture (R2). The rest is the state of the units: timebase (R15), power
domains (R21, R22), dictionary (R31 to R49), Rendi (R50 to R65), mailbox (R68), SMBus (R70), detectors and event ring (R518 to
R529), fences (R291 to R299), MSQ pair (R300 to R313), placement (chapter 3), hoop, basting journal and vault (chapter 4),
darning (chapter 5), drive links and members (chapter 10), skein and twin link (chapter 14; `skn` what the other chapters ask of
it), network side (chapters 6, 7, 9), bay power channels (chapter 11), endpoint (chapters 12, 13), bring-up and policy loops
(chapters 15, 16). -/
structure State where
  pending : List Instr := []
  outbox : List Emit := []
  free : Nat := 0
  part : Part := .kv4896
  cnt : Tbl Nat := []
  clk : Clk := {}
  pd : Tbl Pd := []
  dict : Dict := {}
  rendi : Rendi := {}
  mbx : Mbx := {}
  smb : Smb := {}
  ev : Ev := {}
  fen : Fences := {}
  msq : Msq := {}
  todo : List Todo := []
  place : Place := {}
  hoop : Hoop := {}
  jour : Journal := {}
  vault : Vault := {}
  darn : Darn := {}
  drv : Drives := {}
  skn : Skn := {}
  sk : Skein := {}
  net : Net := {}
  bayCh : Tbl Bay := []
  ep : Ep := {}
  boot : Boot := {}
deriving DecidableEq, Repr

/-- The part before VAUX is present: every field at the default its declaration gives (0, off or empty, unless the manual
states another value). Of the reported values `therm.sensors` resets to 0xFFFF (Table 16-5) and `lbl.complete` to 1 (Table 5-9). -/
def State.reset : State := { cnt := [(0x210006 * 4294967296, 0xFFFF), (0x460203 * 4294967296, 1)] }

end Sys2Proof.Machine
end

