-- ==== Sys2Proof/Machine/Ops.lean ====
section
/-!
DEFINITION. Machine/Ops.lean: the named operations every family shares: counters and reported values, dictionary
values, free values, what is sent out, Rendi messages to a session, event records and detections (R518 to R525).
-/

namespace Sys2Proof.Machine

/-- The key of an object's row in the dictionary and counter tables. -/
def okey (code row : Nat) : Nat := code * 4294967296 + row

/-- A reported value (an RO object held as such). -/
def State.cntAt (s : State) (code row : Nat) : Nat := Tbl.get 0 s.cnt (okey code row)

/-- Sets a reported value. -/
def State.setCnt (s : State) (code row v : Nat) : State := { s with cnt := Tbl.set 0 s.cnt (okey code row) v }

/-- Counts up a counter of `w` bits. -/
def State.addCnt (s : State) (w code row d : Nat) : State :=
  { s with cnt := Tbl.upd 0 s.cnt (okey code row) (fun x => satAdd w x d) }

/-- Counts down a live number. -/
def State.subCnt (s : State) (code row d : Nat) : State :=
  { s with cnt := Tbl.upd 0 s.cnt (okey code row) (fun x => x - d) }

/-- Raises a high-water value. -/
def State.maxCnt (s : State) (code row v : Nat) : State :=
  { s with cnt := Tbl.upd 0 s.cnt (okey code row) (fun x => max x v) }

/-- Sends something out. -/
def State.emit (s : State) (e : Emit) : State := { s with outbox := e :: s.outbox }

/-- Leaves a consequence for the end of the step. -/
def State.later (s : State) (t : Todo) : State := { s with todo := s.todo ++ [t] }

/-- The next free value. -/
def State.fresh (s : State) : Nat := Config.draw s.free

/-- Uses up the free value. -/
def State.used (s : State) : State := { s with free := s.free + 1 }

/-- The objects of an index: number of rows (0 no table) and descriptors. -/
def objsOf (idx : Nat) : Option (Nat × List Desc) :=
  (objTable.find? (fun e => e.1 = idx)).map (fun e => e.2)

/-- The descriptor of an object code. -/
def findDesc (code : Nat) : Option Desc :=
  match objsOf (code / 256) with
  | some (_, ds) => ds.find? (fun d => d.sub = code % 256)
  | none => none

/-- Factory default of an object's row. -/
def dfltOf (code row : Nat) : Nat :=
  if code = Obj.dscpTc then row % 64 / 8
  else if code = Obj.ownHome then row % 2
  else if code = Obj.fnRingBase then (if row = 0 then 0 else 128 + 15 * (row - 1))
  else if code = Obj.fnRingCount then (if row = 0 then 128 else 15)
  else if code = Obj.fnShtlMask then (if row = 0 then 0xFFFFFFFF else 0)
  else
    match findDesc code with
    | some d => d.dflt
    | none => 0

/-- The effective value of an RW, RWC or WO object. -/
def State.rw (s : State) (code row : Nat) : Nat :=
  (Tbl.get none s.dict.eff (okey code row)).getD (dfltOf code row)

/-- The effective rows of an object that differ from its default. -/
def State.effRows (s : State) (code : Nat) : List (Nat × Nat) :=
  s.dict.eff.filterMap (fun e => if e.1 / 4294967296 = code then e.2.map (fun v => (e.1 % 4294967296, v)) else none)

/-- A table of values with one changed; a value equal to the default is not listed. -/
def setVal (t : Tbl (Option Nat)) (code row v : Nat) : Tbl (Option Nat) :=
  Tbl.set none t (okey code row) (if v = dfltOf code row then none else some v)

/-- Sets an effective value. -/
def State.setRw (s : State) (code row v : Nat) : State :=
  { s with dict := { s.dict with eff := setVal s.dict.eff code row v } }

/-- The pending value of an RWC object, if it has one. -/
def State.pendAt (s : State) (code row : Nat) : Option Nat := Tbl.get none s.dict.pend (okey code row)

/-- Sets a pending value (R41). -/
def State.setPend (s : State) (code row v : Nat) : State :=
  { s with dict := { s.dict with pend := Tbl.set none s.dict.pend (okey code row) (some v) } }

/-- Removes a pending value (R48). -/
def State.dropPend (s : State) (code row : Nat) : State :=
  { s with dict := { s.dict with pend := Tbl.drop s.dict.pend (okey code row) } }

/-- The state word of an ACT object: state [7:0], detail [31:8] (Table 2-1). -/
def State.actAt (s : State) (code row : Nat) : Nat := Tbl.get 0 s.dict.act (okey code row)

/-- Sets the state word of an ACT object. -/
def State.setAct (s : State) (code row st detail : Nat) : State :=
  { s with dict := { s.dict with act := Tbl.set 0 s.dict.act (okey code row) (st + 256 * detail) } }

/-- Action done. -/
def State.actDone (s : State) (code row : Nat) : State := s.setAct code row 2 0
/-- Action running. -/
def State.actRun (s : State) (code row : Nat) : State := s.setAct code row 1 0
/-- Action failed with a detail. -/
def State.actFail (s : State) (code row detail : Nat) : State := s.setAct code row 3 detail

/-- A STR value as one number: its bytes little-endian under a final 1. -/
def encStr (b : Bytes) : Nat := if b = [] then 0 else leNat (b ++ [1])

/-- The bytes of a STR value: `n` bounds their number. -/
def decStrN : Nat → Nat → Bytes
  | 0, _ => []
  | n + 1, x => if x ≤ 1 then [] else x % 256 :: decStrN n (x / 256)

/-- The bytes of a STR value of at most 255 bytes. -/
def decStr (x : Nat) : Bytes := decStrN 255 x

/-- The number of units of the part (R2, R3). -/
def State.bays (s : State) : Nat := match s.part with | .kv4896 => 48 | .kv2448 => 24
/-- Ethernet ports present. -/
def State.ports (s : State) : Nat := match s.part with | .kv4896 => 8 | .kv2448 => 4

/-- Whether the part is in stage S7 by its bring-up, kept as a reported value. -/
def State.inS7 (s : State) : Bool := s.cntAt Obj.bootStage 0 = 7

/-- The bytes of a header (Table 2-6), `AUTH` excluded. -/
def hdrBytes (kind op dup len session status detail seq rtag pend : Nat) : Bytes :=
  leBytes 4 (1 * 2 ^ 28 + kind * 2 ^ 26 + op * 2 ^ 20 + pend * 2 ^ 19 + dup * 2 ^ 18 + len % 65536)
    ++ leBytes 4 (session * 65536 + status * 256 + detail) ++ leBytes 4 seq ++ leBytes 4 rtag

/-- A message of a session: `AUTH` is the first 16 bytes of the HMAC over the header with `AUTH` zeroed and the
body (R56). -/
def authed (ks hdr body : Bytes) : Bytes :=
  hdr ++ (hmac ks (hdr ++ zeros 16 ++ body)).take 16 ++ body

/-- The 32 bytes of an event record (Table 16-4). -/
def Rec.bytes (r : Rec) : Bytes :=
  leBytes 8 r.time ++ leBytes 2 (r.det + r.stype * 4096) ++ [r.act + 128 * b2n r.inj, 0] ++ leBytes 4 r.scope
    ++ leBytes 2 r.rep ++ [0, 0] ++ leBytes 4 r.seq ++ leBytes 8 r.detail

/-- The session with an identifier and its row. -/
def State.findSession (s : State) (id : Nat) : Option (Nat × Session) :=
  s.rendi.sessions.findSome? (fun e => match e.2 with
    | some x => if x.id = id then some (e.1, x) else none
    | none => none)

/-- Replaces the session of a row. -/
def State.putSession (s : State) (row : Nat) (x : Option Session) : State :=
  { s with rendi := { s.rendi with sessions := Tbl.set none s.rendi.sessions row x } }

/-- Whether a subscription's carrier can take a notification now (R69: the mailbox holds one at a time). -/
def State.ntfReady (s : State) (x : Session) : Bool :=
  match x.carrier with
  | .mailbox => s.mbx.ntfEn && !s.mbx.ntfValid
  | _ => true

/-- Delivers a notification message. -/
def State.deliverNtf (s : State) (x : Session) (m : Bytes) : State :=
  match x.carrier with
  | .mailbox =>
    { s with mbx := { s.mbx with ntf := m, ntfLen := m.length, ntfValid := true }, todo := s.todo ++ [.irq 0 0] }
  | c => { s with outbox := .rendi c x.src m :: s.outbox }

/-- Sends one notification of a subscription with the records ready, at most 43 (R64). -/
def State.sendNtf (s : State) (id : Nat) : State :=
  match s.rendi.subs.find? (fun b => b.id = id) with
  | none => s
  | some b =>
    match s.findSession b.session with
    | none => s
    | some (row, x) =>
      if b.unsent = [] ∨ s.ntfReady x = false then s
      else
        let now := b.unsent.take 43
        let body := leBytes 2 b.id ++ leBytes 2 now.length ++ leBytes 4 b.lost ++ (now.map Rec.bytes).flatten
        let m := authed x.ks (hdrBytes 2 0x0C 0 body.length x.id 0 0 x.ntfSeq 0 0) body
        let s1 := s.putSession row (some { x with ntfSeq := wrapAdd 32 x.ntfSeq 1 })
        let subs := updWhere (fun c => c.id = id) (fun c => { c with unsent := c.unsent.drop 43, lost := 0 }) s.rendi.subs
        let s2 := { s1 with rendi := { s1.rendi with subs := subs } }
        s2.deliverNtf x m

/-- Whether a subscription selects a record (R63). -/
def Subn.wants (b : Subn) (r : Rec) : Bool := bit b.groups (r.det / 256) && bit b.scopes r.stype

/-- A subscription after a record: held, or counted as lost beyond 256 (R64). -/
def Subn.take (b : Subn) (r : Rec) : Subn :=
  if b.wants r then (if b.unsent.length < 256 then { b with unsent := b.unsent ++ [r] } else { b with lost := satAdd 32 b.lost 1 })
  else b

/-- Sends the notifications that 43 ready records cause (R64). -/
def State.sendFull (s : State) : State :=
  (s.rendi.subs.filter (fun b => 43 ≤ b.unsent.length)).foldl (fun t b => t.sendNtf b.id) s

/-- Slots of the event ring. -/
def ringSlots : Nat := 2097152

/-- Writes a record with the next `SEQ` into its slot, and reports it to subscriptions and SMBus (R523, R64, R70). -/
def State.ringPut (s : State) (r0 : Rec) : State :=
  let r := { r0 with seq := s.ev.next % 4294967296 }
  let slot := r.seq % ringSlots
  let lost := (Tbl.get {} s.ev.ring slot).det ≠ 0 ∧ s.rw Obj.evtHold 0 = 0
  let s1 := { s with
    ev := { s.ev with ring := Tbl.set {} s.ev.ring slot r, next := wrapAdd 32 s.ev.next 1 }
    cnt := Tbl.upd 0 s.cnt (okey Obj.evtOverwritten 0) (fun x => satAdd 64 x (if lost then 1 else 0))
    smb := { s.smb with groups := orBit s.smb.groups (r.det / 256), count := satAdd 16 s.smb.count 1, last := r.seq }
    rendi := { s.rendi with subs := s.rendi.subs.map (fun b => Subn.take b r) } }
  s1.sendFull

/-- Whether the ring is full under `evt.hold` (R524). -/
def State.ringFull (s : State) : Bool :=
  s.rw Obj.evtHold 0 = 1 ∧ s.ev.ring ≠ [] ∧
    ringSlots ≤ (s.ev.next + 4294967295 - s.rw Obj.evtAckSeq 0) % 4294967296

/-- Drops a record: it consumes its `SEQ` (R524). -/
def State.ringDrop (s : State) : State :=
  { s with
    ev := { s.ev with next := wrapAdd 32 s.ev.next 1, dropN := s.ev.dropN + 1
                      dropFirst := if s.ev.dropN = 0 then s.ev.next else s.ev.dropFirst }
    cnt := Tbl.upd 0 s.cnt (okey Obj.evtOverflow 0) (fun x => satAdd 32 x 1) }

/-- The overflow summary record (R525). -/
def State.overflowSummary (s : State) : Rec :=
  { time := s.clk.ns, det := 0xE04, stype := 0, act := 6, scope := 0, rep := min s.ev.dropN 65535
    detail := s.ev.dropFirst + s.ev.dropN * 4294967296 }

/-- Writes the summary of earlier drops, if there are any. -/
def State.summarise (s : State) : State :=
  if s.ev.dropN = 0 then s
  else
    let t := s.ringPut s.overflowSummary
    { t with ev := { t.ev with dropN := 0, dropFirst := 0 } }

/-- Records held in the detector log before the ring opens. -/
def logSlots : Nat := 16384

/-- Writes an event record: into the on-die log while the ring is closed, else into the ring (R523 to R525). -/
def State.record (s : State) (r : Rec) : State :=
  if s.ev.isOpen = false then
    if s.ev.pre.length < logSlots then { s with ev := { s.ev with pre := s.ev.pre ++ [r] } }
    else { s with ev := { s.ev with preDrop := s.ev.preDrop + 1 } }
  else if s.ringFull then s.ringDrop
  else
    let t := s.summarise
    if t.ringFull then t.ringDrop else t.ringPut r

/-- Opens the ring (R523): the log's records take their `SEQ` in order, then the detections it dropped consume
theirs and the summary reports them. `keep` keeps the records of before a warm reset. -/
def State.openRing (s : State) (keep : Bool) : State :=
  let s0 := { s with ev := { s.ev with isOpen := true, pre := [], preDrop := 0
                                       ring := if keep then s.ev.ring else []
                                       next := if keep then s.ev.next else 0
                                       dropN := if keep then s.ev.dropN else 0
                                       dropFirst := if keep then s.ev.dropFirst else 0 } }
  let s1 := s.ev.pre.foldl (fun t r => t.record r) s0
  if s.ev.preDrop = 0 then s1
  else
    let s2 := { s1 with
      ev := { s1.ev with next := wrapAdd 32 s1.ev.next s.ev.preDrop, dropN := s1.ev.dropN + s.ev.preDrop
                         dropFirst := if s1.ev.dropN = 0 then s1.ev.next else s1.ev.dropFirst }
      cnt := Tbl.upd 0 s1.cnt (okey Obj.evtOverflow 0) (fun x => satAdd 32 x s.ev.preDrop) }
    if s2.ringFull then s2 else s2.summarise

/-- Detectors whose scope can be more than one type (R518). -/
def multiScope (det : Nat) : Bool :=
  det ∈ [0x201, 0x501, 0x503, 0x701, 0x702, 0xE09, 0xE0A, 0xE0B]

/-- The row of `det.count` of an instance (R518). -/
def detRow (det stype scope : Nat) : Nat :=
  if stype = 0 then 0 else if multiScope det then stype * 65536 + scope else scope

/-- The key of a detector's count. -/
def detKey (det row : Nat) : Nat := det * 1099511627776 + row

/-- Detections counted of an instance. -/
def State.detCount (s : State) (det row : Nat) : Nat := Tbl.get 0 s.ev.counts (detKey det row)

/-- Counts a detection and writes its record, or counts it as a repeat within the coalescing window (R519, R522). -/
def State.noteInj (s : State) (inj : Bool) (det stype scope act detail : Nat) : State :=
  let counts := Tbl.upd 0 s.ev.counts (detKey det (detRow det stype scope)) (fun x => satAdd 32 x 1)
  let s1 := { s with ev := { s.ev with counts := counts } }
  let here := fun (c : Coal) => c.det = det ∧ c.stype = stype ∧ c.scope = scope
  if s1.ev.coal.any (fun c => here c) then
    let coal := updWhere (fun c => here c)
      (fun c => { c with supp := c.supp + 1, time := s1.clk.ns, detail := detail, inj := inj }) s1.ev.coal
    { s1 with ev := { s1.ev with coal := coal } }
  else
    let s2 := s1.record { time := s1.clk.ns, det := det, stype := stype, act := act, inj := inj, scope := scope
                          rep := 1, detail := detail }
    if s.rw Obj.evtCoalesce 0 = 0 then s2
    else { s2 with ev := { s2.ev with coal := s2.ev.coal ++ [⟨det, stype, scope, 0, s1.clk.ns, detail, inj⟩] } }

/-- Whether an injection sets a detector's condition in this step. -/
def State.forced (s : State) (det : Nat) : Bool := s.ev.force = some det

/-- A detection counted and recorded; `INJ` where an injection set its condition. -/
def State.note (s : State) (det stype scope act detail : Nat) : State := s.noteInj (s.forced det) det stype scope act detail

/-- The throttle level L (R508, R516). -/
def State.level (s : State) : Nat := if s.boot.forced then 8 else max s.boot.therm.lvl s.boot.power.lvl

/-- Whether the twin link carries frames: up, and PAIR exchanged (R461, R466). -/
def State.twinUp (s : State) : Bool := decide (2 ≤ s.sk.twin.st) && s.sk.twin.paired

/-! ### Power domains -/

/-- A row of `0x2010 pd`. -/
def State.pdAt (s : State) (r : Nat) : Pd := Tbl.get {} s.pd r

/-- Changes a row of `0x2010 pd`. -/
def State.updPd (s : State) (r : Nat) (f : Pd → Pd) : State := { s with pd := Tbl.upd {} s.pd r f }

/-- Moves an internal domain to a state; time in ON is counted (`pd.on_time`). -/
def State.pdTo (s : State) (r : Nat) (st : PdState) : State :=
  s.updPd r (fun d => { d with
    st := st
    onTime := if d.st = .on ∧ st ≠ .on then d.onTime + (s.clk.ns - d.onAt) else d.onTime
    onAt := if d.st ≠ .on ∧ st = .on then s.clk.ns else d.onAt })

/-! ### Fence bits -/

/-- The key of a unit's fence bit. -/
def fenKey (stype id : Nat) : Nat := stype * 4294967296 + id

/-- The row of a scope in FENCED or DRAINING. -/
def State.fenRowOf (s : State) (stype id : Nat) : Option Nat :=
  (s.fen.rows.find? (fun e => e.2.scope = stype && e.2.id = id && (e.2.st = .fenced || e.2.st = .draining))).map
    (fun e => e.1)

/-- Whether a scope's own fence bit is set. -/
def State.isFenced (s : State) (stype id : Nat) : Bool :=
  (s.fenRowOf stype id).isSome || Tbl.get 0 s.fen.loose (fenKey stype id) = 1

/-- The unit of a scope is put back in service: its RELEASED row is freed (Table 8-3). -/
def State.fenServe (s : State) (stype id : Nat) : State :=
  { s with fen := { s.fen with rows := Tbl.mapRows {} (fun _ f =>
      if f.scope = stype ∧ f.id = id ∧ f.st = .released then {} else f) s.fen.rows } }

/-- The owning chapter's own action ends a fence of its scope: FENCED to RELEASED without DRAINING (Table 8-3). -/
def State.fenLet (s : State) (stype id : Nat) : State :=
  match s.fenRowOf stype id with
  | none => s
  | some row =>
    let t : State := { s with fen := { s.fen with rows := Tbl.upd {} s.fen.rows row (fun f => { f with st := .released }) } }
    t.later (.detect 0xE0A stype id 0)

/-- Whether the device scope is fenced: it covers every unit (R296). -/
def State.devFenced (s : State) : Bool := s.isFenced 0 0

/-- Whether a unit is blocked by its own fence or the device's (R296). -/
def State.blocked (s : State) (stype id : Nat) : Bool := s.isFenced stype id || s.devFenced

/-- Whether a darning engine is ON and not fenced (R166). -/
def State.darnUp (s : State) (n : Nat) : Bool := (Tbl.get {} s.pd (28 + n)).st = .on && !s.isFenced 10 (64 + n)

/-- The darning engines that take work, in ascending order. -/
def State.engines (s : State) : List Nat := (List.range 4).filter s.darnUp

end Sys2Proof.Machine
end

