-- ==== Sys2Proof/Machine/Rendi.lean ====
section
/-!
DEFINITION. Machine/Rendi.lean: Rendi messages: admission, sessions, items, addresses, value checks, responses
(R31 to R37, R50 to R67), and the shape every dictionary-borne command shares.
-/

namespace Sys2Proof.Machine

/-! ### Addresses -/

/-- Whether a detector is in Table 16-3 at group G, index II. -/
def detExists (det : Nat) : Bool :=
  let lim : List Nat := [6, 4, 5, 6, 7, 5, 9, 6, 9, 5, 0xA, 0xA, 0xA, 9, 0xB]
  1 ≤ det % 256 && det % 256 ≤ lim.getD (det / 256) 0

/-- A code and row, where the code names an object that takes the row flag as given. -/
def plainAddr (tab : Bool) (code row : Nat) : Option (Nat × Nat) :=
  match findDesc code with
  | some d => if d.row = tab then some (code, row) else none
  | none => none

/-- An item's address as object code and row; none where the index, subindex or row flag names no object (R31,
R33, R51). Numbered indexes take their number as the row (R254, R395), pattern tables geometry × 65,536 + row. -/
def resolve (idx sub flags row : Nat) : Option (Nat × Nat) :=
  let tab := bit flags 0
  let plain := plainAddr tab
  if 0x3000 ≤ idx ∧ idx ≤ 0x302F then plain (0x300000 + sub) (idx - 0x3000)
  else if 0x3100 ≤ idx ∧ idx ≤ 0x312F then plain (0x310000 + sub) (idx - 0x3100)
  else if 0x5000 ≤ idx ∧ idx ≤ 0x5007 then plain (0x500000 + sub) (idx - 0x5000)
  else if 0x4010 ≤ idx ∧ idx ≤ 0x4017 then
    if row < 65536 then plain (0x401000 + sub) ((idx - 0x4010) * 65536 + row) else none
  else if 0x2200 ≤ idx ∧ idx ≤ 0x220E then
    if tab ∧ detExists ((idx - 0x2200) * 256 + sub) then some (idx * 256 + sub, row) else none
  else if 0x2210 ≤ idx ∧ idx ≤ 0x221E then
    if tab ∧ detExists ((idx - 0x2210) * 256 + sub) then some (idx * 256 + sub, row) else none
  else plain (idx * 256 + sub) row

/-- The item address of an object code and row. -/
def addrOf (code row : Nat) : Nat × Nat × Nat × Nat :=
  let idx := code / 256
  let sub := code % 256
  if idx = 0x3000 ∨ idx = 0x3100 ∨ idx = 0x5000 then (idx + row, sub, 0, 0)
  else if idx = 0x4010 then (idx + row / 65536, sub, 1, row % 65536)
  else if 0x2200 ≤ idx ∧ idx ≤ 0x221E then (idx, sub, 1, row)
  else
    match findDesc code with
    | some d => if d.row then (idx, sub, 1, row) else (idx, sub, 0, 0)
    | none => (idx, sub, 0, 0)

/-- Whether a row of a table belongs to a unit of this part (R2, R3). -/
def State.unitPresent (s : State) (code row : Nat) : Bool :=
  let idx := code / 256
  if idx = 0x3000 ∨ idx = 0x3100 ∨ idx = 0x3200 ∨ idx = 0x3201 ∨ idx = 0x4502 then row < s.bays
  else if idx = 0x5000 ∨ idx = 0x6004 ∨ idx = 0x6100 then row < s.ports
  else if idx = 0x5101 ∨ idx = 0x5102 then row / 64 < s.ports
  else if idx = 0x6003 then row / 8 < s.ports
  else if idx = 0x6002 then
    s.part = .kv4896 || !((4 ≤ row && row ≤ 7) || (11 ≤ row && row ≤ 13))
  else if idx = 0x2010 then
    s.part = .kv4896 || !((4 ≤ row && row ≤ 7) || (12 ≤ row && row ≤ 14) || 92 ≤ row)
  else if idx = 0x4003 then row < s.rw Obj.placeSpareLanes 0
  else if code = Obj.pcolPcp then row < 8
  else true

/-- Whether a row is within its table. -/
def rowInTable (code row : Nat) : Bool :=
  match objsOf (code / 256) with
  | some (n, _) => n = 0 || row < n || code / 256 = 0x4010
  | none => 0x2200 ≤ code / 256 && code / 256 ≤ 0x221E

/-- Whether an address names a present object (R31). -/
def State.present (s : State) (code row : Nat) : Bool := rowInTable code row && s.unitPresent code row

/-! ### Values -/

/-- Length in bytes of a type of fixed length. -/
def Ty.len : Ty → Nat
  | .bool => 1 | .u8 => 1 | .u16 => 2 | .i16 => 2 | .u32 => 4 | .i32 => 4 | .q16 => 4 | .u64 => 8
  | .table => 12 | .action => 4 | .str => 0

/-- The bytes of a value (Table 2-1). -/
def encValue (ty : Ty) (v : Nat) : Bytes :=
  match ty with
  | .str => decStr v
  | t => leBytes t.len v

/-- Whether nibbles `0..n-1` of a word are in `lo..hi` and the rest are 0. -/
def nibblesIn (n lo hi v : Nat) : Bool :=
  (List.range n).all (fun i => lo ≤ bits v (4 * i) 4 && bits v (4 * i) 4 ≤ hi) && v / 2 ^ (4 * n) = 0

/-- Whether a value is within an object's range (R7, R34). -/
def State.inRange (s : State) (code row : Nat) (d : Desc) (v : Nat) : Bool :=
  let listed := d.rng = [] || d.rng.any (fun r => r.1 ≤ v && v ≤ r.2.1 && (v - r.1) % r.2.2 = 0)
  let more :=
    if code = Obj.bxbIntWeight then nibblesIn 5 1 15 v
    else if code = Obj.tnsWeights then nibblesIn 7 1 15 v
    else if code = Obj.ethTcPcp then nibblesIn 8 0 7 v
    else if code = Obj.ethPfcXon then v + 32 ≤ s.rw Obj.ethPfcXoff row
    else if code = Obj.bgFloor then v ≤ s.rw Obj.bgMax 0
    else if code = Obj.bgMax then s.rw Obj.bgFloor 0 ≤ v
    else true
  listed && more

/-- A written value checked against its type and range (R34): the item status and the value. -/
def State.checkValue (s : State) (code row : Nat) (d : Desc) (b : Bytes) : Nat × Nat :=
  match d.ty with
  | .str =>
    if d.strMax < b.length then (0x06, 0) else if utf8Ok b then (0, encStr b) else (0x04, 0)
  | t =>
    if b.length ≠ t.len then (0x06, 0)
    else if t = .bool ∧ 1 < leNat b then (0x04, 0)
    else if s.inRange code row d (leNat b) then (0, leNat b) else (0x04, 0)

/-! ### Items on the wire -/

/-- An item as sent (R51). -/
def itemBytes (i : Item) : Bytes :=
  leBytes 2 i.idx ++ [i.sub % 256, i.flags % 256] ++ leBytes 4 i.row ++ leBytes 2 i.len ++ [i.stat % 256, 0] ++ i.value
    ++ pad4 i.value.length

/-- A body of items. -/
def encItems (l : List Item) : Bytes := (l.map itemBytes).flatten

/-- Reads the items of a body; none where its structure is invalid. `n` bounds their number. -/
def decItems : Nat → Bytes → Option (List Item)
  | _, [] => some []
  | 0, _ => none
  | n + 1, b =>
    if b.length < 12 then none
    else
      let len := leNat ((b.drop 8).take 2)
      let whole := 12 + len + (4 - len % 4) % 4
      -- a READ request's item carries no value: its length is 0
      if b.length < whole then none
      else
        (decItems n (b.drop whole)).map (fun r =>
          ⟨leNat (b.take 2), b.getD 2 0, b.getD 3 0, leNat ((b.drop 4).take 4), len, b.getD 10 0,
            (b.drop 12).take len⟩ :: r)

/-- Whether a request item's own fields are malformed: reserved flag bits, a status, a row without `ROW`, a value
in a READ (R51). -/
def itemBad (op : Nat) (i : Item) : Bool :=
  i.flags / 2 ≠ 0 || i.stat ≠ 0 || (i.flags % 2 = 0 && i.row ≠ 0) || (op = 0x08 && i.len ≠ 0)

/-- The answer to an item. -/
structure ItemRes where
  stat : Nat := 0
  value : Bytes := []
  pend : Bool := false
deriving DecidableEq, Repr

/-- The response item of a request item. -/
def answer (i : Item) (r : ItemRes) : Item :=
  ⟨i.idx, i.sub, i.flags % 2 + 2 * b2n r.pend, i.row, r.value.length, r.stat, r.value⟩

/-- What a request is answered with: message status, detail, body. -/
structure Reply where
  status : Nat := 0
  detail : Nat := 0
  body : Bytes := []
deriving DecidableEq, Repr

/-- The reply that carries items: ITEM_ERROR when one failed (Table 2-8). -/
def itemsReply (l : List Item) : Reply :=
  { status := if l.any (fun i => i.stat ≠ 0) then 0x10 else 0, body := encItems l }

/-! ### Messages out -/

/-- Hands a response to its carrier. The mailbox takes it only while `RSP_VALID` is 0 and interrupts (R69). -/
def State.respond (s : State) (h : Hdr) (m : Bytes) : State :=
  match h.carrier with
  | .mailbox =>
    if s.mbx.rspValid then { s with mbx := { s.mbx with waiting := s.mbx.waiting ++ [m] } }
    else { s with mbx := { s.mbx with rsp := m, rspLen := m.length, rspValid := true }, todo := s.todo ++ [.irq 0 0] }
  | c => { s with outbox := .rendi c h.src m :: s.outbox }

/-- An unauthenticated answer: `SESSION` 0, `AUTH` zero (R56). -/
def State.respondBare (s : State) (h : Hdr) (op status detail : Nat) (body : Bytes) : State :=
  s.respond h (hdrBytes 1 op 0 body.length 0 status detail h.seq h.rtag 0 ++ zeros 16 ++ body)

/-- A cached or new response of a session. -/
def State.respondAs (s : State) (h : Hdr) (x : Session) (dup : Nat) (c : Cached) : State :=
  s.respond h (authed x.ks (hdrBytes 1 c.op dup c.body.length x.id c.status c.detail c.seq c.rtag 0) c.body)

/-! ### Sessions -/

/-- Closes the session of a row and removes its subscriptions (R58). -/
def State.closeSession (s : State) (row : Nat) : State :=
  match Tbl.get none s.rendi.sessions row with
  | none => s
  | some x =>
    { s with rendi := { s.rendi with sessions := Tbl.set none s.rendi.sessions row none
                                     subs := s.rendi.subs.filter (fun b => b.session ≠ x.id) } }

/-- Closes every session that satisfies `p`. -/
def State.closeSessions (s : State) (p : Session → Bool) : State :=
  s.rendi.sessions.foldl (fun t e => match e.2 with
    | some x => if p x then t.closeSession e.1 else t
    | none => t) s

/-- Sessions open. -/
def State.openCount (s : State) : Nat := s.rendi.sessions.length

/-- Finishes a request: the response is sent and cached, unless its session closed meanwhile (R57, R58). -/
def State.finish (s : State) (h : Hdr) (op : Nat) (x : Session) (r : Reply) : State :=
  match s.findSession x.id with
  | none => s
  | some (row, y) =>
    let c : Cached := ⟨h.seq, op, r.status, r.detail, h.rtag, r.body⟩
    (s.putSession row (some { y with cache := (c :: y.cache).take 16 })).respondAs h y 0 c

/-- Whether a management port is enabled and its link is up (R72). -/
def State.mportUp (s : State) (n : Nat) : Bool := s.rw Obj.mportMode n ≠ 0 && s.cntAt Obj.mportLink n = 1

/-- Whether an address lies in an enabled row of `0x1402 allow` (R67). -/
def State.allowed (s : State) (ip : Nat) : Bool :=
  (List.range 32).any (fun r =>
    let p := s.rw Obj.allowPrefix r
    p ≠ 0 && ip / 2 ^ (32 - p) = s.rw Obj.allowIpv4 r / 2 ^ (32 - p))

/-- Whether a message reaches Rendi over its carrier (R66 to R69). -/
def State.carried (s : State) (h : Hdr) : Bool :=
  let port := h.dport = s.rw Obj.rendiUdpPort 0 ||
    (match s.findSession h.session with | some (_, x) => x.dport = h.dport | none => false)
  match h.carrier with
  | .mailbox => true
  | .meth n => n < 2 && s.mportUp n && !h.frag && port
  | .inband p v =>
    port && !h.frag && s.rw Obj.rendiInbandEnable 0 = 1 && p < s.ports && bit (s.rw Obj.rendiInbandPorts 0) p
      && v = s.rw Obj.rendiInbandVlan 0 && s.allowed h.src

/-- Longest body of a carrier (R65). -/
def bodyMax : Carrier → Nat
  | .mailbox => 4064
  | _ => 1408

/-- Opcodes of Table 2-7. -/
def knownOp (op : Nat) : Bool := op ∈ [0x01, 0x02, 0x03, 0x08, 0x09, 0x0A, 0x0B, 0x0C, 0x0D]

/-- What admission decides about a message. -/
inductive Adm where
  | lost (rendiDrop : Bool)
  | bare (status detail : Nat)
  | badTag
  | replay (row : Nat) (x : Session)
  | again (x : Session) (c : Cached)
  | busy (row : Nat) (x : Session)
  | go (row : Nat) (x : Session)
deriving DecidableEq, Repr

/-- Whether `SEQ` is accepted: above every accepted number, or within the window and new (R57). -/
def Session.accepts (x : Session) (seq : Nat) : Bool :=
  x.hi < seq || (1 ≤ seq && x.hi < seq + 64 && !(x.accepted.contains seq))

/-- A session after accepting a number. -/
def Session.accept (x : Session) (seq now : Nat) : Session :=
  let hi := max x.hi seq
  { x with hi := hi, accepted := (seq :: x.accepted).filter (fun n => hi < n + 64), since := now }

/-- The header checks every message passes first: carrier, stage, version, opcode, kind, length (R62, R50, R65). -/
def State.admitHead (s : State) (h : Hdr) (op bodyLen : Nat) : Option Adm :=
  if s.carried h = false then
    some (.lost (match h.carrier with | .inband p _ => decide (p < s.ports) && decide (h.dport = s.rw Obj.rendiUdpPort 0) | _ => false))
  else if s.inS7 = false then some (.bare 0x02 (s.cntAt Obj.bootStage 0))
  else if h.ver ≠ 1 ∨ knownOp op = false then some (.bare 0x0F 0)
  else if h.kind ≠ 0 ∨ h.len ≠ bodyLen ∨ bodyMax h.carrier < h.len ∨ h.len % 4 ≠ 0 then some (.bare 0x0E 0)
  else none

/-- Admission of a request of a session (R56, R57, R61). -/
def State.screen (s : State) (h : Hdr) (op : Nat) (body : Bytes) : Adm :=
  match s.admitHead h op body.length with
  | some a => a
  | none =>
    match s.findSession h.session with
    | none => .bare 0x0C 0
    | some (row, x) =>
      let m := authed x.ks (hdrBytes 0 op 0 body.length h.session 0 0 h.seq h.rtag (b2n h.pend)) body
      if (m.drop 16).take 16 ≠ h.auth then .badTag
      else if x.accepts h.seq then
        if 64 ≤ h.queued then .busy row x else .go row x
      else
        match x.cache.find? (fun c => c.seq = h.seq) with
        | some c => .again x c
        | none => .replay row x

/-- The counter a bare answer raises. -/
def bareCounter (status : Nat) : Nat :=
  if status = 0x02 then Obj.rendiNotReady else Obj.rendiMalformed

/-- The answer to a message that is not processed. -/
def State.turnAway (s : State) (h : Hdr) (op : Nat) (a : Adm) : State :=
  match a with
  | .lost d =>
    match h.carrier with
    | .inband p _ => if d then s.addCnt 64 Obj.ethRendiDrops p 1 else s
    | _ => s
  | .bare st d =>
    let t := if st = 0x02 ∨ st = 0x0E ∨ st = 0x0F then s.addCnt 64 (bareCounter st) 0 1 else s
    t.respondBare h op st d []
  | .badTag => s.addCnt 64 Obj.rendiBadTag 0 1
  | .replay _ x => (s.addCnt 64 Obj.rendiReplay 0 1).respondAs h x 0 ⟨h.seq, op, 0x0B, 0, h.rtag, []⟩
  | .again x c => s.respondAs h x 1 { c with rtag := c.rtag }
  | .busy row x =>
    -- the hint is the device's estimate: a free value in 1-255 (R61)
    let t := ((s.addCnt 64 Obj.rendiRxOk 0 1).addCnt 64 Obj.rendiBusy 0 1).putSession row (some (x.accept h.seq s.clk.ns))
    (t.finish h op x { status := 0x01, detail := s.fresh % 255 + 1 }).used
  | .go _ _ => s

/-- Accepts a request: counted, its `SEQ` taken (R57). -/
def State.accepted (s : State) (h : Hdr) (row : Nat) (x : Session) : State :=
  (s.addCnt 64 Obj.rendiRxOk 0 1).putSession row (some (x.accept h.seq s.clk.ns))

/-- A request of a session: admitted, processed by `f`, answered; with no reply the answer comes later. -/
def State.request (s : State) (h : Hdr) (op : Nat) (body : Bytes)
    (f : State → Nat → Session → State × Option Reply) : State :=
  match s.screen h op body with
  | .go row x =>
    match f (s.accepted h row x) row x with
    | (t, some r) => t.finish h op x r
    | (t, none) => t
  | a => s.turnAway h op a

/-! ### Items that act -/

/-- What a provisioning session may do (R60). -/
def provOk (x : Session) (op idx : Nat) : Bool :=
  x.kslot ≠ 0xFF || (op = 0x08 && 0x1000 ≤ idx && idx ≤ 0x11FF) || (op = 0x09 && idx = 0x1110)

/-- The level an object needs; injection points need SERVICE (R527). -/
def levelOf (code : Nat) : Nat :=
  if 0x2210 ≤ code / 256 ∧ code / 256 ≤ 0x221E then 3
  else match findDesc code with | some d => d.lvl | none => 1

/-- The access code of an object. -/
def accOf (code : Nat) : Acc :=
  if 0x2210 ≤ code / 256 ∧ code / 256 ≤ 0x221E then .act
  else match findDesc code with | some d => d.acc | none => .ro

/-- The checks of an ACTION item in order: provisioning, presence, access code, level, length (R36, R37). -/
def State.actionCheck (s : State) (x : Session) (code row len : Nat) : Nat :=
  if provOk x 0x0B ((addrOf code row).1) = false then 0x05
  else if s.present code row = false then 0x03
  else if accOf code ≠ .act then 0x05
  else if x.level < levelOf code then 0x05
  else if len ≠ 4 then 0x06
  else 0

/-- The checks of a WRITE item in order, with the value (R34, R36, R37). -/
def State.writeCheck (s : State) (x : Session) (code row : Nat) (b : Bytes) : Nat × Nat :=
  if provOk x 0x09 ((addrOf code row).1) = false then (0x05, 0)
  else if s.present code row = false then (0x03, 0)
  else
    match findDesc code with
    | none => (0x03, 0)
    | some d =>
      if ¬ (d.acc = .rw ∨ d.acc = .rwc ∨ d.acc = .wo) then (0x05, 0)
      else if x.level < d.lvl then (0x05, 0)
      else s.checkValue code row d b

/-- The request item that addresses an object with a value. -/
def itemFor (code row : Nat) (b : Bytes) : Item :=
  let a := addrOf code row
  ⟨a.1, a.2.1, a.2.2.1, a.2.2.2, b.length, 0, b⟩

/-- An ACTION request of one item: after its checks the owner's rule `f` acts and leaves the action state, which the
response carries (Table 2-7), or answers a status and changes nothing. -/
def State.actionReqS (s : State) (h : Hdr) (code row arg : Nat) (f : State → State × Nat) : State :=
  let i := itemFor code row (leBytes 4 arg)
  s.request h 0x0B (encItems [i]) (fun t _ x =>
    let c0 := t.actionCheck x code row 4
    let u := if c0 = 0 then f t else (t, c0)
    if u.2 ≠ 0 then (t, some (itemsReply [answer i { stat := u.2 }]))
    else (u.1, some (itemsReply [answer i { value := leBytes 4 (u.1.actAt code row) }])))

/-- An ACTION whose only own check is that the argument is one the object lists (R7). -/
def State.actionReq (s : State) (h : Hdr) (code row arg : Nat) (argOk : Bool) (f : State → State) : State :=
  s.actionReqS h code row arg (fun t => if argOk then (f t, 0) else (t, 0x04))

/-- A WRITE request of one item: after its checks the owner's rule `f` acts on the value and answers a status. -/
def State.writeReq (s : State) (h : Hdr) (code row : Nat) (b : Bytes)
    (f : State → Session → Nat → State × Nat) : State :=
  let i := itemFor code row b
  s.request h 0x09 (encItems [i]) (fun t _ x =>
    let c := t.writeCheck x code row b
    if c.1 ≠ 0 then (t, some (itemsReply [answer i { stat := c.1 }]))
    else
      let u := f t x c.2
      (u.1, some (itemsReply [answer i { stat := u.2 }])))

end Sys2Proof.Machine
end

