-- ==== Sys2Proof/Machine/Crc.lean ====
section
/-!
DEFINITION. Machine/Crc.lean: the guards and parity arithmetic of the data path: CRC-16 and CRC-64 over byte strings
(R89, R92, R97), CRC-32C (R142, R153), and GF(2^8) arithmetic on packed blocks (R163, R164).
-/

namespace Sys2Proof.Machine

/-- One bit of a most-significant-first CRC of `w` bits. -/
def crcBit (w poly c : Nat) : Nat := if bit c (w - 1) then (c * 2 % 2 ^ w) ^^^ poly else c * 2 % 2 ^ w

/-- `n` bits of it. -/
def crcBits : Nat → Nat → Nat → Nat → Nat
  | 0, _, _, c => c
  | n + 1, w, poly, c => crcBits n w poly (crcBit w poly c)

/-- CRC-16, polynomial 0x8BB7, initial value 0 (R97; the same for the guards of Table 3-5: log entry 12). -/
def crc16 (b : Bytes) : Nat := b.foldl (fun c x => crcBits 8 16 0x8BB7 (c ^^^ (x * 256))) 0

/-- `n` bits of a least-significant-first CRC with a reflected polynomial. -/
def crcRefl : Nat → Nat → Nat → Nat
  | 0, _, c => c
  | n + 1, poly, c => crcRefl n poly (if bit c 0 then (c / 2) ^^^ poly else c / 2)

/-- CRC-64 with polynomial 0xAD93_D235_94C9_3659 as NVMe computes it: reflected, initial value and final exclusive-or
all ones. The manual gives the polynomial only (PRESUMED, log entry 12). -/
def crc64 (b : Bytes) : Nat :=
  (b.foldl (fun c x => crcRefl 8 0x9A6C9329AC4BC9B5 (c ^^^ x)) 0xFFFFFFFFFFFFFFFF) ^^^ 0xFFFFFFFFFFFFFFFF

/-- CRC-32C. -/
def crc32c (b : Bytes) : Nat :=
  (b.foldl (fun c x => crcRefl 8 0x82F63B78 (c ^^^ x)) 0xFFFFFFFF) ^^^ 0xFFFFFFFF

/-- Bytes of a parity block (R164). -/
def parityBytes : Nat := 4112

/-- The byte 1 in every byte of a parity block. -/
def ones8 : Nat := (2 ^ (8 * parityBytes) - 1) / 255

/-- Every byte of a packed block multiplied by g = 0x02 in GF(2^8) with polynomial 0x11D (R163). -/
def gfDouble (x : Nat) : Nat :=
  let hi := x &&& (ones8 * 128)
  ((x ^^^ hi) * 2) ^^^ ((hi / 128) * 0x1D)

/-- Every byte multiplied by the constant `c`: `n` bits of it. -/
def gfMulN : Nat → Nat → Nat → Nat
  | 0, _, _ => 0
  | n + 1, c, x => (if c % 2 = 1 then x else 0) ^^^ gfMulN n (c / 2) (gfDouble x)

/-- Every byte of a packed block multiplied by a constant of GF(2^8). -/
def gfMul (c x : Nat) : Nat := gfMulN 8 c x

/-- g^n. -/
def gfPow : Nat → Nat
  | 0 => 1
  | n + 1 => gfMul (gfPow n) 2

/-- The inverse of a nonzero constant: its 254th power. -/
def gfInvN : Nat → Nat → Nat
  | 0, _ => 1
  | n + 1, c => gfMul c (gfInvN n c)

/-- The inverse of a nonzero constant. -/
def gfInv (c : Nat) : Nat := gfInvN 254 c

/-- P of a row of data blocks (R163). -/
def parityP (d : List Nat) : Nat := d.foldl (fun p x => p ^^^ x) 0

/-- Q of a row of data blocks (R163): Horner from the last column down. -/
def parityQ (d : List Nat) : Nat := d.foldr (fun x q => x ^^^ gfDouble q) 0

/-- A row of `k` data cells, P and Q: a cell is none where it is unavailable. -/
structure Cells where
  data : List (Option Nat)
  p : Option Nat
  q : Option Nat
deriving DecidableEq, Repr

/-- Columns of the data cells unavailable. -/
def Cells.missing (c : Cells) : List Nat :=
  (c.data.zipIdx.filter (fun e => e.1 = none)).map (fun e => e.2)

/-- Unavailable cells of a row. -/
def Cells.lacking (c : Cells) : Nat := c.missing.length + (if c.p = none then 1 else 0) + (if c.q = none then 1 else 0)

/-- The data of a row with its unavailable cells decoded; none where three or more cells lack (R169, R185). -/
def Cells.decode (c : Cells) : Option (List Nat) :=
  let known := c.data.map (fun x => x.getD 0)
  match c.missing, c.p, c.q with
  | [], _, _ => some known
  | [x], some p, _ => some (known.set x (p ^^^ parityP known))
  | [x], none, some q => some (known.set x (gfMul (gfInv (gfPow x)) (q ^^^ parityQ known)))
  | [x, y], some p, some q =>
    let a := p ^^^ parityP known
    let b := q ^^^ parityQ known
    -- D_x + D_y = a; g^x D_x + g^y D_y = b
    let dx := gfMul (gfInv (gfPow x ^^^ gfPow y)) (b ^^^ gfMul (gfPow y) a)
    some ((known.set x dx).set y (a ^^^ dx))
  | _, _, _ => none

end Sys2Proof.Machine
end

