-- ==== Sys2Proof/Machine/Pi.lean ====
section
/-!
DEFINITION. Machine/Pi.lean: protection information and stored metadata of a 4 KiB member block (R89 to R93, R188,
R195). Fields of host PI are big-endian and in the NVMe order guard, application tag, reference tag (PRESUMED, log
entry 12: the manual gives their widths only).
-/

namespace Sys2Proof.Machine

/-- A big-endian number. -/
def beNat (b : Bytes) : Nat := leNat b.reverse

/-- The `n` bytes of a number, most significant first. -/
def beBytes (n x : Nat) : Bytes := (leBytes n x).reverse

/-- The host PI bytes of a format (Table 3-5). -/
def piSize (fmt : Nat) : Nat := if fmt = 0 then 0 else if fmt ≤ 3 then 8 else 16

/-- Width of a format's guard in bytes. -/
def guardLen (fmt : Nat) : Nat := if fmt = 0 then 8 else if fmt ≤ 3 then 2 else 8

/-- The guard a format computes over data (format 0: the CRC-64 field of Table 3-6). -/
def guardOf (fmt : Nat) (data : Bytes) : Nat := if 1 ≤ fmt ∧ fmt ≤ 3 then crc16 data else crc64 data

/-- Host PI bytes from guard, application tag and reference tag. -/
def mkPi (fmt guard app ref : Nat) : Bytes :=
  if fmt = 0 then [] else beBytes (guardLen fmt) guard ++ beBytes 2 app ++ beBytes (piSize fmt - guardLen fmt - 2) ref

/-- Guard, application tag and reference tag of host PI bytes. -/
def piFields (fmt : Nat) (pi : Bytes) : Nat × Nat × Nat :=
  let g := guardLen fmt
  (beNat (pi.take g), beNat ((pi.drop g).take 2), beNat ((pi.drop (g + 2)).take (piSize fmt - g - 2)))

/-- Whether a block's tags are the escape of R90. -/
def piEscape (fmt app ref : Nat) : Bool :=
  if fmt = 0 then false
  else if fmt = 3 ∨ fmt = 6 then app = 0xFFFF && ref = 2 ^ (8 * (piSize fmt - guardLen fmt - 2)) - 1
  else app = 0xFFFF

/-- The locator (R92). -/
def locator (ns nsBlk : Nat) : Nat := nsBlk % 2 ^ 40 + (ns % 4096) * 2 ^ 40

/-- Stored metadata (Table 3-6) from host PI bytes; format 0 computes its CRC-64. -/
def storedMeta (fmt ns nsBlk data : Nat) (pi : Bytes) : Nat :=
  if fmt = 0 then leNat (leBytes 8 (crc64 (leBytes 4096 data)) ++ leBytes 8 (locator ns nsBlk))
  else if fmt ≤ 3 then leNat (pi.take 8 ++ leBytes 8 (locator ns nsBlk))
  else leNat (pi.take 16)

/-- The reference tag a format requires of a block, where it fixes one (formats 1 and 4). -/
def refWanted (fmt lba : Nat) : Option Nat :=
  if fmt = 1 then some (lba % 2 ^ 32) else if fmt = 4 then some (lba % 2 ^ 48) else none

/-- The PI format of a namespace. -/
def State.fmtOf (s : State) (ns : Nat) : Nat := s.rw Obj.nsPiFormat ns

/-- Host-visible metadata bytes per block: none in insert mode (R91). -/
def State.hostPi (s : State) (ns : Nat) : Nat := if s.rw Obj.nsPiMode ns = 1 then 0 else piSize (s.fmtOf ns)

/-- The check of a stored block at V2 to V5 (Table 5-5): 0 good, else the cause of R197. -/
def checkStored (fmt ns nsBlk : Nat) (b : Blk) (refTag : Bool) : Nat :=
  let m := leBytes 16 b.pi
  let f := piFields fmt m
  if fmt ≤ 3 ∧ leNat (m.drop 8) ≠ locator ns nsBlk then 4
  else if fmt = 0 then (if leNat (m.take 8) = crc64 (leBytes 4096 b.data) then 0 else 1)
  else if piEscape fmt f.2.1 f.2.2 then 0
  else if f.1 ≠ guardOf fmt (leBytes 4096 b.data) then 1
  else if refTag ∧ refWanted fmt nsBlk ≠ none ∧ refWanted fmt nsBlk ≠ some f.2.2 then 2
  else 0

/-- The block of never-written space (R93). -/
def zeroBlk (fmt ns nsBlk : Nat) : Blk := ⟨0, storedMeta fmt ns nsBlk 0 (List.replicate (piSize fmt) 0xFF)⟩

/-- A poison block (R188). -/
def poisonBlk (fmt ns nsBlk : Nat) : Blk :=
  let bad := 2 ^ (8 * guardLen fmt) - 1 - guardOf fmt (zeros 4096)
  if fmt = 0 then ⟨0, leNat (leBytes 8 bad ++ leBytes 8 (locator ns nsBlk))⟩
  else ⟨0, storedMeta fmt ns nsBlk 0 (mkPi fmt bad 0 ((refWanted fmt nsBlk).getD 0))⟩

/-- Whether a block is the poison block of its place. -/
def isPoison (fmt ns nsBlk : Nat) (b : Blk) : Bool := b = poisonBlk fmt ns nsBlk

end Sys2Proof.Machine
end

