-- ==== Sys2Proof/Machine/Place.lean ====
section
/-!
DEFINITION. Machine/Place.lean: placement: geometries and their tables (R81 to R87), slots and map entries (R95 to
R99), from a byte of a namespace to a member (R100 to R102), array metadata writes (R78).
-/

namespace Sys2Proof.Machine

/-! ### Geometries -/

/-- Stitch size in bytes (`geo.stitch`). -/
def Geo.uBytes (g : Geo) : Nat := 16384 * 2 ^ g.u
/-- Blocks of a stitch. -/
def Geo.rows (g : Geo) : Nat := 4 * 2 ^ g.u
/-- Bytes of data in a stripe. -/
def Geo.ku (g : Geo) : Nat := g.k * g.uBytes
/-- S_b (Table 3-2). -/
def Geo.sb (g : Geo) : Nat := (2 ^ 30 + g.ku - 1) / g.ku
/-- P: the smallest multiple of P0 that is at least 64. -/
def Geo.period (g : Geo) : Nat :=
  let p0 := g.w / Nat.gcd g.w (g.k + 2)
  p0 * ((63 + p0) / p0)
/-- S_slot. -/
def Geo.slotStripes (g : Geo) : Nat := (g.sb + g.period - 1) / g.period * g.period
/-- F. -/
def Geo.perPos (g : Geo) : Nat := g.period * (g.k + 2) / g.w
/-- Z. -/
def Geo.z (g : Geo) : Nat := if g.s = 0 then 0 else (g.perPos + (g.w - g.k - 2) - 1) / (g.w - g.k - 2)
/-- D_m. -/
def Geo.dm (g : Geo) : Nat := g.slotStripes / g.period * g.perPos * g.uBytes
/-- S_m. -/
def Geo.sm (g : Geo) : Nat := g.slotStripes / g.period * g.s * g.z * g.uBytes
/-- Slot footprint on each position, in 16 KiB units. -/
def Geo.foot (g : Geo) : Nat := (g.dm + g.sm) / 16384

/-- The pattern row of a stripe. -/
def Geo.patRow (g : Geo) (x : Nat) : List (Nat × Nat) := g.pat.getD (x % g.period) []

/-- Member offset of the stitch of stripe `x` with slot index `j` (R100). -/
def Geo.homeOff (g : Geo) (base x j : Nat) : Nat := base * 16384 + (x / g.period * g.perPos + j) * g.uBytes

/-- Member offset of a spare slot: lane `l`, spare index `z` (R100). -/
def Geo.spareOff (g : Geo) (base x l z : Nat) : Nat :=
  base * 16384 + g.dm + ((x / g.period * g.s + l) * g.z + z) * g.uBytes

/-- The spare entry of (row, column), lane: target and spare index. -/
def Geo.spareAt (g : Geo) (x c l : Nat) : Option (Nat × Nat) :=
  (((g.spare.getD (x % g.period) []).getD c [])[l]?)

/-- Rows of the period before `r` that satisfy `p`. -/
def countBefore (p : Nat → Bool) (r : Nat) : Nat := ((List.range r).filter p).length

/-- Whether all entries of a list differ. -/
def allDiffer : List Nat → Bool
  | [] => true
  | x :: r => !r.contains x && allDiffer r

/-- The positions of a pattern row. -/
def rowPos (r : List (Nat × Nat)) : List Nat := r.map (fun e => e.1)

/-- Rows holding both of a pair (rule 4 of Table 3-4). -/
def pairCount (pat : List (List (Nat × Nat))) (a b : Nat) : Nat :=
  (pat.filter (fun r => (rowPos r).contains a && (rowPos r).contains b)).length

/-- The pair counts of every pair of positions below `w`. -/
def pairCounts (pat : List (List (Nat × Nat))) (w : Nat) : List Nat :=
  (List.range w).flatMap (fun a => (List.range a).map (fun b => pairCount pat a b))

/-- The smallest entry. -/
def minOf (l : List Nat) : Nat := l.foldl min (l.headD 0)
/-- The largest entry. -/
def maxOf (l : List Nat) : Nat := l.foldl max 0

/-- Rules 1 to 5 of Table 3-4. -/
def Geo.patOk (g : Geo) (pat : List (List (Nat × Nat))) : Bool :=
  let n := g.period
  let holds := fun a r => (rowPos (pat.getD r [])).contains a
  let inCol := fun a c => (pat.filter (fun r => (r[c]?).map (fun e => e.1) = some a)).length
  let lo := n / g.w
  let hi := (n + g.w - 1) / g.w
  let pc := pairCounts pat g.w
  pat.length = n
    && pat.all (fun r => r.length = g.k + 2 && allDiffer (rowPos r) && (rowPos r).all (fun a => a < g.w))
    && (List.range g.w).all (fun a => countBefore (holds a) n = g.perPos
        && lo ≤ inCol a g.k && inCol a g.k ≤ hi && lo ≤ inCol a (g.k + 1) && inCol a (g.k + 1) ≤ hi)
    && maxOf pc ≤ minOf pc + 4
    && (List.range n).all (fun r => (pat.getD r []).all (fun e => e.2 = countBefore (holds e.1) r))

/-- The lane target of the stitch of position `a` in row `r`, where the row holds it. -/
def laneTarget (pat : List (List (Nat × Nat))) (spare : List (List (List (Nat × Nat)))) (a l r : Nat) :
    Option (Nat × Nat) :=
  match findAt (fun (e : Nat × Nat) => e.1 = a) (pat.getD r []) with
  | some (c, _) => ((spare.getD r []).getD c [])[l]?
  | none => none

/-- Rules 6 to 8 of Table 3-4. -/
def Geo.spareOk (g : Geo) (pat : List (List (Nat × Nat))) (spare : List (List (List (Nat × Nat)))) : Bool :=
  let n := g.period
  spare.length = n
    && (List.range n).all (fun r =>
        let here := rowPos (pat.getD r [])
        let sp := spare.getD r []
        sp.length = g.k + 2
          && sp.all (fun c => c.length = g.s && c.all (fun e => e.1 < g.w && !here.contains e.1 && e.2 < g.z))
          && (List.range g.s).all (fun l => (List.range l).all (fun m =>
              sp.all (fun c => sp.all (fun d => (c.drop l).head?.map (fun e => e.1) ≠ (d.drop m).head?.map (fun e => e.1))))))
    && (List.range g.w).all (fun a => (List.range g.s).all (fun l =>
        let tgt := fun r => laneTarget pat spare a l r
        (List.range n).all (fun r => match tgt r with
          | some (t, z) => z = countBefore (fun q => (tgt q).map (fun e => e.1) = some t) r
          | none => true)))

/-- A geometry row. -/
def State.geo (s : State) (g : Nat) : Geo := Tbl.get {} s.place.geos g

/-- Replaces a geometry row. -/
def State.putGeo (s : State) (g : Nat) (x : Geo) : State :=
  { s with place := { s.place with geos := Tbl.set {} s.place.geos g x } }

/-- The encodings of Table 3-11, which the digest covers in their row order (R84, R85). -/
def Geo.tableBytes (g : Geo) : Bytes :=
  (g.pat.flatMap (fun r => r.flatMap (fun e => leBytes 4 (e.1 + e.2 * 64))))
    ++ (g.spare.flatMap (fun r => r.flatMap (fun c => c.flatMap (fun e => leBytes 4 (e.1 + e.2 * 64)))))

/-! ### Positions -/

/-- The member row of a bay. -/
def State.mem (s : State) (b : Nat) : Member := Tbl.get {} s.drv.mems b

/-- Replaces a member row. -/
def State.putMem (s : State) (b : Nat) (m : Member) : State :=
  { s with drv := { s.drv with mems := Tbl.set {} s.drv.mems b m } }

/-- The bay bound to a position. -/
def State.posBay (s : State) (a : Nat) : Option Nat := (s.drv.mems.find? (fun e => e.2.pos = a)).map (fun e => e.1)

/-- Whether a position lies within the width of an ACTIVE geometry. -/
def State.inArray (s : State) (a : Nat) : Bool := s.place.geos.any (fun e => e.2.st = 2 && a < e.2.w)

/-- `pos.state` (R361). -/
def State.posState (s : State) (a : Nat) : MemSt :=
  match s.posBay a with
  | some b => if (s.mem b).st = .probing then .absent else (s.mem b).st
  | none => if s.inArray a then .failed else .absent

/-- Whether a position is IN_SERVICE. -/
def State.inService (s : State) (a : Nat) : Bool := s.posState a = .inService

/-- The positions IN_SERVICE, in order. -/
def State.servicePos (s : State) : List Nat := (List.range s.bays).filter s.inService

/-- The capacity of the member of a position. -/
def State.posCap (s : State) (a : Nat) : Nat := match s.posBay a with | some b => (s.mem b).capacity | none => 0

/-- 8 GiB: the reserved zone of Table 3-1. -/
def zoneBytes : Nat := 8589934592

/-- `place.data_space`: smallest over IN_SERVICE positions. -/
def State.dataSpace (s : State) : Nat := minOf (s.servicePos.map s.posCap) - zoneBytes

/-- The data space of a geometry, in 16 KiB units from the start of the member (R77). -/
def State.geoEnd (s : State) (g : Geo) : Nat := minOf ((List.range g.w).map s.posCap) / 16384

/-- The lane a position holds (R101). -/
def State.laneOf (s : State) (a : Nat) : Option Nat :=
  (s.place.lanes.find? (fun e => e.2.pos = a)).map (fun e => e.1)

/-- The lowest free lane. -/
def State.freeLane (s : State) : Option Nat :=
  (List.range (s.rw Obj.placeSpareLanes 0)).find? (fun l => (Tbl.get {} s.place.lanes l).pos = 0xFF)

/-- Sets a lane. -/
def State.putLane (s : State) (l : Nat) (x : Lane) : State :=
  { s with place := { s.place with lanes := Tbl.set {} s.place.lanes l x } }

/-! ### The bolt map -/

/-- A bolt map entry as MSQ holds it. -/
def State.bolt (s : State) (e : Nat) : Bolt := Tbl.get {} s.place.bolts e

/-- Sets an entry in the map MSQ reads: the last of the three steps of R78. -/
def State.putBolt (s : State) (e : Nat) (b : Bolt) : State :=
  { s with place := { s.place with bolts := Tbl.set {} s.place.bolts e b } }

/-- The entry with the updates that still wait for the map copies. -/
def State.boltNext (s : State) (e : Nat) : Bolt :=
  match s.place.mapPend.reverse.find? (fun w => w.entry = e) with
  | some w => w.bolt
  | none => s.bolt e

/-- Map entries of a 4 KiB block. -/
def mapBlock (e : Nat) : Nat := e / 256

/-- Writes a map block to the valid map copies in rank order (R78). -/
def State.sendMapBlock (s : State) (blk : Nat) : State :=
  s.place.maps.foldl (fun t c => if c.pos ≠ 0x3F then t.emit (.mapWrite c.pos blk) else t) s

/-- Whether this device is the array keeper (R363). -/
def State.keeper (s : State) : Bool := !s.skn.present || s.skn.side = 0

/-- `BoltSt` codes (Table 3-7). -/
def BoltSt.code : BoltSt → Nat
  | .unmapped => 0 | .zero => 1 | .mapped => 2 | .migrating => 3

/-- A map entry update: sent to the map copies, applied when they have acknowledged (R78). The keeper alone writes them; the
other device sends it the update (R363). -/
def State.mapUpdate (s : State) (e : Nat) (b : Bolt) : State :=
  let w : MapWrite := ⟨e, b⟩
  let t : State := { s with place := { s.place with mapPend := s.place.mapPend ++ [w] } }
  if s.keeper then t.sendMapBlock (mapBlock e)
  else t.later (.twin (.keeper (.mapUpd e b.base b.tbase b.st.code b.geo b.tgeo b.suspect b.lost b.cursor b.ns)))

/-- Valid map copies (R79). -/
def State.validMaps (s : State) : Nat := (s.place.maps.filter (fun c => c.pos ≠ 0x3F && c.valid)).length

/-- The 16 bytes of an entry (Table 3-7). -/
def Bolt.bytes (b : Bolt) : Bytes :=
  let body := leBytes 4 b.base ++ leBytes 4 b.tbase ++ [b.st.code + b.geo * 4 + b.tgeo * 32]
    ++ [b2n b.suspect + 2 * b2n b.lost] ++ leBytes 2 b.cursor ++ leBytes 2 b.ns
  body ++ leBytes 2 (crc16 body)

/-! ### Slots -/

/-- The next multiple of `u` at or above `x`. -/
def alignUp (x u : Nat) : Nat := (x + u - 1) / u * u

/-- Allocated intervals in 16 KiB units, rising. -/
def State.slotSpans (s : State) : List (Nat × Nat) :=
  sortBy (fun x y => x.1 ≤ y.1) (s.place.slots.map (fun x => (x.base, (s.geo x.geo).foot)))

/-- First-fit place for a slot of `foot` units aligned to `al` from `lo`, below `hi` (DESIGN CHOICE, log entry 13). -/
def firstFit (foot al hi : Nat) : Nat → List (Nat × Nat) → Option Nat
  | lo, [] => if alignUp lo al + foot ≤ hi then some (alignUp lo al) else none
  | lo, (b, n) :: r => if alignUp lo al + foot ≤ b then some (alignUp lo al) else firstFit foot al hi (max lo (b + n)) r

/-- Slots that fit between the allocated ones. -/
def countFit (foot al hi : Nat) : Nat → List (Nat × Nat) → Nat
  | lo, [] => (hi - alignUp lo al) / foot
  | lo, (b, n) :: r => (b - alignUp lo al) / foot + countFit foot al hi (max lo (b + n)) r

/-- A free slot base of a geometry. -/
def State.findSlot (s : State) (g : Nat) : Option Nat :=
  let x := s.geo g
  if x.st ≠ 2 then none else firstFit x.foot (2 ^ x.u) (s.geoEnd x) (zoneBytes / 16384) s.slotSpans

/-- `geo.free_bolts`. -/
def State.freeBolts (s : State) (g : Nat) : Nat :=
  let x := s.geo g
  if x.st ≠ 2 then 0 else countFit x.foot (2 ^ x.u) (s.geoEnd x) (zoneBytes / 16384) s.slotSpans

/-- `geo.bolts`: slots allocated, migration targets among them. -/
def State.geoBolts (s : State) (g : Nat) : Nat := (s.place.slots.filter (fun x => x.geo = g)).length

/-- Allocates a slot for an entry. -/
def State.takeSlot (s : State) (g entry ns : Nat) : State × Option Nat :=
  match s.findSlot g with
  | some b =>
    let x : Slot := ⟨b, g, entry, ns, false⟩
    ({ s with place := { s.place with slots := s.place.slots ++ [x] } }, some b)
  | none => (s, none)

/-- Marks a slot to be freed when the commands that looked it up have completed. -/
def State.freeLater (s : State) (base entry : Nat) : State :=
  let l := updWhere (fun (x : Slot) => x.base = base && x.entry = entry) (fun x => { x with freeing := true }) s.place.slots
  { s with place := { s.place with slots := l } }

/-! ### Locations -/

/-- The key number of a stripe: map entry, slot, stripe, in walk order. -/
def SKey.num (k : SKey) : Nat := (k.entry * 2 + k.sel) * 65536 + k.stripe

/-- The geometry and slot base of a stripe. -/
def State.slotOf (s : State) (k : SKey) : Geo × Nat :=
  let b := s.bolt k.entry
  if k.sel = 1 then (s.geo b.tgeo, b.tbase) else (s.geo b.geo, b.base)

/-- Whether a position's reads of stripe `k` fall below its copy-back cursor. -/
def State.copied (s : State) (a : Nat) (k : SKey) : Bool :=
  match Tbl.get none s.place.copyback a with
  | some c => k.num < c
  | none => false

/-- The pass row of a position. -/
def State.pass (s : State) (a : Nat) : Pass := Tbl.get {} s.darn.passes a

/-- Sets a pass row. -/
def State.putPass (s : State) (a : Nat) (p : Pass) : State :=
  { s with darn := { s.darn with passes := Tbl.set {} s.darn.passes a p } }

/-- Whether a critical pass that covers `a` has passed a stripe whose row holds the pair (R175). -/
def Crit.covers (c : Crit) (a base x : Nat) (here : List Nat) : Bool :=
  (c.a = a || c.b = a) && here.contains c.a && here.contains c.b
    && (base < c.base || (base = c.base && x < c.stripe))

/-- reconstructed(a, x) of R102 (R173, R175, R203). -/
def State.reconstructed (s : State) (a : Nat) (k : SKey) : Bool :=
  let gb := s.slotOf k
  let row := gb.1.patRow k.stripe
  let byPass := match row.find? (fun e => e.1 = a) with
    | some e => (s.pass a).st = 2 || (s.pass a).st = 4 || gb.1.homeOff gb.2 k.stripe e.2 < (s.pass a).cursor
    | none => false
  byPass || s.darn.crits.any (fun c => c.covers a gb.2 k.stripe (rowPos row))
    || s.darn.claims.any (fun e => e.2 = a && e.1.covers a gb.2 k.stripe (rowPos row))

/-- Whether a position can be read at a stripe: IN_SERVICE, FAILING, or REBUILDING above its copy-back (R102). -/
def State.readable (s : State) (a : Nat) (k : SKey) : Bool :=
  match s.posState a with
  | .inService => true
  | .failing => true
  | .rebuilding => s.copied a k
  | _ => false

/-- The spare slot of a column in a lane: target position and member offset. -/
def State.spareSlot (s : State) (k : SKey) (c l : Nat) : Option (Nat × Nat) :=
  let gb := s.slotOf k
  (gb.1.spareAt k.stripe c l).map (fun e => (e.1, gb.1.spareOff gb.2 k.stripe l e.2))

/-- The location of a stitch: position and member offset, none where it is missing (R102, R149). -/
def State.locate (s : State) (k : SKey) (c : Nat) : Option (Nat × Nat) :=
  let gb := s.slotOf k
  match (gb.1.patRow k.stripe)[c]? with
  | none => none
  | some (a, j) =>
    if s.darn.unbuilt.contains (k, a) then none
    else if s.readable a k then some (a, gb.1.homeOff gb.2 k.stripe j)
    else
      match s.laneOf a with
      | none => none
      | some l =>
        if s.reconstructed a k then
          match s.spareSlot k c l with
          | some (t, off) => if s.readable t k then some (t, off) else none
          | none => none
        else none

/-- The stripe and column that hold byte `o` of the bolt of an entry, with the byte in the stitch (R100). -/
def State.home (s : State) (entry o : Nat) : SKey × Nat × Nat :=
  let b := s.bolt entry
  let gt := s.geo b.tgeo
  let sel := if b.st = .migrating ∧ o < b.cursor * gt.ku then 1 else 0
  let g := if sel = 1 then gt else s.geo b.geo
  (⟨entry, sel, o / g.ku⟩, o % g.ku / g.uBytes, o % g.uBytes)

/-- The namespace row as hosts see it. -/
def State.nsp (s : State) (n : Nat) : Nsp := Tbl.get {} s.place.nss n

/-- Sets a namespace row. -/
def State.putNsp (s : State) (n : Nat) (x : Nsp) : State :=
  { s with place := { s.place with nss := Tbl.set {} s.place.nss n x } }

/-- The map entry of a byte of a namespace. -/
def State.entryOf (s : State) (ns b : Nat) : Nat := (s.nsp ns).mapBase + b / 2 ^ 30

/-- Splits `len` bytes of a namespace from `b` at stitch boundaries (R100); `n` bounds the parts. -/
def State.ranges (s : State) (ns : Nat) : Nat → Nat → Nat → Nat → List Range
  | 0, _, _, _ => []
  | n + 1, b, len, off =>
    if len = 0 then []
    else
      let e := s.entryOf ns b
      let h := s.home e (b % 2 ^ 30)
      let u := (s.slotOf h.1).1.uBytes
      let m := min len (min (u - h.2.2) (2 ^ 30 - b % 2 ^ 30))
      ⟨h.1, h.2.1, h.2.2, m, off, 0, false, false, 0, false⟩ :: State.ranges s ns n (b + m) (len - m) (off + m)

/-- The namespace's 4 KiB block at a block row of a stitch. -/
def State.blkNo (s : State) (k : SKey) (col row : Nat) : Nat :=
  let g := (s.slotOf k).1
  let n := k.entry - (s.nsp (s.bolt k.entry).ns).mapBase
  (n * 2 ^ 30 + k.stripe * g.ku + col * g.uBytes) / 4096 + row

/-- Whether a data column's block lies beyond the bolt: pad (R83). -/
def Geo.isPad (g : Geo) (x col row : Nat) : Bool := 2 ^ 30 ≤ x * g.ku + col * g.uBytes + row * 4096

end Sys2Proof.Machine
end

