-- ==== Sys2Proof/Machine/Journal.lean ====
section
/-!
DEFINITION. Machine/Journal.lean: the basting journal (R140 to R146) and the metadata copies that move with the
members: map positions (R79), journal members (R144 to R146).
-/

namespace Sys2Proof.Machine

/-- Whether the partner's mirror of the journal exists (R140). -/
def State.mirrorExists (s : State) : Bool := s.hoop.mirrorState ≠ 1

/-- Whether a journal copy exists: its position is IN_SERVICE (R140). -/
def State.journalAt (s : State) (a : Nat) : Bool := a ≠ 0x3F && s.inService a

/-- Whether every place that exists holds a record (R140). -/
def State.held (s : State) (r : JRec) : Bool :=
  (!s.mirrorExists || r.onPartner) && (!s.journalAt s.jour.pos0 || r.on0) && (!s.journalAt s.jour.pos1 || r.on1)

/-- A record of the working copy. -/
def State.jrec (s : State) (q : Nat) : Option JRec := s.jour.recs.find? (fun r => r.jseq = q)

/-- Changes a record. -/
def State.updRec (s : State) (q : Nat) (f : JRec → JRec) : State :=
  { s with jour := { s.jour with recs := updWhere (fun r => r.jseq = q) f s.jour.recs } }

/-- Adds a record: next `JSEQ`, into the working copy, to the partner, and to the next page (R140, R141). Answers its
`JSEQ`. -/
def State.jAdd (s : State) (r : JRec) : State × Nat :=
  let q := s.jour.next
  let x := { r with jseq := q }
  let t : State := { s with jour := { s.jour with
    recs := s.jour.recs ++ [x], next := wrapAdd 64 q 1, waiting := s.jour.waiting ++ [q] } }
  (if t.mirrorExists then t.later (.twin (.journal [x])) else t, q)

/-- A RETIRE record for up to five retirements (R142, R143). It is not live itself. -/
def State.addRetire (s : State) : State :=
  if s.jour.retiring = [] then s
  else
    let q := s.jour.next
    let x : JRec := { kind := .retire, jseq := q, retires := s.jour.retiring.take 5, time := s.clk.ns }
    let t : State := { s with jour := { s.jour with
      next := wrapAdd 64 q 1, waiting := s.jour.waiting ++ [q], retiring := s.jour.retiring.drop 5 } }
    if t.mirrorExists then t.later (.twin (.journal [x])) else t

/-- Pages of the journal area. -/
def journalPages : Nat := 262144

/-- The records whose page has come within 16,384 pages of the head (R143). -/
def State.staleRecs (s : State) : List JRec :=
  s.jour.recs.filter (fun r => (r.on0 || r.on1) && journalPages - 16384 ≤ s.jour.page - r.page)

/-- Rewrites a live record at the head with a new `JSEQ` and retires the original (R143). -/
def State.rewriteRec (s : State) (r : JRec) : State :=
  let drop : State := { s with jour := { s.jour with
    recs := s.jour.recs.filter (fun x => x.jseq ≠ r.jseq), retiring := s.jour.retiring ++ [r.jseq] } }
  let a := drop.jAdd { r with on0 := false, on1 := false, onPartner := false, persisted := r.persisted }
  let t := a.1
  let stripes := Tbl.mapRows {} (fun _ (x : Stripe) => if x.live = some r.jseq then { x with live := some a.2 } else x)
    t.hoop.stripes
  let migs := t.place.active.map (fun m => if m.jseq = r.jseq then { m with jseq := a.2 } else m)
  { t with hoop := { t.hoop with stripes := stripes }, place := { t.place with active := migs } }

/-- Writes a page of at most 63 waiting records to both journal members (R141). -/
def State.writePage (s : State) : State :=
  if s.jour.waiting = [] then s
  else
    let recs := s.jour.waiting.take 63
    let n := s.jour.page
    let p : JPage := ⟨n, recs, s.journalAt s.jour.pos0, s.journalAt s.jour.pos1⟩
    let t : State := { s with jour := { s.jour with
      waiting := s.jour.waiting.drop 63, page := wrapAdd 64 n 1
      pages := if p.out0 || p.out1 then s.jour.pages ++ [p] else s.jour.pages
      recs := s.jour.recs.map (fun r => if recs.contains r.jseq then { r with page := n } else r) } }
    let u := if p.out0 then t.emit (.journalPage s.jour.pos0 n) else t
    let v := if p.out1 then u.emit (.journalPage s.jour.pos1 n) else u
    v.staleRecs.foldl (fun w r => w.rewriteRec r) v

/-- A page is written once 63 records wait (R141). -/
def State.pageIfFull (s : State) : State := if 63 ≤ s.jour.waiting.length then s.writePage else s

/-- Retires a record (R143): it leaves the working copy, and a RETIRE record names it later. -/
def State.jRetire (s : State) (q : Nat) : State :=
  let t : State := { s with jour := { s.jour with
    recs := s.jour.recs.filter (fun r => r.jseq ≠ q), retiring := s.jour.retiring ++ [q] } }
  if 5 ≤ t.jour.retiring.length then t.addRetire.pageIfFull else t

/-- Whether a live record exists on a stripe (R106). -/
def State.stripeLive (s : State) (k : SKey) : Bool :=
  s.jour.recs.any (fun r => r.key = k && r.kind ≠ .checkpoint)

/-- The positions of a stripe's row as a mask, and the columns present as a mask. -/
def State.rowMask (s : State) (k : SKey) (cols : List Nat) : Nat × Nat :=
  cols.foldl (fun m c => match s.locate k c with
    | some (a, _) => (orBit m.1 a, orBit m.2 c)
    | none => m) (0, 0)

/-- A record over columns of a stripe. -/
def State.stripeRec (s : State) (kind : RecKind) (k : SKey) (gen : Nat) (cols : List Nat) : JRec :=
  let gb := s.slotOf k
  let m := s.rowMask k cols
  let b := s.bolt k.entry
  { kind := kind, geo := if k.sel = 1 then b.tgeo else b.geo, gen := gen, key := k, members := m.1, stitches := m.2
    sbase := gb.2, time := s.clk.ns }

/-- A walk's operation on one stripe under one record, whole within a step: persisted and retired in it. -/
def State.jOnce (s : State) (kind : RecKind) (k : SKey) (cols : List Nat) : State :=
  let a := s.jAdd (s.stripeRec kind k 0 cols)
  (a.1.jRetire a.2).pageIfFull

/-- A CHECKPOINT record (R142, R193): it replaces the earlier one of its operation and position. -/
def State.jCheckpoint (s : State) (op pos stripes : Nat) : State :=
  let aux := op + (if pos = 0xFF then 0x3F else pos) * 256 + (stripes % 2 ^ 32) * 65536
  let kept := s.jour.recs.filter (fun r => !(r.kind = .checkpoint && r.aux % 65536 = aux % 65536))
  let t : State := { s with jour := { s.jour with recs := kept } }
  (t.jAdd { kind := .checkpoint, aux := aux, time := s.clk.ns }).1.pageIfFull

/-- A walk that starts anew has no checkpoint (R193): the record of an earlier one of its kind and position retires. -/
def State.jClear (s : State) (op pos : Nat) : State :=
  let old := s.jour.recs.filter (fun r => r.kind = .checkpoint && r.aux % 65536 = op + pos * 256)
  old.foldl (fun t r => t.jRetire r.jseq) s

/-! ### Journal members -/

/-- Bay cluster of a position. -/
def State.clusterOf (s : State) (a : Nat) : Nat := match s.posBay a with | some b => b / 8 | none => 99

/-- Whether a position is a map position. -/
def State.isMapPos (s : State) (a : Nat) : Bool := s.place.maps.any (fun c => c.pos = a)

/-- The choice of a journal member beside `other` (R144), `out` excluded: the rule is relaxed to map positions, then
to the same bay cluster. -/
def State.pickJournal (s : State) (other : Nat) (out : List Nat) : Option Nat :=
  let cand := (List.range s.bays).filter (fun a =>
    s.inService a && a % 2 = s.skn.side && a ≠ other && !out.contains a)
  let far := fun (a : Nat) => other = 0x3F || s.clusterOf a ≠ s.clusterOf other
  match cand.find? (fun a => !s.isMapPos a && far a) with
  | some a => some a
  | none =>
    match cand.find? (fun a => far a) with
    | some a => some a
    | none => cand.find? (fun _ => true)

/-- The state `bast.state` reads after the journal members moved (R140, R145). -/
def State.bastState (s : State) : Nat :=
  let n := (if s.journalAt s.jour.pos0 then 1 else 0) + (if s.journalAt s.jour.pos1 then 1 else 0)
  match s.jour.rehome with
  | some _ => 1
  | none => if n = 2 then 0 else if n = 1 then 2 else 3

/-- Starts re-homing a journal copy that is not IN_SERVICE to the position R144 picks (R145, R146). From here every new
page goes to the new member too. -/
def State.rehomeCopy (s : State) (copy : Nat) : State :=
  let other := if copy = 0 then s.jour.pos1 else s.jour.pos0
  let old := if copy = 0 then s.jour.pos0 else s.jour.pos1
  if s.jour.rehome ≠ none ∨ s.journalAt old then s
  else
    match s.pickJournal (if s.journalAt other then other else 0x3F) [other] with
    | some c =>
      let j := if copy = 0 then { s.jour with pos0 := c } else { s.jour with pos1 := c }
      ({ s with jour := { j with rehome := some (copy, c)
                                 recs := j.recs.map (fun r =>
                                   if copy = 0 then { r with on0 := false } else { r with on1 := false }) } } : State).setCnt
        Obj.bastRehomeDone 0 0
    | none =>
      let j := if copy = 0 then { s.jour with pos0 := 0x3F } else { s.jour with pos1 := 0x3F }
      { s with jour := j }

/-- Looks at both journal copies again; an event when the journal runs on one member or none (R140, R145). -/
def State.journalCheck (s : State) : State :=
  if s.place.array = none then s
  else
    let was := s.bastState
    let t := (s.rehomeCopy 0).rehomeCopy 1
    let now := t.bastState
    if (now = 2 ∨ now = 3) ∧ now ≠ was then t.note 0xC04 0 0 0 0 else t

/-! ### Map copies -/

/-- Starts re-homing the first map copy whose position left IN_SERVICE (R79): the lowest-numbered IN_SERVICE position
without a map copy. -/
def State.mapCheck (s0 : State) : State :=
  let lostTarget := match s0.place.rehome with
    | some r => !s0.inService (s0.place.maps.getD r {}).pos
    | none => false
  let s : State := if lostTarget then { s0 with place := { s0.place with rehome := none } } else s0
  if s.place.rehome ≠ none ∨ s.place.array = none ∨ s.keeper = false then s
  else
    match findAt (fun (c : MapCopy) => c.pos = 0x3F || !s.inService c.pos) s.place.maps with
    | none => s
    | some (r, _) =>
      let kept := s.place.maps.map (fun c => c.pos)
      match (List.range s.bays).find? (fun a => s.inService a && !kept.contains a) with
      | some a =>
        { s with place := { s.place with rehome := some r, maps := s.place.maps.set r ⟨a, false⟩ } }
      | none => { s with place := { s.place with maps := s.place.maps.set r ⟨0x3F, false⟩ } }

/-- Rewrites every member header (R80). -/
def State.headers (s : State) : State :=
  let t : State := { s with place := { s.place with hdrGen := s.place.hdrGen + 1 } }
  (List.range s.bays).foldl (fun u a => if u.posBay a ≠ none then u.emit (.header a) else u) t

/-- MAP_COPY_DONE: the copy of array metadata to the new map position is complete (R79, R80). -/
def State.mapCopyDone (s : State) : State :=
  match s.place.rehome with
  | none => s
  | some r =>
    let t : State := { s with place := { s.place with
      rehome := none, maps := updAt r (fun c => { c with valid := true }) s.place.maps } }
    (t.headers.note 0xC01 0 0 0 0).mapCheck

/-- JOURNAL_REHOME_DONE: the working copy is written to the new member and the array header names the pair (R145). -/
def State.rehomeDone (s : State) : State :=
  match s.jour.rehome with
  | none => s
  | some (copy, _) =>
    let t : State := { s with jour := { s.jour with
      rehome := none
      recs := s.jour.recs.map (fun r => if copy = 0 then { r with on0 := true, page := s.jour.page } else { r with on1 := true }) } }
    let u := ((t.sendMapBlock 0).note 0xC04 0 0 0 0).setCnt Obj.bastRehomeDone 0 100
    let j := u.actAt Obj.bastJournalMove 0
    (if j % 256 = 1 then u.actDone Obj.bastJournalMove 0 else u).journalCheck

/-- `bast.journal_move` (Table 4-10): the second copy moves to a position; detail 1 wrong parity or not IN_SERVICE, 2 re-homing
running. The first copy's own position is no place for it (detail 1). -/
def State.journalMove (s : State) (a : Nat) : State :=
  if s.jour.rehome ≠ none then s.actFail Obj.bastJournalMove 0 2
  else if a % 2 ≠ s.skn.side ∨ s.inService a = false ∨ a = s.jour.pos0 then s.actFail Obj.bastJournalMove 0 1
  else
    (({ s with jour := { s.jour with pos1 := a, rehome := some (1, a)
                                     recs := s.jour.recs.map (fun r => { r with on1 := false }) } } : State).setCnt
      Obj.bastRehomeDone 0 0).actRun Obj.bastJournalMove 0

/-- MIRROR_REGION_SHRINK (R120): the region shrinks once the dirty bytes have fallen to the lowered ceiling (in MiB). -/
def State.regionShrink (s : State) (dirty : Nat) : State :=
  match s.hoop.lowering with
  | some n => if dirty ≤ n * 1048576 then { s with hoop := { s.hoop with lowering := none } } else s
  | none => s

end Sys2Proof.Machine
end

