-- ==== Sys2Proof/Machine/Members.lean ====
section
/-!
DEFINITION. Machine/Members.lean: member rows and positions (R361, Tables 10-3 and 10-4), lanes (R101), the passes a
failure starts or stops (R172, R175, R201 to R204), member commands and containment (R354 to R359).
-/

namespace Sys2Proof.Machine

/-! ### Passes and lanes -/

/-- Bytes a pass has to reconstruct: allocated stitches of a position (R172). -/
def State.passTotal (s : State) (a : Nat) : Nat :=
  s.place.slots.foldl (fun n x =>
    let g := s.geo x.geo
    let st := (s.bolt x.entry).st
    if a < g.w ∧ (st = .mapped ∨ st = .migrating) then n + g.sb * (g.k + 2) / g.w * g.uBytes else n) 0

/-- Whether a position has failed or is out: a partner of a critical pass (R175). -/
def State.out (s : State) (a : Nat) : Bool := s.posState a = .failed || s.posState a = .absent

/-- Positions within an ACTIVE geometry that are FAILED or ABSENT. -/
def State.outs (s : State) : List Nat := (List.range s.bays).filter (fun a => s.inArray a && s.out a)

/-- A critical pass for each pair of positions out, and none for a pair that no longer is (R175). -/
def State.critCheck (s : State) : State :=
  let o := s.outs
  let pairs := o.flatMap (fun b => (o.filter (fun a => a < b)).map (fun a => (a, b)))
  let kept := s.darn.crits.filter (fun c => s.laneOf c.a ≠ none || s.laneOf c.b ≠ none)
  let fresh := pairs.filter (fun p => !kept.any (fun c => c.a = p.1 && c.b = p.2))
  { s with darn := { s.darn with crits := kept ++ fresh.map (fun p => { a := p.1, b := p.2 }) } }

/-- What critical passes did for a position is void: its lane is freed or starts anew. For the other position of a pair it stands
(R175). -/
def State.dropClaims (s : State) (a : Nat) : State :=
  let mine := s.darn.crits.filter (fun c => c.a = a || c.b = a)
  let kept := mine.filterMap (fun c =>
    let o := if c.a = a then c.b else c.a
    if s.laneOf o ≠ none then some (c, o) else none)
  { s with darn := { s.darn with crits := s.darn.crits.filter (fun c => !(c.a = a || c.b = a))
                                 claims := s.darn.claims.filter (fun e => e.2 ≠ a) ++ kept } }

/-- Stops the proactive copy of a position and frees its lane (R204). -/
def State.stopCopy (s : State) (a : Nat) : State :=
  let t := match s.laneOf a with
    | some l => s.putLane l {}
    | none => s
  t.putPass a {}

/-- A lane a proactive copy of a FAILING position holds (R204). -/
def State.copyLane (s : State) : Option Nat :=
  ((s.place.lanes.filter (fun e => e.2.pos ≠ 0xFF && s.posState e.2.pos = .failing)).map (fun e => e.2.pos)).head?

/-- Starts the normal pass of a position in its lane, from the cursor `from_` (R172, R203). -/
def State.startPass (s : State) (a l from_ : Nat) : State :=
  let p := s.pass a
  let s := if from_ = 0 then s.jClear 1 a else s
  (s.putLane l ⟨a, 1⟩).putPass a { st := 1, cursor := from_, done := if from_ = 0 then 0 else p.done, total := s.passTotal a }

/-- A position enters FAILED (R101, R172, R203, R204): it keeps the lane of its proactive copy, or takes the lowest
free lane, or one that a proactive copy gives up; without any, an event. `fresh` starts the pass at offset 0. -/
def State.posFailed (s : State) (a : Nat) (bay : Nat) (fresh : Bool) : State :=
  let t :=
    match s.laneOf a with
    | some l =>
      let p := s.pass a
      if fresh then (s.dropClaims a).startPass a l 0
      else if p.st = 4 then (s.putLane l ⟨a, 2⟩).putPass a { p with st := 2 }
      else if p.st = 2 then s
      else s.startPass a l p.cursor
    | none =>
      match s.freeLane with
      | some l => s.startPass a l 0
      | none =>
        match s.copyLane with
        | some b =>
          let u := s.stopCopy b
          let u := u.putPass b { st := 5 }
          match u.freeLane with
          | some l => u.startPass a l 0
          | none => u
        | none => (s.putPass a {}).note 0xB04 3 bay 0 0
  t.critCheck

/-- A lane freed by copy-back is taken at once by the lowest-numbered FAILED position without one (R101). -/
def State.laneFreed (s : State) : State :=
  match s.freeLane with
  | none => s
  | some l =>
    match (List.range s.bays).find? (fun a => s.inArray a && s.posState a = .failed && s.laneOf a = none) with
    | some a => s.startPass a l 0
    | none => s

/-! ### Member transitions -/

/-- Records the state of a position in array metadata (R361, R363). -/
def State.recordPos (s : State) (a st : Nat) : State :=
  { s with drv := { s.drv with recs := Tbl.upd {} s.drv.recs a (fun r => { r with st := st }) } }

/-- Sends a member row to the partner (R363). -/
def State.tellMember (s : State) (b : Nat) : State :=
  if s.skn.present ∧ s.keeper then s.later (.twin (.keeper (.member b (s.mem b).st.code (s.mem b).pos (s.mem b).reason))) else s

/-- Puts a member row in a state: recorded for its position, told to the partner, copies looked at again. -/
def State.memTo (s : State) (b : Nat) (st : MemSt) (reason : Nat) : State :=
  let m := s.mem b
  let t := s.putMem b { m with st := st, reason := reason, grace := if st = .inService ∨ st = .rebuilding then false else m.grace }
  let u := if m.pos ≠ 0xFF ∧ st ≠ .probing then t.recordPos m.pos st.code else t
  (u.tellMember b).later .posMoved

/-- Unbinds a bay. -/
def State.unbind (s : State) (b : Nat) : State :=
  (s.putMem b { s.mem b with pos := 0xFF }).tellMember b

/-- The position of an unbound bay follows R361: FAILED, with a lane, within an ACTIVE geometry. -/
def State.unboundPos (s : State) (a b : Nat) (fresh : Bool) : State :=
  if a ≠ 0xFF ∧ s.inArray a then ((s.recordPos a 4).posFailed a b fresh).later .posMoved else s.later .posMoved

/-- Whether a SPARE bay can take a position (details 3 and 4 of `mem.assign`). -/
def State.spareDetail (s : State) (b : Nat) (force : Bool) : Nat :=
  let m := s.mem b
  if m.st ≠ .spare then 1
  else if s.place.geos.any (fun e => e.2.st = 2) ∧ m.capacity < s.dataSpace + zoneBytes then 3
  else if m.foreign ∧ force = false then 4
  else 0

/-- Binds a bay to a position with its header written. -/
def State.bindBay (s : State) (b a : Nat) : State :=
  let gen := s.place.hdrGen
  let t := s.putMem b { s.mem b with pos := a, hdrGen := gen, foreign := false }
  let u : State := { t with drv := { t.drv with recs := Tbl.set {} t.drv.recs a ⟨(s.mem b).st.code, gen⟩ } }
  u.emit (.header a)

/-- Starts the copy-back of a position in REBUILDING: the walk begins at the first entry; a lane held serves it
(R107, R109). -/
def State.startCopyback (s : State) (a : Nat) : State :=
  let s := s.jClear 2 a
  let t : State := { s with place := { s.place with copyback := Tbl.set none s.place.copyback a (some 0) } }
  match t.laneOf a with
  | some l => t.putLane l ⟨a, 3⟩
  | none => t

/-- A SPARE bay enters REBUILDING in a FAILED position; a bay still bound to it goes to RETIRED (Table 10-3). -/
def State.replace (s : State) (b a : Nat) : State :=
  let t := match s.posBay a with
    | some old => (s.memTo old .retired (s.mem old).reason).unbind old
    | none => s
  ((t.bindBay b a).memTo b .rebuilding 0).startCopyback a

/-- Auto-replacement of a FAILED position (R361). -/
def State.autoReplace (s : State) (a : Nat) : State :=
  if s.rw Obj.arrAutoReplace 0 = 1 ∧ s.inArray a ∧ s.posState a = .failed then
    match (List.range s.bays).find? (fun b => s.spareDetail b false = 0) with
    | some b => s.replace b a
    | none => s
  else s

/-- A failure criterion (Table 10-4): from IN_SERVICE, FAILING or REBUILDING to FAILED, commands abandoned. -/
def State.memFail (s : State) (b reason : Nat) : State :=
  let m := s.mem b
  if ¬ (m.st = .inService ∨ m.st = .failing ∨ m.st = .rebuilding) then s
  else if s.keeper = false then s.later (.twin (.keeper (.criterion b reason)))
  else
    let t := (s.memTo b .failed reason).later (.memDown b)
    let u := { t with place := { t.place with copyback := Tbl.set none t.place.copyback m.pos none } }
    ((u.note 0xB02 3 b 0 0).posFailed m.pos b (m.st = .rebuilding)).autoReplace m.pos

/-- Lanes free. -/
def State.freeLanes (s : State) : Nat :=
  ((List.range (s.rw Obj.placeSpareLanes 0)).filter (fun l => (Tbl.get {} s.place.lanes l).pos = 0xFF)).length

/-- Starts the proactive copy of a FAILING position, or leaves it waiting for a lane (R201). -/
def State.startCopy (s : State) (a : Nat) : State :=
  match s.freeLane with
  | some l =>
    if s.rw Obj.rbKeepLanes 0 + 1 ≤ s.freeLanes then
      ((s.jClear 1 a).putLane l ⟨a, 1⟩).putPass a { st := 3, total := s.passTotal a }
    else s.putPass a { s.pass a with st := 5 }
  | none => s.putPass a { s.pass a with st := 5 }

/-- A failing criterion: IN_SERVICE to FAILING, with a proactive copy. -/
def State.memFailing (s : State) (b reason : Nat) : State :=
  let m := s.mem b
  if m.st ≠ .inService then s
  else if s.keeper = false then s.later (.twin (.keeper (.criterion b reason)))
  else ((s.memTo b .failing reason).note 0xB03 3 b 0 0).startCopy m.pos

/-- Presence of a bay lost (Table 10-3). -/
def State.memGone (s : State) (b : Nat) : State :=
  let m := s.mem b
  match m.st with
  | .absent => s
  | .failed =>
    let a := m.pos
    ((((s.memTo b .absent m.reason).later (.memDown b)).unbind b).unboundPos a b false)
  | .inService | .failing | .rebuilding =>
    let t := ((s.memTo b .absent 0).later (.memDown b))
    let u := t.putMem b { t.mem b with grace := true }
    let v := { u with place := { u.place with copyback := Tbl.set none u.place.copyback m.pos none } }
    -- the spare slots are older than what was written home below the copy-back cursor
    let w := if m.st = .rebuilding then (v.dropClaims m.pos).putPass m.pos {} else v
    w.critCheck
  | _ => (s.memTo b .absent m.reason).later (.memDown b)

/-- Either rail of a PROBING bay leaves ON (Table 10-3). -/
def State.probeStopped (s : State) (b : Nat) : State :=
  if (s.mem b).st = .probing then s.memTo b .absent (s.mem b).reason else s

/-- Both rails ON after insertion, or `dlink.retrain` (Table 10-3). -/
def State.memProbe (s : State) (b : Nat) : State :=
  if (s.mem b).st = .absent ∨ (s.mem b).st = .retired then s.memTo b .probing 0 else s

/-- A probe fails (Table 10-3, Table 10-4 reasons 1 to 4). -/
def State.probeFail (s : State) (b reason : Nat) : State :=
  let m := s.mem b
  if m.st ≠ .probing then s
  else
    let t := (s.memTo b .retired reason).note 0xB01 3 b 0 0
    if m.pos = 0xFF then t else ((t.unbind b).unboundPos m.pos b false).autoReplace m.pos

/-- What a probe read of a drive: serial number and model (encoded strings), capacity in bytes, I/O queues, whether it
reports a volatile write cache, the header's array, position and generation (array 0: blank). -/
structure Probe where
  serial : Nat
  model : Nat
  capacity : Nat
  queues : Nat
  volatileCache : Bool
  array : Nat
  gen : Nat
deriving DecidableEq, Repr

/-- A probe passes (Table 10-3); a bound member is back in service (Table 8-3). -/
def State.probePass (s : State) (b : Nat) (p : Probe) : State :=
  let m := s.mem b
  let s := s.putMem b { m with serial := p.serial, model := p.model, capacity := p.capacity, ioQueues := min 64 p.queues
                               volatile := p.volatileCache, hdrGen := p.gen
                               foreign := p.array ≠ 0 && s.place.array ≠ some p.array }
  if m.pos = 0xFF then s.memTo b .spare 0
  else
    let r := Tbl.get {} s.drv.recs m.pos
    let t := s.fenServe 3 m.pos
    if p.gen = r.gen ∧ r.st = 2 ∧ m.grace = false then t.memTo b .inService 0
    else (((t.bindBay b m.pos).memTo b .rebuilding 0).startCopyback m.pos).critCheck

/-- The probe of a bay ends (R358, Table 10-2): `fail` is the step that failed, 0 none. Steps 2 and 4 also look at the
queues and the capacity. -/
def State.probeDone (s : State) (b fail : Nat) (p : Probe) : State :=
  if (s.mem b).st ≠ .probing then s
  else if fail ≠ 0 then s.probeFail b (if fail = 5 then 2 else min fail 4)
  else if p.queues < 16 then s.probeFail b 2
  else if s.place.geos.any (fun e => e.2.st = 2) ∧ p.capacity < s.dataSpace + zoneBytes then s.probeFail b 4
  else s.probePass b p

/-- `arr.absent_grace` expires on a bound ABSENT bay (Table 10-3). -/
def State.graceExpired (s : State) (b : Nat) : State :=
  let m := s.mem b
  if m.st = .absent ∧ m.pos ≠ 0xFF ∧ m.grace then
    let t := (s.putMem b { m with grace := false, reason := 8 }).unbind b
    (t.unboundPos m.pos b false).autoReplace m.pos
  else s

/-- `mem.assign` (Table 10-6): position [5:0], force [8]. -/
def State.assign (s : State) (b arg : Nat) : State :=
  let a := arg % 64
  let d := s.spareDetail b (bit arg 8)
  let unboundAbsent := s.posBay a = none && s.posState a = .absent
  let d2 := if d = 1 then 1 else if ¬ (s.posState a = .failed ∨ unboundAbsent) then 2 else d
  if d2 ≠ 0 then s.actFail Obj.memAssign b d2
  else if unboundAbsent then ((s.bindBay b a).memTo b .inService 0).actDone Obj.memAssign b
  else (s.replace b a).actDone Obj.memAssign b

/-- `mem.retire` (Table 10-3, Table 10-4 reason 10). -/
def State.retire (s : State) (b : Nat) : State :=
  let m := s.mem b
  let reb : Bool := m.st = .rebuilding
  let t :=
    match m.st with
    | .absent => s
    | .inService => if m.pos = 0xFF then s.memTo b .retired 10 else s.memFailing b 10
    | .failing =>
      let u := s.putMem b { m with reason := 10 }
      if (u.pass m.pos).st = 4 then u.memFail b 10 else u
    | _ =>
      let u := (s.memTo b .retired 10).later (.memDown b)
      if m.pos = 0xFF then u
      else
        let v := { u with place := { u.place with copyback := Tbl.set none u.place.copyback m.pos none } }
        (v.unbind b).unboundPos m.pos b reb
  t.actDone Obj.memRetire b

/-- Whether a failing criterion of Table 10-4 is present in what was last read of a member. -/
def State.failingNow (s : State) (b : Nat) : Nat :=
  let m := s.mem b
  if m.warn % 2 = 1 ∨ bit m.warn 2 ∨ bit m.warn 4 then 11
  else if s.rw Obj.arrWearLimit 0 ≤ m.pctUsed then 12
  else if s.rw Obj.arrMediaLimit 0 ≤ m.mediaErrors - minOf (m.media.map (fun e => e.2)) then 13
  else 0

/-- `mem.clear_failing`. -/
def State.clearFailing (s : State) (b : Nat) : State :=
  let m := s.mem b
  if m.st ≠ .failing then s.actFail Obj.memClearFailing b 2
  else if s.failingNow b ≠ 0 then s.actFail Obj.memClearFailing b 1
  else (((s.memTo b .inService 0).stopCopy m.pos).laneFreed).actDone Obj.memClearFailing b

/-- The SMART / Health log of a member is read (R360, Table 10-4 reasons 7 and 11 to 13). -/
def State.health (s : State) (b warn pct media : Nat) : State :=
  let m := s.mem b
  let day : Nat := 86400000000000
  let readings := (m.media.filter (fun e => s.clk.ns < e.1 + day)) ++ [(s.clk.ns, media)]
  let t := s.putMem b { m with warn := warn, pctUsed := min 255 pct, mediaErrors := media, media := readings }
  if bit warn 3 then t.memFail b 7
  else if t.failingNow b ≠ 0 then t.memFailing b (t.failingNow b)
  else t

/-! ### Member commands -/

/-- The drive link of a bay. -/
def State.link (s : State) (b : Nat) : DLink := Tbl.get {} s.drv.links b

/-- Replaces a drive link row. -/
def State.putLink (s : State) (b : Nat) (l : DLink) : State :=
  { s with drv := { s.drv with links := Tbl.set {} s.drv.links b l } }

/-- A command outstanding. -/
def State.findCmd (s : State) (tag : Nat) : Option MCmd := s.drv.cmds.find? (fun c => c.tag = tag)

/-- The Abort of a command is answered, by the command's completion. -/
def State.dropAbort (s : State) (tag : Nat) : State :=
  { s with drv := { s.drv with aborts := s.drv.aborts.filter (fun a => a.1 ≠ tag) } }

/-- Removes a command. -/
def State.dropCmd (s : State) (tag : Nat) : State :=
  ({ s with drv := { s.drv with cmds := s.drv.cmds.filter (fun c => c.tag ≠ tag) } }).dropAbort tag

/-- Changes a command. -/
def State.updCmd (s : State) (tag : Nat) (f : MCmd → MCmd) : State :=
  { s with drv := { s.drv with cmds := updWhere (fun c => c.tag = tag) f s.drv.cmds } }

/-- Sends a member command on its way: directly, through the partner (R364), failed at once or held while the port is contained
(R354: a read fails, a write is not issued), held while the controller is being reset (R359). -/
def State.sendCmd (s : State) (c : MCmd) : State :=
  let l := s.link c.bay
  if l.path = 1 then s.later (.twin (.proxyCmd c.tag c.bay c.kind c.lba c.count c.data))
  else if l.st = 3 ∧ c.kind = .read then s.later (.readLost c.tag)
  else if l.st = 3 ∨ (s.mem c.bay).resetting then s.updCmd c.tag (fun x => { x with held := true })
  else s.emit (.member c.tag c.bay c.kind c.lba c.count c.data)

/-- Issues a member command to a position (R356, R357). Answers its tag, none when no bay serves the position. -/
def State.issue (s : State) (a : Nat) (kind : MKind) (lba count : Nat) (data : List Blk) (o : Owner) : State × Option Nat :=
  match s.posBay a with
  | none => (s, none)
  | some b =>
    let c : MCmd := { tag := s.drv.tag, bay := b, kind := kind, lba := lba, count := count, data := data, owner := o }
    let t : State := { s with drv := { s.drv with cmds := s.drv.cmds ++ [c], tag := s.drv.tag + 1 } }
    (t.sendCmd c, some c.tag)

/-- Containment of a root port (R354): counted, an event, outstanding reads fail at once, writes are held for the
recovery. `recover` starts the recovery of R355. -/
def State.contain (s : State) (b : Nat) (recover : Bool) : State :=
  let l := s.link b
  let t := s.putLink b { l with st := 3, recovering := recover }
  let u := (t.addCnt 32 Obj.dlinkUncorrectable b 1).note 0xB0A 3 b 0 0
  { u with drv := { u.drv with cmds := updWhere (fun c => c.bay = b && c.kind = .write) (fun c => { c with held := true }) u.drv.cmds } }

/-- Reissues the held commands of a bay. -/
def State.reissue (s : State) (b : Nat) : State :=
  (s.drv.cmds.filter (fun c => c.bay = b && c.held)).foldl
    (fun t c => (t.updCmd c.tag (fun x => { x with held := false })).sendCmd { c with held := false }) s

/-- Recovery succeeded (R355): containment ends, the held writes are reissued. -/
def State.linkBack (s : State) (b speed width : Nat) : State :=
  let l := s.link b
  if l.st ≠ 3 then s
  else (s.putLink b { l with st := 2, recovering := false, path := 0, speed := speed, width := width }).reissue b

/-- `dlink.recover_time` passed (R355, R361 reason 14, R364): through the partner where its path works. -/
def State.recoverTimeout (s : State) (b : Nat) (partnerPath : Bool) : State :=
  let l := s.link b
  if l.st ≠ 3 ∨ l.recovering = false then s
  else if s.skn.present ∧ partnerPath then
    ((s.putLink b { l with recovering := false, path := 1 }).note 0xB08 3 b 0 0).reissue b
  else (s.putLink b { l with recovering := false, path := 2 }).memFail b 14

end Sys2Proof.Machine
end

