-- ==== Sys2Proof/Machine/Hoop.lean ====
section
/-!
DEFINITION. Machine/Hoop.lean: the hoop: frames and admission (R116 to R126), acknowledgment and mirroring (R133 to
R139), destage (R127 to R132, R140), the lost-block log (R187 to R192).
-/

namespace Sys2Proof.Machine

/-! ### Stripes and frames -/

/-- A stripe. -/
def State.stripe (s : State) (k : SKey) : Stripe := Tbl.get {} s.hoop.stripes k.num

/-- Replaces a stripe. -/
def State.putStripe (s : State) (k : SKey) (x : Stripe) : State :=
  { s with hoop := { s.hoop with stripes := Tbl.set {} s.hoop.stripes k.num x } }

/-- The key of a stripe's number. -/
def skeyOf (n : Nat) : SKey := ⟨n / 131072, n / 65536 % 2, n % 65536⟩

/-- Frames of a stripe, the successor's among them. -/
def Stripe.all (x : Stripe) : List Frame := (x.frames ++ x.succ).filterMap (fun e => e.2)

/-- Hoop bytes of the frames that satisfy `p`, over the stripes that satisfy `q`; frames count whole (R119). -/
def State.hoopBytes (s : State) (q : SKey → Bool) (p : Frame → Bool) : Nat :=
  s.hoop.stripes.foldl (fun n e =>
    let k := skeyOf e.1
    if q k then n + (e.2.all.filter p).length * (s.slotOf k).1.uBytes else n) 0

/-- Whether a stripe belongs to a namespace. -/
def State.ofNs (s : State) (ns : Nat) (k : SKey) : Bool := (s.bolt k.entry).ns = ns && (s.bolt k.entry).st ≠ .unmapped

/-- RESERVED and DIRTY bytes of the device (`hoop.dirty`). -/
def State.hoopDirty (s : State) : Nat := s.hoopBytes (fun _ => true) (fun _ => true)

/-- RESERVED and DIRTY bytes of a partition. -/
def State.partBytes (s : State) (ns : Nat) : Nat := s.hoopBytes (s.ofNs ns) (fun _ => true)

/-- RESERVED bytes of a command. -/
def State.reservedBy (s : State) (id : Nat) : Nat := s.hoopBytes (fun _ => true) (fun f => f.owner = id)

/-- 1 MiB. -/
def mib : Nat := 1048576

/-- `hpart.size` in bytes. -/
def State.partSize (s : State) (ns : Nat) : Nat := s.rw Obj.hpartSize ns * mib

/-- The dirty ceiling in bytes. -/
def State.ceiling (s : State) : Nat := s.rw Obj.hoopDirtyCeiling 0 * mib

/-- Whether writes are mirrored to the partner (R133, R139). -/
def State.mirroring (s : State) : Bool := s.rw Obj.hoopMirror 0 = 1 && s.hoop.mirrorState ≠ 1

/-- Write-through acknowledgment (R134, R139). -/
def State.writeThrough (s : State) : Bool := !(s.rw Obj.hoopMirror 0 = 1 && s.hoop.mirrorState = 0)

/-- The newest block the hoop holds, the shadow frame first (R135). -/
def Stripe.newest (x : Stripe) (col row : Nat) : Option Blk :=
  let of := fun (t : Tbl (Option Frame)) => (Tbl.get none t col).bind (fun f => Tbl.get none f.blks row)
  match of x.succ with
  | some b => some b
  | none => of x.frames

/-- Whether every data sector of a stripe is in its frames, acknowledged (Table 4-1). -/
def State.allDirty (s : State) (k : SKey) : Bool :=
  let g := (s.slotOf k).1
  (List.range g.k).all (fun c =>
    match Tbl.get none (s.stripe k).frames c with
    | some f => f.owner = 0 && (List.range g.rows).all (fun r => g.isPad k.stripe c r || (Tbl.get none f.blks r).isSome)
    | none => g.isPad k.stripe c 0)

/-- Triggers the destage of a stripe (R128). -/
def State.trigger (s : State) (k : SKey) : State :=
  let x := s.stripe k
  if x.st = .filling then s.putStripe k { x with trig := true } else s

/-- The FILLING stripes not yet triggered, oldest first by hold-timer start (Table 4-1). -/
def State.oldest (s : State) (q : SKey → Bool) : List SKey :=
  let l := s.hoop.stripes.filter (fun e => e.2.st = .filling && !e.2.trig && e.2.timer ≠ none && q (skeyOf e.1))
  (sortBy (fun a b => a.2.timer.getD 0 ≤ b.2.timer.getD 0) l).map (fun e => skeyOf e.1)

/-- Triggers stripes, oldest first, until the bytes left untriggered are at most `limit`. -/
def State.triggerDown (s : State) (limit : Nat) : List SKey → Nat → State
  | [], _ => s
  | k :: r, left =>
    if left ≤ limit then s
    else (s.trigger k).triggerDown limit r (left - (s.stripe k).all.length * (s.slotOf k).1.uBytes)

/-- The high-water and ceiling triggers of Table 4-1 for a partition: until what is not leaving is back below. -/
def State.highWater (s : State) (ns : Nat) : State :=
  let staying := fun (k : SKey) => (s.stripe k).st = .filling && !(s.stripe k).trig
  let hw := s.partSize ns * s.rw Obj.hoopHighWater 0 / 100
  let t := if s.partBytes ns ≤ hw then s
    else s.triggerDown hw (s.oldest (s.ofNs ns)) (s.hoopBytes (fun k => s.ofNs ns k && staying k) (fun _ => true))
  let all := t.hoopBytes (fun k => (t.stripe k).st = .filling && !(t.stripe k).trig) (fun _ => true)
  if t.hoopDirty < t.ceiling then t
  else t.triggerDown (t.ceiling - 1) (t.oldest (fun _ => true)) all

/-! ### Admission -/

/-- A write in progress. -/
def State.findWrite (s : State) (id : Nat) : Option WCmd := s.hoop.writes.find? (fun c => c.id = id)

/-- Changes a write. -/
def State.updWrite (s : State) (id : Nat) (f : WCmd → WCmd) : State :=
  { s with hoop := { s.hoop with writes := updWhere (fun c => c.id = id) f s.hoop.writes } }

/-- Changes a range of a write. -/
def State.updRange (s : State) (id idx : Nat) (f : Range → Range) : State :=
  s.updWrite id (fun c => { c with ranges := updAt idx f c.ranges })

/-- Whether a range lands in the successor's frames: its stripe is BASTED or DESTAGING (R130), or its fill-in is done and its
DESTAGE record on the way (log entry 50). -/
def Stripe.shadowed (x : Stripe) : Bool := x.st = .basted || x.st = .destaging || x.live.isSome

/-- A FILLING stripe without a frame left is CLEAN. -/
def Stripe.tidy (x : Stripe) : Stripe :=
  if x.frames = [] && x.succ = [] && x.st = .filling && x.live.isNone then { gen := x.gen, restored := x.restored } else x

/-- What keeps a command from a further frame: 0 nothing, 1 its quarter of the partition, 2 space (R119, R122). -/
def State.blockedBy (s : State) (c : WCmd) (u : Nat) : Nat :=
  if s.hoop.stopped ∨ s.sk.tko.held ∨ s.partSize c.ns < s.partBytes c.ns + u ∨ s.ceiling < s.hoopDirty + u then 2
  else if s.partSize c.ns / 4 < s.reservedBy c.id + u then 1
  else 0

/-- Reserves a range's frame where it needs one (R121): 0 reserved, else what blocks it. -/
def State.reserveRange (s : State) (c : WCmd) (idx : Nat) (r : Range) : State × Nat :=
  let x := s.stripe r.key
  let sh := x.shadowed
  let frames := if sh then x.succ else x.frames
  let go := fun (t : State) (fresh : Bool) =>
    (t.updRange c.id idx (fun r => { r with st := 1, newFrame := fresh, shadow := sh })).later (.fetch c.req c.id idx)
  if Tbl.get none frames r.col ≠ none then (go s false, 0)
  else
    let b := s.blockedBy c (s.slotOf r.key).1.uBytes
    if b ≠ 0 then (s, b)
    else
      let fs := Tbl.set none frames r.col (some { owner := c.id })
      let y := if sh then { x with succ := fs }
        else { x with frames := fs, st := if x.st = .clean then .filling else x.st }
      (go (s.putStripe r.key y) true, 0)

/-- Reserves ranges in ascending order until one is blocked (R122); answers what blocked it. -/
def State.reserveAll (s : State) (id : Nat) : Nat → State × Nat
  | 0 => (s, 0)
  | n + 1 =>
    match s.findWrite id with
    | none => (s, 0)
    | some c =>
      match findAt (fun (r : Range) => r.st = 0) c.ranges with
      | none => (s, 0)
      | some (idx, r) =>
        match s.reserveRange c idx r with
        | (t, 0) => t.reserveAll id n
        | (t, b) => (t, b)

/-- Whether a write still waits for a frame. -/
def State.waits (s : State) (id : Nat) : Bool :=
  match s.findWrite id with
  | some c => c.ranges.any (fun r => r.st = 0)
  | none => false

/-- Serves the commands that wait in a partition, in the order they began to wait: one held by its quarter lets the
next be served, one held by space does not (R122). -/
def State.serveList (ns : Nat) : List Nat → State → State
  | [], s => s
  | id :: r, s =>
    match s.findWrite id with
    | none => State.serveList ns r s
    | some c =>
      if c.ns ≠ ns then State.serveList ns r s
      else
        let a := s.reserveAll id c.ranges.length
        if a.2 = 2 then a.1 else State.serveList ns r a.1

/-- Serves a partition and forgets the commands that wait no longer. -/
def State.serveFrames (s : State) (ns : Nat) : State :=
  let t := State.serveList ns s.hoop.queue s
  { t with hoop := { t.hoop with queue := t.hoop.queue.filter t.waits } }

/-- Admits a write of a byte range of a namespace (R121, R122): its ranges, its frames as far as they can be had. -/
def State.admitWrite (s : State) (req : Req) (ns first bytes : Nat) : State :=
  let id := s.hoop.nextCmd
  let rs := s.ranges ns (bytes / 16384 + 2 + bytes / 2 ^ 30 * 2) first bytes 0
  let c : WCmd := { id := id, req := req, ns := ns, first := first, bytes := bytes, ranges := rs }
  let t : State := { s with hoop := { s.hoop with
    writes := s.hoop.writes ++ [c], nextCmd := id + 1, queue := s.hoop.queue ++ [id] } }
  let u := t.serveFrames ns
  if u.waits id then (u.addCnt 64 Obj.hpartAdmitWaits ns 1).highWater ns else u

/-! ### Mirroring and acknowledgment -/

/-- The generation of a stripe's frames, or of its successor's (R130, Table 4-3): that of the basting they go with. -/
def Stripe.frameGen (x : Stripe) (shadow : Bool) : Nat :=
  if x.live.isSome && !shadow then x.gen else wrapAdd 32 x.gen 1


/-- Sends a frame's blocks to the partner under the next mirror sequence (R137). -/
def State.mirrorFrame (s : State) (k : SKey) (shadow : Bool) (col : Nat) : State :=
  let x := s.stripe k
  let fs := if shadow then x.succ else x.frames
  match Tbl.get none fs col with
  | none => s
  | some f =>
    let q := s.hoop.mseq
    let m : MirrorFrame := ⟨(s.bolt k.entry).ns, k, col, x.frameGen shadow, q, s.cntAt Obj.bootEpoch 0, f.blks⟩
    let fs2 := Tbl.set none fs col (some { f with mseq := q, acked := false })
    let t := s.putStripe k (if shadow then { x with succ := fs2 } else { x with frames := fs2 })
    ({ t with hoop := { t.hoop with mseq := wrapAdd 64 q 1 } }).later (.twin (.mirrorWrite m))

/-- Makes a range's frame DIRTY (R116): it leaves the reservation. -/
def State.frameDirty (s : State) (r : Range) : State :=
  let x := s.stripe r.key
  let f := fun (t : Tbl (Option Frame)) => Tbl.upd none t r.col (fun o => o.map (fun f => { f with owner := 0 }))
  s.putStripe r.key (if r.shadow then { x with succ := f x.succ } else { x with frames := f x.frames })

/-- Whether a command other than `id` has yet to write the frame of a range. -/
def State.othersWrite (s : State) (id : Nat) (k : SKey) (col : Nat) (shadow : Bool) : Bool :=
  s.hoop.writes.any (fun c => c.id ≠ id && c.ranges.any (fun g => g.key = k && g.col = col && g.shadow = shadow && (g.st = 1 || g.st = 2)))

/-- The frame of a range holds no block: every block of its data failed V1. -/
def State.frameEmpty (s : State) (r : Range) : Bool :=
  match Tbl.get none (if r.shadow then (s.stripe r.key).succ else (s.stripe r.key).frames) r.col with
  | some f => f.blks = []
  | none => true

/-- Such a frame is FREE again, unless another command writes it. -/
def State.freeEmpty (s : State) (id : Nat) (r : Range) : State :=
  let x := s.stripe r.key
  if s.othersWrite id r.key r.col r.shadow then s
  else s.putStripe r.key (if r.shadow then { x with succ := Tbl.set none x.succ r.col none }
    else { x with frames := Tbl.set none x.frames r.col none }).tidy

/-- Completes a write once every range is acknowledged (R123), unless completions are held (R467). -/
def State.finishWrite (s : State) (id : Nat) : State :=
  match s.findWrite id with
  | none => s
  | some c =>
    if c.ranges.all (fun r => r.st = 3) && !s.sk.tko.held then
      ({ s with hoop := { s.hoop with writes := s.hoop.writes.filter (fun w => w.id ≠ id) } }).later
        (.done c.req c.status 0 c.bytes)
    else s

/-- Acknowledges a range (R133, R134). -/
def State.ackRange (s : State) (id idx : Nat) : State :=
  match s.findWrite id with
  | none => s
  | some c =>
    match c.ranges[idx]? with
    | none => s
    | some r => ((s.frameDirty r).updRange id idx (fun r => { r with st := 3 })).finishWrite id

/-- The ranges that satisfy `p`, by command and index. -/
def State.rangesWhere (s : State) (p : WCmd → Range → Bool) : List (Nat × Nat) :=
  s.hoop.writes.flatMap (fun c => (c.ranges.zipIdx.filter (fun e => p c e.1)).map (fun e => (c.id, e.2)))

/-- Acknowledges every range that satisfies `p`. -/
def State.ackWhere (s : State) (p : WCmd → Range → Bool) : State :=
  (s.rangesWhere p).foldl (fun t e => t.ackRange e.1 e.2) s

/-- A range has all its data in its frame: it is mirrored, or in write-through it becomes DIRTY and its stripe is
destaged at once (R128, R133, R134). -/
def State.rangePlaced (s : State) (id idx : Nat) : State :=
  match s.findWrite id with
  | none => s
  | some c =>
    match c.ranges[idx]? with
    | none => s
    | some r =>
      if r.st ≠ 1 ∨ s.hoop.fills.any (fun f => f.cmd = id && f.range = idx) then s
      else if s.frameEmpty r then (s.freeEmpty id r).ackRange id idx
      else
        let q := s.hoop.mseq
        let t := if s.mirroring then s.mirrorFrame r.key r.shadow r.col else s
        let u := t.updRange id idx (fun r => { r with st := 2, mseq := q })
        let v := if u.writeThrough then (u.frameDirty r).trigger r.key else u
        (if v.allDirty r.key then v.trigger r.key else v).highWater c.ns

/-- The hold time of a stripe of a namespace in ns: what a hold timer that starts now runs for (R127). -/
def State.holdTime (s : State) (ns : Nat) : Nat :=
  (if s.rw Obj.hpartHoldTime ns = 0 then s.rw Obj.hoopHoldTime 0 else s.rw Obj.hpartHoldTime ns) * 1000

/-- Puts a block into a frame and sets its sector map bit; the first bit of the stripe starts its hold timer (R127). -/
def State.putBlk (s : State) (k : SKey) (shadow : Bool) (col row : Nat) (b : Blk) : State :=
  let x := s.stripe k
  let now := s.clk.ns
  let h := s.holdTime (s.bolt k.entry).ns
  let f := fun (t : Tbl (Option Frame)) => Tbl.upd none t col (fun o => some (
    let f := o.getD {}
    { f with blks := Tbl.set none f.blks row (some b), acked := false }))
  s.putStripe k (if shadow then
      { x with succ := f x.succ, succTimer := some (x.succTimer.getD now), succHold := if x.succTimer.isNone then h else x.succHold }
    else { x with frames := f x.frames, timer := some (x.timer.getD now), hold := if x.timer.isNone then h else x.hold })

/-- A block of write data: row of the stitch, first byte and length in the block, the bytes, the stored metadata where
the block is whole. -/
structure WBlk where
  row : Nat
  lo : Nat
  len : Nat
  data : Nat
  pi : Nat
deriving DecidableEq, Repr

/-- Stored metadata of a block the device puts together itself: format 0 its CRC-64, else generated PI with
`ns.app_tag` and the tag of the block (R91, R92). -/
def State.ownPi (s : State) (ns nsBlk data : Nat) : Nat :=
  let fmt := s.fmtOf ns
  storedMeta fmt ns nsBlk data (mkPi fmt (guardOf fmt (leBytes 4096 data)) (s.rw Obj.nsAppTag ns) ((refWanted fmt nsBlk).getD nsBlk))

/-- Merges bytes into a block (R126). -/
def State.mergeBlk (s : State) (ns nsBlk : Nat) (old : Blk) (lo len data : Nat) : Blk :=
  let d := setBits old.data (8 * lo) (8 * len) data
  ⟨d, s.ownPi ns nsBlk d⟩

/-- Places one block of a range: whole, merged into what the hoop holds or the zeros of a ZERO bolt, or waiting for
its fill read (R126). -/
def State.placeBlk (s : State) (id idx : Nat) (r : Range) (w : WBlk) : State :=
  let ns := (s.bolt r.key.entry).ns
  let nb := s.blkNo r.key r.col w.row
  if w.lo = 0 ∧ w.len = 4096 then s.putBlk r.key r.shadow r.col w.row ⟨w.data, w.pi⟩
  else
    match (s.stripe r.key).newest r.col w.row with
    | some b => s.putBlk r.key r.shadow r.col w.row (s.mergeBlk ns nb b w.lo w.len w.data)
    | none =>
      if (s.bolt r.key.entry).st = .zero then
        s.putBlk r.key r.shadow r.col w.row (s.mergeBlk ns nb (zeroBlk (s.fmtOf ns) ns nb) w.lo w.len w.data)
      else
        let f : FillWait := ⟨id, idx, w.row, w.lo, w.len, w.data⟩
        { s with hoop := { s.hoop with fills := s.hoop.fills ++ [f] } }

/-- The data of a reserved range arrives, with the status its checks earned (R123, V1). -/
def State.rangeData (s : State) (id idx : Nat) (blks : List WBlk) (status : Nat) : State :=
  match s.findWrite id with
  | none => s
  | some c =>
    match c.ranges[idx]? with
    | none => s
    | some r =>
      if r.st ≠ 1 ∨ s.hoop.fills.any (fun f => f.cmd = id && f.range = idx) then s
      else
        let t := blks.foldl (fun u w => u.placeBlk id idx r w) s
        (t.updWrite id (fun c => { c with status := if c.status = 0 then status else c.status })).rangePlaced id idx

/-- FILL_READ_DONE: the block read for a partial write is merged (R126); where it could not be read the command
completes with Unrecovered Read Error. -/
def State.fillReadDone (s : State) (id idx row : Nat) (b : Option Blk) : State :=
  match s.hoop.fills.find? (fun f => f.cmd = id && f.range = idx && f.row = row), s.findWrite id with
  | some f, some c =>
    let t : State := { s with hoop := { s.hoop with
      fills := s.hoop.fills.filter (fun g => !(g.cmd = id && g.range = idx && g.row = row)) } }
    match c.ranges[idx]? with
    | none => t
    | some r =>
      let ns := (t.bolt r.key.entry).ns
      let nb := t.blkNo r.key r.col row
      let u := match ((t.stripe r.key).newest r.col row).orElse (fun _ => b) with
        | some old => t.putBlk r.key r.shadow r.col row (t.mergeBlk ns nb old f.lo f.len f.data)
        | none => t.updWrite id (fun c => { c with status := 0x281 })
      u.rangePlaced id idx
  | _, _ => s

/-- MIRROR_ACK: the partner holds the mirror writes of these sequences (R133, R136). -/
def State.mirrorAcked (s : State) (seqs : List Nat) : State :=
  let f := fun (t : Tbl (Option Frame)) => Tbl.mapRows none (fun _ o => o.map (fun (f : Frame) =>
    if seqs.contains f.mseq then { f with acked := true } else f)) t
  let t : State := { s with hoop := { s.hoop with
    stripes := Tbl.mapRows {} (fun _ (x : Stripe) => { x with frames := f x.frames, succ := f x.succ }) s.hoop.stripes } }
  if t.writeThrough then t
  else
    let u := t.ackWhere (fun _ r => r.st = 2 && seqs.contains r.mseq)
    (u.hoop.stripes.filter (fun e => e.2.st = .filling && !e.2.trig)).foldl
      (fun v e => if v.allDirty (skeyOf e.1) then v.trigger (skeyOf e.1) else v) u

/-- Solo mode (R138): every DIRTY stripe is destaged, oldest first, and acknowledgment is write-through: a range whose destage
retired before the partner's acknowledgment came is acknowledged now. -/
def State.enterSolo (s : State) : State :=
  if s.hoop.mirrorState = 1 then s
  else
    let t : State := { s with hoop := { s.hoop with mirrorState := 1 } }
    let u := (t.oldest (fun _ => true)).foldl (fun v k => v.trigger k) t
    (u.rangesWhere (fun _ r => r.st = 2)).foldl (fun v e =>
      match (v.findWrite e.1).bind (fun c => c.ranges[e.2]?) with
      | some r => if r.onMedia then v.ackRange e.1 e.2 else v.frameDirty r
      | none => v) u

/-! ### The lost-block log -/

/-- Whether a block is listed. -/
def State.listed (s : State) (ns blk : Nat) : Bool :=
  s.darn.log.any (fun e => match e.2 with | some l => l.block = blk && l.ns = ns | none => false)

/-- Lists a block in the lowest free row (R190), or counts it where the log is full (R191). -/
def State.list (s : State) (ns blk cause : Nat) : State :=
  if s.listed ns blk then s
  else
    match (List.range (s.darn.log.length + 1)).find? (fun r => r < 4194304 && Tbl.get none s.darn.log r = none) with
    | some r =>
      let l : Lost := ⟨blk % 2 ^ 40, ns, cause, s.clk.ns⟩
      { s with darn := { s.darn with log := Tbl.set none s.darn.log r (some l) } }
    | none => (s.addCnt 32 Obj.lblOverflow 0 1).note 0xB07 0 0 0 0

/-- Removes a block from the log. -/
def State.unlist (s : State) (ns blk : Nat) : State :=
  { s with darn := { s.darn with log := s.darn.log.filter (fun e => match e.2 with
    | some l => !(l.block = blk && l.ns = ns)
    | none => true) } }

/-- Sets the SUSPECT or LOST bit of an entry under R78. -/
def State.markBolt (s : State) (e : Nat) (f : Bolt → Bolt) : State :=
  let b := s.boltNext e
  if f b = b then s else s.mapUpdate e (f b)

/-- A stripe becomes LOST (R187): its bolt's bit and an event. -/
def State.lose (s : State) (k : SKey) : State :=
  if s.darn.lostStripes.contains k then s
  else
    let t : State := { s with darn := { s.darn with lostStripes := s.darn.lostStripes ++ [k] } }
    (t.markBolt k.entry (fun b => { b with lost := true })).note 0xB06 4 (s.bolt k.entry).ns 0 0

/-- The namespace blocks of a stripe. -/
def State.stripeBlks (s : State) (k : SKey) : List Nat :=
  let g := (s.slotOf k).1
  (List.range g.k).flatMap (fun c => (List.range g.rows).map (fun r => s.blkNo k c r))

/-- A stripe leaves LOST once no block of it is listed; a bolt's bit clears with its last LOST stripe (R189). -/
def State.unlose (s : State) (k : SKey) : State :=
  let ns := (s.bolt k.entry).ns
  if s.darn.lostStripes.contains k && !(s.stripeBlks k).any (fun b => s.listed ns b) then
    let t : State := { s with darn := { s.darn with lostStripes := s.darn.lostStripes.filter (fun x => x ≠ k) } }
    if t.darn.lostStripes.any (fun x => x.entry = k.entry) then t
    else t.markBolt k.entry (fun b => { b with lost := false })
  else s

/-! ### Destage -/

/-- Data sectors of a stripe not in its frames or its buffer (R129). -/
def State.missingSectors (s : State) (k : SKey) : List (Nat × Nat) :=
  let g := (s.slotOf k).1
  let x := s.stripe k
  (List.range g.k).flatMap (fun c =>
    (((List.range g.rows).filter (fun r =>
      !g.isPad k.stripe c r && ((Tbl.get none x.frames c).bind (fun f => Tbl.get none f.blks r)).isNone
        && (Tbl.get none x.buf (c * 256 + r)).isNone)).map (fun r => (c, r))))

/-- Puts a filled-in sector: into the frame of its column, or into the stripe buffer (R129). -/
def State.fillSector (s : State) (k : SKey) (c r : Nat) (b : Blk) : State :=
  let x := s.stripe k
  match Tbl.get none x.frames c with
  | some f => s.putStripe k { x with frames := Tbl.set none x.frames c (some { f with blks := Tbl.set none f.blks r (some b) }) }
  | none => s.putStripe k { x with buf := Tbl.set none x.buf (c * 256 + r) (some b) }

/-- Whether a migration holds the byte range a stripe intersects (Table 3-8, step 2). -/
def State.migHeld (s : State) (k : SKey) : Bool :=
  s.place.active.any (fun m => m.entry = k.entry && m.copied && k.sel = 0 &&
    (let b := s.bolt m.entry
     let gt := s.geo b.tgeo
     let gs := s.geo b.geo
     b.cursor * gt.ku < (k.stripe + 1) * gs.ku && k.stripe * gs.ku < (b.cursor + 1) * gt.ku))

/-- DESTAGE_START (R128, R129): a triggered FILLING stripe without a live record starts fill-in. In a ZERO bolt the
missing sectors are zeros and the slot is first written with zero stripes (R99). -/
def State.destageStart (s : State) (k : SKey) : State :=
  let x := s.stripe k
  if x.st ≠ .filling ∨ x.trig = false ∨ x.fillIn ∨ s.stripeLive k ∨ s.vault.state = 1 ∨ s.migHeld k then s
  else
    let t := s.putStripe k { x with fillIn := true }
    if (s.bolt k.entry).st = .zero then
      let ns := (s.bolt k.entry).ns
      let u := (t.missingSectors k).foldl (fun v e =>
        v.fillSector k e.1 e.2 (zeroBlk (v.fmtOf ns) ns (v.blkNo k e.1 e.2))) t
      if u.place.zeroing.contains k.entry then u
      else { u with place := { u.place with zeroing := u.place.zeroing ++ [k.entry] } }
    else t

/-- Whether a partial write of a stripe's frames still waits for its fill read (R126). -/
def State.fillsOn (s : State) (k : SKey) : Bool :=
  s.hoop.fills.any (fun f => match (s.findWrite f.cmd).bind (fun c => c.ranges[f.range]?) with
    | some r => r.key = k && !r.shadow
    | none => false)

/-- What has not come when a stripe's content is fixed goes to its successor: frames still RESERVED and empty, and the ranges
whose data is on the way (R130; log entry 50). The frames that stay are the stripe's content: DIRTY. -/
def Stripe.splitReserved (x : Stripe) : Stripe :=
  let late := fun (o : Option Frame) => match o with | some f => f.owner ≠ 0 && f.blks = [] | none => false
  let kept := (x.frames.filter (fun e => !late e.2)).map (fun e => (e.1, e.2.map (fun f => { f with owner := 0 })))
  { x with frames := kept, succ := (x.frames.filter (fun e => late e.2)).foldl (fun t e => Tbl.set none t e.1 e.2) x.succ }

/-- See `Stripe.splitReserved`. -/
def State.toSuccessor (s : State) (k : SKey) : State :=
  let t := s.putStripe k (s.stripe k).splitReserved
  { t with hoop := { t.hoop with writes := t.hoop.writes.map (fun c => { c with ranges := c.ranges.map (fun g =>
      if g.key = k && g.st = 1 then { g with shadow := true } else g) }) } }

/-- The columns of a stripe with a place to be written: home, or the spare slot of R102, and below the cursor of a
proactive copy the spare slot as well (R104, R202). -/
def State.destagePlaces (s : State) (k : SKey) (c : Nat) : List (Nat × Nat) :=
  match s.locate k c with
  | none => []
  | some (a, off) =>
    let both := if s.posState a = .failing ∧ s.reconstructed a k then
        (match s.laneOf a with
         | some l => (match s.spareSlot k c l with
            | some p => if s.readable p.1 k then [p] else []
            | none => [])
         | none => [])
      else []
    (a, off) :: both

/-- The DESTAGE record of a stripe: `MEMBERS` names every position written (R104, R142, R202). -/
def State.destageRec (s : State) (k : SKey) (gen : Nat) : JRec :=
  let cols := List.range ((s.slotOf k).1.k + 2)
  let r := s.stripeRec .destage k gen cols
  { r with members := (cols.flatMap (s.destagePlaces k)).foldl (fun m p => orBit m p.1) r.members }

/-- A write restores a SUSPECT stripe: the stitches a walk had left missing are written again (R149, R173). -/
def State.built (s : State) (k : SKey) : State :=
  { s with darn := { s.darn with unbuilt := s.darn.unbuilt.filter (fun e => e.1 ≠ k) } }

/-- BASTING_RECORD_PERSISTED (R140): a record every existing place holds; a DESTAGE record's stripe goes to BASTED, a
repair's write starts. -/
def State.recPersisted (s : State) (q : Nat) : State :=
  match s.jrec q with
  | none => s
  | some r =>
    if r.persisted ∨ s.held r = false then s
    else
      let t := s.updRec q (fun r => { r with persisted := true, time := s.clk.ns })
      let u := if t.mirrorExists = false ∧ t.journalAt t.jour.pos0 = false ∧ t.journalAt t.jour.pos1 = false ∧ t.cntAt Obj.bastState 0 ≠ 3
        then (t.setCnt Obj.bastState 0 3).note 0xC04 0 0 0 0 else t
      match r.kind with
      | .destage =>
        let x := u.stripe r.key
        if x.live ≠ some q ∨ x.st ≠ .filling then u
        else u.putStripe r.key { x with st := .basted, trig := false, fillIn := false, timer := none }
      | .resync =>
        (u.drv.cmds.filter (fun c => c.owner = .repair q && c.held)).foldl
          (fun v c => (v.updCmd c.tag (fun x => { x with held := false })).sendCmd { c with held := false }) u
      | _ => u

/-- The data block of a stripe's column and row as the darning engine reads it. -/
def State.gathered (s : State) (k : SKey) (c r : Nat) : Blk :=
  let x := s.stripe k
  match (Tbl.get none x.frames c).bind (fun f => Tbl.get none f.blks r) with
  | some b => b
  | none => (Tbl.get none x.buf (c * 256 + r)).getD {}

/-- A block as one parity number (R164). -/
def Blk.num (b : Blk) : Nat := b.data % 2 ^ 32768 + (b.pi % 2 ^ 128) * 2 ^ 32768

/-- The block of a parity number. -/
def blkOf (n : Nat) : Blk := ⟨n % 2 ^ 32768, n / 2 ^ 32768 % 2 ^ 128⟩

/-- The k + 2 stitches of a stripe from its data blocks (R163 to R165). -/
def encodeStripe (g : Geo) (x : Nat) (data : Nat → Nat → Blk) : List (List Blk) :=
  let d := fun c r => if g.isPad x c r then 0 else (data c r).num
  let row := fun r => (List.range g.k).map (fun c => d c r)
  ((List.range g.k).map (fun c => (List.range g.rows).map (fun r => blkOf (d c r))))
    ++ [(List.range g.rows).map (fun r => blkOf (parityP (row r))), (List.range g.rows).map (fun r => blkOf (parityQ (row r)))]

/-- Blocks of hoop data that failed V2, each with the partner's mirror copy where that is good: the copy is used and
corrects the frame, otherwise the block is written as poison and listed with cause 3 (Table 5-5). -/
def State.v2Fix (s : State) (k : SKey) (e : Nat × Nat × Option Blk) : State :=
  let ns := (s.bolt k.entry).ns
  let fmt := s.fmtOf ns
  let nb := s.blkNo k e.1 e.2.1
  let t := (s.addCnt 64 Obj.piDramErrors 0 1)
  let good : Option Blk := e.2.2.filter (fun b => checkStored fmt ns nb b false = 0)
  let det := nb % 2 ^ 40 + ns * 2 ^ 40 + 2 * 2 ^ 52 + 2 ^ 56 + (if good.isSome then 2 ^ 60 else 2 ^ 61)
  match good with
  | some b => (t.fillSector k e.1 e.2.1 b).note 0x602 4 ns 0 det
  | none => ((((t.fillSector k e.1 e.2.1 (poisonBlk fmt ns nb)).list ns nb 3).lose k)).note 0x602 4 ns 0 det

/-- DESTAGE_ENCODE (R131, R132): the stitches of a BASTED stripe stream to its members; a missing stitch is omitted. -/
def State.destageEncode (s : State) (k : SKey) (bad : List (Nat × Nat × Option Blk)) : State :=
  let x0 := s.stripe k
  if x0.st ≠ .basted ∨ s.engines = [] ∨ s.vault.state = 1 then s
  else
    let s1 := bad.foldl (fun t e => t.v2Fix k e) (s.built k)
    let g := (s1.slotOf k).1
    let cols := encodeStripe g k.stripe (fun c r => s1.gathered k c r)
    let live := (List.range (g.k + 2)).filter (fun c => s1.locate k c ≠ none)
    let x := s1.stripe k
    let s2 := s1.putStripe k { x with st := .destaging, left := live, omitted := (List.range (g.k + 2)).filter (fun c => s1.locate k c = none) }
    let s3 := s2.addCnt 64 Obj.darnEncoded 0 (min g.ku (2 ^ 30 - k.stripe * g.ku))
    live.foldl (fun t c => (t.destagePlaces k c).foldl (fun u p =>
      (u.issue p.1 .write (p.2 / 4096) g.rows (cols.getD c []) (.destage k c)).1) t) s3

/-- The columns of a destage still being written. -/
def State.destageLeft (s : State) (k : SKey) (c : Nat) : Bool :=
  s.drv.cmds.any (fun x => x.owner = .destage k c)

/-- Every stitch of a stripe is written or omitted (R132): the record retires, the frames are freed and released at
the partner, the ranges of write-through commands are acknowledged, and the successor becomes the stripe's content. -/
def State.destageRetire (s : State) (k : SKey) : State :=
  let x := s.stripe k
  if x.st ≠ .destaging ∨ x.left ≠ [] then s
  else
    let ns := (s.bolt k.entry).ns
    let fresh := x.frames.flatMap (fun e => match e.2 with
      | some f => (f.blks.filter (fun b => match b.2 with
          | some v => !isPoison (s.fmtOf ns) ns (s.blkNo k e.1 b.1) v
          | none => false)).map (fun b => s.blkNo k e.1 b.1)
      | none => [])
    let keys := x.frames.map (fun e => (ns, k, e.1, x.gen))
    let t : State := match x.live with | some q => s.jRetire q | none => s
    let t := t.addCnt 64 Obj.hoopDestages 0 1
    let t := if t.mirroring ∧ keys ≠ [] then t.later (.twin (.release keys)) else t
    let y : Stripe := { gen := x.gen, frames := x.succ, st := if x.succ = [] then .clean else .filling
                        timer := x.succTimer, hold := x.succHold, restored := true && (t.bolt k.entry).suspect }
    let t := t.putStripe k y
    let t := fresh.foldl (fun (u : State) b => u.unlist ns b) t
    let t := t.unlose k
    let t := t.ackWhere (fun _ r => r.key = k && r.st = 2 && !r.shadow && t.writeThrough)
    let t : State := { t with hoop := { t.hoop with writes := t.hoop.writes.map (fun c => { c with ranges := c.ranges.map (fun r =>
      if r.key = k then { r with shadow := false, onMedia := r.onMedia || (r.st = 2 && !r.shadow) } else r) }) } }
    let t := if t.writeThrough ∧ x.succ ≠ [] then t.trigger k else t
    (if t.allDirty k then t.trigger k else t).serveFrames ns

/-- A stitch of a destage is written, or its member failed it for good (R132, R104). -/
def State.destageWritten (s : State) (k : SKey) (c : Nat) (ok : Bool) : State :=
  if s.destageLeft k c then s
  else
    let x := s.stripe k
    let t := s.putStripe k { x with left := x.left.filter (fun d => d ≠ c), omitted := if ok then x.omitted else x.omitted ++ [c] }
    t.destageRetire k

end Sys2Proof.Machine
end

