-- ==== Sys2Proof/Machine/Reads.lean ====
section
/-!
DEFINITION. Machine/Reads.lean: reads (R135, R169 to R171), decode and LOST rows (R185, R187), member completions and
their owners (R354 to R359), NVMe status of integrity errors (R196).
-/

namespace Sys2Proof.Machine

/-- NVMe status: status code type × 256 + status code. -/
def unrecovered : Nat := 0x281

/-- The detail of an integrity event (R197). -/
def piDetail (ns blk point cause : Nat) (repaired listed : Bool) : Nat :=
  blk % 2 ^ 40 + (ns % 4096) * 2 ^ 40 + point * 2 ^ 52 + cause * 2 ^ 56 + b2n repaired * 2 ^ 60 + b2n listed * 2 ^ 61

/-- Whether a stripe is SUSPECT (R148 to R150): its bolt is, no destage restored it, the resync cursor is below it. -/
def State.suspect (s : State) (k : SKey) : Bool :=
  (s.bolt k.entry).suspect && !(s.stripe k).restored && (s.jour.resync ≤ k.num || s.darn.unsynced.contains k)

/-- The columns of a stripe's row present under R102. -/
def State.presentCols (s : State) (k : SKey) : List Nat :=
  (List.range ((s.slotOf k).1.k + 2)).filter (fun c => (s.locate k c).isSome)

/-- The columns read to decode a block (R169): the other present data stitches and P; Q only in place of one that is
missing or failed. None when fewer than k are to be had. -/
def State.survivors (s : State) (k : SKey) (col row : Nat) (bad : List Nat) : Option (List Nat) :=
  let g := (s.slotOf k).1
  let ok := fun c => (s.locate k c).isSome && !bad.contains c
  let data := (List.range g.k).filter (fun c => c ≠ col && (g.isPad k.stripe c row || ok c))
  let chosen := data ++ (if g.k ≠ col ∧ ok g.k then [g.k] else [])
  let withQ := if chosen.length < g.k ∧ g.k + 1 ≠ col ∧ ok (g.k + 1) then chosen ++ [g.k + 1] else chosen
  if withQ.length < g.k then none else some (withQ.filter (fun c => !(c < g.k && g.isPad k.stripe c row)))

/-- The row of cells a set of gathered blocks makes (R165: pads are zero). -/
def State.cells (s : State) (k : SKey) (row : Nat) (got : Nat → Option Blk) : Cells :=
  let g := (s.slotOf k).1
  { data := (List.range g.k).map (fun c => if g.isPad k.stripe c row then some 0 else (got c).map Blk.num)
    p := (got g.k).map Blk.num
    q := (got (g.k + 1)).map Blk.num }

/-- Issues a member read of one block of a column; none when the stitch is missing. -/
def State.readCol (s : State) (k : SKey) (col row : Nat) (o : Owner) : State × Option Nat :=
  match s.locate k col with
  | some (a, off) => s.issue a .read (off / 4096 + row) 1 [] o
  | none => (s, none)

/-- A LOST row (R187): its unavailable data blocks are listed with a cause and written as poison, P and Q are recomputed over the
row, the bolt's LOST bit is set, an event is raised. `got` gives the data blocks that are available. -/
def State.lostRow (s : State) (k : SKey) (row cause : Nat) (got : Nat → Option Blk) : State :=
  let g := (s.slotOf k).1
  let ns := (s.bolt k.entry).ns
  let fmt := s.fmtOf ns
  let lostCols := (List.range g.k).filter (fun c => !g.isPad k.stripe c row && (got c).isNone)
  let blk := fun c => if g.isPad k.stripe c row then (⟨0, 0⟩ : Blk) else (got c).getD (poisonBlk fmt ns (s.blkNo k c row))
  let d := (List.range g.k).map (fun c => (blk c).num)
  let t := s.jOnce .reconstruct k (lostCols ++ [g.k, g.k + 1])
  let t := lostCols.foldl (fun (u : State) c => u.list ns (u.blkNo k c row) cause) t
  let w := fun (u : State) (c : Nat) (b : Blk) => match u.locate k c with
    | some (a, off) => u.emit (.walkWrite a (off / 4096 + row) [b])
    | none => u
  let t := lostCols.foldl (fun u c => w u c (blk c)) t
  (w (w t g.k (blkOf (parityP d))) (g.k + 1) (blkOf (parityQ d))).lose k

/-! ### Reads -/

/-- A read in progress. -/
def State.findRead (s : State) (id : Nat) : Option RCmd := s.hoop.reads.find? (fun c => c.id = id)

/-- Changes a block of a read. -/
def State.updBlk (s : State) (id i : Nat) (f : RBlk → RBlk) : State :=
  { s with hoop := { s.hoop with reads := updWhere (fun c => c.id = id) (fun c => { c with blks := updAt i f c.blks }) s.hoop.reads } }

/-- A block of a read. -/
def State.rblk (s : State) (id i : Nat) : Option RBlk := (s.findRead id).bind (fun c => c.blks[i]?)

/-- The data bytes of a finished read as one number, host metadata after each logical block (R91). -/
def State.readData (s : State) (c : RCmd) : Nat :=
  let pi := s.hostPi c.ns
  let skip := c.first % 4096
  if pi = 0 then
    bits (c.blks.foldr (fun b n => b.blk.data % 2 ^ 32768 + n * 2 ^ 32768) 0) (8 * skip) (8 * c.bytes)
  else c.blks.foldr (fun b n => b.blk.data % 2 ^ 32768 + (b.blk.pi % 2 ^ (8 * pi)) * 2 ^ 32768 + n * 2 ^ (32768 + 8 * pi)) 0

/-- A read ends once every block is served or has failed, unless completions are held (R467). -/
def State.finishRead (s : State) (id : Nat) : State :=
  match s.findRead id with
  | none => s
  | some c =>
    if c.blks.all (fun b => b.st = .got || b.st = .failed) && !s.sk.tko.held then
      let bad := c.blks.any (fun b => b.st = .failed)
      let pi := s.hostPi c.ns
      let t : State := { s with hoop := { s.hoop with reads := s.hoop.reads.filter (fun r => r.id ≠ id) } }
      let t := if c.blks.any (fun b => b.dec) ∧ c.req ≠ .own then t.addCnt 64 Obj.darnDegradedReads 0 1 else t
      t.later (.done c.req (if bad then unrecovered else 0) (if bad then 0 else s.readData c)
        (c.bytes + c.bytes / 4096 * pi))
    else s

/-- Reads what a LOST row still has (R187): every other present data block of it. -/
def State.gatherLost (s : State) (id i : Nat) (b : RBlk) : State :=
  let g := (s.slotOf b.key).1
  let want := (List.range g.k).filter (fun c => c ≠ b.col && !g.isPad b.key.stripe c b.row && !b.bad.contains c
    && (s.locate b.key c).isSome && (Tbl.get none b.surv c).isNone)
  let t := s.updBlk id i (fun x => { x with st := .lost })
  if want = [] then
    ((t.lostRow b.key b.row 1 (fun c => if c = b.col then none else Tbl.get none b.surv c)).updBlk id i
      (fun x => { x with st := .failed })).finishRead id
  else want.foldl (fun u c => (u.readCol b.key c b.row (.survivor id i c)).1) t

/-- A block is served by decode (R169): refused in a SUSPECT stripe (R149, R171), LOST where too little is left. -/
def State.degrade (s : State) (id i : Nat) : State :=
  match s.rblk id i, s.findRead id with
  | some b, some c =>
    if s.suspect b.key then
      ((s.note 0x608 4 c.ns 0 (piDetail c.ns b.nsBlk 3 6 false false)).updBlk id i (fun x => { x with st := .failed })).finishRead id
    else
      match s.survivors b.key b.col b.row b.bad with
      | none => s.gatherLost id i b
      | some cols =>
        let need := cols.filter (fun c => (Tbl.get none b.surv c).isNone)
        let t := s.updBlk id i (fun x => { x with st := if need = [] then .decode else .survivors })
        need.foldl (fun u c =>
          if u.drv.cmds.any (fun m => m.owner = .survivor id i c) then u
          else (u.readCol b.key c b.row (.survivor id i c)).1) t
  | _, _ => s

/-- Where a block of a read is served from at its start: the hoop (V5), the zeros of a ZERO bolt, a listed block, its
member, or decode. -/
def State.startBlk (s : State) (ns nsBlk : Nat) : RBlk :=
  let b := nsBlk * 4096
  let e := s.entryOf ns b
  let h := s.home e (b % 2 ^ 30)
  let r : RBlk := { nsBlk := nsBlk, key := h.1, col := h.2.1, row := h.2.2 / 4096 }
  match (s.stripe h.1).newest r.col r.row with
  | some x => if checkStored (s.fmtOf ns) ns nsBlk x false = 0 then { r with blk := x } else { r with st := .failed }
  | none =>
    if (s.bolt e).st = .zero then { r with blk := zeroBlk (s.fmtOf ns) ns nsBlk }
    else if s.listed ns nsBlk then { r with st := .failed }
    else { r with st := .reading }

/-- Starts a read of a byte range of a namespace (R100, R135). -/
def State.startRead (s : State) (req : Req) (ns first bytes : Nat) : State :=
  let id := s.hoop.nextCmd
  let lo := first / 4096
  let n := (first + bytes + 4095) / 4096 - lo
  let blks := (List.range n).map (fun i => s.startBlk ns (lo + i))
  let c : RCmd := { id := id, req := req, ns := ns, first := first, bytes := bytes, blks := blks }
  let t : State := { s with hoop := { s.hoop with reads := s.hoop.reads ++ [c], nextCmd := id + 1 } }
  let u := (blks.zipIdx).foldl (fun (v : State) e =>
    if e.1.st = .reading then
      match v.readCol e.1.key e.1.col e.1.row (.read id e.2) with
      | (w, some _) => w
      | (w, none) => w.degrade id e.2
    else v) t
  u.finishRead id

/-- Counts and records a failure at V3 (R195, R197). -/
def State.v3Event (s : State) (ns nsBlk bay cause : Nat) (repaired listed : Bool) : State :=
  (s.addCnt 64 Obj.piMediaErrors 0 1).note 0x603 3 bay 0 (piDetail ns nsBlk 3 cause repaired listed)

/-- A failure at V3 of a block of a column. A parity block has no namespace block number: the event's is a free value. -/
def State.v3Col (s : State) (k : SKey) (col row bay cause : Nat) (repaired : Bool) : State :=
  let ns := (s.bolt k.entry).ns
  if col < (s.slotOf k).1.k then s.v3Event ns (s.blkNo k col row) bay cause repaired false
  else s.used.v3Event ns (s.fresh % 2 ^ 40) bay cause repaired false

/-- A member read of a read's own block completes: served, or by decode (R169, R170). `media` tells a media error from
a command that did not complete (R354: no repair). -/
def State.readGot (s : State) (id i bay : Nat) (b : Option Blk) (media : Bool) : State :=
  match s.rblk id i, s.findRead id with
  | some r, some c =>
    let cause := match b with
      | some x => checkStored (s.fmtOf c.ns) c.ns r.nsBlk x true
      | none => 5
    match b with
    | some x =>
      if cause = 0 then (s.updBlk id i (fun y => { y with st := .got, blk := x })).finishRead id
      else
        ((s.v3Event c.ns r.nsBlk bay cause true false).updBlk id i
          (fun y => { y with own := true, bad := y.bad ++ [r.col] })).degrade id i
    | none =>
      let t := if media then s.v3Event c.ns r.nsBlk bay 5 true false else s
      (t.updBlk id i (fun y => { y with own := media, bad := y.bad ++ [r.col] })).degrade id i
  | _, _ => s

/-- A survivor read completes (R169, R170): kept, or replaced by Q. -/
def State.survivorGot (s : State) (id i col bay : Nat) (b : Option Blk) (media : Bool) : State :=
  match s.rblk id i, s.findRead id with
  | some r, some c =>
    let nb := s.blkNo r.key col r.row
    let isData := col < (s.slotOf r.key).1.k
    let cause := match b with
      | some x => if isData then checkStored (s.fmtOf c.ns) c.ns nb x true else 0
      | none => 5
    let t := if cause = 0 then s.updBlk id i (fun y => { y with surv := Tbl.set none y.surv col b })
      else
        let u := if media ∨ b ≠ none then s.v3Col r.key col r.row bay cause false else s
        u.updBlk id i (fun y => { y with bad := y.bad ++ [col] })
    if r.st = .lost then
      match t.rblk id i with
      | some x => if t.drv.cmds.any (fun m => match m.owner with | .survivor a b _ => a = id && b = i | _ => false) then t
                  else t.gatherLost id i x
      | none => t
    else t.degrade id i
  | _, _ => s

/-- A repaired block is written where its read failed, under a RESYNC record of that column (R170). -/
def State.repair (s : State) (k : SKey) (col row : Nat) (b : Blk) : State :=
  match s.locate k col with
  | none => s
  | some (a, off) =>
    let j := s.jAdd (s.stripeRec .resync k 0 [col])
    let i := j.1.issue a .write (off / 4096 + row) 1 [b] (.repair j.2)
    let tag := i.1.drv.tag - 1
    -- the write waits for the record to be persisted
    let u := i.1.updCmd tag (fun c => { c with held := true })
    let v : State := { u with outbox := (u.outbox.filter (fun e => match e with
      | .member t _ _ _ _ _ => t ≠ tag
      | _ => true)) }
    (v.addCnt 64 Obj.piRepairs 0 1).pageIfFull

/-- DARNING_DECODE_DONE for a block of a read: decode, V4 with the other parity tried, repair of a failed own stitch
(R163 to R165, R169, R170, Table 5-5). -/
def State.decodeDone (s : State) (id i : Nat) : State :=
  match s.rblk id i, s.findRead id with
  | some r, some c =>
    if r.st ≠ .decode then s
    else
      let fmt := s.fmtOf c.ns
      let got := fun col => if col = r.col then none else Tbl.get none r.surv col
      match (s.cells r.key r.row got).decode with
      | none => s.gatherLost id i r
      | some d =>
        let b := blkOf (d.getD r.col 0)
        let cause := checkStored fmt c.ns r.nsBlk b false
        if cause = 0 then
          let t := (s.updBlk id i (fun x => { x with st := .got, blk := b, dec := true })).addCnt 64 Obj.darnDecoded 0 4096
          let t := if r.own then t.repair r.key r.col r.row b else t
          t.finishRead id
        else if isPoison fmt c.ns r.nsBlk b then
          (((s.list c.ns r.nsBlk 1).lose r.key).updBlk id i (fun x => { x with st := .failed })).finishRead id
        else
          let t := (s.addCnt 64 Obj.piDecodeErrors 0 1).note 0x604 4 c.ns 0
            (piDetail c.ns r.nsBlk 4 7 false (r.bad.length ≠ 0))
          let par := (s.slotOf r.key).1.k
          if r.surv.any (fun e => e.1 = par) && !r.bad.contains par then
            (t.updBlk id i (fun x => { x with bad := x.bad ++ [par], surv := x.surv.filter (fun e => e.1 ≠ par) })).degrade id i
          else
            let u := ((t.list c.ns r.nsBlk 4).lose r.key)
            let v := match u.locate r.key r.col with
              | some (a, off) => u.emit (.walkWrite a (off / 4096 + r.row) [poisonBlk fmt c.ns r.nsBlk])
              | none => u
            (v.updBlk id i (fun x => { x with st := .failed })).finishRead id
  | _, _ => s

/-! ### Completions -/

/-- The owner of a member command that will not complete proceeds without it: a read is served by decode, a stitch
write counts as missing (R354, R361). -/
def State.cmdAbandoned (s : State) (c : MCmd) : State :=
  let t := s.dropCmd c.tag
  match c.owner with
  | .read id i => t.readGot id i c.bay none false
  | .survivor id i col => t.survivorGot id i col c.bay none false
  | .destage k col => t.destageWritten k col false
  | .repair q => t.jRetire q
  | .proxy tag => t.later (.twin (.proxyCpl tag 2 []))

/-- Every command of a bay ends without completing. -/
def State.bayDown (s : State) (b : Nat) : State :=
  let t := (s.drv.cmds.filter (fun c => c.bay = b)).foldl (fun t c => t.cmdAbandoned c) s
  { t with drv := { t.drv with aborts := t.drv.aborts.filter (fun a => a.2 ≠ b) } }

/-- A read that could not be issued fails at once (R354). -/
def State.readLost (s : State) (tag : Nat) : State :=
  match s.findCmd tag with
  | some c => s.cmdAbandoned c
  | none => s

/-- The reads outstanding on a contained port fail at once (R354); writes stay held. -/
def State.containReads (s : State) (b : Nat) : State :=
  (s.drv.cmds.filter (fun c => c.bay = b && c.kind = .read)).foldl (fun t c => t.cmdAbandoned c) s

/-- A stitch write failed: reissued once, a second failure is reason 6 (Table 10-4); a repair write fails at once. -/
def State.writeFailed (s : State) (c : MCmd) : State :=
  match c.owner with
  | .destage _ _ =>
    if c.reissued then (s.memFail c.bay 6)
    else ((s.dropAbort c.tag).updCmd c.tag (fun x => { x with reissued := true })).sendCmd { c with reissued := true }
  | _ => (s.cmdAbandoned c).memFail c.bay 6

/-- MEMBER_COMPLETION (R356): `status` 0 success, 1 a media error, 2 any other failure; a read carries its blocks. -/
def State.memberCpl (s : State) (tag status : Nat) (data : List Blk) : State :=
  match s.findCmd tag with
  | none => s.dropAbort tag
  | some c =>
    if c.held then s
    else if status = 0 then
      let t := s.dropCmd tag
      match c.owner with
      | .read id i => t.readGot id i c.bay data.head? true
      | .survivor id i col => t.survivorGot id i col c.bay data.head? true
      | .destage k col => t.destageWritten k col true
      | .repair q => t.jRetire q
      | .proxy g => t.later (.twin (.proxyCpl g 0 data))
    else
      match c.kind with
      | .read =>
        let t := s.dropCmd tag
        match c.owner with
        | .read id i => t.readGot id i c.bay none (status = 1)
        | .survivor id i col => t.survivorGot id i col c.bay none (status = 1)
        | .proxy g => t.later (.twin (.proxyCpl g status []))
        | _ => t
      | _ =>
        match c.owner with
        | .proxy g => (s.dropCmd tag).later (.twin (.proxyCpl g status []))
        | _ => s.writeFailed c

/-! ### Time-outs -/

/-- Resets the controller of a member (R359): counted; its limit per hour is a failure criterion. -/
def State.ctrlReset (s : State) (b : Nat) : State :=
  let m := s.mem b
  let hour : Nat := 3600000000000
  let rs := (m.resets.filter (fun t => s.clk.ns < t + hour)) ++ [s.clk.ns]
  let t := (s.putMem b { m with resets := rs, resetting := true }).addCnt 32 Obj.memResets b 1
  if s.rw Obj.arrResetLimit 0 < rs.length then (t.putMem b { t.mem b with resetting := false }).memFail b 5
  else
    let u := t.emit (.memReset b)
    { u with drv := { u.drv with
        cmds := updWhere (fun c => c.bay = b && c.kind ≠ .read) (fun c => { c with held := true }) u.drv.cmds
        aborts := u.drv.aborts.filter (fun a => a.2 ≠ b) } }

/-- COMMAND_TIMEOUT (R359): Abort; a read is served by decode, a write is reissued once; a second time-out on the member
within 60 s resets the controller. -/
def State.cmdTimeout (s : State) (tag : Nat) : State :=
  match s.findCmd tag with
  | none => s
  | some c =>
    let m := s.mem c.bay
    let minute : Nat := 60000000000
    let recent := m.timeouts.filter (fun t => s.clk.ns < t + minute)
    let s1 := (s.putMem c.bay { m with timeouts := recent ++ [s.clk.ns] }).addCnt 32 Obj.memTimeouts c.bay 1
    let s2 := (s1.note 0xB09 3 c.bay 0 0).emit (.memAbort c.bay tag)
    let s3 := match c.kind with
      | .read => s2.cmdAbandoned c
      | _ => if c.reissued then s2.writeFailed { c with reissued := true }
             else (s2.updCmd tag (fun x => { x with reissued := true })).sendCmd { c with reissued := true }
    if recent = [] then { s3 with drv := { s3.drv with aborts := s3.drv.aborts ++ [(tag, c.bay)] } } else s3.ctrlReset c.bay

/-- CONTROLLER_RESET_DONE: queues recreated and outstanding writes reissued, or the reset failed (R359, reason 5). -/
def State.resetDone (s : State) (b : Nat) (ok : Bool) : State :=
  let m := s.mem b
  if m.resetting = false then s
  else
    let t := s.putMem b { m with resetting := false }
    if ok then t.reissue b else t.memFail b 5

/-- JOURNAL_PAGE_WRITE_DONE (R141): a page write to journal copy 0 or 1 completes. A member whose page write fails while it is
IN_SERVICE is FAILED as for any other write (Table 10-4; log entry 36). -/
def State.pageDone (s : State) (page copy : Nat) (ok : Bool) : State :=
  match s.jour.pages.find? (fun p => p.seq = page && (if copy = 0 then p.out0 else p.out1)) with
  | none => s
  | some p =>
    let left := (updWhere (fun (q : JPage) => q.seq = page)
      (fun q => if copy = 0 then { q with out0 := false } else { q with out1 := false }) s.jour.pages).filter (fun q => q.out0 || q.out1)
    let mark := fun (r : JRec) => if ok && p.recs.contains r.jseq then (if copy = 0 then { r with on0 := true } else { r with on1 := true }) else r
    let t : State := { s with jour := { s.jour with pages := left, recs := s.jour.recs.map mark } }
    let a := if copy = 0 then s.jour.pos0 else s.jour.pos1
    match s.posBay a with
    | some b => if ok = false ∧ s.journalAt a then t.memFail b 6 else t
    | none => t

end Sys2Proof.Machine
end

