-- ==== Sys2Proof/Machine/Darn.lean ====
section
/-!
DEFINITION. Machine/Darn.lean: the walks: rebuild passes (R172 to R178), critical passes (R175), proactive copies (R201
to R203), copy-back (R107 to R109), resync (R150), relisting (R192), scrub (R198 to R200), the rate controller (R179).
A walk's step handles one stripe whole, under one record; the blocks it read from members are its operand.
-/

namespace Sys2Proof.Machine

/-! ### Slots in walk order -/

/-- A slot as a walk meets it: base, geometry, the key of its stripe 0. -/
structure WSlot where
  base : Nat
  g : Geo
  key : SKey
deriving DecidableEq, Repr

/-- The slots a walk covers: allocated, of namespaces this device owns (R364), not of ZERO or UNMAPPED bolts. -/
def State.walkSlots (s : State) : List WSlot :=
  (s.place.slots.filter (fun x => !x.freeing)).filterMap (fun x =>
    let b := s.bolt x.entry
    let mine := (s.nsp b.ns).owner = s.skn.side
    if mine && b.st = .mapped && b.base = x.base then some ⟨x.base, s.geo x.geo, ⟨x.entry, 0, 0⟩⟩
    else if mine && b.st = .migrating && b.base = x.base then some ⟨x.base, s.geo x.geo, ⟨x.entry, 0, 0⟩⟩
    else if mine && b.st = .migrating && b.tbase = x.base then some ⟨x.base, s.geo x.geo, ⟨x.entry, 1, 0⟩⟩
    else none)

/-- Slots by ascending base. -/
def State.byBase (s : State) : List WSlot := sortBy (fun a b => a.base ≤ b.base) s.walkSlots

/-- Slots in map entry order. -/
def State.byEntry (s : State) : List WSlot := sortBy (fun a b => a.key.num ≤ b.key.num) s.walkSlots

/-- Stripe `x` of a slot. -/
def WSlot.at_ (w : WSlot) (x : Nat) : SKey := { w.key with stripe := x }

/-- The home offset of position `a` in stripe `x`, where its row holds it, with the column. -/
def WSlot.home (w : WSlot) (a x : Nat) : Option (Nat × Nat) :=
  (findAt (fun (e : Nat × Nat) => e.1 = a) (w.g.patRow x)).map (fun e => (e.1, w.g.homeOff w.base x e.2.2))

/-- The next stripe of a normal pass: the lowest home offset of `a` at or above the cursor: stripe, column, offset
(R172, R174). -/
def State.nextPass (s : State) (a cursor : Nat) : Option (SKey × Nat × Nat × Geo) :=
  s.byBase.findSome? (fun w =>
    if w.base * 16384 + w.g.dm ≤ cursor then none
    else (List.range w.g.sb).findSome? (fun x => match w.home a x with
      | some (c, off) => if cursor ≤ off then some (w.at_ x, c, off, w.g) else none
      | none => none))

/-- The next stripe of a critical pass (R175): its row holds both positions and both stitches are missing. -/
def State.nextCrit (s : State) (c : Crit) : Option (SKey × Nat × Geo) :=
  s.byBase.findSome? (fun w =>
    if w.base < c.base then none
    else (List.range w.g.sb).findSome? (fun x =>
      let here := rowPos (w.g.patRow x)
      let k := w.at_ x
      let lost := fun (a : Nat) => match findAt (fun (e : Nat × Nat) => e.1 = a) (w.g.patRow x) with
        | some (col, _) => s.locate k col = none
        | none => false
      if (w.base = c.base ∧ x < c.stripe) ∨ ¬ (here.contains c.a ∧ here.contains c.b) then none
      else if lost c.a && lost c.b then some (k, w.base, w.g) else none))

/-- The next stripe of a walk in entry order at or above a key number, over the slots that satisfy `p`. -/
def State.nextEntry (s : State) (from_ : Nat) (p : WSlot → Bool) : Option (SKey × Geo) :=
  (s.byEntry.filter p).findSome? (fun w =>
    ((List.range w.g.sb).find? (fun x => from_ ≤ (w.at_ x).num)).map (fun x => (w.at_ x, w.g)))

/-- Whether critical work remains (rank 1). -/
def State.rank1 (s : State) : Bool := s.darn.crits.any (fun c => (s.nextCrit c).isSome)

/-- Whether a normal pass runs (rank 2). -/
def State.rank2 (s : State) : Bool := s.darn.passes.any (fun e => e.2.st = 1)

/-- Whether a proactive copy runs (rank 3). -/
def State.rank3 (s : State) : Bool := s.darn.passes.any (fun e => e.2.st = 3)

/-! ### The blocks of a stripe -/

/-- The block of a column and row among those read, where its stitch is present; data blocks that fail V3 count as
unreadable. -/
def State.cellOf (s : State) (k : SKey) (cells : List Cell) (c r : Nat) : Option Blk :=
  match cells.find? (fun x => x.col = c && x.row = r && x.ok) with
  | some x =>
    let b : Blk := ⟨x.data, x.pi⟩
    let ns := (s.bolt k.entry).ns
    if s.locate k c = none then none
    else if c < (s.slotOf k).1.k ∧ checkStored (s.fmtOf ns) ns (s.blkNo k c r) b true ≠ 0 then none else some b
  | none => none

/-- Whether a block was read, or its read failed: the walk's operand says which. -/
def given (cells : List Cell) (c r : Nat) : Bool := cells.any (fun x => x.col = c && x.row = r)

/-- Whether every present block of a row is among those read, pads apart. -/
def State.rowGiven (s : State) (k : SKey) (cells : List Cell) (cols : List Nat) (r : Nat) : Bool :=
  let g := (s.slotOf k).1
  cols.all (fun c => (s.locate k c).isNone || (decide (c < g.k) && g.isPad k.stripe c r) || given cells c r)

/-- Whether every present block of some columns is among those read. -/
def State.allGiven (s : State) (k : SKey) (cells : List Cell) (cols : List Nat) : Bool :=
  (List.range (s.slotOf k).1.rows).all (s.rowGiven k cells cols)

/-- Whether a block as read is the poison block of its place. -/
def State.poisonAt (s : State) (k : SKey) (cells : List Cell) (c r : Nat) : Bool :=
  let ns := (s.bolt k.entry).ns
  match cells.find? (fun x => x.col = c && x.row = r && x.ok) with
  | some x => decide (c < (s.slotOf k).1.k) && isPoison (s.fmtOf ns) ns (s.blkNo k c r) ⟨x.data, x.pi⟩
  | none => false

/-- A decode of a row from the blocks read with P, with Q or with both, where V4 passes on what it restores (Table 5-5); a poison
block that decode reproduces passes (R188). -/
def State.rowTry (s : State) (k : SKey) (cells : List Cell) (r : Nat) (p q : Bool) : Option (List Blk) :=
  let g := (s.slotOf k).1
  let ns := (s.bolt k.entry).ns
  let fmt := s.fmtOf ns
  let got := fun c => if (c = g.k && !p) || (c = g.k + 1 && !q) then none else s.cellOf k cells c r
  match (s.cells k r got).decode with
  | none => none
  | some d =>
    let good := fun (c : Nat) =>
      let b := blkOf (d.getD c 0)
      let nb := s.blkNo k c r
      g.isPad k.stripe c r || (s.cellOf k cells c r).isSome || checkStored fmt ns nb b false = 0 || isPoison fmt ns nb b
    if (List.range g.k).all good then some (d.map blkOf ++ [blkOf (parityP d), blkOf (parityQ d)]) else none

/-- Every block of a row decoded from the blocks read, data, then P and Q: with P, where V4 fails with Q, with both (R169,
Table 5-5); none where the row is lost or no decode passes V4. -/
def State.wholeRow (s : State) (k : SKey) (cells : List Cell) (r : Nat) : Option (List Blk) :=
  ((s.rowTry k cells r true false).orElse (fun _ => s.rowTry k cells r false true)).orElse (fun _ => s.rowTry k cells r true true)

/-- Whether a row can be decoded, but no decode passes V4. -/
def State.v4Fails (s : State) (k : SKey) (cells : List Cell) (r : Nat) : Bool :=
  (s.cells k r (fun c => s.cellOf k cells c r)).decode.isSome && (s.wholeRow k cells r).isNone

/-- A block of a column: as read where its own stitch gave it, else decoded. -/
def State.stitchBlk (s : State) (k : SKey) (cells : List Cell) (c r : Nat) : Option Blk :=
  match s.cellOf k cells c r with
  | some b => some b
  | none => (s.wholeRow k cells r).map (fun l => l.getD c {})

/-- The stitch of a column from a stripe's rows: the block read or decoded, or poison where its row is lost. -/
def State.stitch (s : State) (k : SKey) (cells : List Cell) (c : Nat) : List Blk :=
  let g := (s.slotOf k).1
  let ns := (s.bolt k.entry).ns
  (List.range g.rows).map (fun r => match s.stitchBlk k cells c r with
    | some b => b
    | none => if c < g.k then poisonBlk (s.fmtOf ns) ns (s.blkNo k c r) else {})

/-- Rows from which a wanted column cannot be had. -/
def State.lostRows (s : State) (k : SKey) (cells : List Cell) (cols : List Nat) : List Nat :=
  (List.range (s.slotOf k).1.rows).filter (fun r => cols.any (fun c => s.stitchBlk k cells c r = none))

/-- Whether a walk has to read more of a stripe before it can tell: a wanted block cannot be had, and a present block of its row
was not read. -/
def State.moreToRead (s : State) (k : SKey) (cells : List Cell) (cols : List Nat) : Bool :=
  (s.lostRows k cells cols).any (fun r => !s.rowGiven k cells (List.range ((s.slotOf k).1.k + 2)) r)

/-- Why a block that was read is unusable (R197): 5 a media error. -/
def State.cellCause (s : State) (k : SKey) (cells : List Cell) (c r : Nat) : Nat :=
  let ns := (s.bolt k.entry).ns
  match cells.find? (fun x => x.col = c && x.row = r && x.ok) with
  | some x => checkStored (s.fmtOf ns) ns (s.blkNo k c r) ⟨x.data, x.pi⟩ true
  | none => 5

/-- The unusable blocks of a row among those read, poison apart. -/
def State.badCells (s : State) (k : SKey) (cells : List Cell) (r : Nat) : List Nat :=
  let g := (s.slotOf k).1
  (List.range (g.k + 2)).filter (fun c =>
    (s.locate k c).isSome && given cells c r && !(decide (c < g.k) && g.isPad k.stripe c r) && (s.cellOf k cells c r).isNone
      && !s.poisonAt k cells c r)

/-- Failures at V3 in rows a walk read: each is counted and recorded, and rewritten at home where a decode restores it, under the
walk's record (R170, R185). -/
def State.walkRepairs (s : State) (k : SKey) (cells : List Cell) (rows : List Nat) (skip : Nat → Bool) : State :=
  rows.foldl (fun t r => (s.badCells k cells r).foldl (fun (u : State) c =>
    let bay := fun (a : Nat) => (u.posBay a).getD a
    match u.locate k c, s.wholeRow k cells r with
    | some (a, off), some l =>
      let v := u.v3Col k c r (bay a) (s.cellCause k cells c r) (!skip c)
      if skip c then v
      else (v.emit (.walkWrite a (off / 4096 + r) [l.getD c {}])).addCnt 64 Obj.piRepairs 0 1
    | some (a, _), none => u.v3Col k c r (bay a) (s.cellCause k cells c r) false
    | none, _ => u) t) s

/-- Writes a stitch to a place. -/
def State.walkStitch (s : State) (p : Nat × Nat) (b : List Blk) : State := s.emit (.walkWrite p.1 (p.2 / 4096) b)

/-- A row that cannot be had: LOST, or its decode failed V4 for good (R187, Table 5-5). -/
def State.badRow (s : State) (k : SKey) (cells : List Cell) (r : Nat) : State :=
  let got := fun c => s.cellOf k cells c r
  if s.v4Fails k cells r then
    let ns := (s.bolt k.entry).ns
    let c := ((List.range (s.slotOf k).1.k).find? (fun c => (got c).isNone)).getD 0
    (((s.addCnt 64 Obj.piDecodeErrors 0 1).note 0x604 4 ns 0 (piDetail ns (s.blkNo k c r) 4 7 false true))).lostRow k r 4 got
  else s.lostRow k r 1 got

/-- Reconstructs columns of a stripe to the places given, with its lost rows (R172, R175, R185, R187). -/
def State.rebuildCols (s : State) (k : SKey) (cells : List Cell) (out : List (Nat × (Nat × Nat))) : State :=
  let want := out.map (fun e => e.1)
  let t := s.jOnce .reconstruct k want
  let t := (s.lostRows k cells want).foldl (fun (u : State) r => u.badRow k cells r) t
  let t := t.walkRepairs k cells (List.range (s.slotOf k).1.rows) (fun c => want.contains c)
  let u := (s.slotOf k).1.uBytes
  out.foldl (fun v e => (v.walkStitch e.2 (s.stitch k cells e.1)).addCnt 64 Obj.darnDecoded 0 u) t

/-- A stripe whose stitches of some positions a walk passes and leaves missing, its parity not to be trusted (R149). -/
def State.leaveMissing (s : State) (k : SKey) (ps : List Nat) : State :=
  { s with darn := { s.darn with unbuilt := s.darn.unbuilt ++ (ps.filter (fun a =>
      (rowPos ((s.slotOf k).1.patRow k.stripe)).contains a && !s.darn.unbuilt.contains (k, a))).map (fun a => (k, a)) } }

/-- A SUSPECT stripe met by a walk: all data stitches present, P and Q are written from them; else its stitch stays
missing (R149). Answers whether it is restored. -/
def State.syncFirst (s : State) (k : SKey) (cells : List Cell) : State × Bool :=
  if s.suspect k = false then (s, true)
  else
    let g := (s.slotOf k).1
    let full := (List.range g.k).all (fun c => (List.range g.rows).all (fun r =>
      g.isPad k.stripe c r || (s.cellOf k cells c r).isSome))
    if full = false then (s, false)
    else
      let cols := encodeStripe g k.stripe (fun c r => (s.cellOf k cells c r).getD {})
      let t := s.jOnce .resync k [g.k, g.k + 1]
      let w := fun (u : State) (c : Nat) => match u.locate k c with
        | some p => u.walkStitch p (cols.getD c [])
        | none => u
      let t := w (w t g.k) (g.k + 1)
      let x := t.stripe k
      (t.putStripe k { x with restored := true }, true)

/-- Whether a SUSPECT stripe has data blocks the walk has yet to read. -/
def State.syncMore (s : State) (k : SKey) (cells : List Cell) : Bool :=
  s.suspect k && !s.allGiven k cells (List.range (s.slotOf k).1.k)

/-- The spare slot a lane gives a column, and whether it can be written: its target is IN_SERVICE, FAILING or
REBUILDING (R103). -/
def State.laneSlot (s : State) (k : SKey) (c l : Nat) : Option (Nat × Nat) :=
  match s.spareSlot k c l with
  | some (t, off) =>
    let st := s.posState t
    if st = .inService ∨ st = .failing ∨ st = .rebuilding then some (t, off) else none
  | none => none

/-! ### Passes -/

/-- A pass moves past a stitch (R172), with a checkpoint after every 256 stripes (R193), and ends at the end of the
data space (R178, R203). -/
def State.passMoved (s : State) (a off u : Nat) : State :=
  let p := s.pass a
  let q := { p with cursor := off + u, done := p.done + u, since := p.since + 1 }
  if q.since = 256 then
    (s.putPass a { q with since := 0 }).jCheckpoint 1 a ((off + u - zoneBytes) / 16384)
  else s.putPass a q

/-- The end of a position's data space: of the ACTIVE geometry that reaches farthest on it (R77). -/
def State.dataEnd (s : State) (a : Nat) : Nat :=
  maxOf ((s.place.geos.filter (fun e => e.2.st = 2 && a < e.2.w)).map (fun e => s.geoEnd e.2 * 16384))

/-- A pass that has no stripe left is done; its cursor stands at the end of the data space (R178). -/
def State.passEnd (s : State) (a : Nat) : State :=
  let p := s.pass a
  if (s.nextPass a p.cursor).isSome then s
  else
    let l := s.laneOf a
    let t := match l with | some l => s.putLane l ⟨a, 2⟩ | none => s
    let fin := { p with cursor := s.dataEnd a }
    if p.st = 1 then (t.putPass a { fin with st := 2 }).note 0xB05 3 ((s.posBay a).getD a) 0 0
    else if p.st = 3 then
      let u := t.putPass a { fin with st := 4 }
      match u.posBay a with
      | some b => if (u.mem b).reason = 10 then u.memFail b 10 else u
      | none => u
    else t

/-- Reconstructs, or copies, the next stitch of a position into its lane (R172, R201). With too little of the stripe read, nothing
happens yet. -/
def State.passStripe (s : State) (a : Nat) (cells : List Cell) : State :=
  let p := s.pass a
  match s.nextPass a p.cursor, s.laneOf a with
  | some (k, c, off, g), some l =>
    if s.stripeLive k ∨ s.engines = [] then s
    else if p.st = 1 ∧ s.reconstructed a k then (s.passMoved a off g.uBytes).passEnd a
    else if s.syncMore k cells then s
    else
      match s.syncFirst k cells with
      | (t, false) => (((t.leaveMissing k [a]).passMoved a off g.uBytes)).passEnd a
      | (t, true) =>
        match t.laneSlot k c l with
        | none =>
          let u : State := { t with darn := { t.darn with skipped := t.darn.skipped ++ [(k, a)] } }
          (u.passMoved a off g.uBytes).passEnd a
        | some place =>
          if t.moreToRead k cells [c] then s
          else ((t.rebuildCols k cells [(c, place)]).passMoved a off g.uBytes).passEnd a
  | _, _ => s.passEnd a

/-- RECONSTRUCT_STRIPE: a normal pass at rank 2: not while paused (R182) or while critical work remains (R184). -/
def State.reconstructStripe (s : State) (a : Nat) (cells : List Cell) : State :=
  if (s.pass a).st ≠ 1 ∨ s.rw Obj.rbPause 0 = 1 ∨ s.rank1 then s else s.passStripe a cells

/-- PROACTIVE_COPY_START: a waiting copy takes a lane once one qualifies (R201). -/
def State.copyStart (s : State) (a : Nat) : State :=
  if (s.pass a).st = 5 ∧ s.posState a = .failing then s.startCopy a else s

/-- PROACTIVE_COPY_STRIPE: rank 3, only while ranks 1 and 2 are idle. -/
def State.copyStripe (s : State) (a : Nat) (cells : List Cell) : State :=
  if (s.pass a).st ≠ 3 ∨ s.rw Obj.rbPause 0 = 1 ∨ s.rank1 ∨ s.rank2 then s else s.passStripe a cells

/-- CRITICAL_STRIPE (R175): both missing stitches are decoded, those of positions with a lane are written. -/
def State.criticalStripe (s : State) (a b : Nat) (cells : List Cell) : State :=
  match s.darn.crits.find? (fun c => c.a = a && c.b = b) with
  | none => s
  | some c =>
    let move := fun (t : State) (base x : Nat) =>
      { t with darn := { t.darn with crits := updWhere (fun (c : Crit) => c.a = a && c.b = b) (fun c => { c with base := base, stripe := x }) t.darn.crits } }
    match s.nextCrit c with
    | none => move s (2 ^ 32) 0
    | some (k, base, g) =>
      if s.stripeLive k ∨ s.engines = [] ∨ s.syncMore k cells then s
      else
        match s.syncFirst k cells with
        | (t, false) => move (t.leaveMissing k [a, b]) base (k.stripe + 1)
        | (t, true) =>
          let cols := [a, b].filterMap (fun (q : Nat) =>
            match findAt (fun (e : Nat × Nat) => e.1 = q) (g.patRow k.stripe), t.laneOf q with
            | some (col, _), some l => (t.laneSlot k col l).map (fun p => (col, p))
            | _, _ => none)
          if t.moreToRead k cells (cols.map (fun e => e.1)) then s
          else move (t.rebuildCols k cells cols) base (k.stripe + 1)

/-! ### Copy-back -/

/-- Copy-back of a position is complete (R108): IN_SERVICE, its lane freed. -/
def State.copybackDone (s : State) (a : Nat) : State :=
  let t := match s.posBay a with | some b => s.memTo b .inService 0 | none => s
  let u := match (t.dropClaims a).laneOf a with | some l => (t.dropClaims a).putLane l {} | none => t.dropClaims a
  let v := (u.putPass a {})
  let w : State := { v with place := { v.place with copyback := Tbl.set none v.place.copyback a none }
                            darn := { v.darn with skipped := v.darn.skipped.filter (fun e => e.2 ≠ a), cbSince := Tbl.set 0 v.darn.cbSince a 0 } }
  w.laneFreed.critCheck

/-- The columns of a stripe whose lane target for the row is `a` and that are reconstructed (R107, step 2). -/
def State.laneColsOn (s : State) (k : SKey) (a : Nat) : List (Nat × (Nat × Nat)) :=
  let g := (s.slotOf k).1
  (List.range (g.k + 2)).filterMap (fun c =>
    match (g.patRow k.stripe)[c]? with
    | some (b, _) =>
      match s.laneOf b with
      | some l =>
        match s.spareSlot k c l with
        | some (t, off) => if b ≠ a && t = a && s.reconstructed b k then some (c, (t, off)) else none
        | none => none
      | none => none
    | none => none)

/-- The positions that hold columns of a stripe. -/
def Geo.colPos (g : Geo) (x : Nat) (cols : List Nat) : List Nat := (cols.filterMap (fun c => (g.patRow x)[c]?)).map (fun e => e.1)

/-- Copy-back writes columns of a stripe under one record (R107, R185). -/
def State.cbWrite (t : State) (k : SKey) (cells : List Cell) (out : List (Nat × Nat × Nat)) : State :=
  let g := (t.slotOf k).1
  let want := out.map (fun e => e.1)
  let pos := g.colPos k.stripe want
  let j := t.jOnce .copyback k want
  let j := (t.lostRows k cells want).foldl (fun (u : State) r => u.badRow k cells r) j
  let j := j.walkRepairs k cells (List.range g.rows) (fun _ => false)
  let j := out.foldl (fun (u : State) e => u.walkStitch e.2 (t.stitch k cells e.1)) j
  { j with darn := { j.darn with unbuilt := j.darn.unbuilt.filter (fun e => !(e.1 = k && pos.contains e.2)) } }

/-- COPYBACK_STRIPE (R107 to R109). -/
def State.copybackStripe (s : State) (a : Nat) (cells : List Cell) : State :=
  match Tbl.get none s.place.copyback a with
  | none => s
  | some cur =>
    if s.posState a ≠ .rebuilding then s
    else
      match s.nextEntry cur (fun w => a < w.g.w) with
      | none => s.copybackDone a
      | some (k, g) =>
        if s.stripeLive k ∨ s.engines = [] ∨ s.syncMore k cells then s
        else
          let mine := match findAt (fun (e : Nat × Nat) => e.1 = a) (g.patRow k.stripe) with
            | some (c, e) => [(c, (a, g.homeOff (s.slotOf k).2 k.stripe e.2))]
            | none => ([] : List (Nat × Nat × Nat))
          let out : List (Nat × Nat × Nat) := mine ++ s.laneColsOn k a
          let want := out.map (fun (e : Nat × Nat × Nat) => e.1)
          let y := s.syncFirst k cells
          if y.2 && y.1.moreToRead k cells want then s
          else
          let t :=
            if y.2 = false then y.1.leaveMissing k [a]
            else if out = [] then y.1
            else y.1.cbWrite k cells out
          let n := Tbl.get 0 t.darn.cbSince a + 1
          let u : State := { t with
            place := { t.place with copyback := Tbl.set none t.place.copyback a (some (k.num + 1)) }
            darn := { t.darn with cbSince := Tbl.set 0 t.darn.cbSince a (n % 256)
                                  skipped := t.darn.skipped.filter (fun e => !(e.1 = k && (g.colPos k.stripe want).contains e.2)) } }
          let v := if n = 256 then u.jCheckpoint 2 a (k.num + 1) else u
          if (v.nextEntry (k.num + 1) (fun w => a < w.g.w)).isNone then v.copybackDone a else v

/-! ### Resync, relisting, scrub -/

/-- RESYNC_STRIPE (R150): P and Q of the next stripe of a SUSPECT bolt are written from its data; a checkpoint every
256 stripes; a bolt's bit clears when the bolt is done. -/
def State.resyncStripe (s : State) (cells : List Cell) : State :=
  match s.nextEntry s.jour.resync (fun w => (s.bolt w.key.entry).suspect) with
  | none => s
  | some (k, g) =>
    if s.stripeLive k ∨ s.engines = [] ∨ s.syncMore k cells then s
    else
      let a := s.syncFirst k cells
      let t := if a.2 then a.1 else { a.1 with darn := { a.1.darn with unsynced := a.1.darn.unsynced ++ [k] } }
      let n := t.darn.rsSince + 1
      let u : State := { t with jour := { t.jour with resync := k.num + 1 }, darn := { t.darn with rsSince := n % 256 } }
      let v := if n = 256 then u.jCheckpoint 3 0xFF (k.num + 1) else u
      let last := k.stripe + 1 = g.sb && (match v.nextEntry (k.num + 1) (fun w => w.key.entry = k.entry) with | none => true | some _ => false)
      if last && !v.darn.unsynced.any (fun x => x.entry = k.entry) then v.markBolt k.entry (fun b => { b with suspect := false })
      else v

/-- The poison blocks of a stripe among those read: column, row. -/
def State.poisons (s : State) (k : SKey) (cells : List Cell) : List (Nat × Nat) :=
  let g := (s.slotOf k).1
  (List.range g.k).flatMap (fun c => ((List.range g.rows).filter (fun r =>
    !g.isPad k.stripe c r && s.poisonAt k cells c r)).map (fun r => (c, r)))

/-- RELIST_STRIPE (R192): a block that fails V3 and whose decode reproduces the failure is listed again. -/
def State.relistStripe (s : State) (cells : List Cell) : State :=
  if s.darn.relisting = false then s
  else
    match s.nextEntry s.darn.relist (fun w => (s.bolt w.key.entry).lost) with
    | none => ({ s with darn := { s.darn with relisting := false } }).setCnt Obj.lblComplete 0 1
    | some (k, g) =>
      let ns := (s.bolt k.entry).ns
      if s.allGiven k cells (List.range g.k) = false then s
      else
      let bad := s.poisons k cells
      let t := bad.foldl (fun (u : State) e => u.list ns (u.blkNo k e.1 e.2) 1) s
      let t := if bad = [] then t else t.lose k
      let u : State := { t with darn := { t.darn with relist := k.num + 1 } }
      if (u.nextEntry (k.num + 1) (fun w => (u.bolt w.key.entry).lost)).isNone then
        ({ u with darn := { u.darn with relisting := false } }).setCnt Obj.lblComplete 0 1
      else u

/-- The rate scrub asks for in MB/s (R198). -/
def State.scrubWant (s : State) : Nat :=
  let raw := s.walkSlots.foldl (fun n w => n + w.g.sb * (w.g.k + 2) * w.g.uBytes) 0
  raw / (s.rw Obj.scrubPeriod 0 * 86400) / 1000000

/-- `scrub.behind` and its event (R198). -/
def State.scrubCheck (s : State) : State :=
  let behind := s.rw Obj.scrubEnable 0 = 1 ∧ s.darn.bgRate < s.scrubWant
  if behind then
    (if s.cntAt Obj.scrubBehind 0 = 0 then (s.setCnt Obj.scrubBehind 0 1).note 0x609 0 0 0 0 else s)
  else s.setCnt Obj.scrubBehind 0 0

/-- What scrub does with a stripe read (Table 5-7): a poison block is relisted; an unreadable block is repaired by decode, a row
that cannot be decoded is lost (R187); parity that does not match the data is rewritten. -/
def State.scrubOutcome (s : State) (k : SKey) (cells : List Cell) : State :=
  let g := (s.slotOf k).1
  let ns := (s.bolt k.entry).ns
  let dataOk := (List.range g.k).all (fun c => (List.range g.rows).all (fun r => g.isPad k.stripe c r || (s.cellOf k cells c r).isSome))
  let poison := s.poisons k cells
  let bad := (List.range g.rows).filter (fun r => s.badCells k cells r ≠ [])
  let t := poison.foldl (fun (u : State) e => u.list ns (u.blkNo k e.1 e.2) 1) s
  let t := if poison = [] then t else t.lose k
  let t := if bad = [] then t else t.jOnce .resync k ((bad.flatMap (fun r => s.badCells k cells r)).eraseDups)
  let t := t.walkRepairs k cells bad (fun _ => false)
  let t := (bad.filter (fun r => (s.wholeRow k cells r).isNone)).foldl (fun (u : State) r => u.badRow k cells r) t
  if dataOk = false then t
  else
    let cols := encodeStripe g k.stripe (fun c r => (s.cellOf k cells c r).getD {})
    let wrong := [g.k, g.k + 1].filter (fun c => (s.locate k c).isSome && (List.range g.rows).any (fun r =>
      match s.cellOf k cells c r with
      | some x => decide (x ≠ (cols.getD c []).getD r {})
      | none => false))
    if wrong = [] then t
    else
      let u := (t.jOnce .resync k wrong)
      let u := wrong.foldl (fun v c => match v.locate k c with
        | some p => v.walkStitch p (cols.getD c [])
        | none => v) u
      (u.addCnt 64 Obj.scrubParityFixed 0 wrong.length).note 0x607 4 ns 0 0

/-- SCRUB_STRIPE (R198 to R200): rank 8, only while ranks 1 to 3 are idle. -/
def State.scrubStripe (s : State) (cells : List Cell) : State :=
  if s.rw Obj.scrubEnable 0 = 0 ∨ s.rank1 ∨ s.rank2 ∨ s.rank3 ∨ s.engines = [] then s
  else
    match s.nextEntry s.darn.scrub (fun _ => true) with
    | none => ({ s with darn := { s.darn with scrub := 0 } }).setCnt Obj.scrubPassStart 0 s.clk.ns
    | some (k, g) =>
      if s.stripeLive k ∨ (s.suspect k = false ∧ s.allGiven k cells (List.range (g.k + 2)) = false) then s
      else
        let t := if s.suspect k then s else s.scrubOutcome k cells
        let last := k.stripe + 1 = g.sb
        let u : State := { t with darn := { t.darn with scrub := if last then (k.num / 65536 + 1) * 65536 else k.num + 1 } }
        -- the cursor is recorded in the array header as each bolt completes
        let v := if last then u.sendMapBlock 0 else u
        v.scrubCheck

/-- `scrub.start` (R200). -/
def State.scrubStartOp (s : State) : State :=
  (({ s with darn := { s.darn with scrub := 0 } }).setCnt Obj.scrubPassStart 0 s.clk.ns).actDone Obj.scrubStart 0

/-! ### Rates -/

/-- The positions whose passes are active. -/
def State.passing (s : State) : List Nat :=
  (s.darn.passes.filter (fun e => e.2.st = 1 || e.2.st = 3)).map (fun e => e.1) ++ s.darn.crits.flatMap (fun c => [c.a, c.b])

/-- Geometries the active passes walk; all ACTIVE ones where none is active. -/
def State.passGeos (s : State) : List Geo :=
  let on := (s.place.geos.filter (fun e => e.2.st = 2)).map (fun e => e.2)
  if s.passing = [] then on else on.filter (fun g => s.passing.any (fun a => a < g.w))

/-- One controller window (R179, R180): `reads` host media reads in it, `p99` their 99th percentile latency in µs. -/
def State.rateWindow (s : State) (reads p99 : Nat) : State :=
  let gs := s.passGeos
  let k := maxOf (gs.map (fun g => g.k))
  let w := maxOf (gs.map (fun g => g.w))
  let n := ((List.range w).filter (fun a => let x := s.posState a; x = .inService || x = .failing || x = .rebuilding)).length
  let ceil := if k = 0 then 0 else min 40000 (min (9 * s.rw Obj.rbMemberBw 0 * n / (10 * k)) (160000 * s.engines.length / k))
  let tgt := s.rw Obj.rbLatTarget 0
  let move := fun (r step : Nat) =>
    if reads < 1000 ∨ 10 * p99 ≤ 8 * tgt then r + step else if tgt < p99 then r * 7 / 10 else r
  let d := s.darn
  let busy := s.rank1 || s.rank2
  let rate :=
    if busy then
      let r := if s.rank1 && s.rw Obj.rbCriticalFull 0 = 1 then ceil else move d.rate (ceil / 20)
      min (max r (s.rw Obj.rbFloor 0)) ceil
    else d.rate
  let bg := if busy then s.rw Obj.bgFloor 0
    else min (max (move d.bgRate (ceil / 20)) (s.rw Obj.bgFloor 0)) (s.rw Obj.bgMax 0)
  ({ s with darn := { d with rate := rate, ceiling := ceil, bgRate := bg, p99 := p99 } }).scrubCheck

/-! ### Fill-in -/

/-- Where a sector of a stripe has its home: in a MIGRATING bolt the other slot's stripe (R110). -/
def State.sectorHome (s : State) (k : SKey) (c r : Nat) : SKey :=
  let g := (s.slotOf k).1
  (s.home k.entry (k.stripe * g.ku + c * g.uBytes + r * 4096)).1

/-- A sector as fill-in has it from the blocks read: as read, where it passes V3 or is poison, which is carried unchanged (R189);
else decoded from the survivors (R129), never in a SUSPECT stripe. -/
def State.fillGot (s : State) (k : SKey) (cells : List Cell) (c r : Nat) : Option Blk :=
  let ns := (s.bolt k.entry).ns
  let fmt := s.fmtOf ns
  let nb := s.blkNo k c r
  let read := (cells.find? (fun x => x.col = c && x.row = r && x.ok)).bind (fun x =>
    let b : Blk := ⟨x.data, x.pi⟩
    if checkStored fmt ns nb b true = 0 || isPoison fmt ns nb b then some b else none)
  if s.sectorHome k c r ≠ k then read
  else
    match read, s.locate k c with
    | some b, some _ => some b
    | _, _ => if s.suspect k then none else (s.wholeRow k cells r).map (fun l => l.getD c {})

/-- Whether fill-in can tell what a sector holds: it has it, or it has read all there is. -/
def State.fillKnown (s : State) (k : SKey) (cells : List Cell) (c r : Nat) : Bool :=
  (s.fillGot k cells c r).isSome
    || (if s.sectorHome k c r ≠ k then given cells c r
        else s.rowGiven k cells (if s.suspect k then [c] else List.range ((s.slotOf k).1.k + 2)) r)

/-- FILL_IN_DONE (R129, R132): the missing sectors from the blocks read, poison where one can be neither read nor decoded; a
failure at V3 is repaired (R170); then the DESTAGE record is submitted. A fill read of a partial write (R126) is waited for. -/
def State.fillInDone (s : State) (k : SKey) (cells : List Cell) : State :=
  let x := s.stripe k
  let ns := (s.bolt k.entry).ns
  let s0 := s.toSuccessor k
  let need := s.missingSectors k
  if x.st ≠ .filling ∨ x.fillIn = false ∨ x.live ≠ none ∨ (s.bolt k.entry).st = .zero
    ∨ need.all (fun e => s.fillKnown k cells e.1 e.2) = false ∨ s.fillsOn k then s
  else
    let t := need.foldl (fun u e =>
      match s.fillGot k cells e.1 e.2 with
      | some b => u.fillSector k e.1 e.2 b
      | none =>
        let nb := u.blkNo k e.1 e.2
        ((u.fillSector k e.1 e.2 (poisonBlk (u.fmtOf ns) ns nb)).list ns nb 2).lose k) s0
    let rows := ((need.filter (fun e => s.sectorHome k e.1 e.2 = k)).map (fun e => e.2)).eraseDups
    let fixed := if s.suspect k then [] else rows.filter (fun r => s.badCells k cells r ≠ [])
    let t := if fixed = [] then t else t.jOnce .resync k ((fixed.flatMap (fun r => s.badCells k cells r)).eraseDups)
    let t := t.walkRepairs k cells fixed (fun _ => false)
    let u := t.addCnt 64 Obj.hoopFillReads 0 need.length
    let y := u.stripe k
    let gen := wrapAdd 32 y.gen 1
    let a := u.jAdd (u.destageRec k gen)
    (a.1.putStripe k { y with gen := gen, live := some a.2 }).pageIfFull

end Sys2Proof.Machine
end

