-- ==== Sys2Proof/Machine/Bolts.lean ====
section
/-!
DEFINITION. Machine/Bolts.lean: geometry activation (R80, R84), namespaces and map entries at a commit (R95, R96),
ZERO initialisation (R99), bolt migration (R110 to R114), map copy acknowledgments (R78).
-/

namespace Sys2Proof.Machine

/-- The item status CONDITION (Table 2-8). -/
def stCondition : Nat := 0x07

/-! ### Geometries -/

/-- The geometry row as its objects now stand. -/
def State.geoWanted (s : State) (g : Nat) : Geo :=
  { w := s.rw Obj.geoWidth g, k := s.rw Obj.geoData g, u := s.rw Obj.geoStitch g, s := s.rw Obj.placeSpareLanes 0 }

/-- R81. -/
def State.r81 (s : State) (x : Geo) : Bool :=
  4 ≤ x.k && x.k ≤ 22 && x.u ≤ 3 && x.k + 2 + x.s ≤ x.w && x.w ≤ s.bays && (List.range x.w).all s.inService

/-- The map positions of a new array (R80). -/
def State.chooseRanks (s : State) : List Nat :=
  let ps := s.servicePos
  let clusters := (List.range 6).filter (fun c => ps.any (fun a => s.clusterOf a = c))
  let first := (clusters.take 3).filterMap (fun c => ps.find? (fun a => s.clusterOf a = c))
  (first ++ (ps.filter (fun a => !first.contains a))).take 3

/-- The array is created at the first activation (R80): a random identifier (a free value), its map positions, member
headers, journal members (R144). -/
def State.createArray (s : State) : State :=
  if s.place.array ≠ none then s
  else
    let maps := (s.chooseRanks.map (fun a => (⟨a, true⟩ : MapCopy))) ++ List.replicate (3 - s.chooseRanks.length) {}
    let t : State := { s.used with place := { s.place with array := some (s.fresh % 2 ^ 64), maps := maps } }
    let t := t.headers
    match t.pickJournal 0x3F [] with
    | none => t
    | some a =>
      let u : State := { t with jour := { t.jour with pos0 := a } }
      match u.pickJournal a [a] with
      | some b => { u with jour := { u.jour with pos1 := b } }
      | none => u

/-- `geo.activate` = 1 (Table 3-3): answers CONDITION with fewer than two valid copies of an existing array (R79). -/
def State.geoActivateOp (s : State) (g : Nat) : State × Nat :=
  let x := s.geoWanted g
  if s.place.array ≠ none ∧ s.validMaps < 2 then (s, stCondition)
  else if s.place.geos.any (fun e => e.2.st = 1) then (s.actFail Obj.geoActivate g 4, 0)
  else if (s.geo g).st ≠ 0 ∨ s.r81 x = false then (s.actFail Obj.geoActivate g 1, 0)
  else ((s.createArray.putGeo g { x with st := 1 }).actRun Obj.geoActivate g, 0)

/-- GEO_TABLES_GENERATED (R84): seeds `geo.seed` to + 15 in order, the first whose tables meet Table 3-4 is kept and
written to all map copies; else the activation fails with detail 2. -/
def State.geoGenerated (s : State) (g : Nat) : State :=
  let x := s.geo g
  if x.st ≠ 1 ∨ x.writing then s
  else
    let seeds := (List.range 16).map (fun i => (s.rw Obj.geoSeed g + i) % 2 ^ 32)
    let ok := fun seed => let t := Config.genTables x.w x.k x.s seed
                          x.patOk t.1 && x.spareOk t.1 t.2
    match seeds.find? ok with
    | none => (s.putGeo g {}).actFail Obj.geoActivate g 2
    | some seed =>
      let t := Config.genTables x.w x.k x.s seed
      let y := { x with pat := t.1, spare := t.2, seedUsed := seed, writing := true }
      let y := { y with digest := leNat ((sha256 y.tableBytes).take 4) }
      s.place.maps.foldl (fun u c => if c.pos ≠ 0x3F then u.emit (.mapWrite c.pos (2 ^ 20 + g)) else u) (s.putGeo g y)

/-- GEO_MAP_ACK (Table 3-3): the map copies hold the tables: ACTIVE; or the write failed: detail 3. -/
def State.geoAck (s : State) (g : Nat) (ok : Bool) : State :=
  let x := s.geo g
  if x.st ≠ 1 ∨ x.writing = false then s
  else if ok then ((s.putGeo g { x with st := 2, writing := false }).actDone Obj.geoActivate g).note 0xC0A 0 0 5 g
  else (s.putGeo g {}).actFail Obj.geoActivate g 3

/-- `geo.activate` = 2 (Table 3-3). -/
def State.geoRetireOp (s : State) (g : Nat) : State × Nat :=
  if s.place.array ≠ none ∧ s.validMaps < 2 then (s, stCondition)
  else if (s.geo g).st = 2 ∧ s.geoBolts g = 0 ∧ ¬ ((s.place.waiting ++ s.place.active).any (fun m => m.geo = g)) then
    let t := (s.putGeo g {}).actDone Obj.geoActivate g
    ((t.place.maps.foldl (fun u c => if c.pos ≠ 0x3F then u.emit (.mapWrite c.pos (2 ^ 20 + g)) else u) t), 0)
  else if (s.geo g).st = 1 then (s.actFail Obj.geoActivate g 4, 0)
  else (s.actFail Obj.geoActivate g 5, 0)

/-! ### Renaming stripes -/

/-- Renames the keys of every stripe the hoop, the journal and the walks hold. -/
def State.rekey (s : State) (f : SKey → SKey) : State :=
  let stripes := s.hoop.stripes.foldl (fun t e => Tbl.set {} t (f (skeyOf e.1)).num e.2) ([] : Tbl Stripe)
  let writes := s.hoop.writes.map (fun c => { c with ranges := c.ranges.map (fun r => { r with key := f r.key }) })
  let reads := s.hoop.reads.map (fun c => { c with blks := c.blks.map (fun b => { b with key := f b.key }) })
  let own := fun (o : Owner) => match o with | .destage k c => .destage (f k) c | o => o
  { s with
    hoop := { s.hoop with stripes := stripes, writes := writes, reads := reads }
    jour := { s.jour with recs := s.jour.recs.map (fun r => if r.kind = .checkpoint then r else { r with key := f r.key }) }
    darn := { s.darn with lostStripes := s.darn.lostStripes.map f, unsynced := s.darn.unsynced.map f
                          skipped := s.darn.skipped.map (fun e => (f e.1, e.2)), unbuilt := s.darn.unbuilt.map (fun e => (f e.1, e.2)) }
    drv := { s.drv with cmds := s.drv.cmds.map (fun c => { c with owner := own c.owner }) } }

/-! ### Namespaces -/

/-- Map entries in use: ranges of first entry and count. -/
def State.mapSpans (s : State) : List (Nat × Nat) :=
  sortBy (fun a b => a.1 ≤ b.1) (s.place.nss.flatMap (fun e =>
    [(e.2.mapBase, max e.2.bolts (if e.2.newBase = e.2.mapBase then e.2.target else 0))]
      ++ (if e.2.newBase ≠ e.2.mapBase then [(e.2.newBase, e.2.target)] else [])))

/-- Entries of the bolt map. -/
def mapEntries : Nat := 3145728

/-- Allocates slots and ZERO entries for a list of map entries (R95). -/
def State.newEntries (s : State) (ns g : Nat) (es : List Nat) : State :=
  es.foldl (fun t e => match t.takeSlot g e ns with
    | (u, some b) => u.mapUpdate e { base := b, st := .zero, geo := g, ns := ns }
    | (u, none) => u) s

/-- Creates or grows a namespace to `n` bolts (R95, R96): in place where the entries after it are free, else its entries
are copied to a free range. -/
def State.nsGrow (s : State) (ns n : Nat) : State :=
  let x := s.nsp ns
  let g := s.rw Obj.nsGeometry ns
  let others := s.mapSpans.filter (fun p => !(p.1 = x.mapBase && x.bolts ≠ 0))
  let free := x.bolts ≠ 0 && x.mapBase + n ≤ mapEntries && !others.any (fun p => p.1 < x.mapBase + n && x.mapBase < p.1 + p.2)
  let owner := if x.bolts ≠ 0 then x.owner else if s.skn.present then s.rw Obj.ownHome ns else s.skn.side
  let y := { x with target := n, owner := owner, ana := if owner = s.skn.side then 1 else 3 }
  if free then (s.putNsp ns { y with newBase := x.mapBase }).newEntries ns g ((List.range (n - x.bolts)).map (fun i => x.mapBase + x.bolts + i))
  else
    match firstFit n 1 mapEntries 0 s.mapSpans with
    | none => s
    | some b =>
      let t := s.putNsp ns { y with newBase := b, mapBase := if x.bolts = 0 then b else x.mapBase }
      let u := (List.range x.bolts).foldl (fun v i => v.mapUpdate (b + i) (v.boltNext (x.mapBase + i))) t
      u.newEntries ns g ((List.range (n - x.bolts)).map (fun i => b + x.bolts + i))

/-- Drops every frame of a namespace from the hoop, with the writes that hold them (R95). -/
def State.dropFrames (s : State) (ns : Nat) : State :=
  let keep := fun (k : SKey) => !s.ofNs ns k
  let gone := s.hoop.writes.filter (fun c => c.ns = ns)
  let t : State := { s with hoop := { s.hoop with
    stripes := s.hoop.stripes.filter (fun e => keep (skeyOf e.1))
    writes := s.hoop.writes.filter (fun c => c.ns ≠ ns)
    queue := s.hoop.queue.filter (fun id => !gone.any (fun c => c.id = id)) } }
  gone.foldl (fun u c => u.later (.done c.req 0x006 0 0)) t

/-- Deletes a namespace (R95): entries UNMAPPED, dirty data discarded, slots freed later. -/
def State.nsDelete (s : State) (ns : Nat) : State :=
  let x := s.nsp ns
  let es := (List.range (max x.bolts x.target)).map (fun i => x.mapBase + i)
  let t := s.dropFrames ns
  let u := es.foldl (fun v e => v.mapUpdate e {}) t
  let slots := updWhere (fun (p : Slot) => p.ns = ns) (fun p => { p with freeing := true }) u.place.slots
  let log := u.darn.log.filter (fun e => match e.2 with | some l => l.ns ≠ ns | none => true)
  let v : State := { u with
    place := { u.place with slots := slots, waiting := u.place.waiting.filter (fun m => !es.contains m.entry)
                            active := u.place.active.filter (fun m => !es.contains m.entry)
                            zeroing := u.place.zeroing.filter (fun e => !es.contains e) }
    darn := { u.darn with
      log := log, lostStripes := u.darn.lostStripes.filter (fun k => !es.contains k.entry)
      unsynced := u.darn.unsynced.filter (fun k => !es.contains k.entry)
      skipped := u.darn.skipped.filter (fun k => !es.contains k.1.entry)
      unbuilt := u.darn.unbuilt.filter (fun k => !es.contains k.1.entry) } }
  v.putNsp ns {}

/-- Asks for the migration of an entry (Table 3-8). -/
def State.askMigrate (s : State) (e g : Nat) : State :=
  if (s.place.waiting ++ s.place.active).any (fun m => m.entry = e) then s
  else
    let m : Mig := { entry := e, geo := g }
    { s with place := { s.place with waiting := s.place.waiting ++ [m] } }

/-- A changed `ns.geometry` migrates every bolt of the namespace (R95). -/
def State.nsRegeo (s : State) (ns : Nat) : State :=
  let x := s.nsp ns
  let g := s.rw Obj.nsGeometry ns
  (List.range x.bolts).foldl (fun t i =>
    if (t.bolt (x.mapBase + i)).geo = g then t else t.askMigrate (x.mapBase + i) g) s

/-- The namespaces' part of commit step 6 (R95): `ns.bolts` is what the commit made effective. -/
def State.nsApply (s : State) (ns : Nat) : State :=
  let n := s.rw Obj.nsBolts ns
  let x := s.nsp ns
  let t := if n = x.target then s else if n = 0 then s.nsDelete ns else s.nsGrow ns n
  if n ≠ 0 ∧ x.bolts ≠ 0 then t.nsRegeo ns else t

/-- A growth whose entries every map copy has taken becomes visible; moved entries switch `ns.map_base` at once
(R95, R96). -/
def State.nsSettle (s : State) (ns : Nat) : State :=
  let x := s.nsp ns
  let mine := fun e => x.newBase ≤ e && e < x.newBase + x.target
  if x.bolts = x.target ∨ s.place.mapPend.any (fun w => mine w.entry) then s
  else
    let old := if x.newBase = x.mapBase then [] else (List.range x.bolts).map (fun i => x.mapBase + i)
    let f := fun (k : SKey) => if old.contains k.entry then { k with entry := x.newBase + (k.entry - x.mapBase) } else k
    let t := (if old = [] then s else s.rekey f).putNsp ns { x with bolts := x.target, mapBase := x.newBase }
    let slots := t.place.slots.map (fun p => if old.contains p.entry && p.ns = ns then { p with entry := x.newBase + (p.entry - x.mapBase) } else p)
    let mv := fun (m : Mig) => if old.contains m.entry then { m with entry := x.newBase + (m.entry - x.mapBase) } else m
    let u : State := { t with place := { t.place with slots := slots, waiting := t.place.waiting.map mv, active := t.place.active.map mv } }
    old.foldl (fun v e => v.mapUpdate e {}) u

/-- NS_SLOTS_FREED: slots that wait return to the free list once no command that looked them up is in progress (R95,
R111 step 6). -/
def State.slotsFreed (s : State) (ns : Nat) : State :=
  let busy := s.hoop.writes.any (fun c => c.ns = ns) || s.hoop.reads.any (fun c => c.ns = ns)
  if busy then s
  else { s with place := { s.place with slots := s.place.slots.filter (fun p => !(p.ns = ns && p.freeing)) } }

/-! ### ZERO bolts -/

/-- ZERO_INIT_DONE: zero full stripes stand on every carrying stripe; the entry goes to MAPPED (R99). -/
def State.zeroDone (s : State) (e : Nat) : State :=
  let b := s.bolt e
  if s.place.zeroing.contains e ∧ b.st = .zero ∧ (s.boltNext e).st = .zero then
    (s.emit (.zeroSlot b.geo b.base)).mapUpdate e { b with st := .mapped }
  else s

/-- ZERO_WALK_STEP: the background walker takes the next ZERO bolt in entry order (R99), at rank 7. -/
def State.zeroWalk (s : State) : State :=
  let zs := (s.place.bolts.filter (fun e => e.2.st = .zero && !s.place.zeroing.contains e.1)).map (fun e => e.1)
  match zs.find? (fun e => s.place.zeroNext ≤ e) with
  | some e => { s with place := { s.place with zeroing := s.place.zeroing ++ [e], zeroNext := e + 1 } }
  | none =>
    match zs.head? with
    | some e => { s with place := { s.place with zeroing := s.place.zeroing ++ [e], zeroNext := e + 1 } }
    | none => { s with place := { s.place with zeroNext := 0 } }

/-! ### Migration -/

/-- `bolt.migrate` (Table 3-10). -/
def State.boltMigrateOp (s : State) (e g : Nat) : State × Nat :=
  let b := s.bolt e
  if s.place.array.isSome ∧ s.validMaps < 2 then (s, stCondition)
  else if ¬ (b.st = .mapped ∨ b.st = .zero) then (s.actFail Obj.boltMigrate e 1, 0)
  else if (s.geo g).st ≠ 2 then (s.actFail Obj.boltMigrate e 2, 0)
  else ((s.askMigrate e g).actRun Obj.boltMigrate e, 0)

/-- MIGRATION_START (Table 3-8, step 1): the waiting bolt gets a target slot and an active place; without a slot it
waits on, counted, with an event. A ZERO bolt stays ZERO in the target slot. -/
def State.migStart (s : State) (e : Nat) : State :=
  match s.place.waiting.find? (fun m => m.entry = e) with
  | none => s
  | some m =>
    let b := s.bolt e
    if s.rw Obj.migrateActive 0 ≤ s.place.active.length ∨ s.validMaps < 2 ∨ ¬ (b.st = .mapped ∨ b.st = .zero)
      ∨ (s.nsp b.ns).owner ≠ s.skn.side ∨ s.place.zeroing.contains e then s
    else
      match s.takeSlot m.geo e b.ns with
      | (_, none) =>
        let t : State := { s with place := { s.place with waiting := updWhere (fun x => x.entry = e) (fun x => { x with noSlot := true }) s.place.waiting } }
        if m.noSlot then t else t.note 0xC09 4 b.ns 0 0
      | (t, some base) =>
        let u : State := { t with place := { t.place with
          waiting := t.place.waiting.filter (fun x => x.entry ≠ e), active := t.place.active ++ [{ m with noSlot := false }] } }
        if b.st = .zero then u.mapUpdate e { b with base := base, geo := m.geo }
        else u.mapUpdate e { b with st := .migrating, tbase := base, tgeo := m.geo, cursor := 0 }

/-- A migration in progress. -/
def State.mig (s : State) (e : Nat) : Option Mig := s.place.active.find? (fun m => m.entry = e)

/-- Changes a migration. -/
def State.updMig (s : State) (e : Nat) (f : Mig → Mig) : State :=
  { s with place := { s.place with active := updWhere (fun m => m.entry = e) f s.place.active } }

/-- The source stripes a target stripe's byte range intersects. -/
def State.migSources (s : State) (e : Nat) : List SKey :=
  let b := s.bolt e
  let gt := s.geo b.tgeo
  let gs := s.geo b.geo
  let lo := b.cursor * gt.ku / gs.ku
  let hi := (min ((b.cursor + 1) * gt.ku) (2 ^ 30) + gs.ku - 1) / gs.ku
  (List.range (hi - lo)).map (fun i => ⟨e, 0, lo + i⟩)

/-- The newest content of a byte range block of a migrating bolt: the hoop, else what was read from its home. -/
def State.migBlk (s : State) (e o : Nat) (read : Option Blk) : Blk :=
  let b := s.bolt e
  let h := s.home e o
  let ns := b.ns
  let nb := ((e - (s.nsp ns).mapBase) * 2 ^ 30 + o) / 4096
  match (s.stripe h.1).newest h.2.1 (h.2.2 / 4096) with
  | some x => x
  | none => read.getD (poisonBlk (s.fmtOf ns) ns nb)

/-- MIGRATION_STRIPE_COPY (steps 2 and 3): the range is held and a full target stripe is written under a record. -/
def State.migCopy (s : State) (e : Nat) (cells : List Cell) : State :=
  let b := s.bolt e
  match s.mig e with
  | none => s
  | some m =>
    let gt := s.geo b.tgeo
    let k : SKey := ⟨e, 1, b.cursor⟩
    let busy := s.stripeLive k || (s.migSources e).any (fun x => s.stripeLive x)
    if b.st ≠ .migrating ∨ (s.boltNext e) ≠ b ∨ m.copied ∨ gt.sb ≤ b.cursor ∨ busy ∨ s.engines = [] then s
    else
      let data := fun c r =>
        let o := b.cursor * gt.ku + c * gt.uBytes + r * 4096
        s.migBlk e o ((cells.find? (fun x => x.col = c && x.row = r && x.ok)).map (fun x => ⟨x.data, x.pi⟩))
      let cols := encodeStripe gt b.cursor data
      let j := s.jAdd (s.stripeRec .migrate k 0 (List.range (gt.k + 2)))
      let t := (List.range (gt.k + 2)).foldl (fun (u : State) c => match u.locate k c with
        | some p => u.walkStitch p (cols.getD c [])
        | none => u) j.1
      ((t.updMig e (fun m => { m with copied := true, jseq := j.2 })).addCnt 64 Obj.darnEncoded 0 gt.ku).pageIfFull

/-- Moves the dirty sectors of the copied range from the source's frames to the target's, their home from now on
(R110, R112). -/
def State.migRehome (s : State) (e : Nat) : State :=
  let b := s.bolt e
  let gt := s.geo b.tgeo
  let gs := s.geo b.geo
  let k : SKey := ⟨e, 1, b.cursor⟩
  let moves := (List.range gt.k).flatMap (fun c => (List.range gt.rows).filterMap (fun r =>
    let o := b.cursor * gt.ku + c * gt.uBytes + r * 4096
    let src : SKey := ⟨e, 0, o / gs.ku⟩
    let sc := o % gs.ku / gs.uBytes
    let sr := o % gs.uBytes / 4096
    if gt.isPad b.cursor c r then none
    else ((s.stripe src).newest sc sr).map (fun x => (src, sc, sr, c, r, x))))
  moves.foldl (fun t m =>
    let src := m.1
    let x := t.stripe src
    let cut := fun (fs : Tbl (Option Frame)) => fs.filterMap (fun e => match e.2 with
      | some f =>
        if e.1 = m.2.1 then
          let l := Tbl.drop f.blks m.2.2.1
          if l = [] then none else some (e.1, some { f with blks := l })
        else some e
      | none => some e)
    let y : Stripe := { x with frames := cut x.frames, succ := cut x.succ }
    let y : Stripe := if y.frames = [] ∧ y.st = .filling then { y with st := .clean, timer := none, trig := false, fillIn := false } else y
    let u := (t.putStripe src y).putBlk k false m.2.2.2.1 m.2.2.2.2.1 m.2.2.2.2.2
    u.putStripe k { u.stripe k with st := .filling }) s

/-- MIGRATION_RECORD_RETIRE (steps 4 and 5): the record retires and `CURSOR` advances under R78; after the last stripe the
entry is MAPPED in the target slot. It waits while a write to the range has yet to be placed. -/
def State.migRetire (s : State) (e : Nat) : State :=
  let b := s.bolt e
  match s.mig e with
  | none => s
  | some m =>
    let open_ := s.hoop.writes.any (fun c => c.ranges.any (fun r => r.st = 1 && (s.migSources e).contains r.key))
    if m.copied = false ∨ b.st ≠ .migrating ∨ (s.boltNext e) ≠ b ∨ open_ then s
    else
      let t := (s.jRetire m.jseq).migRehome e
      t.mapUpdate e { b with cursor := b.cursor + 1 }

/-- A migrated bolt leaves its source's marks behind; the stripes that hold listed blocks are LOST in the target (R113). -/
def State.sourceLeft (s : State) (e : Nat) : State :=
  let gone := fun (k : SKey) => k.entry = e && k.sel = 0
  { s with darn := { s.darn with
    lostStripes := s.darn.lostStripes.filter (fun k => !gone k), unsynced := s.darn.unsynced.filter (fun k => !gone k)
    skipped := s.darn.skipped.filter (fun x => !gone x.1), unbuilt := s.darn.unbuilt.filter (fun x => !gone x.1) } }

/-- See `State.sourceLeft`. -/
def State.relose (s : State) (e : Nat) : State :=
  let b := s.bolt e
  let first := (e - (s.nsp b.ns).mapBase) * 262144
  let ks := (s.darn.log.filterMap (fun x => x.2.bind (fun l =>
    if l.ns = b.ns ∧ first ≤ l.block ∧ l.block < first + 262144 then some (s.home e ((l.block - first) * 4096)).1 else none))).eraseDups
  { s with darn := { s.darn with lostStripes := s.darn.lostStripes ++ ks.filter (fun k => !s.darn.lostStripes.contains k) } }

/-- What follows when an entry's update is applied: the copied range is released; a finished migration is MAPPED, then
leaves the list and gives up its source slot. -/
def State.migApplied (s : State) (e : Nat) (old : Bolt) : State :=
  let b := s.bolt e
  match s.mig e with
  | none => s
  | some _ =>
    let done := fun (t : State) =>
      let u : State := { t with place := { t.place with active := t.place.active.filter (fun x => x.entry ≠ e) } }
      (u.freeLater old.base e).actDone Obj.boltMigrate e
    if b.st = .migrating ∧ (s.geo b.tgeo).sb ≤ b.cursor then
      (s.updMig e (fun m => { m with copied := false })).mapUpdate e
        { b with st := .mapped, base := b.tbase, geo := b.tgeo, tbase := 0, tgeo := 0, cursor := 0 }
    else if b.st = .migrating then s.updMig e (fun m => { m with copied := if old.cursor ≠ b.cursor then false else m.copied })
    else if b.st = .mapped ∧ old.st = .migrating then
      done (((s.sourceLeft e).rekey (fun k => if k.entry = e ∧ k.sel = 1 then { k with sel := 0 } else k)).relose e)
    else if b.st = .zero ∧ old.base ≠ b.base then done s
    else s

/-- MIGRATION_SOURCE_FREE (step 6). -/
def State.migSourceFree (s : State) (e : Nat) : State :=
  let ns := (s.bolt e).ns
  let busy := s.hoop.writes.any (fun c => c.ns = ns) || s.hoop.reads.any (fun c => c.ns = ns)
  if busy then s
  else { s with place := { s.place with slots := s.place.slots.filter (fun p => !(p.entry = e && p.freeing)) } }

/-! ### Map copies -/

/-- One update applied by MSQ (R78, step 3). -/
def State.applyMap (s : State) (w : MapWrite) : State :=
  let old := s.bolt w.entry
  let t := s.putBolt w.entry w.bolt
  let u : State := if w.bolt.st ≠ .zero then { t with place := { t.place with zeroing := t.place.zeroing.filter (fun e => e ≠ w.entry) } } else t
  u.migApplied w.entry old

/-- MAP_COPY_ACK: the map copies hold a block: its updates apply, in their order; namespaces whose entries are all there
become visible. -/
def State.mapAck (s : State) (blk : Nat) : State :=
  let mine := s.place.mapPend.filter (fun w => mapBlock w.entry = blk)
  let t : State := { s with place := { s.place with mapPend := s.place.mapPend.filter (fun w => mapBlock w.entry ≠ blk) } }
  let u := mine.foldl (fun v w => v.applyMap w) t
  (u.place.nss.map (fun e => e.1)).foldl (fun v n => v.nsSettle n) u

end Sys2Proof.Machine
end

