-- ==== Sys2Proof/Machine/Fabric.lean ====
section
/-!
DEFINITION. Machine/Fabric.lean: the bobbin crossbar: cells, planes, the hem (R314 to R332), and the input queues'
space credits (R322). Only transfers to Ethernet outputs are carried as cells that this model sends; a cell of any
other flow is handled when it arrives (log entry 20).
-/

namespace Sys2Proof.Machine

/-- A port. -/
def State.port (s : State) (n : Nat) : Port := Tbl.get {} s.net.ports n

/-- Changes a port. -/
def State.updPort (s : State) (n : Nat) (f : Port → Port) : State :=
  { s with net := { s.net with ports := Tbl.upd {} s.net.ports n f } }

/-- Sets the crossbar. -/
def State.setX (s : State) (x : Xbar) : State := { s with net := { s.net with xbar := x } }

/-- Planes carrying cells, in ascending order (R329). -/
def State.planes (s : State) : List Nat :=
  (List.range 4).filter (fun p => (Tbl.get {} s.pd (40 + p)).st = .on && !s.isFenced 2 p)

/-- The key of a flow. -/
def flowKey (src dst cls : Nat) : Nat := src * 65536 + dst * 256 + cls

/-- Minimum and maximum of an output class in cells (R322). -/
def State.classMin (s : State) (dst cls : Nat) : Nat := if dst < 8 then 4 * s.rw Obj.eclMin (dst * 8 + cls) else 1024
def State.classMax (s : State) (dst cls : Nat) : Nat := if dst < 8 then 4 * s.rw Obj.eclMax (dst * 8 + cls) else 12288

/-- Cells held for an output class. -/
def State.held_ (s : State) (dst cls : Nat) : Nat := Tbl.get 0 s.net.xbar.occ (dst * 8 + cls)

/-- Whether an output grants a space credit for a class (R318, R322). -/
def State.credit (s : State) (dst cls : Nat) : Bool :=
  let cs := List.range 8
  let shared := 16384 - (cs.map (s.classMin dst)).foldl (· + ·) 0
  let used := (cs.map (fun c => s.held_ dst c - s.classMin dst c)).foldl (· + ·) 0
  s.held_ dst cls < s.classMax dst cls && (s.held_ dst cls < s.classMin dst cls || used < shared)
    && Tbl.get 0 s.net.xbar.resv dst < 1024

/-- The plane a cell of an input is sprayed on: equal capacity, so the plane after the last one used (R317). -/
def State.sprayOn (s : State) (src : Nat) : Option Nat :=
  let l := Tbl.get 0 s.net.xbar.rr src
  ((s.planes.filter (fun p => l < p + 1)) ++ s.planes).head?

/-- The order an input can send a cell of now: the first of its (output, class) queue with a credit (R317). -/
def State.sendable (s : State) (src : Nat) : Option (Nat × XOrder) :=
  let q := s.net.xbar.inq
  findAt (fun o => o.src = src && s.credit o.dst o.cls) (q.zipIdx.map (fun e =>
    if (q.take e.2).any (fun p => p.src = e.1.src && p.dst = e.1.dst && p.cls = e.1.cls) then { e.1 with src := 99 } else e.1))

/-- Sends one cell of an order: numbered in its flow, kept in the replay store (R316). -/
def State.sendCell (s : State) (i : Nat) (o : XOrder) (p : Nat) : State :=
  let x := s.net.xbar
  let k := flowKey o.src o.dst o.cls
  let q := Tbl.get 0 x.txSeq k
  let c : SentCell := ⟨o.src, o.dst, o.cls, q, p, o.tag, o.cells = 1⟩
  let inq := if o.cells ≤ 1 then x.inq.eraseIdx i else updAt i (fun o => { o with cells := o.cells - 1 }) x.inq
  let occ := Tbl.upd 0 x.occ (o.dst * 8 + o.cls) (· + 1)
  let t := s.setX { x with
    inq := inq, sent := x.sent ++ [c], txSeq := Tbl.set 0 x.txSeq k (wrapAdd 16 q 1), occ := occ
    resv := Tbl.upd 0 x.resv o.dst (· + 1), rr := Tbl.set 0 x.rr o.src (p + 1) }
  (t.addCnt 64 Obj.fportCellsIn o.src 1).maxCnt Obj.fportOccMax o.dst
    (((List.range 8).map (fun c => Tbl.get 0 occ (o.dst * 8 + c))).foldl (· + ·) 0 / 4)

/-- Sends cells of an input while credits, the replay store and planes allow; `n` bounds their number. -/
def State.pump : Nat → Nat → State → State
  | 0, _, s => s
  | n + 1, src, s =>
    if 896 ≤ (s.net.xbar.sent.filter (fun c => c.src = src)).length then s
    else
      match s.sendable src, s.sprayOn src with
      | some (i, o), some p => State.pump n src (s.sendCell i o p)
      | _, _ => s

/-- Cells waiting in the queues of an input. -/
def State.waitingCells (s : State) (src : Nat) : Nat :=
  ((s.net.xbar.inq.filter (fun o => o.src = src)).map (fun o => o.cells)).foldl (· + ·) 0

/-- Sends what an input can send. -/
def State.pumpIn (s : State) (src : Nat) : State := State.pump (s.waitingCells src) src s

/-- Sends what every input can send: space of an output was freed. -/
def State.pumpAll (s : State) : State :=
  ((s.net.xbar.inq.map (fun o => o.src)).eraseDups).foldl (fun t src => t.pumpIn src) s

/-- Cells of a frame. -/
def EFrame.cells (f : EFrame) : Nat := (f.len + 255) / 256

/-- Hands a frame to its port: a QP's frames cross the fabric from the DRAM port that holds the QP's transfers; a
frame the port itself makes (ARP, CM, PAUSE) is assembled there. -/
def State.sendFrame (s : State) (f : EFrame) : State :=
  match f.qp with
  | none => s.updPort f.port (fun p => { p with asm := Tbl.upd [] p.asm f.sub (fun l => l ++ [f]) })
  | some q =>
    let x := s.net.xbar
    let o : XOrder := ⟨16 + q % 4, f.port, f.cls, f.cells, x.tag⟩
    let t := s.setX { x with inq := x.inq ++ [o], frames := Tbl.set none x.frames x.tag (some f), tag := x.tag + 1 }
    t.pumpIn o.src

/-- Frees the output space of a frame that left or was dropped. -/
def State.freeSpace (s : State) (f : EFrame) : State :=
  if f.qp = none then s
  else (s.setX { s.net.xbar with occ := Tbl.upd 0 s.net.xbar.occ (f.port * 8 + f.cls) (fun n => n - f.cells) }).pumpAll

/-- A transfer reached its output whole: its frame waits for assembly. -/
def State.transferIn (s : State) (tag : Nat) : State :=
  match Tbl.get none s.net.xbar.frames tag with
  | none => s
  | some f =>
    (s.setX { s.net.xbar with frames := Tbl.drop s.net.xbar.frames tag }).updPort f.port (fun p =>
      { p with asm := Tbl.upd [] p.asm f.sub (fun l => l ++ [f]) })

/-- Links a cell into its output class queue (R318). -/
def State.linkCell (s : State) (dst : Nat) (c : HemCell) : State :=
  let x := s.net.xbar
  let t := s.setX { x with
    rxSeq := Tbl.set 0 x.rxSeq c.flow (wrapAdd 16 c.seq 1), retries := Tbl.drop x.retries c.flow
    resv := Tbl.upd 0 x.resv dst (fun n => n - 1), hem := x.hem.filter (fun h => !(h.flow = c.flow && h.seq = c.seq)) }
  let u := t.addCnt 64 Obj.fportCellsOut dst 1
  if c.eop then u.transferIn c.tag else u

/-- Links every stored cell that follows without a gap; `n` bounds their number. -/
def State.linkRun : Nat → Nat → Nat → State → State
  | 0, _, _, s => s
  | n + 1, dst, k, s =>
    match s.net.xbar.hem.find? (fun h => h.flow = k && h.seq = Tbl.get 0 s.net.xbar.rxSeq k) with
    | some c => State.linkRun n dst k (s.linkCell dst c)
    | none => s

/-- Counts a CRC failure or a replayed cell against a plane in its 1 ms window; beyond the limit the plane is fenced
(R320). -/
def State.planeErr (s : State) (p : Nat) : State :=
  let x := s.net.xbar
  let w := s.clk.ns / 1000000
  let errs := Tbl.upd 0 (if x.window = w then x.errs else []) p (· + 1)
  let lim := if x.window = w ∧ x.errs ≠ [] then x.errMax else s.rw Obj.bxbPlaneErrLimit 0
  let t := s.setX { x with window := w, errs := errs, errMax := lim }
  if Tbl.get 0 errs p = lim + 1 then t.later (.detect 0x502 2 p 0) else t

/-- A gap of a flow that has opened takes the `bxb.gap_retries` of now (Table 9-6); one that has closed is forgotten. `rx` was the
sequence number expected before. -/
def State.gapSeen (s : State) (k rx : Nat) : State :=
  let x := s.net.xbar
  if x.hem.any (fun h => h.flow = k) = false then s.setX { x with gapMax := Tbl.drop x.gapMax k }
  else if Tbl.get none x.gapMax k = none ∨ Tbl.get 0 x.rxSeq k ≠ rx then
    s.setX { x with gapMax := Tbl.set none x.gapMax k (some (s.rw Obj.bxbGapRetries 0)) }
  else s

/-- CELL_ARRIVAL: a cell reaches the hem of its output (R318). -/
def State.cellArrival (s : State) (src dst cls seq plane : Nat) (crcOk : Bool) : State :=
  if 4 ≤ plane ∨ s.isFenced 2 plane ∨ (Tbl.get {} s.pd (40 + plane)).st = .off then s
  else
    let t := s.addCnt 64 Obj.planeCells plane 1
    if crcOk = false then (t.addCnt 64 Obj.planeCrcErrors plane 1).planeErr plane
    else
      let k := flowKey src dst cls
      let rx := Tbl.get 0 t.net.xbar.rxSeq k
      let d := (seq + 65536 - rx) % 65536
      if 32768 ≤ d ∨ t.net.xbar.hem.any (fun h => h.flow = k && h.seq = seq) then t
      else
        let sent := t.net.xbar.sent.find? (fun c => c.src = src && c.dst = dst && c.cls = cls && c.seq = seq)
        let c : HemCell := ⟨k, seq, (sent.map (fun c => c.tag)).getD 0, (sent.map (fun c => c.eop)).getD false⟩
        let u := t.setX { t.net.xbar with hem := t.net.xbar.hem ++ [c] }
        (State.linkRun (u.net.xbar.hem.length) dst k u).gapSeen k rx

/-- RECEIPT_CREDIT: a delivered cell leaves the replay store (R316). -/
def State.receipt (s : State) (src dst cls seq : Nat) : State :=
  let x := s.net.xbar
  let d := (seq + 65536 - Tbl.get 0 x.rxSeq (flowKey src dst cls)) % 65536
  if d < 32768 then s
  else (s.setX { x with sent := x.sent.filter (fun c => !(c.src = src && c.dst = dst && c.cls = cls && c.seq = seq)) }).pumpIn src

/-- Re-sends a cell on another plane where there is one (R319, R330). The plane that carried it is charged. -/
def State.resend (s : State) (c : SentCell) : State :=
  let ps := s.planes
  match ((ps.filter (fun p => c.plane < p)) ++ ps.filter (fun p => p ≠ c.plane) ++ ps).head? with
  | none => s
  | some p =>
    let f := fun (b : SentCell) => b.src = c.src && b.dst = c.dst && b.cls = c.cls && b.seq = c.seq
    (s.setX { s.net.xbar with sent := updWhere f (fun b => { b with plane := p }) s.net.xbar.sent }).addCnt 64
      Obj.planeReplays c.plane 1

/-- The scopes fenced for the unit of a fabric port (Table 9-2): type and identifier. -/
def State.fportScopes (s : State) (fp : Nat) : List (Nat × Nat) :=
  if fp < 8 then [(1, fp)]
  else if fp < 14 then
    ((List.range s.bays).filter (fun a => s.inService a && (match s.posBay a with | some b => b / 8 = fp - 8 | none => false))).map
      (fun a => (3, a))
  else if fp = 14 then [(1, 9)]
  else if fp = 15 then [(1, 8)]
  else if 20 ≤ fp ∧ fp < 24 then [(10, 64 + (fp - 20))]
  else [(0, 0)]

/-- The gap of a flow is unrecovered (R319): what lies behind it is discarded, its transfers fail. -/
def State.gapLost (s : State) (src dst cls : Nat) : State :=
  let x := s.net.xbar
  let k := flowKey src dst cls
  let mine := fun (c : SentCell) => c.src = src && c.dst = dst && c.cls = cls
  let rx := Tbl.get 0 x.rxSeq k
  let late := fun (c : SentCell) => mine c && (c.seq + 65536 - rx) % 65536 < 32768
  let tags := ((x.sent.filter late).map (fun c => c.tag)).eraseDups
  let n := (x.sent.filter late).length
  let gone := x.inq.filter (fun o => o.src = src && o.dst = dst && o.cls = cls && tags.contains o.tag)
  let held := ((x.frames.filter (fun e => tags.contains e.1)).map (fun e => match e.2 with
    | some f => f.cells
    | none => 0)).foldl (· + ·) 0 - (gone.map (fun o => o.cells)).foldl (· + ·) 0
  let left := x.inq.filter (fun o => !(o.src = src && o.dst = dst && o.cls = cls && tags.contains o.tag))
  let t := s.setX { x with
    sent := x.sent.filter (fun c => !mine c), inq := left, hem := x.hem.filter (fun h => h.flow ≠ k)
    rxSeq := Tbl.set 0 x.rxSeq k (Tbl.get 0 x.txSeq k), retries := Tbl.drop x.retries k, gapMax := Tbl.drop x.gapMax k
    frames := x.frames.filter (fun e => !tags.contains e.1)
    occ := Tbl.upd 0 x.occ (dst * 8 + cls) (fun m => m - max n held), resv := Tbl.upd 0 x.resv dst (fun m => m - n) }
  let u := t.addCnt 32 Obj.fportUnrecovered dst 1
  ((s.fportScopes src).foldl (fun v e => v.later (.detect 0x501 e.1 e.2 0)) u).pumpAll

/-- HEM_GAP_TIMEOUT: a replay of the missing cell, or an unrecovered gap (R319). -/
def State.gapTimeout (s : State) (src dst cls : Nat) : State :=
  let k := flowKey src dst cls
  let x := s.net.xbar
  if x.hem.any (fun h => h.flow = k) = false then s
  else if Tbl.get 0 x.retries k < (Tbl.get none x.gapMax k).getD (s.rw Obj.bxbGapRetries 0) then
    let t := (s.setX { x with retries := Tbl.upd 0 x.retries k (· + 1) }).addCnt 64 Obj.fportGapTimeouts dst 1
    match x.sent.find? (fun c => c.src = src && c.dst = dst && c.cls = cls && c.seq = Tbl.get 0 x.rxSeq k) with
    | some c => (t.resend c).planeErr c.plane
    | none => t
  else s.gapLost src dst cls

/-- A plane is cut off (R330): every unreceipted cell it carried is re-sent; the domain is cut; without any plane left
the device is fenced by 0x505 (R331). -/
def State.planeCut (s : State) (p : Nat) : State :=
  let t := ((s.pdTo (40 + p) .off).updPd (40 + p) (fun d => { d with owner := 2, heldOff := false, byLoop := false }))
  let u := (t.setCnt Obj.planeTestOk p 0)
  let v := (u.net.xbar.sent.filter (fun c => c.plane = p)).foldl (fun w c => w.resend c) u
  if v.planes = [] then v.later (.detect 0x505 0 0 0) else v

/-- `plane.test` (R332). -/
def State.planeTestOp (s : State) (p : Nat) : State :=
  if (Tbl.get {} s.pd (40 + p)).st = .on then s.actFail Obj.planeTest p 1
  else (({ s with net := { s.net with plane := s.net.plane ++ [p] } }).actRun Obj.planeTest p)

/-- PLANE_TEST_DONE (R332). -/
def State.planeTestDone (s : State) (p : Nat) (pass : Bool) : State :=
  if s.net.plane.contains p = false then s
  else
    let t : State := { s with net := { s.net with plane := s.net.plane.filter (fun q => q ≠ p) } }
    let u := t.setCnt Obj.planeTestOk p (b2n pass)
    if pass then u.actDone Obj.planeTest p else (u.actFail Obj.planeTest p 2).later (.detect 0x504 2 p 0)

end Sys2Proof.Machine
end

