-- ==== Sys2Proof/Machine/Egress.lean ====
section
/-!
DEFINITION. Machine/Egress.lean: Ethernet output: frame assembly and marking (R324), link-down hold (R325 to R328), egress
scheduling and shapers (R333 to R340), pauses (R220, R221), and ingress policers (R341 to R345).
-/

namespace Sys2Proof.Machine

/-- Rate of a sub-port in Mb/s (Table 6-1); 0 for one that the mode does not have. -/
def State.subRate (s : State) (n sub : Nat) : Nat :=
  match s.rw Obj.ethMode n with
  | 1 => if sub = 0 then 800000 else 0
  | 2 => if sub < 2 then 400000 else 0
  | 3 => if sub < 4 then 200000 else 0
  | _ => 0

/-- Whether a sub-port's link is up and its port not fenced. -/
def State.linkUp (s : State) (n sub : Nat) : Bool := (s.port n).up.contains sub && !s.blocked 1 n

/-- A QP's row. -/
def State.qp (s : State) (q : Nat) : Qp := Tbl.get {} s.net.qps q

/-- Changes a QP. -/
def State.updQp (s : State) (q : Nat) (f : Qp → Qp) : State :=
  { s with net := { s.net with qps := Tbl.upd {} s.net.qps q f } }

/-! ### Shapers -/

/-- Counted bytes of a frame (R335); in bucket mode with the `tns.overhead` of the last refill (Table 9-7). -/
def State.counted (s : State) (f : EFrame) : Nat :=
  f.len + (if (s.port f.port).bucket then (s.port f.port).overhead else s.rw Obj.tnsOverhead f.port)

/-- The rate of a QP's flow: the lower of R_c and the host's limit (R219, R334). -/
def State.qpRate (s : State) (q : Nat) : Nat :=
  let x := s.qp q
  let sub := s.subRate x.port x.sub
  let a := if s.rw Obj.tpRpEnable 0 = 1 ∧ x.rc ≠ 0 then min x.rc sub else sub
  let h := s.rw Obj.thostQpRate x.host
  if h = 0 then a else min a h

/-- The key of a shaper. -/
def shKey (kind id : Nat) : Nat := kind * 1048576 + id

/-- The rate and burst a shaper has now by the dictionary and R_c; rate 0 where nothing shapes. -/
def State.shNow (s : State) (n key : Nat) : Nat × Nat :=
  let id := key % 1048576
  match key / 1048576 with
  | 0 =>
    let x := s.qp id
    let r := s.qpRate id
    (if r < s.subRate x.port x.sub ∧ x.st ≠ .idle then r else 0, 1024 * s.rw Obj.thostBurst x.host)
  | 1 => (s.rw Obj.thostRate id, 1024 * s.rw Obj.thostBurst id)
  | 2 => (s.rw Obj.tgrpFanoutRate (id / 2048), 1024 * s.rw Obj.thostBurst (id % 2048))
  | _ =>
    let qs := ((s.port n).spill.filter (fun e => e.2 = id + 1)).map (fun e => e.1)
    (minOf (qs.map s.qpRate), minOf (qs.map (fun q => 1024 * s.rw Obj.thostBurst (s.qp q).host)))

/-- The present slot of the calendar wheel: 64 ns slots of the timebase. -/
def State.slotNow (s : State) : Nat := s.clk.ns / 64

/-- Slots of credit an idle flow may bank (R337). -/
def beta (rate burst : Nat) : Nat := min (125 * burst / max rate 1) 4095

/-- The calendar step of a frame (R337). -/
def delta (rate l : Nat) : Nat := (2 * 32000 * l + max rate 1) / (2 * max rate 1)

/-- The bucket depth in 1/256 byte (R338). -/
def depth256 (rate burst : Nat) : Nat := 256 * max burst (rate * 512 / 1000 + 9236)

/-- One refill of a bucket in 1/256 byte (R338). -/
def refill256 (rate : Nat) : Nat := (rate * 131072 + 500) / 1000

/-- The shapers of a port. -/
def Port.shaper (p : Port) (key : Nat) : Option Shaper := Tbl.get none p.shapers key

/-- The shapers a frame passes (R334), with the overflow entry of a QP that joined one (R340). -/
def State.path (s : State) (f : EFrame) : List Nat :=
  match f.qp with
  | none => []
  | some q =>
    let p := s.port f.port
    let own := if (p.shaper (shKey 0 q)).isSome then [shKey 0 q]
      else match Tbl.get 0 p.spill q with
        | 0 => []
        | o => [shKey 3 (o - 1)]
    let host := if (p.shaper (shKey 1 f.host)).isSome then [shKey 1 f.host] else []
    let grp := match f.grp with
      | some g => if (p.shaper (shKey 2 g)).isSome then [shKey 2 g] else []
      | none => []
    own ++ host ++ grp

/-- Sets a port's shaper and `tns.flows`. -/
def State.setShaper (s : State) (n key : Nat) (x : Option Shaper) : State :=
  let t := s.updPort n (fun p => { p with shapers := Tbl.set none p.shapers key x })
  let m := (t.port n).shapers.length
  let u := t.updPort n (fun p => { p with
    switching := p.switching || (!p.bucket && 1024 < m)
    lowSince := if m ≤ 960 then some (p.lowSince.getD s.clk.ns) else none })
  u.setCnt Obj.tnsFlows n m

/-- A fresh shaper: its bucket full. -/
def State.freshShaper (s : State) (rate burst : Nat) : Shaper :=
  ⟨rate, burst, (s.slotNow - beta rate burst) * 256, depth256 rate burst, false⟩

/-- A flow that needs an entry gets one (past 1,024 in calendar mode it waits for the switch, R336), or joins an overflow entry when the others are in use (R340). -/
def State.needShaper (s : State) (n key : Nat) (host : Nat) : State :=
  let r := s.shNow n key
  if r.1 = 0 ∨ ((s.port n).shaper key).isSome then s
  else if (s.port n).shapers.length < 16384 - 64 then
    s.setShaper n key (some { s.freshShaper r.1 r.2 with waits := !(s.port n).bucket && decide (1024 ≤ (s.port n).shapers.length) })
  else if key < 1048576 then
    if Tbl.get 0 (s.port n).spill key ≠ 0 then s
    else
      let o := host % 64
      let t := (s.updPort n (fun p => { p with spill := Tbl.set 0 p.spill key (o + 1) })).addCnt 64 Obj.tnsOverflow n 1
      let v := t.shNow n (shKey 3 o)
      match (t.port n).shaper (shKey 3 o) with
      | some x => t.setShaper n (shKey 3 o) (some { x with rate := v.1, burst := v.2 })
      | none => t.setShaper n (shKey 3 o) (some (t.freshShaper v.1 v.2))
  else s

/-- A flow takes up its rate and burst of now (R339); an entry no longer needed is freed, and a flow of an overflow entry
takes it (R340). -/
def State.refreshShaper (s : State) (n key : Nat) : State :=
  match (s.port n).shaper key with
  | none => s
  | some x =>
    let r := s.shNow n key
    if r.1 = 0 then
      let t := s.setShaper n key none
      match (t.port n).spill.head? with
      | none => t
      | some (q, _) => (t.updPort n (fun p => { p with spill := Tbl.drop p.spill q })).needShaper n (shKey 0 q) (t.qp q).host
    else s.setShaper n key (some { x with rate := r.1, burst := r.2, tokens := min x.tokens (depth256 r.1 r.2) })

/-- Whether a shaper lets a frame through now (R335, R337). -/
def State.passes (s : State) (n key l : Nat) : Bool :=
  match (s.port n).shaper key with
  | none => true
  | some x =>
    if (s.port n).bucket then 256 * l ≤ x.tokens
    else !x.waits && decide (x.next / 256 ≤ s.slotNow)

/-- Debits a shaper for a frame sent. -/
def State.debit (s : State) (n key l : Nat) : State :=
  let t := if (s.port n).bucket then s else s.refreshShaper n key
  match (t.port n).shaper key with
  | none => t
  | some x =>
    t.setShaper n key (some { x with next := x.next + delta x.rate l, tokens := x.tokens - 256 * l })

/-- A frame arrives at an idle flow: in calendar mode it banks at most beta slots (R337). -/
def State.flowWakes (s : State) (n key : Nat) : State :=
  let t := s.refreshShaper n key
  match (t.port n).shaper key with
  | none => t
  | some x => t.setShaper n key (some { x with next := max x.next ((s.slotNow - beta x.rate x.burst) * 256) })

/-- Frames assembled for a sub-port's class. -/
def Port.queue (p : Port) (sub cls : Nat) : List EFrame := Tbl.get [] p.queues (sub * 8 + cls)

/-- Puts a frame into its class queue. -/
def State.enqueue (s : State) (f : EFrame) : State :=
  let n := f.port
  let t := match f.qp with
    | none => s
    | some q =>
      let u := (s.needShaper n (shKey 0 q) f.host).needShaper n (shKey 1 f.host) f.host
      match f.grp with
      | none => u
      | some g => u.needShaper n (shKey 2 g) f.host
  let idle := !(((t.port n).queues.flatMap (fun e => e.2)).any (fun g => g.qp = f.qp && f.qp.isSome))
  let v := if idle then (t.path f).foldl (fun w k => w.flowWakes n k) t else t
  let g := if (v.port n).up.contains f.sub then f else { f with held := true }
  v.updPort n (fun p => { p with queues := Tbl.upd [] p.queues (f.sub * 8 + f.cls) (fun l => l ++ [g]) })

/-- Bytes of cells queued for a sub-port's class (R324). -/
def State.depthOf (s : State) (n sub cls : Nat) : Nat :=
  let p := s.port n
  let fs := p.queue sub cls ++ (Tbl.get [] p.asm sub).filter (fun f => f.cls = cls)
  (fs.map (fun f => f.cells * 256)).foldl (· + ·) 0

/-- FRAME_ASSEMBLY: the oldest transfer of a sub-port becomes a frame: discarded while the link is down after its hold,
marked or dropped by depth, else queued (R324, R327). -/
def State.assemble (s : State) (n sub : Nat) : State :=
  match Tbl.get [] (s.port n).asm sub with
  | [] => s
  | f :: r =>
    let d := s.depthOf n sub f.cls
    let t := s.updPort n (fun p => { p with asm := Tbl.set [] p.asm sub r })
    let row := n * 8 + f.cls
    if (t.port n).flushed.contains sub then (t.freeSpace f).addCnt 64 Obj.holdDiscarded n 1
    else if f.data && decide (s.rw Obj.eclEcnThresh row * 1024 < d) then
      if f.ect then (t.enqueue { f with ce := true }).addCnt 64 Obj.eclMarked row 1
      else (t.freeSpace f).addCnt 64 Obj.eclThreshDrops row 1
    else t.enqueue f

/-! ### Scheduling -/

/-- The flow of a frame: frames of one flow leave in order. -/
def EFrame.flow (f : EFrame) : Nat := match f.qp with | some q => q + 1 | none => 0

/-- Whether a class is paused by PFC: its frames' priority is (R216, R220). -/
def State.classPaused (s : State) (n cls : Nat) : Bool :=
  let pcp := s.rw Obj.ethTcPcp n / 16 ^ cls % 16 % 8
  (Tbl.get none (s.port n).paused pcp).isSome && bit (s.rw Obj.ethPfcEnable n) pcp

/-- The frames of a class that may leave: the first of each eligible flow; only held frames while any is left (R326). -/
def State.ready (s : State) (n sub cls : Nat) : List EFrame :=
  if s.classPaused n cls then []
  else
    let p := s.port n
    let any := (List.range 8).any (fun c => (p.queue sub c).any (fun f => f.held))
    let q := p.queue sub cls
    (q.zipIdx.filter (fun e => (!any || e.1.held) && !(q.take e.2).any (fun g => g.flow = e.1.flow)
      && (s.path e.1).all (fun k => s.passes n k (s.counted e.1)))).map (fun e => e.1)

/-- The frame of a class that leaves: eligible flows take turns (R333). -/
def State.turn (s : State) (n sub cls : Nat) : Option EFrame :=
  let l := Tbl.get 0 (s.port n).last (64 + sub * 8 + cls)
  let r := s.ready n sub cls
  let sorted := sortBy (fun a b => a.flow ≤ b.flow) r
  ((sorted.filter (fun f => l < f.flow + 1)) ++ sorted).head?

/-- The next class of the round: it gains its quantum, which covers any frame (R333). -/
def State.nextClass (s : State) (n sub : Nat) (drr : List Nat) (cur : Nat) : Option (EFrame × Tbl Nat × Nat) :=
  let p := s.port n
  match ((drr.filter (fun c => cur < c)) ++ drr).head? with
  | none => none
  | some c =>
    (s.turn n sub c).map (fun f =>
      let quantum := 9216 * (s.rw Obj.tnsWeights n / 16 ^ c % 16)
      let base := if p.queue sub cur = [] then Tbl.drop p.deficit (sub * 8 + cur) else p.deficit
      (f, Tbl.upd 0 base (sub * 8 + c) (fun d => d + quantum - f.len), c))

/-- The class whose frame leaves next, and the deficits then (R333): class 7, strict classes, deficit round robin. -/
def State.pick (s : State) (n sub : Nat) : Option (EFrame × Tbl Nat × Nat) :=
  let p := s.port n
  let strict := s.rw Obj.tnsStrict n
  match ([7] ++ ((List.range 7).reverse.filter (fun c => bit strict c))).findSome? (fun c => s.turn n sub c) with
  | some f => some (f, p.deficit, Tbl.get 0 p.last sub)
  | none =>
    let cur := Tbl.get 0 p.last sub
    let drr := (List.range 7).filter (fun c => !bit strict c && (s.turn n sub c).isSome)
    let key := fun c => sub * 8 + c
    match s.turn n sub cur with
    | some f =>
      if drr.contains cur && decide (f.len ≤ Tbl.get 0 p.deficit (key cur)) then
        some (f, Tbl.upd 0 p.deficit (key cur) (fun d => d - f.len), cur)
      else s.nextClass n sub drr cur
    | none => s.nextClass n sub drr cur
/-- Removes the first frame equal to `f` from its queue. -/
def Port.take (p : Port) (f : EFrame) : Port :=
  { p with queues := Tbl.upd [] p.queues (f.sub * 8 + f.cls) (fun l => l.erase f) }

/-- The last packet of a chain's request left the port (R277). -/
def State.wrLeft (s : State) (slot idx : Nat) : State :=
  { s with net := { s.net with chains := Tbl.upd {} s.net.chains slot (fun c =>
      { c with flight := updWhere (fun w => w.idx = idx) (fun w => { w with ended := true }) c.flight }) } }

/-- FRAME_TRANSMIT: a sub-port sends its next frame (R333). -/
def State.transmit (s : State) (n sub : Nat) : State :=
  if s.linkUp n sub = false then s
  else
    match s.pick n sub with
    | none => s
    | some (f, deficit, cur) =>
      let t := s.updPort n (fun p =>
        let last := Tbl.set 0 (Tbl.set 0 p.last sub cur) (64 + sub * 8 + f.cls) (f.flow + 1)
        { p.take f with deficit := deficit, last := last })
      let l := s.counted f
      let u := (s.path f).foldl (fun v k => v.debit n k l) t
      let v := ((u.emit (.frame f)).addCnt 64 Obj.ethTxFrames n 1).addCnt 64 Obj.eclFrames (n * 8 + f.cls) 1
      let w := if f.held then v.addCnt 64 Obj.holdSent n 1 else v
      let x := match f.qp with
        | some q => w.addCnt 64 Obj.tflowBytes q l
        | none => w
      let y := match f.body with
        | .cnp _ => x.addCnt 64 Obj.ethCnpSent n 1
        | _ => x
      let z := match f.wr with
        | some (slot, idx) => y.wrLeft slot idx
        | none => y
      z.freeSpace f

/-- A port changes mode: each token count is carried over (R336). -/
def State.setBucket (s : State) (n : Nat) (b : Bool) : State :=
  let now := s.slotNow
  let f := fun (x : Shaper) =>
    if b then { x with waits := false, tokens := min (depth256 x.rate x.burst) ((now * 256 - x.next) * x.rate / 32000 * 256) }
    else { x with next := (now - min (beta x.rate x.burst) (x.tokens * 125 / (256 * max x.rate 1))) * 256 }
  let t := s.updPort n (fun p => { p with
    bucket := b, overhead := s.rw Obj.tnsOverhead n, switching := false, shapers := Tbl.mapRows none (fun _ o => o.map f) p.shapers })
  (t.setCnt Obj.tnsMode n (b2n b)).addCnt 32 Obj.tnsSwitches n 1

/-- CALENDAR_SLOT: the flows of this slot that wait with laps left take up their present rate; a switch asked for
happens at the revolution boundary (R336, R337, R339). -/
def State.calendarSlot (s : State) (n : Nat) : State :=
  if (s.port n).bucket then s
  else
    let now := s.slotNow
    let ks := ((s.port n).shapers.filter (fun e => match e.2 with
      | some x => decide (x.next / 256 % 4096 = now % 4096) && decide (now < x.next / 256)
      | none => false)).map (fun e => e.1)
    let t := ks.foldl (fun u k => u.refreshShaper n k) s
    if now % 4096 = 0 && (t.port n).switching then
      (if 1024 < (t.port n).shapers.length then t.setBucket n true
       else t.updPort n (fun p => { p with
         switching := false, shapers := Tbl.mapRows none (fun _ o => o.map (fun x => { x with waits := false })) p.shapers }))
    else t

/-- BUCKET_REFILL: every shaper of a port in bucket mode is refilled at its present rate (R338, R339). -/
def State.bucketRefill (s : State) (n : Nat) : State :=
  if (s.port n).bucket = false then s
  else
    let t := ((s.port n).shapers.map (fun e => e.1)).foldl (fun u k => u.refreshShaper n k) s
    t.updPort n (fun p => { p with overhead := s.rw Obj.tnsOverhead n, shapers := Tbl.mapRows none (fun _ o => o.map (fun x =>
      { x with tokens := min (x.tokens + refill256 x.rate) (depth256 x.rate x.burst) })) p.shapers })

/-- TENSION_MODE_SWITCH_BACK: 10 ms at or below 960 entries (R336). -/
def State.switchBack (s : State) (n : Nat) : State :=
  match (s.port n).lowSince with
  | some a => if (s.port n).bucket && decide (a + 10000000 ≤ s.clk.ns) then s.setBucket n false else s
  | none => s

/-! ### Links and pauses -/

/-- Flushes every frame of a sub-port. -/
def State.flushFrames (s : State) (n sub counter : Nat) : State :=
  let p := s.port n
  let fs := (List.range 8).flatMap (fun c => p.queue sub c)
  let t := s.updPort n (fun p => { p with
    queues := (List.range 8).foldl (fun q c => Tbl.drop q (sub * 8 + c)) p.queues
    holding := p.holding.filter (fun x => x ≠ sub), flushed := (p.flushed.filter (fun x => x ≠ sub)) ++ [sub] })
  (fs.foldl (fun u f => u.freeSpace f) t).addCnt 64 counter n fs.length

/-- Reports `eth.link`. -/
def State.linkBits (s : State) (n : Nat) : State :=
  s.setCnt Obj.ethLink n ((s.port n).up.foldl (fun v i => orBit v i) 0)

/-- ETH_LINK_UP (R207, R326, R485): from S7 on; with no matching ability the link stays down. -/
def State.ethUp (s : State) (n sub : Nat) (matched : Bool) : State :=
  if s.boot.svcOpen = false ∨ s.ports ≤ n ∨ s.subRate n sub = 0 ∨ (Tbl.get {} s.pd n).st ≠ .on ∨ s.blocked 1 n ∨ (s.port n).up.contains sub then s
  else if matched = false then s.addCnt 32 Obj.ethAnFail n 1
  else
    ((s.updPort n (fun p => { p with
      up := p.up ++ [sub], holding := p.holding.filter (fun x => x ≠ sub), flushed := p.flushed.filter (fun x => x ≠ sub) })).linkBits n).fenServe 1 n

/-- ETH_LINK_DOWN (R240, R325, R328): queued frames are held, pauses cleared, a new hold starts. -/
def State.ethDown (s : State) (n sub : Nat) : State :=
  if (s.port n).up.contains sub = false then s
  else
    let t := (s.updPort n (fun p => { p with
      up := p.up.filter (fun x => x ≠ sub), paused := []
      holding := (p.holding.filter (fun x => x ≠ sub)) ++ [sub]
      queues := Tbl.mapRows [] (fun k l => if k / 8 = sub then l.map (fun f => { f with held := true }) else l) p.queues })).linkBits n
    let u := t.later (.detect 0x402 1 n 0)
    if s.rw Obj.holdTime n = 0 then u.flushFrames n sub Obj.holdFlushed else u

/-- HOLD_EXPIRY (R327). -/
def State.holdExpiry (s : State) (n sub : Nat) : State :=
  if (s.port n).holding.contains sub then s.flushFrames n sub Obj.holdFlushed else s

/-- PFC_PAUSE (R220, R221): egress of an enabled priority stops, or resumes at zero quanta. -/
def State.pfcPause (s : State) (n prio quanta : Nat) : State :=
  if s.ports ≤ n ∨ 8 ≤ prio ∨ (s.port n).up = [] then s
  else
    let t := s.addCnt 64 Obj.ethPfcRx n 1
    if bit (s.rw Obj.ethPfcEnable n) prio = false ∨ (s.port n).ignored.contains prio then t
    else
      t.updPort n (fun p => { p with
        paused := Tbl.set none p.paused prio (if quanta = 0 then none
          else some ((Tbl.get none p.paused prio).getD (s.clk.ns, s.rw Obj.ethPfcWd n))) })

/-- PAUSE_QUANTA_EXPIRY (R220). -/
def State.pauseOver (s : State) (n prio : Nat) : State := s.updPort n (fun p => { p with paused := Tbl.drop p.paused prio })

/-- A PAUSE frame of ours. -/
def State.sendPause (s : State) (n prio quanta : Nat) : State :=
  (s.emit (.frame ⟨n, 0, 0, 64, false, false, false, none, 0, none, none, false, .pause prio quanta⟩)).addCnt 64 Obj.ethPfcTx n 1

/-- PFC_REPEAT_TIMER: the ingress buffer holds `level` KiB of a priority (R220). -/
def State.pfcRepeat (s : State) (n prio level : Nat) : State :=
  if bit (s.rw Obj.ethPfcEnable n) prio = false ∨ (s.port n).up = [] then s
  else if s.rw Obj.ethPfcXoff n < level then
    (s.sendPause n prio 0xFFFF).updPort n (fun p => { p with pausing := (p.pausing.filter (fun x => x ≠ prio)) ++ [prio] })
  else if level < s.rw Obj.ethPfcXon n ∧ (s.port n).pausing.contains prio then
    (s.sendPause n prio 0).updPort n (fun p => { p with pausing := p.pausing.filter (fun x => x ≠ prio) })
  else if (s.port n).pausing.contains prio ∧ s.rw Obj.ethPfcXon n ≤ level then s
  else s

/-- PFC_WATCHDOG_EXPIRY (R221): after the `eth.pfc_wd` of the pause's start (Table 6-7). -/
def State.pfcTrip (s : State) (n prio : Nat) : State :=
  match Tbl.get none (s.port n).paused prio with
  | some (a, wd) =>
    if wd = 0 ∨ s.clk.ns < a + wd * 1000000 then s
    else
      ((s.updPort n (fun p => { p with
        paused := Tbl.drop p.paused prio, ignored := (p.ignored.filter (fun x => x ≠ prio)) ++ [prio] })).addCnt 32
        Obj.ethPfcWdTrips n 1).later (.detect 0x403 1 n 0)
  | none => s

/-- PFC_WATCHDOG_RECOVERY: 1 s without PAUSE (R221). -/
def State.pfcRecover (s : State) (n prio : Nat) : State :=
  s.updPort n (fun p => { p with ignored := p.ignored.filter (fun x => x ≠ prio) })

/-! ### Policers -/

/-- Colours of R342. -/
inductive Colour where
  | green | yellow | red
deriving DecidableEq, Repr

/-- A packet through a policer with `b` bytes and a pre-colour (RFC 2697, RFC 2698; green when colour-blind). -/
def polColour (mode : Nat) (pre : Colour) (b : Nat) (c e : Nat) : Colour × Nat × Nat :=
  if mode = 1 then
    if pre = .green ∧ b ≤ c then (.green, c - b, e)
    else if pre ≠ .red ∧ b ≤ e then (.yellow, c, e - b)
    else (.red, c, e)
  else if pre = .red ∨ e < b then (.red, c, e)
  else if pre = .yellow ∨ c < b then (.yellow, c, e - b)
  else (.green, c - b, e - b)

/-- Both buckets of a policer at the present time (R342). -/
def State.polFill (s : State) (row : Nat) (x : Policer) : Nat × Nat :=
  let cmax := 8000 * 1024 * s.rw Obj.polCbs row
  let emax := 8000 * 1024 * s.rw Obj.polEbs row
  let dt := s.clk.ns - x.at_
  let add := dt * s.rw Obj.polCir row
  if s.rw Obj.polMode row = 1 then
    let c := min cmax (x.c + add)
    (c, min emax (x.e + (x.c + add - c)))
  else (min cmax (x.c + add), min emax (x.e + dt * s.rw Obj.polPir row))

/-- The pre-colour of a packet (R343). -/
def State.preColour (s : State) (row : Nat) (k : Pkt) : Colour :=
  if s.rw Obj.polAware row = 0 then .green
  else
    let v := if s.rw Obj.polColorSrc row = 0 then s.rw Obj.pcolDscp k.dscp
      else if k.vlan = 0 ∧ k.pcp = 0 then 0 else s.rw Obj.pcolPcp k.pcp
    if v = 0 then .green else if v = 1 then .yellow else .red

/-- Polices a request packet of a host (R341, R344): whether it passes. -/
def State.police (s : State) (k : Pkt) (host : Nat) : State × Bool :=
  let row := s.rw Obj.hostPolicer host
  if row = 0xFFFF ∨ 4096 ≤ row ∨ s.rw Obj.polMode row = 0 then (s, true)
  else
    let key := row * 8 + k.port
    let full : Policer := ⟨8000 * 1024 * s.rw Obj.polCbs row, 8000 * 1024 * s.rw Obj.polEbs row, s.clk.ns⟩
    let f := s.polFill row ((Tbl.get none s.net.policers key).getD full)
    let r := polColour (s.rw Obj.polMode row) (s.preColour row k) (8000 * k.len) f.1 f.2
    let p : Policer := ⟨r.2.1, r.2.2, s.clk.ns⟩
    let t : State := { s with net := { s.net with policers := Tbl.set none s.net.policers key (some p) } }
    match r.1 with
    | .green => (t.addCnt 64 Obj.polGreen row k.len, true)
    | .yellow =>
      let u := t.addCnt 64 Obj.polYellow row k.len
      if s.rw Obj.polYellowAct row = 1 then (u.addCnt 64 Obj.polDrops row 1, false) else (u, true)
    | .red =>
      let u := t.addCnt 64 Obj.polRed row k.len
      if s.rw Obj.polRedAct row = 1 then (u.addCnt 64 Obj.polDrops row 1, false) else (u, true)

/-- A write of a policer's mode or awareness refills its buckets (R345). -/
def State.polRefill (s : State) (row : Nat) : State :=
  { s with net := { s.net with policers := s.net.policers.filter (fun e => e.1 / 8 ≠ row) } }

end Sys2Proof.Machine
end

