-- ==== Sys2Proof/Machine/Qps.lean ====
section
/-!
DEFINITION. Machine/Qps.lean: queue pairs: frames sent, acknowledgment and retransmission (R237 to R239), congestion
(R218, R219), life cycle (R229 to R231), context cache (R232 to R236), connection admission (R226 to R228).
-/

namespace Sys2Proof.Machine

/-- Bytes of an RoCEv2 frame with `n` bytes after the BTH (R217, R223). -/
def State.frameLen (s : State) (x : Qp) (n : Nat) : Nat :=
  14 + (if x.vlan = 0 then 0 else 4) + (if s.rw Obj.gidType x.gid = 2 then 40 else 20) + 8 + 12 + (n + 3) / 4 * 4 + 4 + 4

/-- The class of a QP's frames (R216). -/
def State.qpClass (s : State) (x : Qp) : Nat :=
  let t := s.rw Obj.dscpTc (x.port * 64 + x.dscp)
  if t = 7 then 0 else t

/-- Sends a frame on a QP: nothing leaves a FENCED one. -/
def State.qpSend (s : State) (q : Nat) (body : FBody) (n : Nat) (grp : Option Nat) (wr : Option (Nat × Nat)) : State :=
  let x := s.qp q
  if x.st = .idle ∨ x.st = .fenced then s
  else
    s.sendFrame { port := x.port, sub := x.sub, cls := s.qpClass x, len := s.frameLen x n, data := true
                  ect := s.rw Obj.ethEcnEnable x.port = 1, qp := some q, host := x.host, grp := grp, wr := wr, body := body }

/-- PSN arithmetic (24 bits). -/
def psnAdd (a n : Nat) : Nat := (a + n) % 16777216
def psnDist (a b : Nat) : Nat := (b + 16777216 - a % 16777216) % 16777216

/-! ### Responder -/

/-- Whether an access of a QP is held: a knot write or trigger not yet placed. -/
def EyeAcc.holds (a : EyeAcc) (q : Nat) : Bool := a.who = .qp q && (a.kind = .knot || a.kind = .trigger) && !a.placed

/-- PSNs of a QP that nothing sent may acknowledge yet: of held knot writes and triggers (R263), of requests whose response is still
to come (R267). -/
def State.unacked (s : State) (q : Nat) : List Nat :=
  (s.net.accs.filter (fun a => a.holds q)).map (fun a => a.psn) ++ ((s.qp q).rsps.filter (fun r => !r.done)).map (fun r => r.psn)

/-- The highest PSN that may be acknowledged: below all of those, and below the expected one. -/
def State.ackable (s : State) (q : Nat) : Nat :=
  let e := (s.qp q).epsn
  psnAdd ((s.unacked q).foldl (fun p n => if psnDist p e < psnDist n e then n else p) e) 16777215

/-- Sends an ACK for what has been accepted and may be acknowledged; what may not stays unacknowledged. -/
def State.sendAck (s : State) (q : Nat) : State :=
  let x := s.qp q
  (s.qpSend q (.ack x.qpn (s.ackable q) 0 x.msn) 4 none none).updQp q (fun y =>
    { y with since := if s.ackable q = psnAdd x.epsn 16777215 then 0 else max 1 x.since })

/-- Sends a NAK with a syndrome at a PSN. -/
def State.sendNak (s : State) (q syndrome psn : Nat) : State :=
  s.qpSend q (.ack (s.qp q).qpn psn syndrome (s.qp q).msn) 4 none none

/-- RNR NAK (R239). -/
def State.sendRnr (s : State) (q psn : Nat) : State :=
  (s.sendNak q (0x20 + s.rw Obj.tpRnrTimer 0) psn).addCnt 64 Obj.tpRnrSent 0 1

/-- Accepts `n` packets at the expected PSN (R237): a coalesced ACK on AckReq or after `tp.ack_coalesce` packets. -/
def State.acceptPsn (s : State) (q n : Nat) (ackReq whole : Bool) : State :=
  let t := s.updQp q (fun x => { x with epsn := psnAdd x.epsn n, nak := false, since := x.since + n, msn := psnAdd x.msn (b2n whole), used := s.clk.ns })
  if ackReq ∨ s.rw Obj.tpAckCoalesce 0 ≤ (t.qp q).since then t.sendAck q else t

/-- Where a packet stands: 0 expected, 1 duplicate, 2 out of sequence. -/
def State.psnOrder (s : State) (q psn : Nat) : Nat :=
  let d := psnDist (s.qp q).epsn psn
  if d = 0 then 0 else if 8388608 ≤ d then 1 else 2

/-- The first out-of-sequence packet gets one NAK, later ones are dropped silently (R237). -/
def State.outOfSeq (s : State) (q : Nat) : State :=
  if (s.qp q).nak then s
  else ((s.sendNak q 0x60 (s.qp q).epsn).updQp q (fun x => { x with nak := true })).addCnt 64 Obj.tpSeqNaks 0 1

/-! ### Life cycle -/

/-- Requests of a QP in the hoop and its reads. -/
def ofQp (q : Nat) : Req → Bool
  | .nvme p _ => p = q
  | _ => false

/-- Releases the RESERVED frames of a write and forgets it (R231); a frame that another command writes as well stays. -/
def State.abandonWrite (s : State) (id : Nat) : State :=
  let f := fun (k : SKey) (sh : Bool) (t : Tbl (Option Frame)) => Tbl.mapRows none (fun col o => match o with
    | some (x : Frame) =>
      if x.owner ≠ id then some x else if s.othersWrite id k col sh then some { x with owner := 0 } else none
    | none => none) t
  { s with hoop := { s.hoop with
    stripes := Tbl.mapRows {} (fun n (x : Stripe) =>
      ({ x with frames := f (skeyOf n) false x.frames, succ := f (skeyOf n) true x.succ }).tidy) s.hoop.stripes
    writes := s.hoop.writes.filter (fun c => c.id ≠ id), queue := s.hoop.queue.filter (fun c => c ≠ id)
    fills := s.hoop.fills.filter (fun g => g.cmd ≠ id) } }

/-- Abandons writes whose requester satisfies `p`; with `late` only those not yet admitted (R122, R230). -/
def State.abandonWrites (s : State) (p : Req → Bool) (late : Bool) : State :=
  ((s.hoop.writes.filter (fun c => p c.req && (!late || c.ranges.all (fun r => r.st = 0)))).map (fun c => c.id)).foldl
    (fun t id => t.abandonWrite id) s

/-- Abandons reads of a requester. -/
def State.abandonReads (s : State) (p : Req → Bool) : State :=
  { s with hoop := { s.hoop with reads := s.hoop.reads.filter (fun c => !p c.req) } }

/-- A QP leaves ACTIVE for `st` (R229, R230): commands not admitted are discarded; `tp.drain_timeout` of now holds for it. -/
def State.leaveActive (s : State) (q : Nat) (st : QpSt) : State :=
  (s.updQp q (fun x => { x with st := st, leftAt := s.clk.ns, drainMs := s.rw Obj.tpDrainTimeout 0, held := [] })).abandonWrites (ofQp q) true

/-- A QP goes to DRAINING. -/
def State.drainQp (s : State) (q : Nat) : State := if (s.qp q).st = .active then s.leaveActive q .draining else s

/-- Marks the chain requests carried by messages of a QP as over with a status (R270, Table 7-6). -/
def State.wrStatus (s : State) (ms : List TxMsg) (st : Nat) : State :=
  ms.foldl (fun t m => match m.for_ with
    | .wr slot idx => { t with net := { t.net with chains := Tbl.upd {} t.net.chains slot (fun c =>
        { c with flight := updWhere (fun w => w.idx = idx && !w.ended) (fun w => { w with ended := true, status := st }) c.flight }) } }
    | _ => t) s

/-- A QP goes to ERROR (R229, R253): event, host error count, host fence past the limit. -/
def State.errQp (s : State) (q wr : Nat) : State :=
  let x := s.qp q
  if x.st ≠ .active then s
  else
    let h := x.host
    let now := s.clk.ns
    let times := ((Tbl.get [] s.net.errTimes h).filter (fun t => now < t + 1000000000)) ++ [now]
    let a := (s.wrStatus (x.tx ++ x.txq) wr).leaveActive q .error
    let t : State := { a with net := { a.net with errTimes := Tbl.set [] a.net.errTimes h times } }
    let u := (t.addCnt 64 Obj.hostErrors h 1).later (.detect 0x807 6 q 0)
    let limit := s.rw Obj.hostErrLimit h
    if limit ≠ 0 ∧ limit < times.length then u.later (.detect 0x808 5 h 0) else u

/-- Whether a QP has work in flight; a QP in ERROR issues nothing more, so what it never sent is none (R231). -/
def State.qpBusy (s : State) (q : Nat) : Bool :=
  s.hoop.writes.any (fun c => ofQp q c.req) || s.hoop.reads.any (fun c => ofQp q c.req)
    || s.net.accs.any (fun a => a.who = .qp q) || (s.qp q).tx ≠ [] || ((s.qp q).txq ≠ [] && (s.qp q).st ≠ .error)

/-- A CM message to a QP's host (a 256-byte MAD on QP1). -/
def State.sendCm (s : State) (x : Qp) (m : CmOut) : State :=
  s.sendFrame { port := x.port, sub := x.sub, cls := 0, len := s.frameLen x 264, data := true
                ect := s.rw Obj.ethEcnEnable x.port = 1, host := x.host, body := .cm m }

/-- The QPs of a controller. -/
def State.ctrlQps (s : State) (c : Nat) : List Nat :=
  (s.net.qps.filter (fun e => e.2.ctrl = some c)).map (fun e => e.1)

/-- A controller is deleted: its QPs drain and are of no controller any more (R247). -/
def State.dropCtrl (s : State) (c : Nat) : State :=
  let t := (s.ctrlQps c).foldl (fun u q => (u.drainQp q).updQp q (fun x => { x with ctrl := none })) s
  { t with net := { t.net with ctrls := Tbl.drop t.net.ctrls c } }

/-- Frees a QP's context: IDLE (Table 6-3). Accesses, messages and packets of it are gone, so is the reply kept for its REQ, and
the controller of an admin queue. -/
def State.freeQp (s : State) (q : Nat) : State :=
  let x := s.qp q
  let t := (match x.ctrl with
    | some c => if x.qid = 0 then s.dropCtrl c else s
    | none => s).updQp q (fun _ => {})
  let u : State := { t with net := { t.net with
    accs := t.net.accs.filter (fun a => a.who ≠ .qp q)
    answered := t.net.answered.filter (fun e => !(e.1.q.comm = x.comm && e.1.k.src = x.ip && e.1.k.port = x.port)) } }
  (u.setRw Obj.qpPin q 0).updPort x.port (fun p => { p with shapers := Tbl.drop p.shapers (shKey 0 q), spill := Tbl.drop p.spill q })

/-- Ends a QP: DREQ, or DREP where the host's DREQ began it, and IDLE. -/
def State.endQp (s : State) (q : Nat) : State :=
  let x := s.qp q
  (s.sendCm x (if x.dreq then .drep x.comm x.qpn else .dreq x.comm x.qpn)).freeQp q

/-- QP_DRAIN_COMPLETE: nothing in flight any more (Table 6-3). -/
def State.drainDone (s : State) (q : Nat) : State :=
  if ((s.qp q).st = .draining ∨ (s.qp q).st = .error) ∧ s.qpBusy q = false then s.endQp q else s

/-- DRAIN_TIMEOUT (R231). -/
def State.drainTimeout (s : State) (q : Nat) : State :=
  let x := s.qp q
  if (x.st = .draining ∨ x.st = .error) ∧ x.leftAt + x.drainMs * 1000000 ≤ s.clk.ns then
    ((((s.net.accs.filter (fun a => a.who = .qp q)).filterMap (fun a => a.cmd)).foldl (fun t id => t.abandonWrite id) s).abandonWrites
      (ofQp q) false).abandonReads (ofQp q) |>.endQp q
  else s

/-- A fence reaches a QP (Table 6-3). -/
def State.fenceQp (s : State) (q : Nat) : State :=
  if (s.qp q).st = .idle ∨ (s.qp q).st = .fenced then s else s.leaveActive q .fenced

/-- The QPs of a host that are not IDLE. -/
def State.hostQps (s : State) (h : Nat) : List Nat :=
  (s.net.qps.filter (fun e => e.2.st ≠ .idle && e.2.host = h)).map (fun e => e.1)

/-! ### Requester -/

/-- The frames of a message from its packet `i` on (R238: AckReq on the last packet and on every 16th). -/
def State.msgFrames (s : State) (q : Nat) (m : TxMsg) (i : Nat) : State :=
  let x := s.qp q
  match m.kind with
  | .read va key =>
    let done := m.got
    s.qpSend q (.req x.qpn (psnAdd m.psn (done / x.mtu)) (.read (va + done) key) (m.len - done) 0 true) 16 m.grp none
  | kind =>
    (List.range (m.n - i)).foldl (fun t j =>
      let p := i + j
      let last : Bool := p + 1 = m.n
      let len := if last then m.len - p * x.mtu else x.mtu
      let kd : TxKind := match kind with
        | .write va key imm => if p = 0 then .write va key (if last then imm else none) else .write 0 0 (if last then imm else none)
        | .send imm inv => .send (if last then imm else none) (if last then inv else none)
        | k => k
      let hdr := (match kind with | .write _ _ _ => if p = 0 then 16 else 0 | _ => 0)
        + (match kind with | .write _ _ (some _) => if last then 4 else 0 | .send none none => 0 | .send _ _ => if last then 4 else 0 | _ => 0)
      t.qpSend q (.req x.qpn (psnAdd m.psn p) kd len (bits m.data (8 * p * x.mtu) (8 * len)) (last || p % 16 = 15))
        (len + hdr) m.grp (match m.for_ with | .wr a b => if last then some (a, b) else none | _ => none)) s

/-- Issues waiting messages while PSNs, READ limit and residency allow; `n` bounds their number. -/
def State.issueTxN : Nat → Nat → State → State
  | 0, _, s => s
  | n + 1, q, s =>
    let x := s.qp q
    match x.txq with
    | [] => s
    | m :: r =>
      let isRead := match m.kind with | .read _ _ => true | _ => false
      let reads := (x.tx.filter (fun m => match m.kind with | .read _ _ => true | _ => false)).length
      if ¬ (x.st = .active ∨ x.st = .draining) ∨ x.rnrWait.isSome ∨ x.resident = false ∨ (isRead && decide (min 16 x.maxReads ≤ reads)) then s
      else
        let k := max 1 ((m.len + x.mtu - 1) / x.mtu)
        let m1 := { m with psn := x.psn, n := k }
        let t := s.updQp q (fun x => { x with
          txq := r, tx := x.tx ++ [m1], psn := psnAdd x.psn k, una := if x.tx = [] then m1.psn else x.una, used := s.clk.ns })
        State.issueTxN n q (t.msgFrames q m1 0)

/-- Issues what a QP can send; a QP without its context waits for the fetch (R235). -/
def State.issueTx (s : State) (q : Nat) : State := State.issueTxN ((s.qp q).txq.length) q s

/-- Adds messages to a QP. -/
def State.post (s : State) (q : Nat) (ms : List TxMsg) : State :=
  (s.updQp q (fun x => { x with txq := x.txq ++ ms })).issueTx q

/-- Packets up to and including `psn` are acknowledged (R238). -/
def State.ackTx (s : State) (q psn : Nat) : State :=
  let x := s.qp q
  if x.tx = [] ∨ psnDist x.una x.psn ≤ psnDist x.una psn then s
  else
    let una := psnAdd psn 1
    let keep := x.tx.filter (fun m => match m.kind with
      | .read _ _ => true
      | _ => decide (psnDist x.una psn < psnDist x.una (psnAdd m.psn (m.n - 1))))
    (s.updQp q (fun x => { x with una := una, tx := keep, retries := x.retryCnt, rnrLeft := x.rnrRetry, used := s.clk.ns })).issueTx q

/-- Sends everything from a PSN on again (R238): packets resent are counted. -/
def State.resendFrom (s : State) (q psn : Nat) : State :=
  let x := s.qp q
  let todo := x.tx.filterMap (fun m =>
    let d := psnDist x.una m.psn
    let e := psnDist x.una psn
    if d + m.n ≤ e ∧ d ≤ e then none else some (m, e - d))
  let n := (todo.map (fun e => match e.1.kind with | .read _ _ => 1 | _ => e.1.n - e.2)).foldl (· + ·) 0
  let t := (s.addCnt 64 Obj.tpRetransmits 0 n).addCnt 32 Obj.qpRetransmits q n
  todo.foldl (fun u e => u.msgFrames q e.1 e.2) t

/-- A retransmission round: it takes a retry; without one the QP goes to ERROR (R238). A QP in ERROR sends nothing. -/
def State.retryFrom (s : State) (q psn : Nat) : State :=
  let x := s.qp q
  if x.tx = [] ∨ ¬ (x.st = .active ∨ x.st = .draining) then s
  else if x.retries = 0 then (if x.st = .active then s.errQp q 5 else s)
  else (s.updQp q (fun x => { x with retries := x.retries - 1 })).resendFrom q psn

/-- An RNR NAK (R239): the wait, or ERROR after `tp.rnr_retry` of them without progress (DEDUCED: log entry 53). -/
def State.rnrRx (s : State) (q psn : Nat) : State :=
  let t := s.ackTx q (psnAdd psn 16777215)
  let x := t.qp q
  if x.tx = [] then t
  else if x.rnrRetry ≠ 7 ∧ x.rnrLeft ≤ 1 then t.errQp q 5
  else t.updQp q (fun x => { x with rnrWait := some psn, rnrLeft := x.rnrLeft - 1 })

/-- RNR_WAIT_EXPIRY (R239). -/
def State.rnrOver (s : State) (q : Nat) : State :=
  match (s.qp q).rnrWait with
  | none => s
  | some p =>
    let t := s.updQp q (fun x => { x with rnrWait := none })
    (if (t.qp q).st = .active ∨ (t.qp q).st = .draining then t.resendFrom q p else t).issueTx q

/-! ### Congestion -/

/-- A CE mark on a packet of an ACTIVE QP (R218). -/
def State.ceMark (s : State) (q : Nat) (k : Pkt) : State :=
  let x := s.qp q
  let due : Bool := match x.cnpAt with | none => true | some a => decide (a + s.rw Obj.tpCnpInterval 0 * 1000 ≤ s.clk.ns)
  if k.ce ∧ x.st = .active ∧ due then
    let t := s.rw Obj.dscpTc (x.port * 64 + s.rw Obj.tpCnpDscp 0)
    (s.sendFrame { port := x.port, sub := x.sub, cls := t, len := s.frameLen x 16, data := false, ect := false
                   qp := some q, host := x.host, body := .cnp x.qpn }).updQp q (fun x => { x with cnpAt := some s.clk.ns })
  else s

/-- A received CNP (R219); `tp.rp_enable` takes effect here (Table 6-8). -/
def State.cnpRx (s : State) (q : Nat) : State :=
  s.updQp q (fun x =>
    let y := { x with cnpA := true, cnpR := true, rp := s.rw Obj.tpRpEnable 0 = 1 }
    let due : Bool := match x.cutAt with | none => true | some a => decide (a + 50000 ≤ s.clk.ns)
    if y.rp ∧ x.st = .active ∧ due then
      { y with rt := x.rc, rc := max (x.rc - x.rc * x.alpha / 8589934592) (s.rw Obj.tpRpMinRate 0)
               alpha := x.alpha * 255 / 256 + 16777216, steps := 0, cutAt := some s.clk.ns }
    else y)

/-- ALPHA_TIMER (R219). -/
def State.alphaTimer (s : State) (q : Nat) : State :=
  s.updQp q (fun x =>
    if x.st ≠ .active ∨ x.rp = false then x
    else if x.cnpA then { x with cnpA := false } else { x with alpha := x.alpha * 255 / 256 })

/-- RP_TIMER (R219). -/
def State.rpTimer (s : State) (q : Nat) : State :=
  s.updQp q (fun x =>
    if x.st ≠ .active ∨ x.rp = false then x
    else if x.cnpR then { x with cnpR := false }
    else
      let steps := x.steps + 1
      let rt := if 5 < steps then min (x.rt + s.rw Obj.tpRpAi 0) (s.subRate x.port x.sub) else x.rt
      { x with steps := steps, rt := rt, rc := (rt + x.rc) / 2 })

/-! ### Contexts -/

/-- Resident contexts. -/
def State.residents (s : State) : Nat := (s.net.qps.filter (fun e => e.2.resident)).length

/-- The QP a packet instruction is for. -/
def pktQpn (k : Pkt) : Option Nat := if 65536 ≤ k.qpn ∧ k.qpn < 131072 then some (k.qpn - 65536) else none

/-- The eligible context idle longest (R232). `queued` says which QPs have a packet in a miss queue. -/
def State.victim (s : State) (queued : Nat → Bool) : Option Nat :=
  let ok := s.net.qps.filter (fun e => e.2.resident && e.2.st = .active && e.2.tx = [] && e.2.rnrWait.isNone
    && !queued e.1 && s.rw Obj.qpPin e.1 = 0)
  (sortBy (fun a b => a.2.used ≤ b.2.used) ok).head?.map (fun e => e.1)

/-- Makes room for a context, one that is on its way counted: none when nothing is eligible (R232, R235). -/
def State.makeRoom (s : State) (queued : Nat → Bool) : Option State :=
  if (s.net.qps.filter (fun e => e.2.resident || e.2.fetching)).length < 4096 then some s
  else (s.victim queued).map (fun v => s.updQp v (fun x => { x with resident := false }))

/-! ### Connection admission -/

/-- An address as 128 bits (IPv4 as ::ffff:a.b.c.d). -/
def ip128 (v6 : Bool) (a : Nat) : Nat := if v6 then a else 0xFFFF * 4294967296 + a % 4294967296

/-- The enabled entry of the receiving sub-port that a packet's destination and VLAN name (R213). -/
def State.gidOf (s : State) (k : Pkt) : Option Nat :=
  ((List.range 16).map (fun i => k.port * 64 + k.sub * 16 + i)).find? (fun g =>
    let a := s.rw Obj.gidAddrHi g * 2 ^ 64 + s.rw Obj.gidAddrLo g
    s.rw Obj.gidType g = (if k.v6 then 2 else 1) && (if k.v6 then a = k.dst else a % 2 ^ 32 = k.dst)
      && s.rw Obj.gidVlan g = k.vlan)

/-- The enabled, unfenced hosts whose prefix holds an address (R226). -/
def State.hostsOf (s : State) (a : Nat) : List Nat :=
  ((s.effRows Obj.hostEnable).filter (fun e => e.2 = 1)).map (fun e => e.1) |>.filter (fun h =>
    let n := 128 - s.rw Obj.hostSrcPrefix h
    let b := s.rw Obj.hostSrcHi h * 2 ^ 64 + s.rw Obj.hostSrcLo h
    a / 2 ^ n = b / 2 ^ n && !s.blocked 5 h)

/-- The lowest free QP row. -/
def State.freeQpRow (s : State) : Option Nat :=
  (List.range (min 65536 (s.net.qps.length + 1))).find? (fun q => (s.qp q).st = .idle)

/-- The checks of R226: the status of the first that fails, else the host. -/
def State.reqCheck (s : State) (k : Pkt) (r : CmReq) : Except Nat Nat :=
  match s.hostsOf (ip128 k.v6 k.src) with
  | [h] =>
    let qd := if r.qid = 0 then 32 else s.rw Obj.hostMaxQd h
    if s.gidOf k = none then .error 0
    else if r.fmt ≠ 0 then .error 1
    else if 128 < r.qid then .error 2
    else if r.resources < 1 then .error 3
    else if 16 < r.depth then .error 4
    else if qd < r.hrq then .error 5
    else if qd < r.hsq ∨ r.hrq < r.hsq + 1 then .error 6
    else if r.mtu < 1024 then .error 0
    else if s.rw Obj.hostMaxQps h ≤ (s.hostQps h).length ∨ s.freeQpRow = none then .error 0
    else .ok h
  | _ => .error 0

/-- The path MTU of R227. -/
def State.pathMtu (s : State) (n mtu : Nat) : Nat :=
  ([4096, 2048, 1024].find? (fun m => m ≤ mtu && m + 128 ≤ s.rw Obj.ethMtu n)).getD 1024

/-- A REQ admitted: its reply is kept for duplicates (R228). -/
def State.answerReq (s : State) (w : ReqWait) (x : Qp) (m : CmOut) : State :=
  ({ s with net := { s.net with answered := s.net.answered ++ [(w, m)] } }).sendCm x m

/-- A REQ refused (R226). -/
def State.rejectReq (s : State) (x : Qp) (st : Nat) : State :=
  (s.sendCm x (.rej x.comm 28 st)).addCnt 64 Obj.tpAdmitRejects 0 1

/-- CM_REQ (R228): an admitted or queued duplicate gets its reply, a full queue drops. -/
def State.cmReq (s : State) (k : Pkt) (r : CmReq) : State :=
  let same := fun (w : ReqWait) => w.q.comm = r.comm && w.k.src = k.src && w.k.port = k.port
  let x : Qp := { port := k.port, sub := k.sub, mac := k.smac, ip := k.src, vlan := k.vlan, gid := (s.gidOf k).getD 0 }
  if s.net.reqs.any same then s
  else
    match s.net.answered.find? (fun e => same e.1) with
    | some (_, m) => s.sendCm x m
    | none =>
      if 1024 ≤ s.net.reqs.length then s.addCnt 64 Obj.tpAdmitDrops 0 1
      else { s with net := { s.net with reqs := s.net.reqs ++ [⟨k, r⟩] } }

/-- CM_REQ_ADMIT (R226, R227): Thimble takes the oldest REQ, at most 50,000 a second. -/
def State.cmAdmit (s : State) : State :=
  let recent := s.net.admits.filter (fun t => s.clk.ns < t + 1000000000)
  match s.net.reqs with
  | [] => s
  | w :: rest =>
    if 50000 ≤ recent.length then s
    else
      let k := w.k
      let r : State := { s with net := { s.net with reqs := rest } }
      let t : State := { r with net := { r.net with admits := recent ++ [s.clk.ns] } }
      let base : Qp := { port := k.port, sub := k.sub, mac := k.smac, ip := k.src, vlan := k.vlan, gid := (s.gidOf k).getD 0
                         comm := w.q.comm, qpn := w.q.qpn, dscp := w.q.dscp, mtu := 1024 }
      match s.reqCheck k w.q, s.freeQpRow with
      | .ok h, some row =>
        let d := if s.rw Obj.dscpTc (k.port * 64 + w.q.dscp) = 7 then 0 else w.q.dscp
        let p := t.fresh % 16777216
        let u := t.used
        let rate := s.subRate k.port k.sub
        let x : Qp := { base with
          st := .connecting, host := h, mtu := s.pathMtu k.port w.q.mtu, dscp := d, psn := p, una := p, epsn := w.q.psn
          ackTimeout := s.rw Obj.tpAckTimeout 0, retryCnt := s.rw Obj.tpRetryCnt 0, rnrRetry := s.rw Obj.tpRnrRetry 0
          retries := s.rw Obj.tpRetryCnt 0, rnrLeft := s.rw Obj.tpRnrRetry 0, maxReads := w.q.resources
          rc := rate, rt := rate, used := s.clk.ns, qid := w.q.qid, depth := w.q.hsq + 1, leftAt := s.clk.ns
          rp := s.rw Obj.tpRpEnable 0 = 1 }
        let v := match u.makeRoom (fun _ => false) with
          | some y => y.updQp row (fun _ => { x with resident := true })
          | none => u.updQp row (fun _ => x)
        (v.fenServe 6 row).answerReq w x (.rep w.q.comm (65536 + row) p 16 x.mtu x.ackTimeout x.retryCnt x.rnrRetry)
      | .error st, _ => r.rejectReq base st
      | _, none => r.rejectReq base 0

/-- An RTU, or a first valid packet (Table 6-3). -/
def State.toActive (s : State) (q : Nat) : State :=
  if (s.qp q).st = .connecting then
    s.updQp q (fun x => { x with st := .active })
  else s

end Sys2Proof.Machine
end

