-- ==== Sys2Proof/Machine/Nvme.lean ====
section
/-!
DEFINITION. Machine/Nvme.lean: NVMe over Fabrics: controllers, admin commands, block commands and their data (R241 to R251),
asynchronous events and owner notices (R250, R269).
-/

namespace Sys2Proof.Machine

/-! ### Visibility and ANA state -/

/-- Whether a namespace is attached to a host (R251). -/
def State.attached (s : State) (h ns : Nat) : Bool :=
  (s.effRows Obj.attHost).any (fun e => e.2 = h && s.rw Obj.attNs e.1 = ns)

/-- The hosts a namespace is attached to. -/
def State.nsHosts (s : State) (ns : Nat) : List Nat :=
  ((s.effRows Obj.attHost).filter (fun e => e.2 ≠ 0xFFFF && s.rw Obj.attNs e.1 = ns)).map (fun e => e.2)

/-- Whether a namespace exists. -/
def State.nsThere (s : State) (ns : Nat) : Bool := ns < 4096 && decide ((s.nsp ns).bolts ≠ 0)

/-- Whether this device owns a namespace (R470: owner side). -/
def State.owns (s : State) (ns : Nat) : Bool := (s.nsp ns).owner = s.skn.side

/-- Whether a geometry that a namespace uses failed to load (R85): its row is listed without tables. -/
def State.geoLost (s : State) (ns : Nat) : Bool :=
  let x := s.nsp ns
  (List.range x.bolts).any (fun i =>
    let b := s.bolt (x.mapBase + i)
    (b.st = .mapped || b.st = .migrating) && (s.geo b.geo).st = 2 && (s.geo b.geo).pat = [])

/-- The ANA state this device reports of a namespace (Table 6-5). -/
def State.anaOf (s : State) (ns : Nat) : Nat :=
  if s.inS7 = false ∨ s.actAt Obj.bootDepart 0 % 256 = 1 ∨ s.sk.left ∨ s.sk.tko.st = 4 then 3
  else if (s.nsp ns).ana = 0xF then 0xF
  else if s.owns ns = false then 3
  else if s.geoLost ns then 4
  else if s.hoop.soughtNs.contains ns then 3
  else 1

/-! ### Controllers -/

/-- A controller. -/
def State.ctrl (s : State) (c : Nat) : Option Ctrl := Tbl.get none s.net.ctrls c

/-- Changes a controller. -/
def State.updCtrl (s : State) (c : Nat) (f : Ctrl → Ctrl) : State :=
  { s with net := { s.net with ctrls := Tbl.upd none s.net.ctrls c (fun o => o.map f) } }

/-- The controllers of a host. -/
def State.hostCtrls (s : State) (h : Nat) : List Nat :=
  (s.net.ctrls.filter (fun e => match e.2 with | some c => c.host = h | none => false)).map (fun e => e.1)

/-- The lowest free controller ID of this side (R241). -/
def State.freeCtrl (s : State) : Nat :=
  let base := if s.skn.side = 0 then 1 else 0x8000
  ((List.range (s.net.ctrls.length + 1)).map (fun i => base + i)).find? (fun c => (s.ctrl c).isNone) |>.getD base

/-- Sends a response capsule (R246): DW0 and DW1, SQ head, SQ ID, command ID, status; with remote invalidation where the
host asked for it. -/
def State.sendCpl (s : State) (q cid dw status : Nat) (inv : Option Nat) : State :=
  let x := s.qp q
  let data := dw % 2 ^ 64 + (x.sqhd % 65536) * 2 ^ 64 + (x.qid % 65536) * 2 ^ 80 + (cid % 65536) * 2 ^ 96 + (status * 2 % 65536) * 2 ^ 112
  s.post q [{ kind := .send none inv, len := 16, data := data, for_ := .plain }]

/-- The key to invalidate of a data pointer. -/
def sglInv (g : Sgl) : Option Nat := if g.inval then some g.key else none

/-- Sends data to a host address and then the response (R246). -/
def State.sendData (s : State) (q cid : Nat) (g : Sgl) (len data status : Nat) : State :=
  let m : TxMsg := { kind := .write g.va g.key none, len := len, data := data, for_ := .plain }
  (if len = 0 then s else s.post q [m]).sendCpl q cid 0 status (sglInv g)

/-- Completes waiting events on outstanding Asynchronous Event Requests; `n` bounds their number. -/
def State.pumpAev : Nat → Nat → State → State
  | 0, _, s => s
  | n + 1, c, s =>
    match s.ctrl c with
    | none => s
    | some x =>
      match x.aers, x.events with
      | cid :: cs, e :: es =>
        State.pumpAev n c ((s.updCtrl c (fun x => { x with aers := cs, events := es })).sendCpl x.admin cid
          (e.ty + e.info * 256 + e.page * 65536) 0 none)
      | _, _ => s

/-- Raises an asynchronous event on a controller. -/
def State.addAev (s : State) (c : Nat) (e : Aev) : State :=
  State.pumpAev 4 c (s.updCtrl c (fun x => { x with events := if x.events.contains e then x.events else x.events ++ [e] }))

/-- A namespace's ANA state changed on this device (R250). -/
def State.anaChanged (s : State) (ns : Nat) : State :=
  let t : State := { s with net := { s.net with anaCount := s.net.anaCount + 1 } }
  ((s.nsHosts ns).flatMap s.hostCtrls).foldl (fun u c => match u.ctrl c with
    | some x => if bit x.aecfg 11 then u.addAev c ⟨2, 3, 0x0C⟩ else u
    | none => u) t

/-- Namespace Attribute Notice to the controllers of a host (R251). -/
def State.nsNotice (s : State) (h ns : Nat) : State :=
  (s.hostCtrls h).foldl (fun u c =>
    let v := u.updCtrl c (fun x => { x with changed := (x.changed.filter (fun n => n ≠ ns + 1)) ++ [ns + 1] })
    match v.ctrl c with
    | some x => if bit x.aecfg 8 then v.addAev c ⟨2, 0, 4⟩ else v
    | none => v) s

/-- An owner notice (R269): on every controller of the host with an Asynchronous Event Request outstanding, once until
log page 0x01 is read. -/
def State.ownerNotice (s : State) (h code eye detail : Nat) : State :=
  let cs := (s.hostCtrls h).filter (fun c => match s.ctrl c with | some x => decide (x.aers ≠ []) | none => false)
  if cs = [] ∨ s.net.notices.contains (h, code, eye) then s
  else
    let t : State := { s with net := { s.net with notices := s.net.notices ++ [(h, code, eye)] } }
    cs.foldl (fun u c => (u.updCtrl c (fun x => { x with errs := (0xFFFF, detail) :: x.errs })).addAev c ⟨7, code, 1⟩) t

/-- KEEPALIVE_EXPIRY (R247). -/
def State.kaExpired (s : State) (c : Nat) : State :=
  match s.ctrl c with
  | none => s
  | some x => if x.kaAt + x.kato * 1000000000 ≤ s.clk.ns then s.dropCtrl c else s

/-- A command on a queue (R247: with traffic-based keep-alive it counts), the submission queue head moved on. -/
def State.cmdSeen (s : State) (q : Nat) : State :=
  let x := s.qp q
  let t := s.updQp q (fun x => { x with sqhd := (x.sqhd + 1) % max 1 x.depth })
  match x.ctrl with
  | some c => t.updCtrl c (fun x => if x.tbkas then { x with kaAt := s.clk.ns } else x)
  | none => t

/-- Status codes (type × 256 + code). -/
def scOpcode : Nat := 0x001
def scField : Nat := 0x002
def scSequence : Nat := 0x00C
def scInternal : Nat := 0x006

/-- `n` lower-case hexadecimal digits. -/
def hexDigits (n a : Nat) : Bytes :=
  (List.range n).map (fun i => let d := a / 16 ^ (n - 1 - i) % 16; if d < 10 then 0x30 + d else 0x57 + d)

/-- The subsystem NQN of an array (R241). -/
def nqnOf (a : Nat) : Bytes := ascii "nqn.2031-05.net.caerom:kv4896:" ++ hexDigits 16 a

/-- The NQN of the subsystem (R241). -/
def State.subsysNqn (s : State) : Nat := encStr (nqnOf (s.place.array.getD 0))

/-- The well-known discovery NQN (R476). -/
def discNqn : Nat := encStr (ascii "nqn.2014-08.org.nvmexpress.discovery")

/-- CONNECT (R247, R248). -/
def State.connect (s : State) (q cid qid kato cntlid : Nat) (tbkas : Bool) (nqn subnqn hostId : Nat) : State :=
  let x := s.qp q
  if x.ctrl.isSome then s.sendCpl q cid 0 scSequence none
  else if qid ≠ x.qid ∨ (subnqn ≠ s.subsysNqn ∧ subnqn ≠ discNqn) then s.sendCpl q cid 0 0x182 none
  else if qid = 0 then
    if nqn ≠ s.rw Obj.hostNqn x.host then (s.sendCpl q cid 0 0x184 none).drainQp q
    else if cntlid ≠ 0xFFFF then s.sendCpl q cid 0 0x182 none
    else if kato = 0 ∨ 3600000 < kato then s.sendCpl q cid 0 scField none
    else
      let c := s.freeCtrl
      let y : Ctrl := { host := x.host, admin := q, kato := (kato + 999) / 1000, tbkas := tbkas, kaAt := s.clk.ns, hostId := hostId
                        disc := subnqn = discNqn }
      let t : State := { s with net := { s.net with ctrls := Tbl.set none s.net.ctrls c (some y) } }
      (t.updQp q (fun x => { x with ctrl := some c })).sendCpl q cid c 0 none
  else
    match s.ctrl cntlid with
    | some y =>
      if y.host ≠ x.host ∨ y.disc ∨ subnqn = discNqn then s.sendCpl q cid 0 0x182 none
      else (s.updQp q (fun x => { x with ctrl := some cntlid })).sendCpl q cid cntlid 0 none
    | none => s.sendCpl q cid 0 0x182 none

/-- PROPERTY_GET: CAP, VS, CC and CSTS. -/
def State.propGet (s : State) (q cid off : Nat) (x : Ctrl) : State :=
  match off with
  | 0x00 => s.sendCpl q cid Config.nvmeCap 0 none
  | 0x08 => s.sendCpl q cid Config.nvmeVs 0 none
  | 0x14 => s.sendCpl q cid x.cc 0 none
  | 0x1C => s.sendCpl q cid x.csts 0 none
  | _ => s.sendCpl q cid 0 scField none

/-- PROPERTY_SET: CC (enable sets CSTS.RDY; a shutdown sets CSTS.SHST to complete; disable drains the I/O queues). -/
def State.propSet (s : State) (q cid off value c : Nat) : State :=
  if off ≠ 0x14 then s.sendCpl q cid 0 scField none
  else
    let en := value % 2
    let shn := value / 16384 % 4
    let t := s.updCtrl c (fun x => { x with cc := value, csts := en + (if shn = 0 then 0 else 8) })
    let u := if en = 0 then (s.ctrlQps c).foldl (fun v p => if (v.qp p).qid = 0 then v else v.drainQp p) t else t
    u.sendCpl q cid 0 0 none

/-- Bytes with parts overlaid at offsets. -/
def overlay (b : Bytes) (parts : List (Nat × Bytes)) : Bytes :=
  parts.foldl (fun l p => l.take p.1 ++ p.2 ++ l.drop (p.1 + p.2.length)) b

/-- The namespaces attached to a host, in order. -/
def State.hostNss (s : State) (h : Nat) : List Nat := (List.range 4096).filter (fun n => s.nsThere n && s.attached h n)

/-- NGUID of a namespace: the array identifier and the row (R241). -/
def State.nguid (s : State) (ns : Nat) : Bytes := beBytes 8 (s.place.array.getD 0) ++ beBytes 8 ns

/-- Identify data (R244). -/
def State.identData (s : State) (h c cns ns : Nat) : Option Bytes :=
  let base := (List.range 4096).map (fun i => Config.identByte cns i % 256)
  let lba := s.rw Obj.nsLbaSize ns
  let cap := (s.nsp ns).bolts * 2 ^ 30 / max 1 lba
  match cns with
  | 0 =>
    if s.nsThere ns && s.attached h ns then
      some (overlay base [(0, leBytes 8 cap), (8, leBytes 8 cap), (26, [if s.hostPi ns = 0 then 0 else 16]), (33, [1])
        , (92, leBytes 4 (ns + 1)), (104, s.nguid ns)
        , (128, leBytes 2 (s.hostPi ns) ++ [if lba = 512 then 9 else 12])])
    else none
  | 1 =>
    some (overlay base [(4, (Config.serial ++ List.replicate 20 0x20).take 20), (77, [11]), (78, leBytes 2 c), (259, [3])
      , (342, [10, 0x1D]), (344, leBytes 4 4096), (348, leBytes 4 4096), (516, leBytes 4 4096), (520, leBytes 2 8), (525, [0])
      , (768, (decStr s.subsysNqn ++ zeros 256).take 256), (1792, leBytes 4 516), (1796, leBytes 4 1)])
  | 2 => some (((((s.hostNss h).filter (fun n => ns ≤ n)).take 1024).flatMap (fun n => leBytes 4 (n + 1)) ++ zeros 4096).take 4096)
  | 3 => if s.nsThere ns && s.attached h ns then some (([2, 16, 0, 0] ++ s.nguid ns ++ zeros 4096).take 4096) else none
  | 6 => some base
  | _ => none

/-- IDENTIFY (R243, R244); `nsid` 0 in list form starts the list. -/
def State.identify (s : State) (q cid c cns nsid : Nat) (g : Sgl) : State :=
  if cns ∉ [0, 1, 2, 3, 6] then s.sendCpl q cid 0 scField (sglInv g)
  else
    match s.identData (s.qp q).host c cns (if cns = 2 then nsid else nsid - 1) with
    | some b => s.sendData q cid g (min g.len 4096) (leNat (b.take g.len)) 0
    | none => s.sendCpl q cid 0 0x00B (sglInv g)

/-- The ANA log page (R250). -/
def State.anaLog (s : State) (h : Nat) : Bytes :=
  let l := s.hostNss h
  leBytes 8 s.net.anaCount ++ leBytes 2 l.length ++ zeros 6
    ++ l.flatMap (fun n => leBytes 4 (n + 1) ++ leBytes 4 1 ++ leBytes 8 s.net.anaCount ++ [s.anaOf n] ++ zeros 15 ++ leBytes 4 (n + 1))

/-- An Error Information entry: SQID 0xFFFF and the event detail in Command Specific Information (R269). -/
def errEntry (i : Nat) (e : Nat × Nat) : Bytes :=
  leBytes 8 (i + 1) ++ leBytes 2 e.1 ++ zeros 14 ++ leBytes 4 0xFFFFFFFF ++ zeros 4 ++ leBytes 8 e.2 ++ zeros 24

/-- Decimal digits of a number below 1,000. -/
def decDigits (a : Nat) : Bytes :=
  if a < 10 then [0x30 + a] else if a < 100 then [0x30 + a / 10, 0x30 + a % 10]
  else [0x30 + a / 100 % 10, 0x30 + a / 10 % 10, 0x30 + a % 10]

/-- An address as text: dotted decimal, or eight groups of hexadecimal digits. -/
def addrText (v6 : Bool) (a : Nat) : Bytes :=
  if v6 then ((List.range 8).map (fun i => (if i = 0 then [] else [0x3A]) ++ hexDigits 4 (a / 2 ^ (16 * (7 - i)) % 65536))).flatten
  else ((List.range 4).map (fun i => (if i = 0 then [] else [0x2E]) ++ decDigits (a / 256 ^ (3 - i) % 256))).flatten

/-- Bytes filled up to a width. -/
def padTo (n c : Nat) (b : Bytes) : Bytes := (b ++ List.replicate n c).take n

/-- A Discovery Log Page entry (R476). -/
def discEntry (row : Nat) (array : Nat) (e : Bool × Nat × Nat) : Bytes :=
  padTo 1024 0 (overlay (zeros 1024) [(0, [1, if e.1 then 2 else 1, 2, 2] ++ leBytes 2 (row * 256 + e.2.2) ++ leBytes 2 0xFFFF ++ leBytes 2 32)
    , (32, padTo 32 0x20 (ascii "4420")), (256, padTo 256 0 (nqnOf array)), (512, padTo 256 0x20 (addrText e.1 e.2.1))
    , (768, [1, 1, 2])])

/-- This device's own enabled `gid` rows: IPv6, address, 4n + s. -/
def State.ownGids (s : State) : List (Bool × Nat × Nat) :=
  (s.effRows Obj.gidType).filterMap (fun g =>
    if g.2 = 0 then none
    else some (g.2 = 2, s.rw Obj.gidAddrHi g.1 * 2 ^ 64 + s.rw Obj.gidAddrLo g.1, g.1 / 64 * 4 + g.1 / 16 % 4))

/-- The first 8 bytes of the SHA-256 of a STR value, as a number (R475). -/
def strDigest (v : Nat) : Nat := leNat ((sha256 (decStr v)).take 8)

/-- The entries a host sees (R476): for each shelf not lost whose digests include its NQN, one per enabled `gid` row of each
device of the shelf. -/
def State.discEntries (s : State) (h : Nat) : List Bytes :=
  let d := strDigest (s.rw Obj.hostNqn h)
  s.sk.dir.shelves.flatMap (fun e =>
    if e.2.state = 1 ∨ e.2.state = 2 then
      if e.2.digests.contains d then
        ((List.range 32).filter (fun r => s.rw Obj.srowEnable r = 1 && s.rw Obj.srowShelf r = e.1)).flatMap (fun r =>
          (if s.skn.row = some r then s.ownGids else Config.peerGids r).map (discEntry r e.2.array))
      else []
    else [])

/-- The Discovery Log Page (R476). -/
def State.discLog (s : State) (h : Nat) : Bytes :=
  let l := s.discEntries h
  padTo 1024 0 (leBytes 8 s.sk.dir.version ++ leBytes 8 l.length) ++ l.flatten

/-- A directory change that alters a host's log notifies its discovery controllers that have enabled it (R476). -/
def State.discNotice (s old : State) : State :=
  s.net.ctrls.foldl (fun t e => match e.2 with
    | some x => if x.disc && bit x.aecfg 31 && old.discEntries x.host ≠ s.discEntries x.host then t.addAev e.1 ⟨2, 0xF0, 0x70⟩ else t
    | none => t) s

/-- GET_LOG_PAGE (R243). -/
def State.getLog (s : State) (q cid c lid off : Nat) (rae : Bool) (g : Sgl) : State :=
  let h := (s.qp q).host
  match s.ctrl c with
  | none => s
  | some x =>
    let send := fun (t : State) (b : Bytes) =>
      t.sendData q cid g g.len (leNat (((b.drop off) ++ zeros g.len).take g.len)) 0
    match lid with
    | 1 =>
      let n := x.errs.length
      let b := (x.errs.zipIdx.map (fun e => errEntry (n - 1 - e.2) e.1)).flatten
      let t : State := { s with net := { s.net with notices := s.net.notices.filter (fun e => e.1 ≠ h) } }
      send t b
    | 2 => send s ((List.range 512).map (fun i => Config.logByte lid i % 256))
    | 4 =>
      let b := (x.changed.take 1024).flatMap (fun n => leBytes 4 n)
      send (if rae then s else s.updCtrl c (fun x => { x with changed := [] })) b
    | 0xC => send s (s.anaLog h)
    | 0x70 => if x.disc then send s (s.discLog h) else s.sendCpl q cid 0 0x109 (sglInv g)
    | _ => s.sendCpl q cid 0 0x109 (sglInv g)

/-- SET_FEATURES (R243, R247). -/
def State.setFeature (s : State) (q cid c fid value : Nat) : State :=
  match fid with
  | 0x07 => s.sendCpl q cid (min (value % 65536) 127 + min (value / 65536) 127 * 65536) 0 none
  | 0x0B => (s.updCtrl c (fun x => { x with aecfg := value })).sendCpl q cid 0 0 none
  | 0x0F =>
    if value = 0 ∨ 3600000 < value then s.sendCpl q cid 0 scField none
    else (s.updCtrl c (fun x => { x with kato := (value + 999) / 1000, kaAt := s.clk.ns })).sendCpl q cid 0 0 none
  | 0x81 => (s.updCtrl c (fun x => { x with hostId := value })).sendCpl q cid 0 0 none
  | _ => s.sendCpl q cid 0 scField none

/-- GET_FEATURES (R243). -/
def State.getFeature (s : State) (q cid c fid : Nat) : State :=
  match s.ctrl c with
  | none => s
  | some x =>
    match fid with
    | 0x07 => s.sendCpl q cid (127 + 127 * 65536) 0 none
    | 0x0B => s.sendCpl q cid x.aecfg 0 none
    | 0x0F => s.sendCpl q cid (x.kato * 1000) 0 none
    | 0x81 => s.sendCpl q cid x.hostId 0 none
    | _ => s.sendCpl q cid 0 scField none

/-- ASYNCHRONOUS_EVENT_REQUEST: at most four outstanding (R243). -/
def State.aer (s : State) (q cid c : Nat) : State :=
  match s.ctrl c with
  | none => s
  | some x =>
    if 4 ≤ x.aers.length then s.sendCpl q cid 0 0x105 none
    else State.pumpAev 1 c (s.updCtrl c (fun x => { x with aers := x.aers ++ [cid] }))

/-! ### Block commands -/

/-- Blocks of a namespace. -/
def State.nsBlocks (s : State) (ns : Nat) : Nat := (s.nsp ns).bolts * 2 ^ 30 / max 1 (s.rw Obj.nsLbaSize ns)

/-- The status that stops a block command before it starts: none, fence, ANA state, namespace, range, size (R250, R251). -/
def State.blockCheck (s : State) (h nsid slba nlb : Nat) (pract : Bool) : Nat :=
  let ns := nsid - 1
  if nsid = 0 ∨ s.nsThere ns = false ∨ s.attached h ns = false then 0x00B
  else if s.blocked 4 ns then 0x082
  else if s.anaOf ns = 3 then 0x302
  else if s.anaOf ns = 0xF then 0x303
  else if s.anaOf ns = 4 then 0x301
  else if s.nsBlocks ns < slba + nlb then 0x080
  else if 8388608 < nlb * s.rw Obj.nsLbaSize ns then scField
  else if pract ∧ s.hostPi ns ≠ 0 then scField
  else 0

/-- Bytes on the wire of a part of a command: data with the host's PI after each block (R245). -/
def State.wireLen (s : State) (ns bytes : Nat) : Nat := bytes + bytes / 4096 * s.hostPi ns

/-- NVME_READ. -/
def State.nvmeRead (s : State) (q : Nat) (c : NCmd) : State :=
  let lba := s.rw Obj.nsLbaSize c.ns
  (s.updQp q (fun x => { x with cmds := x.cmds ++ [c] })).startRead (.nvme q c.cid) c.ns (c.slba * lba) (c.nlb * lba)

/-- NVME_WRITE and WRITE_ZEROES: admitted per stitch; the data is fetched as frames are reserved (R122, R246). -/
def State.nvmeWrite (s : State) (q : Nat) (c : NCmd) : State :=
  let lba := s.rw Obj.nsLbaSize c.ns
  (s.updQp q (fun x => { x with cmds := x.cmds ++ [c] })).admitWrite (.nvme q c.cid) c.ns (c.slba * lba) (c.nlb * lba)

/-- Checks the protection fields of one block against a command (V1, V6): 0 good, else the cause of R197. -/
def prCheck (fmt : Nat) (pr : PrInfo) (i : Nat) (guard : Option Nat) (pi : Bytes) : Nat :=
  let f := piFields fmt pi
  if piEscape fmt f.2.1 f.2.2 then 0
  else if bit pr.prchk 2 && (match guard with | some g => decide (g ≠ f.1) | none => false) then 1
  else if bit pr.prchk 0 && (fmt = 1 || fmt = 4) && decide (f.2.2 ≠ (pr.ref + i) % 2 ^ (if fmt = 1 then 32 else 48)) then 2
  else if bit pr.prchk 1 && decide (f.2.1 &&& pr.mask ≠ pr.app &&& pr.mask) then 3
  else 0

/-- Host status of a cause at V1 or V6 (Table 5-6). -/
def prStatus (cause : Nat) : Nat := if cause = 1 then 0x282 else if cause = 2 then 0x284 else if cause = 3 then 0x283 else 0

/-- The pieces of a range: block row, first byte and bytes in the block, first byte in the range. -/
def Range.pieces (r : Range) : List (Nat × Nat × Nat × Nat) :=
  let a := r.at_ / 4096
  let b := (r.at_ + r.len + 4095) / 4096
  (List.range (b - a)).map (fun i =>
    let lo := if i = 0 then r.at_ % 4096 else 0
    let start := (a + i) * 4096 + lo
    let stop := min ((a + i + 1) * 4096) (r.at_ + r.len)
    (a + i, lo, stop - start, start - r.at_))

/-- Blocks of a range that the device stores with PI of its own making (insert mode, eyelets, zeroes). -/
def State.ownBlks (s : State) (ns : Nat) (r : Range) (data : Nat) : List WBlk :=
  r.pieces.map (fun p =>
    let d := bits data (8 * p.2.2.2) (8 * p.2.2.1)
    ⟨p.1, p.2.1, p.2.2.1, d, if p.2.2.1 = 4096 then s.ownPi ns (s.blkNo r.key r.col p.1) d else 0⟩)

/-- Blocks of a range of host data in pass mode with the cause of a V1 failure (R195). -/
def State.hostBlks (s : State) (ns : Nat) (r : Range) (pr : PrInfo) (data : Nat) : List (WBlk × Nat) :=
  let fmt := s.fmtOf ns
  let n := s.hostPi ns
  r.pieces.zipIdx.map (fun e =>
    let p := e.1
    let at_ := p.2.2.2 + p.2.2.2 / 4096 * n
    let d := bits data (8 * at_) (8 * p.2.2.1)
    let pi := leBytes n (bits data (8 * (at_ + p.2.2.1)) (8 * n))
    let cause := prCheck fmt pr (r.off / 4096 + e.2) (some (guardOf fmt (leBytes 4096 d))) pi
    (⟨p.1, p.2.1, p.2.2.1, d, storedMeta fmt ns (s.blkNo r.key r.col p.1) d pi⟩, cause))

/-- Host data of a range is here: V1, then into its frame (R123, R195). -/
def State.deliver (s : State) (q : Nat) (c : NCmd) (cmd idx data : Nat) : State :=
  match (s.findWrite cmd).bind (fun w => w.ranges[idx]?) with
  | none => s
  | some r =>
    if c.op = 8 ∧ s.hostPi c.ns ≠ 0 then
      s.rangeData cmd idx (r.pieces.map (fun p => ⟨p.1, p.2.1, p.2.2.1, 0
        , (zeroBlk (s.fmtOf c.ns) c.ns (s.blkNo r.key r.col p.1)).pi⟩)) 0
    else if s.hostPi c.ns = 0 then s.rangeData cmd idx (s.ownBlks c.ns r (if c.op = 8 then 0 else data)) 0
    else
      let bs := s.hostBlks c.ns r c.pr data
      let bad := bs.filter (fun b => b.2 ≠ 0)
      let t := bad.foldl (fun u b => (u.addCnt 64 Obj.piIngressErrors 0 1).later (.detect 0x601 6 q (piDetail c.ns (s.blkNo r.key r.col b.1.row) 1 b.2 false false))) s
      t.rangeData cmd idx ((bs.filter (fun b => b.2 = 0)).map (fun b => b.1)) (prStatus ((bad.map (fun b => b.2)).headD 0))

/-- Frames of a range of an NVMe write are reserved: its data is in the capsule or is fetched by RDMA READ (R246). -/
def State.nvmeFetch (s : State) (q cid cmd idx : Nat) : State :=
  match (s.qp q).cmds.find? (fun c => c.cid = cid), (s.findWrite cmd).bind (fun w => w.ranges[idx]?) with
  | some c, some r =>
    let off := s.wireLen c.ns r.off
    if c.op = 8 then s.deliver q c cmd idx 0
    else if c.sgl.inCapsule then s.deliver q c cmd idx (bits c.sgl.data (8 * off) (8 * s.wireLen c.ns r.len))
    else
      s.post q [{ kind := .read (c.sgl.va + off) c.sgl.key, len := s.wireLen c.ns r.len, data := 0, for_ := .fetch cmd idx }]
  | _, _ => s

/-- The QP and command identifier of a write's requester. -/
def Req.nvmeOf : Req → Option (Nat × Nat)
  | .nvme q cid => some (q, cid)
  | _ => none

/-- The command of a queue that a write serves. -/
def State.cmdOf (s : State) (q cmd : Nat) : Option NCmd :=
  match (s.findWrite cmd).bind (fun w => w.req.nvmeOf) with
  | some (p, cid) => if p = q then (s.qp q).cmds.find? (fun c => c.cid = cid) else none
  | none => none

/-- Delivers fetched data to the command it serves. -/
def State.deliverTo (s : State) (q cmd idx data : Nat) : State :=
  match s.cmdOf q cmd with
  | some c => s.deliver q c cmd idx data
  | none => s

/-- RDMA_READ_RESPONSE: data of the oldest READ outstanding, in order; it acknowledges what was sent before that READ; when whole
it is delivered (R246). -/
def State.readResp (s : State) (q psn len data : Nat) : State :=
  let x := s.qp q
  match x.tx.find? (fun m => match m.kind with | .read _ _ => true | _ => false) with
  | none => s
  | some m =>
    if psn ≠ psnAdd m.psn (m.got / x.mtu) then s
    else
      let m1 := { m with got := m.got + len, data := m.data + (data % 2 ^ (8 * len)) * 2 ^ (8 * m.got) }
      let t := (s.ackTx q (psnAdd m.psn 16777215)).updQp q (fun x => { x with
        tx := if m.len ≤ m1.got then x.tx.filter (fun y => y ≠ m) else x.tx.map (fun y => if y = m then m1 else y)
        una := if psnDist x.una psn < psnDist x.una x.psn then psnAdd psn 1 else x.una
        retries := x.retryCnt, rnrLeft := x.rnrRetry, used := s.clk.ns })
      if m.len ≤ m1.got then
        let u := match m.for_ with
          | .fetch cmd idx => t.deliverTo q cmd idx m1.data
          | _ => t
        u.issueTx q
      else t

/-- V6 over the data of a finished read: the first failing block and its cause. -/
def State.v6 (s : State) (c : NCmd) (data : Nat) : Option (Nat × Nat) :=
  let n := s.hostPi c.ns
  if n = 0 then none
  else
    (List.range c.nlb).findSome? (fun i =>
      let pi := leBytes n (bits data (8 * (i * (4096 + n) + 4096)) (8 * n))
      let cause := prCheck (s.fmtOf c.ns) c.pr i none pi
      if cause = 0 then none else some (c.slba + i, cause))

/-- A block command of a queue is finished (R246): a queue that left ACTIVE sends nothing (R230). -/
def State.nvmeDone (s : State) (q cid status data len : Nat) : State :=
  let x := s.qp q
  match x.cmds.find? (fun c => c.cid = cid) with
  | none => s
  | some c =>
    let t := s.updQp q (fun x => { x with cmds := x.cmds.filter (fun d => d.cid ≠ cid) })
    if x.st ≠ .active then t
    else if c.op ≠ 2 then t.sendCpl q cid 0 status (sglInv c.sgl)
    else if status ≠ 0 then t.sendCpl q cid 0 status (sglInv c.sgl)
    else
      match s.v6 c data with
      | some (b, cause) =>
        ((t.addCnt 64 Obj.piEgressErrors 0 1).later (.detect 0x606 6 q (piDetail c.ns b 6 cause false false))).sendCpl q cid 0 (prStatus cause) (sglInv c.sgl)
      | none => t.sendData q cid c.sgl len data 0

/-- A block command, checked (R243, R250). -/
def State.blockCmd (s : State) (q : Nat) (c : NCmd) (nsid : Nat) (go : State → State) : State :=
  let st := s.blockCheck (s.qp q).host nsid c.slba c.nlb c.pr.pract
  if st ≠ 0 then s.sendCpl q c.cid 0 st (sglInv c.sgl)
  else if c.sgl.inCapsule ∧ (8192 < c.sgl.len ∨ c.op = 2) then s.sendCpl q c.cid 0 scField none
  else go s

end Sys2Proof.Machine
end

