-- ==== Sys2Proof/Machine/Eyelets.lean ====
section
/-!
DEFINITION. Machine/Eyelets.lean: eyelets: keys and checks (R255 to R260), admitted accesses, placement, knots and flush
(R261 to R267), violations (R268, R269), revocation (R271) and window commits (R272, R273).
-/

namespace Sys2Proof.Machine

/-! ### Scratch region and chain store -/

/-- Bytes of DRAM the part gives software: the scratch region from address 0, the chain store from `chainBase`. An
address nothing was written to reads 0 (log entry 21: the manual leaves the content open). -/
def chainBase : Nat := 2 ^ 44

/-- Reads `n` bytes at an address, as a little-endian number. -/
def memRead (m : Tbl Nat) (a : Nat) : Nat → Nat
  | 0 => 0
  | n + 1 => Tbl.get 0 m a % 256 + 256 * memRead m (a + 1) n

/-- Writes `n` bytes at an address. -/
def memWrite (m : Tbl Nat) (a : Nat) : Nat → Nat → Tbl Nat
  | 0, _ => m
  | n + 1, v => memWrite (Tbl.set 0 m a (v % 256)) (a + 1) n (v / 256)

/-- Whether the memory is in its canonical form. -/
abbrev Memory.wf (m : Tbl Nat) : Bool := Tbl.wf 0 m

/-- Writes the scratch region or chain store. -/
def State.ramWrite (s : State) (a n v : Nat) : State := { s with net := { s.net with ram := memWrite s.net.ram a n v } }

/-! ### Entries and checks -/

/-- An eyelet row. -/
def State.eye (s : State) (e : Nat) : Eye := Tbl.get {} s.net.eyes e

/-- Changes an eyelet row. -/
def State.updEye (s : State) (e : Nat) (f : Eye → Eye) : State :=
  { s with net := { s.net with eyes := Tbl.upd {} s.net.eyes e f } }

/-- The key of a row (R255). -/
def Eye.key (x : Eye) (e : Nat) : Nat := e % 16384 + (x.check % 1024) * 16384 + (x.kgen % 256) * 16777216

/-- Bytes of a window. -/
def Eye.bytes (x : Eye) : Nat := x.len * (if x.kind = 2 then 16384 else 4096)

/-- A chain slot. -/
def State.chain (s : State) (c : Nat) : Chain := Tbl.get {} s.net.chains c

/-- Changes a chain slot. -/
def State.updChain (s : State) (c : Nat) (f : Chain → Chain) : State :=
  { s with net := { s.net with chains := Tbl.upd {} s.net.chains c f } }

/-- A work request in flight is over with a status. -/
def Chain.ended (c : Chain) (wr status : Nat) : Chain :=
  { c with flight := updWhere (fun w => w.idx = wr && !w.ended) (fun w => { w with ended := true, status := status }) c.flight }

/-- Whether two hosts share a tenant group (R260, R278). -/
def State.sameGroup (s : State) (a b : Nat) : Bool :=
  s.rw Obj.tgrpId a = s.rw Obj.tgrpId b && s.rw Obj.tgrpId a ≠ 0xFFFF

/-- The checks of Table 7-3, in order: 0, or the cause of the first that fails. `perm` is the bit of PERM wanted, `wr`
whether the access writes. -/
def State.eyeCheck (s : State) (key host perm off len : Nat) (wr : Bool) : Nat :=
  let x := s.eye (key % 16384)
  if x.st = 0 then 1
  else if x.kgen ≠ key / 16777216 then 2
  else if x.check ≠ key / 16384 % 1024 then 3
  else if x.st ≠ 1 then 4
  else if ¬ (host = x.owner ∨ (x.access = 1 ∧ s.sameGroup host x.owner)) then 7
  else if bit x.perm perm = false then 6
  else if x.bytes < off + len then 5
  else if wr ∧ x.kind = 2 ∧ (List.range ((off + len + 16383) / 16384 - off / 16384)).any (fun i =>
      (s.chain (x.base + off / 16384 + i)).st ∉ [.empty, .done, .failed]) then 11
  else 0

/-- Reports a violation (R268): counters, last QP and cause, owner notice, event 0x801. `host` is the requester's. -/
def State.violation (s : State) (row host cause qp op off : Nat) : State :=
  let x := s.eye row
  let detail := cause + (qp % 65536) * 256 + (op % 256) * 2 ^ 24 + (min (off / 4096) 0xFFFFFFFF) * 2 ^ 32
  let t := s.updEye row (fun x => { x with viol := satAdd 32 x.viol 1, lastQp := qp, lastCause := cause })
  let u := (t.addCnt 64 Obj.eyeViolTotal 0 1).ownerNotice (if cause ≤ 3 then host else x.owner) 0xE0 row detail
  u.later (.detect 0x801 7 row detail)

/-! ### Accesses -/

/-- An access. -/
def State.acc (s : State) (id : Nat) : Option EyeAcc := s.net.accs.find? (fun a => a.id = id)

/-- Changes an access. -/
def State.updAcc (s : State) (id : Nat) (f : EyeAcc → EyeAcc) : State :=
  { s with net := { s.net with accs := updWhere (fun a => a.id = id) f s.net.accs } }

/-- Whether an access is an RDMA WRITE or KNOT WRITE message, which knots, reads and flushes wait for (R263 to R265). -/
def EyeAcc.isRdma (a : EyeAcc) : Bool := a.kind = .write || a.kind = .knot

/-- Whether an access writes. -/
def EyeAcc.isWrite (a : EyeAcc) : Bool := a.kind = .write || a.kind = .knot || a.kind = .trigger

/-- Accesses of a row admitted and not yet finished (R256: `ADMITTED`). -/
def State.admitted (s : State) (row : Nat) : List EyeAcc :=
  s.net.accs.filter (fun a => a.row = row && a.kind ≠ .flush && !a.placed)

/-- Admits an access under the entry's present translation (R260). -/
def State.admitAcc (s : State) (who : Accessor) (kind : EyeAccKind) (row off len psn n : Nat) : State × Nat :=
  let x := s.eye row
  let id := s.net.nextAcc
  let a : EyeAcc := { id := id, who := who, kind := kind, row := row, wgen := x.wgen, ekind := x.kind, ns := x.ns
                      base := x.base * (if x.kind = 2 then 16384 else 4096), off := off, len := len, psn := psn, n := n }
  ({ s with net := { s.net with accs := s.net.accs ++ [a], nextAcc := id + 1 } }, id)

/-- The address an access names in the scratch region or chain store. -/
def EyeAcc.addr (a : EyeAcc) : Nat := (if a.ekind = 2 then chainBase else 0) + a.base + a.off

/-- Asks for the hoop frames of a namespace write that waits for them in its own buffer (R414, R415, R426, R440). -/
def State.askFrames (s : State) (id : Nat) : State :=
  match s.acc id with
  | none => s
  | some a =>
    if a.ekind ≠ 0 ∨ a.len = 0 then s
    else
      let cmd := s.hoop.nextCmd
      (s.updAcc id (fun a => { a with cmd := some cmd })).admitWrite (.eyelet id) a.ns (a.base + a.off) a.len

/-- Takes the hoop frames of a namespace write (R261): none when the first is not to be had at once. -/
def State.takeFrames (s : State) (id : Nat) : Option State :=
  match s.acc id with
  | none => some s
  | some a =>
    if a.ekind ≠ 0 ∨ a.len = 0 then some s
    else
      let cmd := s.hoop.nextCmd
      let t := s.admitWrite (.eyelet id) a.ns (a.base + a.off) a.len
      match (t.findWrite cmd).bind (fun c => c.ranges.head?) with
      | some r => if r.st = 0 then none else some (t.updAcc id (fun a => { a with cmd := some cmd }))
      | none => none

/-- Delivers the ranges of a namespace write whose bytes are all here (R126, R261). -/
def State.accDeliver (s : State) (id : Nat) : State :=
  match s.acc id with
  | none => s
  | some a =>
    match a.cmd.bind s.findWrite with
    | none => s
    | some c =>
      if a.issued = false then s
      else
        (c.ranges.zipIdx.filter (fun e => e.1.st = 1 && decide (e.1.off + e.1.len ≤ a.got))).foldl
          (fun t e => t.rangeData c.id e.2 (t.ownBlks a.ns e.1 (bits a.data (8 * e.1.off) (8 * e.1.len))) 0) s

/-- Whether every byte of a write is in its place now (R262). -/
def State.inPlace (s : State) (a : EyeAcc) : Bool :=
  a.issued && a.got = a.len && (match a.cmd.bind s.findWrite with
    | some c => c.ranges.all (fun r => decide (2 ≤ r.st))
    | none => true)

/-- Whether an earlier write of the same accessor is not placed. -/
def State.behind (s : State) (a : EyeAcc) : Bool :=
  s.net.accs.any (fun b => b.who = a.who && decide (b.id < a.id) && b.isRdma && !b.placed)

/-- Whether an earlier request of a QP still has its response to come: responses leave in PSN order (R223, R267). -/
def State.outOfTurn (s : State) (q psn : Nat) : Bool := ((s.qp q).rsps.takeWhile (fun r => r.psn ≠ psn)).any (fun r => !r.done)

/-- Whether a read of an eyelet waits for earlier writes: of its QP until they are placed (R264), of its Requester ID until
they are durable as well (R413). -/
def State.readWaits (s : State) (a : EyeAcc) : Bool :=
  match a.who with
  | .qp q => s.behind a || s.outOfTurn q a.psn
  | .peer _ => s.net.accs.any (fun b => b.who = a.who && decide (b.id < a.id) && b.isWrite)
  | _ => false

/-- Removes an access. -/
def State.dropAcc (s : State) (id : Nat) : State :=
  { s with net := { s.net with accs := s.net.accs.filter (fun a => a.id ≠ id) } }

/-- A window commit of which no older access is left ends (R273). -/
def State.commitSettle (s : State) (row : Nat) : State :=
  let x := s.eye row
  if x.committing ∧ x.updating = false ∧ (s.admitted row).all (fun a => a.wgen = x.wgen) then
    (s.updEye row (fun x => { x with committing := false })).actDone Obj.eyeCommit row
  else s

/-- A window commit ends (R273); a REVOKING row with nothing admitted goes DEAD (Table 7-2). -/
def State.rowSettle (s : State) (row : Nat) : State :=
  let t := s.commitSettle row
  let x := t.eye row
  if x.st = 2 ∧ t.admitted row = [] then
    (((t.updEye row (fun x => { x with st := 3 })).actDone Obj.eyeRevoke row).ownerNotice x.owner 0xE3 row 0).later
      (.detect 0x804 7 row 0)
  else t

/-- Sends the response packets of a READ (R246): PSNs of the request on. -/
def State.sendReadResp (s : State) (q psn len data : Nat) : State :=
  let m := (s.qp q).mtu
  (List.range (max 1 ((len + m - 1) / m))).foldl (fun t i =>
    let l := min m (len - i * m)
    t.qpSend q (.readResp (t.qp q).qpn (psnAdd psn i) l (bits data (8 * i * m) (8 * l))) (l + 4) none none) s

/-- Packets a QP holds back may go on. -/
def State.wake (s : State) (q : Nat) : State := if (s.qp q).held = [] then s else s.later (.rxMore q)

/-- Marks a request with a response as answered (R267). -/
def State.rspDone (s : State) (q psn : Nat) (resp : Option Nat) : State :=
  (s.updQp q (fun x => { x with rsps := updWhere (fun r => r.psn = psn) (fun r => { r with done := true, resp := resp }) x.rsps })).wake q

/-- A read of an eyelet has its data, or failed (R264): answered. -/
def State.readServed (s : State) (id status data : Nat) : State :=
  match s.acc id with
  | none => s
  | some a =>
    let t := (s.dropAcc id)
    let u := match a.who with
      | .qp q => if status = 0 then (t.sendReadResp q a.psn a.len data).rspDone q a.psn none
        else (t.sendNak q 0x63 a.psn).rspDone q a.psn none
      | .chain _ _ => t
      | _ => t.later (.acc a status data)
    u.rowSettle a.row

/-- FLUSH RESPONSE (R265, R266): the access holds the write messages it covers as its offset, and as its length whether one of them
went to a window that is not durable. -/
def State.flushResp (s : State) (q : Nat) (a : EyeAcc) : State :=
  ((s.dropAcc a.id).qpSend q (.resp 0xC2 (s.qp q).qpn a.psn (a.len + (a.off % 2 ^ 32) * 2 ^ 32)) 12 none none).rspDone q a.psn none

/-- A write in its place becomes placed (R262): the scratch region or chain store takes its bytes; it is over unless its
durability is still to come. -/
def State.placeAcc (s : State) (a : EyeAcc) : State :=
  let t := s.updAcc a.id (fun a => { a with placed := true })
  let u := if a.ekind = 0 ∨ a.len = 0 then t else t.ramWrite a.addr a.len a.data
  let v := if a.durable ∨ a.ekind ≠ 0 ∨ a.len = 0 then u.dropAcc a.id else u
  let w := match a.who with
    | .ring _ _ => v.later (.acc a 0 0)
    | .shtl _ => v.later (.acc a 0 0)
    | .qp q => v.wake q
    | _ => v
  w.rowSettle a.row

/-- One release a QP's accesses allow now: a held knot or trigger is issued, a write is placed, a read served, a flush
answered. `placed` handles what the placing of a trigger starts. -/
def State.stepAcc (s : State) (placed : EyeAcc → State → State) (a : EyeAcc) : Option State :=
  if a.kind = .flush then
    match a.who with
    | .qp q =>
      if s.net.accs.any (fun b => b.who = a.who && decide (b.id < a.id) && b.isRdma) ∨ (s.qp q).aborted ∨ s.outOfTurn q a.psn then none
      else some (s.flushResp q a)
    | _ => none
  else if a.kind = .read then
    if a.issued ∨ s.readWaits a then none
    else
      let t := s.updAcc a.id (fun a => { a with issued := true })
      if a.len = 0 then some (t.readServed a.id 0 0)
      else if a.ekind = 0 then some (t.startRead (.eyelet a.id) a.ns (a.base + a.off) a.len)
      else some (t.readServed a.id 0 (memRead t.net.ram a.addr a.len))
  else if a.placed then none
  else if a.issued = false then
    if s.behind a then none else some ((s.updAcc a.id (fun a => { a with issued := true })).accDeliver a.id)
  else if s.inPlace a ∧ (a.kind ≠ .write ∨ a.durable) then some (placed a (s.placeAcc a))
  else none

/-- The accesses of an accessor move on until nothing more is released; `n` bounds the releases. -/
def State.settleAccs (placed : EyeAcc → State → State) : Nat → Accessor → State → State
  | 0, _, s => s
  | n + 1, who, s =>
    match (s.net.accs.filter (fun a => a.who = who)).findSome? (fun a => s.stepAcc placed a) with
    | some t => State.settleAccs placed n who t
    | none => s

/-- A namespace write became durable (R261): its placing is no longer in doubt. -/
def State.accDurable (s : State) (id : Nat) : State :=
  match s.acc id with
  | none => s
  | some a => if a.placed then s.dropAcc id else s.updAcc id (fun a => { a with durable := true, cmd := none })

/-- Bytes of a write arrive in order. -/
def State.accData (s : State) (id plen payload : Nat) : State :=
  (s.updAcc id (fun a => { a with got := a.got + plen, data := a.data + (payload % 2 ^ (8 * plen)) * 2 ^ (8 * a.got) })).accDeliver id

/-! ### Packets -/

/-- The requester is told of a violation (R268): NAK 0x62 at the request's PSN; later packets are dropped silently. -/
def State.nakViolation (s : State) (q psn row cause op off : Nat) : State :=
  ((s.violation row (s.qp q).host cause q op off).sendNak q 0x62 psn).updQp q (fun x => { x with nak := true })

/-- A first packet, or a one-packet write, of an RDMA WRITE or KNOT WRITE (R260, R261, R263). -/
def State.writeFirst (s : State) (q : Nat) (k : Pkt) (knot : Bool) (key va len plen payload : Nat) : State :=
  let row := key % 16384
  let cause := s.eyeCheck key (s.qp q).host 0 va len true
  if cause ≠ 0 then s.nakViolation q k.psn row cause (if knot then 0xC0 else 0x0A) va
  else
    let r := s.admitAcc (.qp q) (if knot then .knot else .write) row va len k.psn 1
    match r.1.takeFrames r.2 with
    | none => s.sendRnr q k.psn
    | some t =>
      let waits := knot && s.net.accs.any (fun b => b.who = .qp q && b.isRdma && !b.placed)
      let u := (t.updAcc r.2 (fun a => { a with issued := !knot })).addCnt 64 Obj.ordKnotWaits 0 (b2n waits)
      let v := (u.updQp q (fun x => { x with writes := x.writes + 1, scratch := x.scratch || decide ((s.eye row).kind ≠ 0) })).accData
        r.2 plen payload
      v.acceptPsn q 1 k.ackReq (decide (len ≤ plen))

/-- A later packet of a write: accepted where its frames are reserved (R261). -/
def State.writeNext (s : State) (q : Nat) (k : Pkt) (plen payload : Nat) : State :=
  match s.net.accs.find? (fun a => a.who = .qp q && a.kind = .write && decide (a.got < a.len)) with
  | none => (s.sendNak q 0x61 k.psn).errQp q 3
  | some a =>
    let ready := match a.cmd.bind s.findWrite with
      | some c => (c.ranges.filter (fun r => decide (r.off < a.got + plen) && decide (a.got < r.off + r.len))).all
          (fun r => decide (1 ≤ r.st))
      | none => true
    if ready = false then s.sendRnr q k.psn
    else
      (s.accData a.id plen payload).acceptPsn q 1 k.ackReq (decide (a.len ≤ a.got + plen))

/-- Remembers a request with a response, one of the last 16 (R237). -/
def State.addRsp (s : State) (q : Nat) (r : RspReq) : State :=
  s.updQp q (fun x => { x with rsps := (x.rsps ++ [r]).drop (x.rsps.length + 1 - 16) })

/-- Whether a QP's responder resources are all in use (R267). -/
def State.rspFull (s : State) (q : Nat) : Bool := 16 ≤ ((s.qp q).rsps.filter (fun r => !r.done)).length

/-- RDMA READ of an eyelet (R260, R264). -/
def State.readReq (s : State) (q : Nat) (k : Pkt) (key va len : Nat) : State :=
  let cause := s.eyeCheck key (s.qp q).host 1 va len false
  if cause ≠ 0 then s.nakViolation q k.psn (key % 16384) cause 0x0C va
  else if s.rspFull q then (s.sendNak q 0x61 k.psn).errQp q 3
  else
    let n := max 1 ((len + (s.qp q).mtu - 1) / (s.qp q).mtu)
    let t := s.addRsp q { psn := k.psn, n := n, kind := .read, key := key, off := va, len := len }
    ((t.admitAcc (.qp q) .read (key % 16384) va len k.psn n).1).updQp q (fun x =>
      { x with epsn := psnAdd x.epsn n, nak := false, msn := psnAdd x.msn 1, used := s.clk.ns })

/-- FLUSH (R265, R267). -/
def State.flushReq (s : State) (q : Nat) (k : Pkt) : State :=
  if s.rspFull q then (s.sendNak q 0x61 k.psn).errQp q 3
  else
    let w := (s.qp q).writes
    let c := b2n (s.qp q).scratch
    let t := s.addRsp q { psn := k.psn, n := 1, kind := .flush, off := w, len := c }
    ((t.admitAcc (.qp q) .flush 0 w c k.psn 1).1).updQp q (fun x =>
      { x with epsn := psnAdd x.epsn 1, nak := false, msn := psnAdd x.msn 1, used := s.clk.ns, writes := 0, scratch := false })

/-- A duplicate request (R237, R267): a READ from a PSN of one among the last 16 runs again from the range it asks for (`rd`: its
key, address and length), a FLUSH among them runs again, a chain request is answered from its
cached response, anything else gets the ACK for the highest PSN accepted. -/
def State.duplicate (s : State) (q psn : Nat) (rd : Option (Nat × Nat × Nat)) : State :=
  match (s.qp q).rsps.find? (fun r => if rd.isSome then r.kind = .read && psnDist r.psn psn < r.n else r.psn = psn), rd with
  | none, _ => s.sendAck q
  | some r, some (key, va, len) =>
    if r.done = false then s
    else
      let cause := s.eyeCheck key (s.qp q).host 1 va len false
      if cause ≠ 0 then s.nakViolation q psn (key % 16384) cause 0x0C va
      else (s.admitAcc (.qp q) .read (key % 16384) va len psn (max 1 ((len + (s.qp q).mtu - 1) / (s.qp q).mtu))).1
  | some r, none =>
    match r.kind with
    | .read => s.sendAck q
    | .flush => if r.done then (s.admitAcc (.qp q) .flush 0 r.off r.len psn 1).1 else s
    | _ =>
      match r.resp with
      | some v => s.qpSend q (.resp 0xC5 (s.qp q).qpn psn v) 12 none none
      | none => s

/-! ### Registration, revocation, window commits -/

/-- Whether a range of chain slots is free of other LIVE or REVOKING chain eyelets (R257 detail 6). -/
def State.slotsFree (s : State) (row base len : Nat) : Bool :=
  s.net.eyes.all (fun e => e.1 = row || !(e.2.kind = 2 && (e.2.st = 1 || e.2.st = 2))
    || decide (e.2.base + e.2.len ≤ base) || decide (base + len ≤ e.2.base))

/-- Checks 3 to 6 of R257: the detail of the first that fails, 0 when none. -/
def State.windowDetail (s : State) (row kind owner ns base len perm : Nat) : Nat :=
  if kind = 0 ∧ ¬ (s.nsThere ns ∧ s.attached owner ns ∧ (s.fmtOf ns = 0 ∨ s.rw Obj.nsPiMode ns = 1)) then 3
  else if len = 0 ∨ (kind = 0 ∧ (s.nsp ns).bolts * 262144 < base + len)
      ∨ (kind = 1 ∧ s.rw Obj.scratchSize 0 * 262144 < base + len) ∨ (kind = 2 ∧ 4096 < base + len) then 4
  else if perm &&& (if kind = 0 then 8 else if kind = 1 then 0 else 12) ≠ 0 ∨ 16 ≤ perm then 5
  else if kind = 2 ∧ s.slotsFree row base len = false then 6
  else 0

/-- `eye.register` (R257): the fence of the row is released by it (R259). -/
def State.eyeRegister (s : State) (row : Nat) : State :=
  let x := s.eye row
  let kind := s.rw Obj.eyeKind row
  let owner := s.rw Obj.eyeOwner row
  let ns := s.rw Obj.eyeNs row
  let base := s.rw Obj.eyeBase row
  let len := s.rw Obj.eyeLen row
  let perm := s.rw Obj.eyePerm row
  let d := if ¬ (x.st = 0 ∨ x.st = 3) then 1
    else if 2048 ≤ owner ∨ s.rw Obj.hostEnable owner ≠ 1 then 2
    else s.windowDetail row kind owner ns base len perm
  if d ≠ 0 then s.actFail Obj.eyeRegister row d
  else
    let g0 := if x.kgen = 0 then s.fresh % 255 + 1 else x.kgen
    let s1 := if x.kgen = 0 then s.used else s
    let g := if g0 % 255 + 1 = 256 then 1 else g0 % 255 + 1
    let check := s1.fresh % 1024
    ((((s1.used.updEye row (fun x => { x with
      st := 1, kind := kind, perm := perm, kgen := g, owner := owner, access := s.rw Obj.eyeAccess row, ns := if kind = 0 then ns else 0
      check := check, base := base, len := len, wgen := 0, svalid := false })).actDone
      Obj.eyeRegister row).fenLet 7 row)).fenServe 7 row

/-- Chain slots of a chain eyelet that leaves LIVE are disarmed (Table 7-8). `disarm` is the chain's own operation. -/
def State.chainsOff (s : State) (disarm : Nat → State → State) (row : Nat) : State :=
  if (s.eye row).kind ≠ 2 then s
  else ((s.net.chains.filter (fun e => e.2.eye = row && e.2.st ≠ .empty)).map (fun e => e.1)).foldl (fun t c => disarm c t) s

/-- A LIVE row goes REVOKING at the update point (R271). -/
def State.toRevoking (s : State) (disarm : Nat → State → State) (row : Nat) : State :=
  if (s.eye row).st ≠ 1 then s
  else
    let t := s.updEye row (fun x => { x with st := 2, since := s.clk.ns })
    (t.chainsOff disarm row).rowSettle row

/-- Shortens a hoop write to its first `upto` bytes, whole blocks (R271): later ranges give up their frames. -/
def State.trimWrite (s : State) (id upto : Nat) : State :=
  match s.findWrite id with
  | none => s
  | some c =>
    let gone := c.ranges.filter (fun r => r.st ≤ 1 && decide (upto < r.off + 1))
    let drop := fun (t : State) (r : Range) =>
      if r.st = 1 ∧ r.newFrame then
        let x := t.stripe r.key
        let f := fun (fs : Tbl (Option Frame)) => Tbl.upd none fs r.col (fun o => match o with
          | some (g : Frame) => if g.owner = id then none else some g
          | none => none)
        t.putStripe r.key (if r.shadow then { x with succ := f x.succ } else { x with frames := f x.frames })
      else t
    let t := gone.foldl drop s
    let u := t.updWrite id (fun c => { c with ranges := c.ranges.filter (fun r => !gone.contains r) })
    { u with hoop := { u.hoop with queue := u.hoop.queue.filter (fun q => q ≠ id) } }

/-- Aborts an admitted access (R271, R273): what is whole stays placed, the rest is discarded, the requester gets NAK
0x62, an event of the cause is raised. -/
def State.abortAcc (s : State) (cause : Nat) (a : EyeAcc) : State :=
  let row := a.row
  let wc : Option WCmd := a.cmd.bind s.findWrite
  let s1 : State := match wc with
    | some c =>
      if a.issued = false then s.abandonWrite c.id
      else
        let whole := (c.first + a.got) / 4096 * 4096 - c.first
        let cut := fun (t : State) (e : Range × Nat) =>
          let m := min e.1.len (whole - e.1.off)
          let r : Range := { e.1 with len := m }
          (t.updRange c.id e.2 (fun r => { r with len := m })).rangeData c.id e.2
            (t.ownBlks a.ns r (bits a.data (8 * r.off) (8 * r.len))) 0
        let t := (c.ranges.zipIdx.filter (fun e => e.1.st = 1 && decide (e.1.off < whole))).foldl cut s
        (t.trimWrite c.id whole).finishWrite c.id
    | none => if a.issued && a.isWrite && a.ekind ≠ 0 then s.ramWrite a.addr (a.got / 4096 * 4096) a.data else s
  let s2 : State := (s1.dropAcc a.id).abandonReads (fun r => decide (r = Req.eyelet a.id))
  let s3 : State := match a.who with
    | .qp q => (s2.sendNak q 0x62 (if a.kind = .read then a.psn else (s.qp q).epsn)).updQp q (fun x =>
        { x with nak := true, aborted := x.aborted || a.isWrite }) |>.later (.rxMore q)
    | .chain slot wr => s2.updChain slot (fun c => c.ended wr 2)
    | _ => s2.later (.acc a cause 0)
  s3.later (.detect 0x803 7 row cause)

/-- EYE_REVOKE_TIMEOUT (R271). -/
def State.revokeTimeout (s : State) (row : Nat) : State :=
  let x := s.eye row
  if x.st = 2 ∧ x.since + 64000 ≤ s.clk.ns ∧ s.admitted row ≠ [] then
    let t := (s.admitted row).foldl (fun u a => u.abortAcc 12 a) s
    ((((t.updEye row (fun x => { x with st := 3 })).setAct Obj.eyeRevoke row 2 1).ownerNotice x.owner 0xE3 row 0).later
      (.detect 0x804 7 row 0)).commitSettle row
  else s

/-- `eye.revoke` (R271). -/
def State.eyeRevokeOp (s : State) (disarm : Nat → State → State) (row : Nat) : State :=
  if (s.eye row).st ≠ 1 then s.actFail Obj.eyeRevoke row 2 else (s.actRun Obj.eyeRevoke row).toRevoking disarm row

/-- `eye.commit` (R272, R273). -/
def State.eyeCommitOp (s : State) (row : Nat) : State :=
  let x := s.eye row
  if x.st ≠ 1 ∨ x.svalid = false then s.actFail Obj.eyeCommit row 2
  else if x.committing then s.actFail Obj.eyeCommit row 7
  else
    let base := s.rw Obj.eyeSbase row
    let len := s.rw Obj.eyeSlen row
    let perm := s.rw Obj.eyeSperm row
    let d := s.windowDetail row x.kind x.owner x.ns base len perm
    if d ≠ 0 then s.actFail Obj.eyeCommit row d
    else
      (s.updEye row (fun x => { x with
        base := base, len := len, perm := perm, access := s.rw Obj.eyeSaccess row, wgen := wrapAdd 16 x.wgen 1,
        svalid := false, updating := true, committing := true, commitAt := s.clk.ns })).actRun Obj.eyeCommit row

/-- QPs with packets held. -/
def State.heldQps (s : State) : List Nat := (s.net.qps.filter (fun e => e.2.held ≠ [])).map (fun e => e.1)

/-- KEY_CACHE_UPDATE_DONE (R272): stalled first packets are checked against the new window. -/
def State.cacheDone (s : State) (row : Nat) : State :=
  if (s.eye row).updating then
    let t := (s.updEye row (fun x => { x with updating := false })).rowSettle row
    t.heldQps.foldl (fun u q => u.later (.rxMore q)) t
  else s

/-- EYE_COMMIT_TIMEOUT (R273). -/
def State.commitTimeout (s : State) (row : Nat) : State :=
  let x := s.eye row
  if x.committing ∧ x.commitAt + 64000 ≤ s.clk.ns then
    let t := ((s.admitted row).filter (fun a => a.wgen ≠ x.wgen)).foldl (fun u a => u.abortAcc 13 a) s
    ((t.updEye row (fun x => { x with committing := false })).setAct Obj.eyeCommit row 2 1).rowSettle row
  else s

end Sys2Proof.Machine
end

