-- ==== Sys2Proof/Machine/Chains.lean ====
section
/-!
DEFINITION. Machine/Chains.lean: triggered chains: work requests, arming, triggers, issue and completion (R274 to R280).
-/

namespace Sys2Proof.Machine

/-- A work request as the chain store holds it (Table 7-5). -/
structure Wr where
  op : Nat
  wait : Bool
  rsv : Nat
  lkey : Nat
  loff : Nat
  len : Nat
  target : Nat
  roff : Nat
  rkey : Nat
  imm : Nat
deriving DecidableEq, Repr

/-- The address of a work request. -/
def wrAddr (slot wr : Nat) : Nat := chainBase + slot * 16384 + wr * 64

/-- Reads a work request; `rsv` gathers the fields that are reserved for every opcode. -/
def State.wrAt (s : State) (slot wr : Nat) : Wr :=
  let m := s.net.ram
  let a := wrAddr slot wr
  let w := memRead m a 4
  let lo := memRead m (a + 8) 8
  { op := w % 256, wait := bit w 8, rsv := bits w 9 7 + bits w 24 8 + lo / 2 ^ 48 + memRead m (a + 48) 16
    lkey := memRead m (a + 4) 4, loff := lo % 2 ^ 48, len := memRead m (a + 16) 4, target := memRead m (a + 20) 4
    roff := memRead m (a + 24) 8, rkey := memRead m (a + 32) 4, imm := memRead m (a + 36) 4 }

/-- Whether a work request is malformed (R274, R275): a reserved opcode, a reserved field that is not zero, a length out of
range, a LINK slot above 4,095. -/
def Wr.bad (w : Wr) : Bool :=
  let none_ := fun (l : List Nat) => l.any (fun x => x ≠ 0)
  decide (w.rsv ≠ 0) || (match w.op with
    | 0 => none_ [w.lkey, w.loff, w.len, w.target, w.roff, w.rkey, w.imm]
    | 1 => none_ [w.rkey, w.imm] || decide (w.len = 0) || decide (2 ^ 30 < w.len)
    | 2 => none_ [w.imm] || decide (w.len = 0) || decide (2 ^ 30 < w.len) || decide (65536 ≤ w.target)
    | 3 => decide (w.len = 0) || decide (2 ^ 30 < w.len) || decide (65536 ≤ w.target)
    | 4 => none_ [w.roff, w.rkey, w.imm] || decide (w.len = 0) || decide (2 ^ 24 < w.len) || decide (65536 ≤ w.target)
    | 5 => none_ [w.roff, w.rkey] || decide (w.len = 0) || decide (2 ^ 24 < w.len) || decide (65536 ≤ w.target)
    | 6 => none_ [w.lkey, w.loff, w.len, w.roff, w.rkey, w.imm] || decide (4096 ≤ w.target)
    | _ => true)

/-- Writes STATUS and TIME of a work request in place (R277). -/
def State.setWr (s : State) (slot wr status time : Nat) : State :=
  (s.ramWrite (wrAddr slot wr + 2) 1 status).ramWrite (wrAddr slot wr + 40) 8 time

/-- Writes STATUS 8 into the work requests from `i` on that were not issued (R279). -/
def State.unissued (s : State) (slot i count : Nat) : State :=
  (List.range (count - i)).foldl (fun t j => t.ramWrite (wrAddr slot (i + j) + 2) 1 8) s

/-- Chains RUNNING. -/
def State.running (s : State) : Nat := (s.net.chains.filter (fun e => e.2.st = .running)).length

/-- A chain starts a run (Table 7-8). -/
def State.startChain (s : State) (slot : Nat) : State :=
  let c := s.chain slot
  let t := (List.range c.count).foldl (fun t i => t.ramWrite (wrAddr slot i + 2) 1 0) s
  let u := t.updChain slot (fun c => { c with st := .running, next := 0, flight := [], held := none, linkFrom := none })
  let v := match c.linkFrom with
    | some (p, i) => u.updChain p (fun c => c.ended i 1)
    | none => u
  v.addCnt 32 Obj.chainRuns slot 1

/-- Starts an ARMED chain, or holds its trigger while 512 chains run or an older trigger is held (R279). -/
def State.trigChain (s : State) (slot : Nat) (from_ : Option (Nat × Nat)) : State :=
  let t := s.updChain slot (fun c => { c with linkFrom := from_ })
  if t.running < 512 ∧ t.net.chains.all (fun e => e.2.held = none) then t.startChain slot
  else
    let u := t.updChain slot (fun c => { c with held := some (c.held.getD s.net.heldSeq) })
    { u with net := { u.net with heldSeq := s.net.heldSeq + 1 } }

/-- A trigger is placed (R276): its chain starts, or it is missed; so is one for a chain whose trigger is held already (DESIGN
CHOICE, log entry 53). -/
def State.trigger_ (s : State) (a : EyeAcc) : State :=
  if a.kind ≠ .trigger then s
  else
    let c := s.chain a.slot
    if c.st = .armed ∧ c.held = none then s.trigChain a.slot none
    else
      let t := s.addCnt 32 Obj.chainMissed a.slot 1
      if c.eye = 0xFFFF then t
      else (t.ownerNotice (t.eye c.eye).owner 0xE2 c.eye 0).later (.detect 0x806 7 c.eye 0)

/-- The accesses of an accessor move on. -/
def State.moveAccs (s : State) (who : Accessor) : State :=
  State.settleAccs (fun a t => t.trigger_ a) (3 * s.net.accs.length + 3) who s

/-- EYELET_WRITE_PLACED (R262). -/
def State.writePlaced (s : State) (id : Nat) : State :=
  match s.acc id with
  | none => s
  | some a =>
    if a.isWrite && !a.placed && s.inPlace a then (((s.placeAcc a).trigger_ a).moveAccs a.who) else s

/-- A namespace write of an eyelet is durable: done at the hoop (R265). -/
def State.eyeDone (s : State) (id status data : Nat) : State :=
  match s.acc id with
  | none => s
  | some a =>
    if a.kind = .read then (s.readServed id status data).moveAccs a.who
    else (s.accDurable id).moveAccs a.who

/-- A chain reaches EMPTY: a DISARM waiting for it is answered; a LINK whose trigger was held fails (R277, R280). -/
def State.emptyChain (s : State) (slot : Nat) : State :=
  let c := s.chain slot
  let r := s.updChain slot (fun _ => {})
  let t : State := match c.linkFrom with
    | some (p, i) => r.updChain p (fun c => c.ended i 7)
    | none => r
  let u : State := c.waiting.foldl (fun t w =>
    ((t.qpSend w.1 (.resp 0xC5 (t.qp w.1).qpn w.2 (slot * 65536)) 12 none none).rspDone w.1 w.2 (some (slot * 65536))).later (.rxMore w.1)) t
  if u.actAt Obj.chainDisarm slot % 256 = 1 then u.actDone Obj.chainDisarm slot else u

/-- Disarms a chain (Table 7-8). -/
def State.disarm (slot : Nat) (s : State) : State :=
  let c := s.chain slot
  match c.st with
  | .empty => s
  | .running =>
    let t := (s.unissued slot c.next c.count).updChain slot (fun c => { c with st := .stopping })
    if c.flight = [] then t.emptyChain slot else t
  | .stopping => s
  | _ => s.emptyChain slot

/-- The checks of `CKEY` for a chain request (R275): a chain eyelet with W and the slot inside it. -/
def State.ceCheck (s : State) (host : Nat) (c : Ceth) : Nat :=
  let x := s.eye (c.ckey % 16384)
  let d := s.eyeCheck c.ckey host 0 0 0 false
  if d ≠ 0 then d else if x.kind ≠ 2 then 6 else if x.len ≤ c.slot then 5 else 0

/-- Answers a chain request and remembers the answer (R267). -/
def State.chainResp (s : State) (q psn value : Nat) : State :=
  (s.qpSend q (.resp 0xC5 (s.qp q).qpn psn value) 12 none none).rspDone q psn (some value)

/-- Accepts a chain request's PSN and holds a responder resource for it. -/
def State.takeRsp (s : State) (q : Nat) (k : Pkt) (kind : RspKind) : State :=
  (s.addRsp q { psn := k.psn, n := 1, kind := kind }).updQp q (fun x =>
    { x with epsn := psnAdd x.epsn 1, nak := false, msn := psnAdd x.msn 1, used := s.clk.ns })

/-- CHAIN ARM (R275, Table 7-7). -/
def State.chainArm (s : State) (q : Nat) (k : Pkt) (c : Ceth) : State :=
  let host := (s.qp q).host
  let d := s.ceCheck host c
  let row := c.ckey % 16384
  if d ≠ 0 then s.nakViolation q k.psn row d 0xC3 (c.slot * 16384)
  else if s.rspFull q then (s.sendNak q 0x61 k.psn).errQp q 3
  else
    let slot := (s.eye row).base + c.slot
    let t := s.takeRsp q k .arm
    if (s.chain slot).st ∉ [.empty, .done, .failed] then t.chainResp q k.psn (2 + slot * 65536)
    else
      match (List.range c.count).find? (fun i => (s.wrAt slot i).bad) with
      | some i => t.chainResp q k.psn (3 + i * 256 + slot * 65536)
      | none =>
        if c.landKey ≠ 0 ∧ s.eyeCheck c.landKey host 0 c.landOff c.landLen true ≠ 0 then t.chainResp q k.psn (4 + slot * 65536)
        else
          let x : Chain := { st := .armed, eye := row, host := host, count := c.count, rearm := c.rearm, scope := c.scope
                             tagchk := c.tagchk, landKey := c.landKey, landOff := c.landOff, landLen := c.landLen }
          (t.updChain slot (fun _ => x)).chainResp q k.psn (slot * 65536)

/-- CHAIN DISARM (R280). -/
def State.chainDisarmReq (s : State) (q : Nat) (k : Pkt) (c : Ceth) : State :=
  let d := s.ceCheck (s.qp q).host c
  let row := c.ckey % 16384
  if d ≠ 0 then s.nakViolation q k.psn row d 0xC4 (c.slot * 16384)
  else if s.rspFull q then (s.sendNak q 0x61 k.psn).errQp q 3
  else
    let slot := (s.eye row).base + c.slot
    let t := s.takeRsp q k .disarm
    if (s.chain slot).st = .empty then t.chainResp q k.psn (slot * 65536)
    else State.disarm slot (t.updChain slot (fun c => { c with waiting := c.waiting ++ [(q, k.psn)] }))

/-- SEND with Immediate: a trigger (R276). -/
def State.sendImm (s : State) (q : Nat) (k : Pkt) (imm len payload : Nat) : State :=
  let slot := imm / 2 ^ 20 % 4096
  let c := s.chain slot
  let host := (s.qp q).host
  let land := c.landKey % 16384
  let cause :=
    if c.st = .empty then 0
    else if imm % 2 ^ 20 ≠ c.tagchk then 8
    else if ¬ (host = c.host ∨ (c.scope = 1 ∧ s.sameGroup host c.host)) then 9
    else if c.landLen < len ∨ (len ≠ 0 ∧ c.landKey = 0) then 10
    else 0
  if cause ≠ 0 then s.nakViolation q k.psn c.eye cause 0x05 0
  else if len = 0 ∨ c.st = .empty then
    let r := s.admitAcc (.qp q) .trigger 16384 0 0 k.psn k.n
    ((r.1.updAcc r.2 (fun a => { a with slot := slot, host := host })).acceptPsn q k.n k.ackReq true).moveAccs (.qp q)
  else
    let d := s.eyeCheck c.landKey c.host 0 c.landOff len true
    if d ≠ 0 then s.nakViolation q k.psn land d 0x05 c.landOff
    else
      let r := s.admitAcc (.qp q) .trigger land c.landOff len k.psn k.n
      match r.1.takeFrames r.2 with
      | none => s.sendRnr q k.psn
      | some t =>
        let u := (t.updAcc r.2 (fun a => { a with slot := slot, host := host })).accData r.2 len payload
        (u.acceptPsn q k.n k.ackReq true).moveAccs (.qp q)

/-- CHAIN_HELD_TRIGGER_START: held triggers start in arrival order (R279). -/
def State.startHeld (s : State) : State :=
  if 512 ≤ s.running then s
  else
    let hs := s.net.chains.filterMap (fun e => e.2.held.map (fun n => (n, e.1)))
    match (sortBy (fun a b => a.1 ≤ b.1) hs).head? with
    | some (_, slot) => s.startChain slot
    | none => s

/-! ### Issue -/

/-- Whether the next work request of a chain may issue (R277); none after one that failed (R279). -/
def State.mayIssue (s : State) (slot : Nat) (ops : List Nat) : Bool :=
  let c := s.chain slot
  let w := s.wrAt slot c.next
  c.st = .running && decide (c.next < c.count) && ops.contains w.op && decide (c.flight.length < 64)
    && c.flight.all (fun f => !f.ended || f.status = 1)
    && (decide (c.flight = []) || !(w.wait || (c.next ≠ 0 && (s.wrAt slot (c.next - 1)).op = 1)))

/-- A work request is issued: in flight, perhaps over at once with a status. -/
def State.issueWr (s : State) (slot : Nat) (ended : Bool) (status : Nat) : State :=
  s.updChain slot (fun c => { c with
    next := c.next + 1, flight := c.flight ++ [{ idx := c.next, ended := ended, status := status }] })

/-- A work request fails its eyelet check at issue (R277): reported as a violation (R268). -/
def State.wrViolation (s : State) (slot row cause off : Nat) : State :=
  (s.violation row (s.chain slot).host cause 0xFFFF (s.wrAt slot (s.chain slot).next).op off).issueWr slot true 2

/-- The accesses a work request holds end (R256). -/
def State.endWrAccs (s : State) (slot wr : Nat) : State :=
  let mine := s.net.accs.filter (fun a => a.who = .chain slot wr)
  mine.foldl (fun t a => (t.dropAcc a.id).rowSettle a.row) s

/-- The next piece of a namespace source, at most 8 MiB (R277). -/
def State.chainRead (s : State) (slot wr : Nat) (a : EyeAcc) (pos : Nat) : State :=
  s.startRead (.chain slot wr) a.ns (a.base + a.off + pos) (min 8388608 (a.len - pos))

/-- WR_READ (R277): from the TARGET window into the LKEY window. -/
def State.wrRead (s : State) (slot : Nat) : State :=
  if s.mayIssue slot [1] = false then s
  else
    let c := s.chain slot
    let w := s.wrAt slot c.next
    let d1 := s.eyeCheck w.target c.host 2 w.roff w.len false
    let d2 := s.eyeCheck w.lkey c.host 3 w.loff w.len true
    if d1 ≠ 0 then s.wrViolation slot (w.target % 16384) d1 w.roff
    else if d2 ≠ 0 then s.wrViolation slot (w.lkey % 16384) d2 w.loff
    else if w.target % 16384 = w.lkey % 16384 ∧ w.roff < w.loff + w.len ∧ w.loff < w.roff + w.len then
      s.wrViolation slot (w.lkey % 16384) 14 w.loff
    else
      let who := Accessor.chain slot c.next
      let r1 := s.admitAcc who .read (w.target % 16384) w.roff w.len 0 0
      let r2 := r1.1.admitAcc who .write (w.lkey % 16384) w.loff w.len 0 0
      let t := r2.1.issueWr slot false 1
      match t.acc r1.2, t.acc r2.2 with
      | some a, some b =>
        if a.ekind = 0 then t.chainRead slot c.next a 0
        else (t.ramWrite b.addr b.len (memRead t.net.ram a.addr a.len)).updChain slot (fun x => x.ended c.next 1)
      | _, _ => t

/-- Sends a work request's data on its destination QP (R278). -/
def State.wrPost (s : State) (slot wr : Nat) (w : Wr) (data : Nat) : State :=
  let host := (s.chain slot).host
  let imm := if w.op = 3 ∨ w.op = 5 then some w.imm else none
  let kind : TxKind := if w.op ≤ 3 then .write w.roff w.rkey imm else .send imm none
  s.post (w.target % 65536) [{ kind := kind, len := w.len, data := data, for_ := .wr slot wr
                               grp := some (s.rw Obj.tgrpId host % 2048 * 2048 + host) }]

/-- A WRITE or SEND work request issues on its destination QP (R278). -/
def State.wrOut (s : State) (slot : Nat) (ops : List Nat) : State :=
  if s.mayIssue slot ops = false then s
  else
    let c := s.chain slot
    let w := s.wrAt slot c.next
    let d := s.eyeCheck w.lkey c.host 2 w.loff w.len false
    let x := s.qp (w.target % 65536)
    if d ≠ 0 then s.wrViolation slot (w.lkey % 16384) d w.loff
    else if x.st ≠ .active ∨ s.sameGroup x.host c.host = false then s.issueWr slot true 3
    else
      let r := s.admitAcc (.chain slot c.next) .read (w.lkey % 16384) w.loff w.len 0 0
      let t := r.1.issueWr slot false 1
      match t.acc r.2 with
      | some a => if a.ekind = 0 then t.chainRead slot c.next a 0 else t.wrPost slot c.next w (memRead t.net.ram a.addr a.len)
      | none => t

/-- A block read of a work request is done: the next piece, or the data is placed or sent (R277). -/
def State.chainDone (s : State) (slot wr status data : Nat) : State :=
  let c := s.chain slot
  let w := s.wrAt slot wr
  let mine := s.net.accs.filter (fun a => a.who = .chain slot wr)
  match c.flight.find? (fun f => f.idx = wr), mine.find? (fun a => a.kind = .read) with
  | some f, some a =>
    if f.ended then s
    else if status ≠ 0 then s.updChain slot (fun c => c.ended wr 6)
    else
      let n := min 8388608 (a.len - f.pos)
      let t := match mine.find? (fun b => b.kind = .write) with
        | some b => s.ramWrite (b.addr + f.pos) n data
        | none => s.updAcc a.id (fun a => { a with data := a.data + (data % 2 ^ (8 * n)) * 2 ^ (8 * f.pos) })
      let pos := f.pos + n
      let u := t.updChain slot (fun c => { c with flight := updWhere (fun f => f.idx = wr) (fun f => { f with pos := pos }) c.flight })
      if pos < a.len then u.chainRead slot wr a pos
      else if w.op = 1 then u.updChain slot (fun c => c.ended wr 1)
      else u.wrPost slot wr w ((u.acc a.id).map (fun a => a.data) |>.getD 0)
  | _, _ => s

/-- WR_LINK (R277, Table 7-6). -/
def State.wrLink (s : State) (slot : Nat) : State :=
  if s.mayIssue slot [6] = false then s
  else
    let c := s.chain slot
    let target := (s.wrAt slot c.next).target % 4096
    if (s.chain target).st ≠ .armed then s.issueWr slot true 7
    else (s.issueWr slot false 1).trigChain target (some (slot, c.next))

/-- WR_NOP (R277). -/
def State.wrNop (s : State) (slot : Nat) : State :=
  if s.mayIssue slot [0] then s.issueWr slot true 1 else s

/-- WORK_REQUEST_COMPLETE (R277, R279, Table 7-8). -/
def State.wrComplete (s : State) (slot wr : Nat) : State :=
  let c := s.chain slot
  match c.flight.find? (fun f => f.idx = wr && f.ended) with
  | none => s
  | some f =>
    let t := ((s.setWr slot wr f.status s.clk.ns).endWrAccs slot wr).updChain slot (fun c =>
      { c with flight := c.flight.filter (fun f => f.idx ≠ wr) })
    let d := t.chain slot
    if c.st = .running ∧ f.status ≠ 1 then
      ((((t.unissued slot c.next c.count).updChain slot (fun c => { c with st := .failed })).ownerNotice (s.eye c.eye).owner 0xE1
        c.eye 0).later (.detect 0x805 7 c.eye 0))
    else if c.st = .running ∧ d.flight = [] ∧ c.count ≤ c.next then
      t.updChain slot (fun c => { c with st := if c.rearm then .armed else .done, next := 0 })
    else if c.st = .stopping ∧ d.flight = [] then t.emptyChain slot
    else t

/-- `chain.disarm` (Table 7-8). -/
def State.chainDisarmAct (s : State) (slot : Nat) : State :=
  let t := State.disarm slot (s.actRun Obj.chainDisarm slot)
  if (t.chain slot).st = .empty then t.actDone Obj.chainDisarm slot else t

end Sys2Proof.Machine
end

