-- ==== Sys2Proof/Machine/Packets.lean ====
section
/-!
DEFINITION. Machine/Packets.lean: what happens to a packet from its arrival at a port (R209 to R225, R231 to R235, R237,
R341) to its meaning.
-/

namespace Sys2Proof.Machine

/-- Accepts a capsule (one SEND message) of a queue that has a controller, for a command of the admin queue (`admin`) or
of an I/O queue; the command then runs with its controller. -/
def State.capsule (s : State) (q : Nat) (k : Pkt) (cid : Nat) (admin : Option Bool) (go : Nat → State → State) : State :=
  let t := (s.acceptPsn q k.n k.ackReq true).cmdSeen q
  match (s.qp q).ctrl with
  | none => t.sendCpl q cid 0 scSequence none
  | some c =>
    match admin with
    | some b => if b = decide ((s.qp q).qid = 0) then go c t else t.sendCpl q cid 0 scOpcode none
    | none => go c t

/-- A first packet of an eyelet request waits while the key cache of its row is updated (R272). -/
def State.stalls (s : State) (key : Nat) : Bool := (s.eye (key % 16384)).updating

/-- What a request packet at the expected PSN does. -/
def State.rxRequest (s : State) (q : Nat) : Instr → State
  | .fabricsConnect k cid qid _ kato cntlid tbkas nqn subnqn hostId =>
    ((s.acceptPsn q k.n k.ackReq true).cmdSeen q).connect q cid qid kato cntlid tbkas nqn subnqn hostId
  | .propertyGet k cid off => s.capsule q k cid none (fun c t => match t.ctrl c with
      | some x => t.propGet q cid off x
      | none => t)
  | .propertySet k cid off value => s.capsule q k cid none (fun c t => t.propSet q cid off value c)
  | .disconnect k cid => s.capsule q k cid none (fun _ t => (t.sendCpl q cid 0 0 none).drainQp q)
  | .identify k cid cns nsid sgl => s.capsule q k cid (some true) (fun c t => t.identify q cid c cns nsid sgl)
  | .getLogPage k cid lid off rae sgl => s.capsule q k cid (some true) (fun c t => t.getLog q cid c lid off rae sgl)
  | .setFeatures k cid fid value => s.capsule q k cid (some true) (fun c t => t.setFeature q cid c fid value)
  | .getFeatures k cid fid => s.capsule q k cid (some true) (fun c t => t.getFeature q cid c fid)
  | .asynchronousEventRequest k cid => s.capsule q k cid (some true) (fun c t => t.aer q cid c)
  | .keepAlive k cid => s.capsule q k cid (some true) (fun c t =>
      (t.updCtrl c (fun x => { x with kaAt := s.clk.ns })).sendCpl q cid 0 0 none)
  | .abort k cid => s.capsule q k cid (some true) (fun _ t => t.sendCpl q cid 1 0 none)
  | .nvmeRead k cid nsid slba nlb pr sgl => s.capsule q k cid (some false) (fun _ t =>
      let c : NCmd := ⟨cid, 2, nsid - 1, slba, nlb, sgl, pr⟩
      t.blockCmd q c nsid (fun u => u.nvmeRead q c))
  | .nvmeWrite k cid nsid slba nlb pr sgl => s.capsule q k cid (some false) (fun _ t =>
      let c : NCmd := ⟨cid, 1, nsid - 1, slba, nlb, sgl, pr⟩
      t.blockCmd q c nsid (fun u => u.nvmeWrite q c))
  | .writeZeroes k cid nsid slba nlb => s.capsule q k cid (some false) (fun _ t =>
      let c : NCmd := ⟨cid, 8, nsid - 1, slba, nlb, ⟨0, 0, 0, false, false, 0⟩, ⟨false, 0, 0, 0, 0⟩⟩
      t.blockCmd q c nsid (fun u => u.nvmeWrite q c))
  | .nvmeFlush k cid nsid => s.capsule q k cid (some false) (fun _ t =>
      let c : NCmd := ⟨cid, 0, nsid - 1, 0, 0, ⟨0, 0, 0, false, false, 0⟩, ⟨false, 0, 0, 0, 0⟩⟩
      t.blockCmd q c nsid (fun u => u.sendCpl q cid 0 0 none))
  | .rdmaWrite k first _ key va len plen payload =>
    (if first then s.writeFirst q k false key va len plen payload else s.writeNext q k plen payload).moveAccs (.qp q)
  | .knotWrite k key va len payload =>
    if (s.qp q).mtu < len ∨ 4096 < len then (s.sendNak q 0x61 k.psn).errQp q 3
    else (s.writeFirst q k true key va len len payload).moveAccs (.qp q)
  | .rdmaRead k key va len => (s.readReq q k key va len).moveAccs (.qp q)
  | .eyeletFlush k => (s.flushReq q k).moveAccs (.qp q)
  | .chainArm k c => s.chainArm q k c
  | .chainDisarm k c => s.chainDisarmReq q k c
  | .sendWithImmediate k imm len payload => s.sendImm q k imm len payload
  | .invalidOpcodePacket k _ => (s.sendNak q 0x61 k.psn).errQp q 3
  | _ => s

/-- What a response, ACK, NAK or CNP does. -/
def State.response (s : State) (q : Nat) : Instr → State
  | .ack k => s.ackTx q k.psn
  | .nakSequenceError k => (s.ackTx q (psnAdd k.psn 16777215)).retryFrom q k.psn
  | .rnrNak k => s.rnrRx q k.psn
  | .nakError k _ =>
    let t := s.ackTx q (psnAdd k.psn 16777215)
    if (t.qp q).st = .active then (t.later (.detect 0x809 6 q 0)).errQp q 4 else t
  | .rdmaReadResponse k len data => s.readResp q k.psn len data
  | .cnp _ => s.cnpRx q
  | _ => s

/-- The key whose row a request needs settled before its check, if it opens an eyelet access. -/
def wantsKey : Instr → Option Nat
  | .rdmaWrite _ first _ key _ _ _ _ => if first then some key else none
  | .knotWrite _ key _ _ _ => some key
  | .rdmaRead _ key _ _ => some key
  | .chainArm _ c => some c.ckey
  | .chainDisarm _ c => some c.ckey
  | _ => none

/-- A chain request is answered at once: it waits while an earlier response is to come or a knot is held (R263, R267). -/
def State.chainWaits (s : State) (q : Nat) : Instr → Bool
  | .chainArm _ _ => decide (s.unacked q ≠ [])
  | .chainDisarm _ _ => decide (s.unacked q ≠ [])
  | _ => false

/-- Whether a QP must hold its next request: four knot writes held (R263), a stalled first packet (R272), a chain request that is
not in turn. -/
def State.mustHold (s : State) (q : Nat) (i : Instr) : Bool :=
  decide ((s.qp q).held ≠ []) || decide (4 ≤ (s.net.accs.filter (fun a => a.who = .qp q && a.kind = .knot && !a.placed)).length)
    || (match wantsKey i with | some key => s.stalls key | none => false) || s.chainWaits q i

/-- What an RDMA READ request asks for: key, address, length. -/
def readOf : Instr → Option (Nat × Nat × Nat)
  | .rdmaRead _ key va len => some (key, va, len)
  | _ => none

/-- A valid packet of a QP: its source MAC is learned, a CONNECTING QP is ACTIVE (R214, R229). -/
def State.noted (s : State) (q : Nat) (k : Pkt) : State :=
  (s.updQp q (fun x => { x with mac := k.smac, used := s.clk.ns })).toActive q

/-- A packet of a resident QP (R214, R218, R229, R231, R237); the CE mark of a packet that is dropped sends no CNP. -/
def State.atQp (s : State) (q : Nat) (k : Pkt) (req : Bool) (i : Instr) : State :=
  let t := s.noted q k
  let u := t.ceMark q k
  let st := (t.qp q).st
  if req = false then
    (if st = .error then match i with | .ack _ => u.response q i | .rdmaReadResponse _ _ _ => u.response q i | _ => u
      else u.response q i)
  else
    match t.psnOrder q k.psn with
    | 1 => (u.duplicate q k.psn (readOf i)).moveAccs (.qp q)
    | o =>
      if st ≠ .active then t.addCnt 64 Obj.tpDrainDrops 0 1
      else if t.mustHold q i then t.updQp q (fun x => { x with held := x.held ++ [i] })
      else if o = 2 then t.outOfSeq q
      else u.rxRequest q i

/-- The packet an instruction is, and whether it is a request the device receives as responder (R341). -/
def pktOf : Instr → Option (Pkt × Bool)
  | .ack k => some (k, false)
  | .nakSequenceError k => some (k, false)
  | .rnrNak k => some (k, false)
  | .nakError k _ => some (k, false)
  | .rdmaReadResponse k _ _ => some (k, false)
  | .cnp k => some (k, false)
  | .invalidOpcodePacket k _ => some (k, true)
  | .fabricsConnect k _ _ _ _ _ _ _ _ _ => some (k, true)
  | .propertyGet k _ _ => some (k, true)
  | .propertySet k _ _ _ => some (k, true)
  | .disconnect k _ => some (k, true)
  | .identify k _ _ _ _ => some (k, true)
  | .getLogPage k _ _ _ _ _ => some (k, true)
  | .setFeatures k _ _ _ => some (k, true)
  | .getFeatures k _ _ => some (k, true)
  | .asynchronousEventRequest k _ => some (k, true)
  | .keepAlive k _ => some (k, true)
  | .abort k _ => some (k, true)
  | .nvmeRead k _ _ _ _ _ _ => some (k, true)
  | .nvmeWrite k _ _ _ _ _ _ => some (k, true)
  | .writeZeroes k _ _ _ _ => some (k, true)
  | .nvmeFlush k _ _ => some (k, true)
  | .rdmaWrite k _ _ _ _ _ _ _ => some (k, true)
  | .knotWrite k _ _ _ _ => some (k, true)
  | .rdmaRead k _ _ _ => some (k, true)
  | .eyeletFlush k => some (k, true)
  | .chainArm k _ => some (k, true)
  | .chainDisarm k _ => some (k, true)
  | .sendWithImmediate k _ _ _ => some (k, true)
  | _ => none

/-- A frame at a port before its meaning: the port's own drops (R209, R210, R213, R223). None where it is dropped. -/
def State.frameIn (s : State) (k : Pkt) : State × Bool :=
  if s.ports ≤ k.port ∨ s.linkUp k.port k.sub = false then (s, false)
  else
    let t := s.addCnt 64 Obj.ethRxFrames k.port 1
    if k.fecBad then (t.addCnt 64 Obj.ethFecUncorrected k.port 1, false)
    else if s.rw Obj.ethMtu k.port < k.len then (t.addCnt 64 Obj.ethRxDrops k.port 1, false)
    else if k.dmac ≠ some (4 * k.port + k.sub) ∨ s.gidOf k = none ∨ k.dport ≠ 4791 then (t.addCnt 64 Obj.ethAddrDrops k.port 1, false)
    else if k.icrcBad then (t.addCnt 64 Obj.ethIcrcDrops k.port 1, false)
    else
      let u := if s.rw Obj.dscpTc (k.port * 64 + k.dscp) = 7 then t.addCnt 64 Obj.ethTc7Remap k.port 1 else t
      (if k.ce then u.addCnt 64 Obj.ethCeReceived k.port 1 else u, true)

/-- A packet's QP, where its source matches (R225). -/
def State.ownerQp (s : State) (k : Pkt) : Option Nat :=
  match pktQpn k with
  | none => none
  | some q =>
    let x := s.qp q
    if x.st ∈ [.connecting, .active, .draining, .error] ∧ x.ip = k.src ∧ 0xC000 ≤ k.sport then some q else none

/-- A packet of a non-resident QP waits in its port's context-miss queue, or is dropped while that is full (R233, R234). -/
def State.missed (s : State) (k : Pkt) (i : Instr) : State :=
  let n := (s.port k.port).miss.length
  if 256 ≤ n then s.addCnt 64 Obj.ethMissDrops k.port 1
  else (s.updPort k.port (fun p => { p with miss := p.miss ++ [i] })).maxCnt Obj.ethMissMax k.port (n + 1)

/-- A CNP is counted at its port. -/
def State.countCnp (t : State) (k : Pkt) : Instr → State
  | .cnp _ => t.addCnt 64 Obj.ethCnpReceived k.port 1
  | _ => t

/-- A packet's way from the port to its QP. -/
def State.receive (s : State) (i : Instr) : State :=
  match pktOf i with
  | none => s
  | some (k, req) =>
    match s.frameIn k with
    | (t, false) => t
    | (t, true) =>
      match t.ownerQp k with
      | none => t.addCnt 64 Obj.ethSpoofDrops k.port 1
      | some q =>
        let t1 := t.countCnp k i
        match (if req then t1.police k (t1.qp q).host else (t1, true)) with
        | (u, false) => u
        | (u, true) => if (u.qp q).resident then u.atQp q k req i else u.missed k i

/-- Runs packets of a QP that waited, in order. -/
def State.rerun (s : State) (q : Nat) (l : List Instr) : State :=
  l.foldl (fun t i => match pktOf i with
    | some (k, req) => t.atQp q k req i
    | none => t) s

/-- Packets held behind knots, responses or a key cache update go on. -/
def State.rxMore (s : State) (q : Nat) : State :=
  let l := (s.qp q).held
  (s.updQp q (fun x => { x with held := [] })).rerun q l

/-- Whether a waiting instruction is a packet of a QP. -/
def isOf (q : Nat) (i : Instr) : Bool :=
  match pktOf i with
  | some (k, _) => pktQpn k = some q
  | none => false

/-- QPs with a packet in a miss queue. -/
def State.queuedQp (s : State) (q : Nat) : Bool := s.net.ports.any (fun e => e.2.miss.any (isOf q))

/-- CONTEXT_FETCH_START (R235); a fetch that has to wait is counted once. -/
def State.fetchStart (s : State) (q : Nat) : State :=
  let x := s.qp q
  if x.st = .idle ∨ x.resident ∨ x.fetching ∨ (s.queuedQp q = false ∧ x.txq = []) then s
  else
    match s.makeRoom s.queuedQp with
    | some t => (t.updQp q (fun x => { x with fetching := true, fetchWait := false })).addCnt 64 Obj.tpMissFetches 0 1
    | none => if x.fetchWait then s else (s.updQp q (fun x => { x with fetchWait := true })).addCnt 64 Obj.tpFetchWaits 0 1

/-- CONTEXT_FETCH_DONE (R233): the queued packets run in arrival order, then what the device had to send. -/
def State.fetchDone (s : State) (q : Nat) : State :=
  let x := s.qp q
  if x.fetching = false then s
  else
    let l := (s.port x.port).miss.filter (isOf q)
    let t := (s.updQp q (fun x => { x with fetching := false, resident := true })).updPort x.port (fun p =>
      { p with miss := p.miss.filter (fun i => !isOf q i) })
    (t.rerun q l).issueTx q

/-- Answers an ARP request or a Neighbor Solicitation for an entry's address (R212, R213). -/
def State.resolveAddr (s : State) (k : Pkt) (target : Nat) (v6 : Bool) : State :=
  if s.ports ≤ k.port ∨ s.linkUp k.port k.sub = false then s
  else
    let t := s.addCnt 64 Obj.ethRxFrames k.port 1
    if k.fecBad then t.addCnt 64 Obj.ethFecUncorrected k.port 1
    else
      match s.gidOf { k with dst := target, v6 := v6 } with
      | none => t.addCnt 64 Obj.ethAddrDrops k.port 1
      | some _ =>
        t.sendFrame { port := k.port, sub := k.sub, cls := 0, len := if v6 then 90 else 64, data := false, ect := false
                      body := if v6 then .neighbor target else .arp target }

/-- A CM message to a QP of this device: the frame is accepted and its source is the QP's host. -/
def State.cmIn (s : State) (k : Pkt) (q : Nat) (go : State → State) : State :=
  match s.frameIn k with
  | (t, false) => t
  | (t, true) => if (t.qp q).st ≠ .idle ∧ (t.qp q).ip = k.src then go t else t

/-- QP_PIN_WRITE's limit (R236). -/
def State.pins (s : State) : Nat := ((s.effRows Obj.qpPin).filter (fun e => e.2 = 1)).length

end Sys2Proof.Machine
end

