-- ==== Sys2Proof/Machine/Endpoint.lean ====
section
/-!
DEFINITION. Machine/Endpoint.lean: the endpoint's functions (R402, R403), interrupts (R405, R406), host reads and writes
(R399, R407, R441) and peer windows (R408 to R415).
-/

namespace Sys2Proof.Machine

/-! ### Functions -/

/-- A function. -/
def State.fn (s : State) (f : Nat) : EpFn := Tbl.get {} s.ep.fns f

/-- Changes a function. -/
def State.updFn (s : State) (f : Nat) (g : EpFn → EpFn) : State :=
  { s with ep := { s.ep with fns := Tbl.upd {} s.ep.fns f g } }

/-- Whether a function is there: the PF, or a VF while VF Enable is 1 and NumVFs reaches it (R402). -/
def State.fnThere (s : State) (f : Nat) : Bool := f = 0 || (s.ep.vfEnable && decide (f ≤ s.ep.numVfs) && decide (f < 128))

/-- The functions that are there. -/
def State.fnList (s : State) : List Nat := (List.range 128).filter s.fnThere

/-- Whether a function may issue requests: bus-master enable in D0 (R399, R416). -/
def EpFn.master (x : EpFn) : Bool := x.bme && !x.d3

/-- Whether the endpoint is FROZEN: the fence of port 9 (R420). -/
def State.frozen (s : State) : Bool := s.isFenced 1 9

/-- Whether the endpoint link is up. -/
def State.epUp (s : State) : Bool := s.cntAt Obj.epLinkWidth 0 ≠ 0

/-- Whether memory TLPs are served: link up, from S7 until service ends (Table 15-4, R499). -/
def State.epServes (s : State) : Bool := s.epUp && s.inS7 && s.boot.svcOpen

/-! ### Interrupts -/

/-- Signals a vector (R405): sent, or kept in the PBA while it is masked or bus-master enable is 0, or nothing goes
upstream (R420). Without MSI-X the cause just latches (R406). -/
def State.signal (s : State) (f v : Nat) : State :=
  let x := s.fn f
  let e := Tbl.get {} x.vecs v
  if x.msix = false then s
  else if x.master = false ∨ x.fmask ∨ e.masked ∨ s.frozen then
    s.updFn f (fun x => { x with pba := if x.pba.contains v then x.pba else x.pba ++ [v] })
  else s.emit (.pcie (.msi f v e.addr e.data))

/-- Sends what the PBA holds and may go now (R405). -/
def State.sendPba (s : State) (f : Nat) : State :=
  let x := s.fn f
  let t := s.updFn f (fun x => { x with pba := [] })
  x.pba.foldl (fun u v => u.signal f v) t

/-- An AER error of a function; while FROZEN nothing goes upstream (R420). -/
def State.epErr (s : State) (f n : Nat) : State := if s.frozen then s else s.emit (.pcie (.err f n))

/-- `EP_INTX_STATUS.EVT` rises: vector 1 of the PF, vector 0 of a VF (R405). -/
def State.epEvt (s : State) (f : Nat) : State :=
  (s.updFn f (fun x => { x with evt := true })).later (.irq f (if f = 0 then 1 else 0))

/-- Sets a bit of `EP_FN_STATUS` [4:2]: 2 `CTO`, 3 `UNEXP`, 4 `WIN_ERR`; `EVT` rises with it (Table 12-3). -/
def State.fnStatus (s : State) (f b : Nat) : State :=
  let x := s.fn f
  let was := if b = 2 then x.cto else if b = 3 then x.unexp else x.winErr
  let t := s.updFn f (fun x => { x with cto := x.cto || b = 2, unexp := x.unexp || b = 3, winErr := x.winErr || b = 4 })
  if was then t else t.epEvt f

/-! ### Host reads and writes -/

/-- The channel a read serves, if a channel. -/
def PRead.chan (r : PRead) : Option Nat :=
  match r.who with
  | .desc c => some c
  | .data c => some c
  | .barrier c => some c
  | _ => none

/-- The channel read that goes next (R441): SH0 to SH3 first, then the channel whose turn it is until it moved
`sh.quantum`, then the next in order. With it the turn and the bytes moved in it. -/
def State.pickSh (s : State) (w : List PRead) : Option (PRead × Nat × Nat) :=
  match w.find? (fun r => match r.chan with | some c => decide (c < 4) | none => false) with
  | some r => some (r, s.ep.shTurn, s.ep.shMoved)
  | none =>
    let here := w.find? (fun r => r.chan = some s.ep.shTurn)
    match (if s.ep.shMoved < s.rw Obj.shQuantum 0 * 1024 then here else none) with
    | some r => some (r, s.ep.shTurn, s.ep.shMoved + r.len)
    | none =>
      let key := fun (r : PRead) => (r.chan.getD 0 + 31 - s.ep.shTurn) % 32
      match sortBy (fun a b => decide (key a ≤ key b)) (w.filter (fun r => r.chan ≠ none)) with
      | r :: _ => some (r, r.chan.getD 0, r.len)
      | [] => none

/-- Sends a waiting read. -/
def State.sendRead (s : State) (r : PRead) : State :=
  let t : State := { s with ep := { s.ep with
    reads := updWhere (fun (q : PRead) => decide (q.id = r.id)) (fun q => { q with issued := true }) s.ep.reads } }
  t.emit (.pcie (.read r.id r.fn r.addr r.len r.ro))

/-- Non-posted requests outstanding, tags not yet free for use among them (R399, R416). -/
def State.readsOut (s : State) : Nat := (s.ep.reads.filter (fun r => r.issued && decide (r.fn ≠ 0xFF))).length

/-- Issues one waiting read, of a function that may master the bus (R416): at most 768 outstanding (R399); rings and channels alternate, 4 KiB at a time (R441). -/
def State.pumpOne (s : State) : Option State :=
  let w := s.ep.reads.filter (fun r => !r.issued && !r.dead && decide (r.fn ≠ 0xFF) && (s.fn r.fn).master)
  if w = [] ∨ 768 ≤ s.readsOut ∨ s.frozen then none
  else
    let ringRd := w.find? (fun r => r.chan = none)
    let side := fun (sh : Bool) (n : Nat) (t : State) =>
      let b := if s.ep.shSide = sh then s.ep.sideBytes + n else n
      ({ t with ep := { t.ep with shSide := if 4096 ≤ b then !sh else sh, sideBytes := if 4096 ≤ b then 0 else b } } : State)
    match ringRd, s.pickSh w with
    | some r, none => some (side false r.len (s.sendRead r))
    | some r, some q =>
      if s.ep.shSide then
        let t := s.sendRead q.1
        some (side true q.1.len { t with ep := { t.ep with shTurn := q.2.1, shMoved := q.2.2 } })
      else some (side false r.len (s.sendRead r))
    | none, some q =>
      let t := s.sendRead q.1
      some (side true q.1.len { t with ep := { t.ep with shTurn := q.2.1, shMoved := q.2.2 } })
    | none, none => none

/-- Issues the reads that may go; `n` bounds them. -/
def State.pumpReads : Nat → State → State
  | 0, s => s
  | n + 1, s => match s.pumpOne with
    | some t => State.pumpReads n t
    | none => s

/-- The pieces of a read at the function's Max Read Request Size (R399): offset and length. -/
def splitAt_ (len m : Nat) : List (Nat × Nat) :=
  if len = 0 then [(0, 0)] else (List.range ((len + m - 1) / m)).map (fun i => (i * m, min m (len - i * m)))

/-- Asks the host for bytes. -/
def State.askRead (s : State) (f addr len : Nat) (ro : Bool) (who : RdFor) (off : Nat) : State :=
  let m := if f = 0xFF then max 1 len else (s.fn f).mrrs
  (splitAt_ len (max 1 m)).foldl (fun t p =>
    let r : PRead := { id := t.ep.nextRd, fn := f, addr := addr + p.1, len := p.2, ro := ro && (t.fn f).ro, who := who
                       off := off + p.1 }
    let u : State := { t with ep := { t.ep with reads := t.ep.reads ++ [r], nextRd := t.ep.nextRd + 1 } }
    if f = 0xFF then u.sendRead r else u) s

/-- Writes bytes to the host, at most Max Payload Size a TLP (R399). -/
def State.hostWrite (s : State) (f addr len data : Nat) (ro : Bool) : State :=
  let m := if f = 0xFF then max 1 len else (s.fn f).mps
  if len = 0 then s
  else (splitAt_ len (max 1 m)).foldl (fun t p =>
    t.emit (.pcie (.write f (addr + p.1) p.2 (bits data (8 * p.1) (8 * p.2)) (ro && (t.fn f).ro)))) s

/-- Reads no longer wanted: those not yet issued are gone, those issued are discarded as they arrive, silently dropped
until `till` where it is given (Table 12-8). -/
def State.killReads (s : State) (p : PRead → Bool) (till : Option Nat) : State :=
  { s with ep := { s.ep with reads := (s.ep.reads.filter (fun r => !p r || r.issued)).map (fun r =>
      if p r && !r.dead then { r with dead := true, till := till } else r) } }

/-- Adds bytes that arrived. -/
def Gather.add (g : Gather) (off len data : Nat) : Gather :=
  { data := g.data + (data % 2 ^ (8 * len)) * 2 ^ (8 * off), here := g.here ++ [(off, len)] }

/-- How far the bytes from `pos` on are here without a gap; `n` bounds the pieces. -/
def reach (l : List (Nat × Nat)) : Nat → Nat → Nat
  | 0, pos => pos
  | n + 1, pos =>
    match l.find? (fun p => decide (p.1 ≤ pos) && decide (pos < p.1 + p.2)) with
    | some p => reach l n (p.1 + p.2)
    | none => pos

/-- Whether bytes are all here. -/
def Gather.has (g : Gather) (off len : Nat) : Bool := decide (off + len ≤ reach g.here (g.here.length + 1) off)

/-- The pieces of a host segment list that hold `len` bytes from stream offset `off` on: address, bytes, stream offset. -/
def segSpans : List (Nat × Nat) → Nat → Nat → Nat → List (Nat × Nat × Nat)
  | [], _, _, _ => []
  | (a, n) :: r, base, off, len =>
    let lo := max off base
    let hi := min (off + len) (base + n)
    let tl := segSpans r (base + n) off len
    if lo < hi then (a + (lo - base), hi - lo, lo) :: tl else tl

/-- Device timeout of a Completion Timeout Value in ns (Table 12-9). -/
def ctoTime (v : Nat) : Nat :=
  if v = 1 then 80000
  else if v = 2 then 8000000
  else if v = 6 then 180000000
  else if v = 9 then 800000000
  else if v = 0xA then 3000000000
  else if v = 0xD then 12000000000
  else if v = 0xE then 60000000000
  else 40000000

/-- The eyelet checks of an access by a function (R403): host 0xFFFF fails with cause 7. -/
def State.fnCheck (s : State) (f key perm off len : Nat) (wr : Bool) : Nat :=
  if s.rw Obj.fnHost f = 0xFFFF then 7 else s.eyeCheck key (s.rw Obj.fnHost f) perm off len wr

/-! ### Peer windows -/

/-- A window. -/
def State.win (s : State) (w : Nat) : Win := Tbl.get {} s.ep.wins w

/-- Changes a window. -/
def State.updWin (s : State) (w : Nat) (f : Win → Win) : State :=
  { s with ep := { s.ep with wins := Tbl.upd {} s.ep.wins w f } }

/-- log2 of the bytes of a window's slot. -/
def State.slotBits (s : State) : Nat := s.rw Obj.epBar2Size 0 - 6

/-- Fields of `EP_WIN_CTRL`. -/
def WinRegs.en (r : WinRegs) : Bool := bit r.ctrl 0
/-- Eyelet offset in 4 KiB units. -/
def WinRegs.eoff (r : WinRegs) : Nat := r.eoffLo + (r.eoffHi % 256) * 2 ^ 32
/-- Length in 4 KiB units. -/
def WinRegs.size (r : WinRegs) : Nat := r.len % 2 ^ 21
/-- The function whose host row is used. -/
def WinRegs.func (r : WinRegs) : Nat := bits r.ctrl 8 7
/-- A reserved field of the shadow is nonzero. -/
def WinRegs.reserved (r : WinRegs) : Bool :=
  r.eoffHi / 256 ≠ 0 || r.len / 2 ^ 21 ≠ 0 || bits r.ctrl 4 4 ≠ 0 || bits r.ctrl 15 1 ≠ 0

/-- A peer access: its window's TLPs of the previous generation that have not finished (R411). -/
def State.winOld (s : State) (w : Nat) : Bool :=
  s.net.accs.any (fun a => (match a.who with | .peer _ => true | _ => false) && a.slot = w && a.host ≠ (s.win w).gen)

/-- A BAR2 TLP failed (R409): the window's log, `WIN_ERR`, AER, the event; a read is completed. -/
def State.winFail (s : State) (w cause reqid slotOff key : Nat) (read : Option (Nat × Nat × Bool)) (wr : Bool) : State :=
  let t := s.updWin w (fun x => { x with err := true, cause := cause, reqid := reqid, off := slotOff / 4096 })
  let u := ((t.addCnt 32 Obj.winErrors w 1).fnStatus 0 4).epErr 0 (if cause = 16 then 1 else if cause = 19 then 5 else 4)
  let v := if cause = 12 ∨ cause = 13 then
      u.ownerNotice (s.eye (key % 16384)).owner 0xE0 (key % 16384) (cause + 0xFFFF * 256)
    else if cause ≤ 15 then
      u.violation (key % 16384) (s.rw Obj.fnHost (s.win w).act.func) cause 0xFFFF (if wr then 0x0A else 0x0C)
        ((s.win w).act.eoff * 4096 + slotOff)
    else u.later (.detect 0x905 1 9 0)
  match read with
  | some (tag, _, ro) => v.emit (.pcie (.cpl reqid tag (if cause = 16 then 1 else 4) 0 0 ro))
  | none => v

/-- The checks of a BAR2 TLP before the eyelet's (Table 12-6): 0, 16, 17 or 18. -/
def WinRegs.check (r : WinRegs) (reqid slotOff : Nat) (wr : Bool) : Nat :=
  if r.en = false ∨ r.size * 4096 ≤ slotOff then 16
  else if bit r.ctrl 3 ∧ bits r.ctrl 16 16 ≠ reqid then 17
  else if bit r.ctrl (if wr then 1 else 2) = false then 18
  else 0

/-- Bytes in the peer write buffer (R415). -/
def State.peerBytes (s : State) : Nat :=
  s.net.accs.foldl (fun n a => match a.who with
    | .peer _ => if a.isWrite && !a.placed then n + a.len else n
    | _ => n) 0

/-- Whether the peer write buffer is full: posted credits are withheld (R415). -/
def State.peerFull (s : State) : Bool := 2097152 ≤ s.peerBytes

/-- A BAR2 write at its window (R408, R412, R414): translated, checked, admitted; with RO = 0 it waits for earlier writes of
its Requester ID as a knot does. -/
def State.peerWriteAt (s : State) (w reqid slotOff len data : Nat) (ro poison : Bool) : State :=
  let r := (s.win w).act
  let off := r.eoff * 4096 + slotOff
  let c := r.check reqid slotOff true
  let d := s.fnCheck r.func r.key 0 off len true
  if c ≠ 0 then s.winFail w c reqid slotOff r.key none true
  else if d ≠ 0 then s.winFail w d reqid slotOff r.key none true
  else if poison then s.winFail w 19 reqid slotOff r.key none true
  else
    let a := s.admitAcc (.peer reqid) (if ro then .write else .knot) (r.key % 16384) off len 0 0
    let t := (a.1.updAcc a.2 (fun x => { x with slot := w, host := (s.win w).gen, issued := ro, got := len, psn := slotOff
                                                data := data % 2 ^ (8 * len) })).askFrames a.2
    (t.accDeliver a.2).moveAccs (.peer reqid)

/-- A BAR2 read at its window (R408, R413). -/
def State.peerReadAt (s : State) (w reqid tag slotOff len : Nat) (ro : Bool) : State :=
  let r := (s.win w).act
  let off := r.eoff * 4096 + slotOff
  let c := r.check reqid slotOff false
  let d := s.fnCheck r.func r.key 1 off len false
  if c ≠ 0 then s.winFail w c reqid slotOff r.key (some (tag, len, ro)) false
  else if d ≠ 0 then s.winFail w d reqid slotOff r.key (some (tag, len, ro)) false
  else
    let a := s.admitAcc (.peer reqid) .read (r.key % 16384) off len tag (b2n ro)
    (a.1.updAcc a.2 (fun x => { x with slot := w, host := (s.win w).gen, got := slotOff })).moveAccs (.peer reqid)

/-- Peer reads under way complete no more: the endpoint was reset or froze. -/
def State.dropPeerReads (s : State) : State :=
  let mine := fun (a : EyeAcc) => (match a.who with | .peer _ => true | _ => false) && a.kind = .read
  { s with net := { s.net with accs := updWhere mine (fun a => { a with n := 2 }) s.net.accs } }

/-- Completes a read with all ones, as reads are while FROZEN (R420). -/
def State.onesCpl (s : State) (reqid tag len : Nat) (ro : Bool) : State :=
  s.emit (.pcie (.cpl reqid tag 0 len (2 ^ (8 * len) - 1) ro))

/-- Peer TLPs that wait or are served as the endpoint freezes (R420): writes that wait are discarded, reads complete
with all ones. -/
def State.freezePeers (s : State) : State :=
  let wait := s.ep.stalled ++ (s.ep.wins.map (fun e => e.2.stalled)).flatten
  let t := wait.foldl (fun u i => match i with | .peerRead rq tag _ len ro => u.onesCpl rq tag len ro | _ => u) s
  let u := t.net.accs.foldl (fun v a => match a.who with
    | .peer rq => if a.kind = .read && decide (a.n < 2) then v.onesCpl rq a.psn a.len (decide (a.n = 1)) else v
    | _ => v) t
  State.dropPeerReads { u with ep := { u.ep with stalled := [], wins := Tbl.mapRows {} (fun _ x => { x with stalled := [] }) u.ep.wins } }

/-- A BAR2 TLP: its window's slot, stalled while a commit of the window is busy (R411). -/
def State.peerTlp (s : State) (off : Nat) (i : Instr) (go : Nat → Nat → State → State) : State :=
  let w := off / 2 ^ s.slotBits % 64
  if (s.win w).busy then s.updWin w (fun x => { x with stalled := x.stalled ++ [i] })
  else go w (off % 2 ^ s.slotBits) s

/-- A BAR2 command. -/
def State.bar2 (s : State) (i : Instr) : State :=
  match i with
  | .peerWrite reqid off len data ro poison =>
    s.peerTlp off i (fun w o t => t.peerWriteAt w reqid o len data ro poison)
  | .peerRead reqid tag off len ro => s.peerTlp off i (fun w o t => t.peerReadAt w reqid tag o len ro)
  | _ => s

/-- WINDOW_COMMIT (R411): `GO`. -/
def State.winCommit (s : State) (w : Nat) : State :=
  let x := s.win w
  let r := x.sh
  let fail := fun (n : Nat) => s.updWin w (fun x => { x with result := n })
  if x.busy ∨ s.winOld w then fail 5
  else if r.en ∧ (s.eye (r.key % 16384)).st ≠ 1 then fail 1
  else if r.en ∧ s.fnThere r.func = false then fail 2
  else if r.en ∧ 2 ^ s.slotBits < r.size * 4096 then fail 3
  else if r.reserved then fail 4
  else s.updWin w (fun x => { x with busy := true, take_ := r })

/-- WINDOW_UPDATE_POINT (R411): the set taken becomes active, `GEN` rises, stalled TLPs go on in arrival order. -/
def State.winUpdate (s : State) (w : Nat) : State :=
  let x := s.win w
  if x.busy = false then s
  else
    let t := s.updWin w (fun x => { x with
      act := x.take_, take_ := {}, gen := wrapAdd 16 x.gen 1, busy := false, result := 0, stalled := [] })
    x.stalled.foldl (fun u i => u.bar2 i) t

/-- An access of a peer ended: its read is completed, or it was aborted (R409, R413, R414). A read whose completion is
not wanted any more (`n` is 2) says nothing. -/
def State.peerDone (s : State) (a : EyeAcc) (reqid status data : Nat) : State :=
  let slotOff := if a.kind = .read then a.got else a.psn
  let ro := a.n = 1
  if a.kind = .read then
    if 2 ≤ a.n then s
    else if status = 0 then s.emit (.pcie (.cpl reqid a.psn 0 a.len data ro))
    else if status = 12 ∨ status = 13 then s.winFail a.slot status reqid slotOff a.row (some (a.psn, a.len, ro)) false
    else s.emit (.pcie (.cpl reqid a.psn 4 0 0 ro))
  else if status = 0 then s
  else s.winFail a.slot status reqid slotOff a.row none true

end Sys2Proof.Machine
end

