-- ==== Sys2Proof/Machine/Rings.lean ====
section
/-!
DEFINITION. Machine/Rings.lean: work rings: entries and jobs (R424 to R427), ownership and completion (R428 to R431),
doorbell and arbitration (R432, R433), malformed entries (R434, R435), states (R436 to R438).
-/

namespace Sys2Proof.Machine

/-! ### Entries (Table 13-1): a 64-byte entry as a little-endian number -/

def entOwn (e : Nat) : Bool := bit e 0
def entLap (e : Nat) : Bool := bit e 1
def entFirst (e : Nat) : Bool := bit e 2
def entLast (e : Nat) : Bool := bit e 3
def entStrict (e : Nat) : Bool := bit e 4
def entRoh (e : Nat) : Bool := bit e 5
def entIrq (e : Nat) : Bool := bit e 6
def entOp (e : Nat) : Nat := bits e 8 8
def entTarget (e : Nat) : Nat := bits e 32 32
def entToff (e : Nat) : Nat := bits e 64 64
def entHaddr (e : Nat) : Nat := bits e 128 64
def entHlen (e : Nat) : Nat := bits e 192 24

/-- Whether a reserved field of an entry is nonzero, or its opcode is reserved (R424, Table 13-2). -/
def entReserved (e : Nat) (first : Bool) : Bool :=
  bit e 7 || bits e 24 8 ≠ 0 || bits e 216 8 ≠ 0 || bits e 384 128 ≠ 0 || 5 < entOp e
    || ((entOp e = 0 || entOp e = 5) && (entTarget e ≠ 0 || entToff e ≠ 0 || entHaddr e ≠ 0 || entHlen e ≠ 0))
    || ((entOp e = 1 || entOp e = 2) && first && entTarget e / 4096 ≠ 0)
    || (!first && (entTarget e ≠ 0 || entToff e ≠ 0))

/-! ### Rings and jobs -/

/-- A ring: 0 to 2047, IRing n is ring 2048 + n. -/
def State.ring (s : State) (r : Nat) : Ring := Tbl.get {} s.ep.rings r

/-- Changes a ring. -/
def State.updRing (s : State) (r : Nat) (f : Ring → Ring) : State :=
  { s with ep := { s.ep with rings := Tbl.upd {} s.ep.rings r f } }

/-- The function that owns a ring (R402); none for an IRing. -/
def State.ringFn (s : State) (r : Nat) : Option Nat :=
  if 2048 ≤ r then none
  else s.fnList.find? (fun f => decide (s.rw Obj.fnRingBase f ≤ r) && decide (r < s.rw Obj.fnRingBase f + s.rw Obj.fnRingCount f))

/-- The function number a ring's TLPs carry: 0xFF for an IRing's accesses to device DRAM. -/
def State.ringNo (s : State) (r : Nat) : Nat := (s.ringFn r).getD 0xFF

/-- Whether a ring may reach host memory: an IRing always (R425: bus-master enable does not apply). -/
def State.ringMaster (s : State) (r : Nat) : Bool :=
  if 2048 ≤ r then true else match s.ringFn r with | some f => (s.fn f).master | none => false

/-- The ring a function's local index names (R401). -/
def State.localRing (s : State) (f i : Nat) : Option Nat :=
  if s.fnThere f ∧ i < s.rw Obj.fnRingCount f then some (s.rw Obj.fnRingBase f + i) else none

/-- A job of a ring by its number. -/
def State.job (s : State) (r id : Nat) : Option RJob := (s.ring r).jobs.find? (fun j => j.id = id)

/-- Changes a job. -/
def State.updJob (s : State) (r id : Nat) (f : RJob → RJob) : State :=
  s.updRing r (fun x => { x with jobs := updWhere (fun j => j.id = id) f x.jobs })

/-- Opcode of a job. -/
def RJob.op (j : RJob) : Nat := entOp (j.ents.headD 0)
/-- `TARGET` of a job. -/
def RJob.target (j : RJob) : Nat := entTarget (j.ents.headD 0)
/-- `TOFF` of a job. -/
def RJob.toff (j : RJob) : Nat := entToff (j.ents.headD 0)
/-- Host segments of a job. -/
def RJob.segs (j : RJob) : List (Nat × Nat) := j.ents.map (fun e => (entHaddr e, entHlen e))
/-- Total `HLEN` of a job. -/
def RJob.bytes (j : RJob) : Nat := (j.ents.map entHlen).sum
/-- Relaxed-ordering hint. -/
def RJob.roh (j : RJob) : Bool := entRoh (j.ents.headD 0)

/-- Jobs in flight or held on a ring (`ring.inflight`). -/
def State.inflight (s : State) (r : Nat) : Nat := (s.ring r).jobs.length

/-- Jobs in flight across Ring 0 to 2047 (`rings.inflight`). -/
def State.allInflight (s : State) : Nat :=
  s.ep.rings.foldl (fun n e => if e.1 < 2048 then n + e.2.jobs.length else n) 0

/-- Jobs in flight across Ring 0 to 2047 with those the entries being fetched may yet start (R431). -/
def State.allClaimed (s : State) : Nat :=
  s.ep.rings.foldl (fun n e => if e.1 < 2048 then n + e.2.jobs.length + (e.2.reads.map (fun q => q.n)).sum else n) 0

/-- Signals a ring's vector: no sooner than `HOLDOFF` after the last signal (Table 13-5, R437). -/
def State.ringSignal (s : State) (r : Nat) : State :=
  let x := s.ring r
  let t := s.updRing r (fun x => { x with pend := true })
  match s.ringFn r with
  | none => t
  | some f =>
    if (match x.quiet with | some q => decide (s.clk.ns < q) | none => false) then t.updRing r (fun x => { x with sigWait := true })
    else (t.updRing r (fun x => { x with sigWait := false, quiet := some (s.clk.ns + x.holdoff * 1000) })).later (.irq f x.vec)

/-- IRQ_HOLDOFF_EXPIRY (R437). -/
def State.holdoffOver (s : State) (r : Nat) : State :=
  let x := s.ring r
  match x.quiet with
  | none => s
  | some q =>
    if s.clk.ns < q then s
    else
      let t := s.updRing r (fun x => { x with quiet := none })
      if x.sigWait ∧ x.pend then t.ringSignal r else t.updRing r (fun x => { x with sigWait := false })

/-! ### Ending jobs -/

/-- A job is finished: its completion waits to land. -/
def State.jobOver (s : State) (r id status detail xfer : Nat) : State :=
  s.updJob r id (fun j => if j.st = 2 then j else { j with st := 2, status := status, detail := detail, xfer := xfer })

/-- The hoop write of a ring job. -/
def State.jobWrite (s : State) (r id : Nat) : Option WCmd :=
  s.hoop.writes.find? (fun c => decide (c.req = Req.ring r id))

/-- Ends what a job still fetches from the host: an unfetched write gives its frames back. Work past admission runs on
(Table 12-8). -/
def State.cutJob (s : State) (r : Nat) (j : RJob) (till : Option Nat) : State :=
  let open_ := s.ep.reads.any (fun q => decide (q.who = RdFor.job r j.id) && !q.dead)
  let t := s.killReads (fun q => decide (q.who = RdFor.job r j.id)) till
  if open_ = false then
    -- a write none of whose frames was reserved yet has fetched nothing
    match t.jobWrite r j.id with
    | some c => if c.ranges.any (fun g => g.st = 0) then t.abandonWrite c.id else t
    | none => t
  else
    let u := match t.jobWrite r j.id with
      | some c => t.abandonWrite c.id
      | none => t
    match j.acc with
    | none => u
    | some a =>
      match u.acc a with
      | none => u
      | some x =>
        let v := match x.cmd with
          | some c => u.abandonWrite c
          | none => u
        (v.dropAcc a).rowSettle x.row

/-- Whether a job's host data was cut off, so that its entry is executed again or discarded. -/
def State.jobCut (s : State) (r : Nat) (j : RJob) : Bool :=
  s.ep.reads.any (fun q => decide (q.who = RdFor.job r j.id) && !q.dead)
    || (match s.jobWrite r j.id with | some c => c.ranges.any (fun g => decide (g.st = 0)) | none => false)

/-- Stops a ring's fetch: reads outstanding are discarded. -/
def State.stopFetch (s : State) (r : Nat) (till : Option Nat) : State :=
  (s.killReads (fun q => decide (q.who = RdFor.fetch r)) till).updRing r (fun x => { x with reads := [] })

/-- Drops every job of a ring: what is past admission runs to its end, completions are discarded. -/
def State.dropJobs (s : State) (r : Nat) (till : Option Nat) : State :=
  ((s.ring r).jobs.foldl (fun t j => t.cutJob r j till) s).updRing r (fun x => { x with jobs := [] })

/-- STOPPED_ERR (Tables 8-2, 13-6): fetch stops; `IDX` names the first entry not taken unless a malformed job latched it;
`PEND` and the vector (R437). -/
def State.ringErr (s : State) (r : Nat) : State :=
  let x := s.ring r
  if x.st ≠ .running ∧ x.st ≠ .stoppedBme then s
  else
    let t := (s.stopFetch r none).updRing r (fun x => { x with
      st := .stoppedErr, active := false, inRound := false
      errIdx := if x.part = [] then x.fetch else x.partIdx, errLap := if x.part = [] then x.lap else x.partLap
      errCause := 0, errOfs := 0, part := [] })
    t.ringSignal r

/-- A malformed job (R434): latched, the ring stops, its fence engages. -/
def State.malformed (s : State) (r idx : Nat) (lap : Bool) (cause ofs : Nat) : State :=
  let t := (s.stopFetch r none).updRing r (fun x => { x with
    st := .stoppedErr, active := false, inRound := false, part := [], errIdx := idx, errLap := lap, errCause := cause
    errOfs := ofs % 64 })
  (((t.addCnt 32 Obj.ringMalformed r 1).ringSignal r)).later (.detect 0x901 8 r 0)

/-- A host access of a job failed (R419, R427): status 2, the ring's fence engages. -/
def State.jobHostFail (s : State) (r id detail : Nat) : State :=
  match s.job r id with
  | none => s
  | some j =>
    ((s.cutJob r j none).jobOver r id 2 detail (reach j.buf.here (j.buf.here.length + 1) 0)).later (.detect 0x902 8 r 0)

/-! ### Fetch -/

/-- Whether a job's whole length breaks R426. -/
def State.lengthBad (s : State) (ents : List Nat) : Bool :=
  let e := ents.headD 0
  let n := (ents.map entHlen).sum
  if entOp e = 3 ∨ entOp e = 4 then 8388608 < n
  else if entOp e = 1 ∨ entOp e = 2 then
    let ns := entTarget e
    let lba := s.rw Obj.nsLbaSize ns
    let w := lba + (if lba = 4096 then s.hostPi ns else 0)
    s.nsThere ns && (decide (n % max 1 w ≠ 0) || decide (8388608 < n / max 1 w * lba))
  else false

/-- The cause an entry makes its job malformed by (Table 13-4), 0 when none: `part` holds the job's earlier entries. -/
def State.entCause (s : State) (part : List Nat) (e : Nat) : Nat :=
  let first := part = []
  if entReserved e first then 1
  else if entFirst e ≠ first then 2
  else if part.length = 63 ∧ entLast e = false then 3
  else if (!first && entOp e ≠ entOp (part.headD 0)) || ((entOp e = 0 || entOp e = 5) && !(entFirst e && entLast e)) then 4
  else if 1 ≤ entOp e ∧ entOp e ≤ 4 ∧ (entHlen e = 0 ∨ 8388608 < entHlen e) then 5
  else if entLast e ∧ s.lengthBad (part ++ [e]) then 5
  else 0

/-- A job starts (R425): its `LAST` entry was fetched. -/
def State.newJob (s : State) (r idx : Nat) (ents : List Nat) : State :=
  let j : RJob := { id := s.ep.nextJob, idx := idx, ents := ents }
  ({ s with ep := { s.ep with nextJob := s.ep.nextJob + 1 } } : State).updRing r (fun x => { x with jobs := x.jobs ++ [j], part := [] })

/-- Ends a ring's activity; a doorbell kept makes it active again (R432). -/
def State.scanEnd (s : State) (r : Nat) : State :=
  (s.stopFetch r none).updRing r (fun x => { x with active := x.db, db := false, inRound := false })

/-- Takes fetched entries in ring order (R428): true while they could all be taken. -/
def State.takeEnts (r : Nat) : List Nat → State → State × Bool
  | [], s => (s, true)
  | e :: l, s =>
    let x := s.ring r
    if entOwn e = false then (s.scanEnd r, false)
    else if entLap e ≠ x.lap then ((s.addCnt 32 Obj.ringLapSkips r 1).scanEnd r, false)
    else
      let first := x.part = []
      let idx := if first then x.fetch else x.partIdx
      let lap := if first then x.lap else x.partLap
      let c := s.entCause x.part e
      if c ≠ 0 then (s.malformed r idx lap c x.part.length, false)
      else
        let wrap := x.fetch + 1 = 2 ^ x.log2
        let t := s.updRing r (fun x => { x with
          fetch := if wrap then 0 else x.fetch + 1, lap := if wrap then !x.lap else x.lap
          part := x.part ++ [e], partIdx := idx, partLap := lap })
        State.takeEnts r l (if entLast e then t.newJob r idx (x.part ++ [e]) else t)

/-- Takes the reads that are here, oldest first; `n` bounds them. -/
def State.takeReads (r : Nat) : Nat → State → State
  | 0, s => s
  | n + 1, s =>
    match (s.ring r).reads with
    | ⟨_, _, some es⟩ :: l =>
      match State.takeEnts r es (s.updRing r (fun x => { x with reads := l })) with
      | (t, true) => State.takeReads r n t
      | (t, false) => t
    | _ => s

/-- RING_FETCH_DONE (R428, R432, R434). -/
def State.fetchedEnts (s : State) (r id : Nat) (ents : List Nat) : State :=
  let t := s.updRing r (fun x => { x with
    reads := updWhere (fun (q : FetchRd) => decide (q.id = id)) (fun q => { q with got := some (ents.take q.n) }) x.reads })
  t.takeReads r ((s.ring r).reads.length + 1) 

/-- Whether a ring takes part in arbitration (R433): active, running, not blocked, below its limits (R431). -/
def State.mayFetch (s : State) (r : Nat) : Bool :=
  let x := s.ring r
  x.active && x.st = .running && !s.isFenced 8 r && !s.devFenced && !(r < 2048 && s.frozen)
    && decide (x.jobs.length + (x.reads.map (fun q => q.n)).sum < s.rw Obj.ringsJobLimit 0)
    && (2048 ≤ r || decide (s.allClaimed < 8192))

/-- Rings with something to fetch, in ring number order. -/
def State.fetchers (s : State) : List Nat := (s.ep.rings.map (fun e => e.1)).filter s.mayFetch

/-- A new round: each active ring's credit is its `WEIGHT`, IRings' 4 (R433). A ring at its limit (R431) is active too. -/
def State.newRound (s : State) : State :=
  ((s.ep.rings.filter (fun e => e.2.active && e.2.st = .running)).map (fun e => e.1)).foldl (fun t r => t.updRing r (fun x => { x with
    inRound := true, credit := if 2048 ≤ r then 4 else max 1 x.weight })) s

/-- The ring whose turn it is: the next after the last served with credit left in the round. -/
def State.nextTurn (s : State) : Option Nat :=
  let l := s.fetchers.filter (fun r => (s.ring r).inRound && decide (0 < (s.ring r).credit))
  (l.find? (fun r => decide (s.ep.turn < r))).orElse (fun _ => l.head?)

/-- Reads of `n` entries from index `i` on: at most 8 entries each, never across the ring's end (R432): index, entries. -/
def fetchSpans (size : Nat) : Nat → Nat → Nat → List (Nat × Nat)
  | 0, _, _ => []
  | k + 1, i, n =>
    if n = 0 then []
    else
      let m := min (min n 8) (size - i % size)
      (i % size, m) :: fetchSpans size k (i + m) (n - m)

/-- A ring's turn (R433): up to min(`BURST`, credit) entries are read. -/
def State.fetchTurnOf (s : State) (r : Nat) : State :=
  let x := s.ring r
  let burst := if 2048 ≤ r then 8 else min 64 (max 1 x.burst)
  let out := (x.reads.map (fun q => q.n)).sum
  let room := s.rw Obj.ringsJobLimit 0 - x.jobs.length - out
  let room2 := if 2048 ≤ r then room else min room (8192 - s.allClaimed)
  let n := min (min burst x.credit) room2
  let size := 2 ^ x.log2
  let t : State := { s.updRing r (fun x => { x with credit := x.credit - n }) with ep := { (s.updRing r (fun x => { x with credit := x.credit - n })).ep with turn := r } }
  (fetchSpans size (n + 1) (x.fetch + out) n).foldl (fun u p =>
    let id := u.ep.nextRd
    (u.updRing r (fun x => { x with reads := x.reads ++ [{ id := id, n := p.2 }] })).askRead (s.ringNo r) (x.base + 64 * p.1)
      (64 * p.2) false (.fetch r) 0) t

/-- RING_FETCH_TURN (R433): with no credit left in the round a new round starts. -/
def State.fetchTurn (s : State) : State :=
  match s.nextTurn with
  | some r => s.fetchTurnOf r
  | none =>
    let t := s.newRound
    match t.fetchers with
    | r :: _ => t.fetchTurnOf r
    | [] => s

/-! ### Jobs -/

/-- Starts a fetched job of a ring whose opcode is `op`; `idx` is the index of its `FIRST` entry. Without bus-master enable it
waits (Table 12-8); on a disabled ring it then never lands and is dropped (Table 13-6). -/
def State.runJob (s : State) (r idx op : Nat) (go : RJob → State → State) : State :=
  match (s.ring r).jobs.find? (fun j => j.idx = idx && j.st = 0 && j.op = op) with
  | none => s
  | some j =>
    if (s.ring r).st = .stoppedBme ∨ s.devFenced then s
    else if s.ringMaster r = false then
      if (s.ring r).st = .disabled then s.updRing r (fun x => { x with jobs := x.jobs.filter (fun k => k.id ≠ j.id) }) else s
    else go j (s.updJob r j.id (fun j => { j with st := 1 }))

/-- NOP. -/
def State.ringNop (s : State) (r idx : Nat) : State := s.runJob r idx 0 (fun j t => t.jobOver r j.id 1 0 0)

/-- Blocks of an NS job: block size on the wire. -/
def State.wireBlk (s : State) (ns : Nat) : Nat := s.rw Obj.nsLbaSize ns + (if s.rw Obj.nsLbaSize ns = 4096 then s.hostPi ns else 0)

/-- The status that stops an NS job before it starts (R426, Table 13-3). -/
def State.nsJobCheck (s : State) (r : Nat) (j : RJob) : Nat :=
  let ns := j.target
  let nlb := j.bytes / max 1 (s.wireBlk ns)
  match s.ringFn r with
  | some f =>
    if s.rw Obj.fnHost f = 0xFFFF then 0x00B else s.blockCheck (s.rw Obj.fnHost f) (ns + 1) j.toff nlb false
  | none =>
    if s.nsThere ns = false then 0x00B
    else if s.blocked 4 ns then 0x082
    else if s.nsBlocks ns < j.toff + nlb then 0x080
    else 0

/-- A 4-status of a job from an NVMe status: SC [7:0], SCT [10:8] (Table 13-3). -/
def State.jobStatus (s : State) (r id st : Nat) : State := s.jobOver r id 4 (st % 2048) 0

/-- NS_READ (R425, R426). -/
def State.ringNsRead (s : State) (r idx : Nat) : State :=
  s.runJob r idx 1 (fun j t =>
    let st := t.nsJobCheck r j
    let lba := t.rw Obj.nsLbaSize j.target
    if st ≠ 0 then t.jobStatus r j.id st
    else t.startRead (.ring r j.id) j.target (j.toff * lba) (j.bytes / max 1 (t.wireBlk j.target) * lba))

/-- NS_WRITE (R425, R426): admitted per stitch (R122). -/
def State.ringNsWrite (s : State) (r idx : Nat) : State :=
  s.runJob r idx 2 (fun j t =>
    let st := t.nsJobCheck r j
    let lba := t.rw Obj.nsLbaSize j.target
    if st ≠ 0 then t.jobStatus r j.id st
    else t.admitWrite (.ring r j.id) j.target (j.toff * lba) (j.bytes / max 1 (t.wireBlk j.target) * lba))

/-- The eyelet checks of a ring job (R403). An IRing has no host: cause 7. -/
def State.ringEyeCheck (s : State) (r : Nat) (j : RJob) (perm : Nat) (wr : Bool) : Nat :=
  match s.ringFn r with
  | some f => s.fnCheck f j.target perm j.toff j.bytes wr
  | none => 7

/-- A ring job's eyelet check failed: reported as a violation (R268), status 3. -/
def State.jobEyeFail (s : State) (r : Nat) (j : RJob) (cause op : Nat) : State :=
  (s.violation (j.target % 16384) (match s.ringFn r with | some f => s.rw Obj.fnHost f | none => 0xFFFF) cause 0xFFFF op
    j.toff).jobOver r j.id 3 cause 0

/-- EYE_READ (R425). -/
def State.ringEyeRead (s : State) (r idx : Nat) : State :=
  s.runJob r idx 3 (fun j t =>
    let c := t.ringEyeCheck r j 1 false
    if c ≠ 0 then t.jobEyeFail r j c 0x03
    else
      let a := t.admitAcc (.ring r j.id) .read (j.target % 16384) j.toff j.bytes 0 0
      (a.1.updJob r j.id (fun j => { j with acc := some a.2 })).moveAccs (.ring r j.id))

/-- EYE_WRITE (R425): frames are asked for as R124 states, the host data is read. -/
def State.ringEyeWrite (s : State) (r idx : Nat) : State :=
  s.runJob r idx 4 (fun j t =>
    let c := t.ringEyeCheck r j 0 true
    if c ≠ 0 then t.jobEyeFail r j c 0x04
    else
      let a := t.admitAcc (.ring r j.id) .write (j.target % 16384) j.toff j.bytes 0 0
      let u := ((a.1.updAcc a.2 (fun x => { x with issued := true })).askFrames a.2).updJob r j.id (fun j => { j with acc := some a.2 })
      (segSpans j.segs 0 0 j.bytes).foldl (fun v p => v.askRead (s.ringNo r) p.1 p.2.1 j.roh (.job r j.id) p.2.2) u)

/-- Whether an EYE_WRITE of the ring fetched before a job is not placed, or not yet durable in a namespace (R425). -/
def State.flushWaits (s : State) (r : Nat) (j : RJob) : Bool :=
  (s.ring r).jobs.any (fun k => k.id < j.id && k.op = 4 && k.st ≠ 2)
    || s.net.accs.any (fun a => match a.who with
      | .ring r2 k => r2 = r && k < j.id && a.isWrite
      | _ => false)

/-- Ends the flushes of a ring that wait no more. -/
def State.ringFlushes (s : State) (r : Nat) : State :=
  ((s.ring r).jobs.filter (fun j => j.op = 5 && j.st = 1 && !s.flushWaits r j)).foldl (fun t j => t.jobOver r j.id 1 0 0) s

/-- EYE_FLUSH (R425). -/
def State.ringFlush (s : State) (r idx : Nat) : State := s.runJob r idx 5 (fun _ t => t.ringFlushes r)

/-- Frames of a range of a ring's write are reserved: its host data is read. -/
def State.ringFetch (s : State) (r id cmd idx : Nat) : State :=
  match s.job r id, (s.findWrite cmd).bind (fun w => w.ranges[idx]?) with
  | some j, some g =>
    let ns := j.target
    (segSpans j.segs 0 (s.wireLen ns g.off) (s.wireLen ns g.len)).foldl (fun t p =>
      t.askRead (s.ringNo r) p.1 p.2.1 j.roh (.job r id) p.2.2) s
  | _, _ => s

/-- Protection fields a ring job is checked with in pass mode (V1): guard, and reference tag from the LBA. -/
def RJob.pr (j : RJob) : PrInfo := ⟨false, 5, j.toff, 0, 0⟩

/-- Delivers the ranges of a ring's write whose host data is all here (R123, R195). A failure at V1 names QP row 0xFFFF, as R409
does where there is no QP (log entry 37). -/
def State.ringDeliver (s : State) (r : Nat) (j : RJob) : State :=
  match s.jobWrite r j.id with
  | none => s
  | some c =>
    let ns := j.target
    (c.ranges.zipIdx.filter (fun e => e.1.st = 1 && j.buf.has (s.wireLen ns e.1.off) (s.wireLen ns e.1.len))).foldl (fun t e =>
      let d := bits j.buf.data (8 * s.wireLen ns e.1.off) (8 * s.wireLen ns e.1.len)
      if s.hostPi ns = 0 then t.rangeData c.id e.2 (s.ownBlks ns e.1 d) 0
      else
        let bs := s.hostBlks ns e.1 j.pr d
        let bad := bs.filter (fun b => b.2 ≠ 0)
        let u := bad.foldl (fun u b => (u.addCnt 64 Obj.piIngressErrors 0 1).later (.detect 0x601 6 0xFFFF
          (piDetail ns (s.blkNo e.1.key e.1.col b.1.row) 1 b.2 false false))) t
        u.rangeData c.id e.2 ((bs.filter (fun b => b.2 = 0)).map (fun b => b.1)) (prStatus ((bad.map (fun b => b.2)).headD 0))) s

/-- Host data of a job arrives. -/
def State.jobData (s : State) (r id off len data : Nat) : State :=
  match s.job r id with
  | none => s
  | some j0 =>
    let j := { j0 with buf := j0.buf.add off len data }
    let t := s.updJob r id (fun _ => j)
    match j.acc with
    | none => t.ringDeliver r j
    | some a =>
      let old := reach j0.buf.here (j0.buf.here.length + 1) 0
      let now := reach j.buf.here (j.buf.here.length + 1) 0
      if old < now then (t.accData a (now - old) (bits j.buf.data (8 * old) (8 * (now - old)))).moveAccs (.ring r id) else t

/-- Writes a read's data to the host, in segment order. -/
def State.jobOut (s : State) (r : Nat) (j : RJob) (data : Nat) : State :=
  (segSpans j.segs 0 0 j.bytes).foldl (fun t p => t.hostWrite (s.ringNo r) p.1 p.2.1 (bits data (8 * p.2.2) (8 * p.2.1)) j.roh) s

/-- Data of a job's read is here: written to the host, or held while bus-master enable is 0 (Table 12-8). -/
def State.jobRead (s : State) (r id data : Nat) : State :=
  match s.job r id with
  | none => s
  | some j =>
    let t := if s.ringMaster r ∧ ¬ (r < 2048 ∧ s.frozen) then s.jobOut r j data else s.updJob r id (fun j => { j with out := some data })
    t.jobOver r id 1 0 j.bytes

/-- A block command of a ring job is finished. -/
def State.ringBlockDone (s : State) (r id status data : Nat) : State :=
  match s.job r id with
  | none => s
  | some j =>
    if status ≠ 0 then (s.killReads (fun q => decide (q.who = RdFor.job r id)) none).jobStatus r id status
    else if j.op = 1 then s.jobRead r id data
    else s.jobOver r id 1 0 j.bytes

/-- An eyelet access of a ring job ended: served, placed, unreadable (status 4), or aborted (status 3). -/
def State.ringAccDone (s : State) (a : EyeAcc) (r id status data : Nat) : State :=
  let t : State := match s.job r id with
    | none => s
    | some j =>
      if a.kind = EyeAccKind.read then
        if status = 0 then s.jobRead r id data
        else if status = 12 ∨ status = 13 then s.jobOver r id 3 status 0
        else s.jobStatus r id status
      else if status = 0 then s.jobOver r id 1 0 j.bytes
      else (s.killReads (fun q => decide (q.who = RdFor.job r id)) none).jobOver r id 3 status 0
  t.ringFlushes r

/-! ### Completion -/

/-- Whether a finished job's completion may land now (R431): a strict one after every earlier job. -/
def State.mayLand (s : State) (r : Nat) (j : RJob) : Bool :=
  let x := s.ring r
  j.st = 2 && s.ringMaster r && x.st ≠ .frozen && !(r < 2048 && s.frozen) && !s.devFenced
    && (!(x.strictOn || s.rw Obj.ordRingStrict 0 = 1 || entStrict (j.ents.headD 0)) || x.jobs.all (fun k => j.id ≤ k.id))

/-- Dword 0 of a completed entry (R430): `OWN` 0, `STATUS`, the rest unchanged. -/
def doneDword (e status : Nat) : Nat := setBits (clearBit (e % 2 ^ 32) 0) 16 8 status

/-- A completion is written back (R430): bytes 32 to 47 of the `LAST` entry, dword 0 of the others, dword 0 of the `LAST`
entry; `IRQ` of the `LAST` entry signals (R437). -/
def State.land (s : State) (r : Nat) (j : RJob) : State :=
  let x := s.ring r
  let f := s.ringNo r
  let size := 2 ^ x.log2
  let n := j.ents.length
  let at_ := fun (i : Nat) => x.base + 64 * ((j.idx + i) % size)
  let s0 := match j.out with
    | some d => s.jobOut r j d
    | none => s
  let s1 := s0.hostWrite f (at_ (n - 1) + 32) 16 (j.xfer % 2 ^ 32 + (j.detail % 2 ^ 32) * 2 ^ 32 + (s.clk.ns % 2 ^ 64) * 2 ^ 64) false
  let s2 := ((j.ents.take (n - 1)).zipIdx).foldl (fun t e => t.hostWrite f (at_ e.2) 4 (doneDword e.1 j.status) false) s1
  let last := j.ents.getLastD 0
  let s3 := s2.hostWrite f (at_ (n - 1)) 4 (doneDword last j.status) false
  let s4 := (s3.addCnt 64 Obj.ringJobs r 1).updRing r (fun x => { x with jobs := x.jobs.filter (fun k => k.id ≠ j.id) })
  if entIrq last then s4.ringSignal r else s4

/-- RING_JOB_COMPLETE (R430, R431): the finished job at an index lands. On a disabled ring without bus-master enable it is
discarded (Table 13-6). -/
def State.jobComplete (s : State) (r idx : Nat) : State :=
  match (s.ring r).jobs.find? (fun j => j.idx = idx && j.st = 2) with
  | none => s
  | some j =>
    if s.mayLand r j then s.land r j
    else if (s.ring r).st = .disabled ∧ s.ringMaster r = false then
      s.updRing r (fun x => { x with jobs := x.jobs.filter (fun k => k.id ≠ j.id) })
    else s

/-- Lands every held completion that may land, oldest first (R417); `n` bounds them. -/
def State.landAll (r : Nat) : Nat → State → State
  | 0, s => s
  | n + 1, s =>
    match (s.ring r).jobs.find? (fun j => s.mayLand r j) with
    | some j => State.landAll r n (s.land r j)
    | none => s

/-! ### Ring registers -/

/-- Whether a function may use a vector for rings and channels (R436). -/
def vecOk (f v : Nat) : Bool := if f = 0 then decide (2 ≤ v) && decide (v < 256) else decide (1 ≤ v) && decide (v < 32)

/-- RING_ENABLE (R436, R438). -/
def State.ringEnable (s : State) (f r : Nat) : State :=
  let x := s.ring r
  if x.st ≠ .disabled then s
  else if x.base % 64 ≠ 0 ∨ x.log2 < 4 ∨ 16 < x.log2 ∨ (r < 2048 ∧ vecOk f x.vec = false) then
    s.updRing r (fun x => { x with errCause := 15 })
  else
    (s.updRing r (fun x => { x with
      st := if s.ringMaster r then .running else .stoppedBme, fetch := 0, lap := true, strictOn := x.strict
      active := false, db := false, inRound := false, part := [], reads := [], errIdx := 0, errCause := 0, errOfs := 0 })).fenServe 8 r

/-- RING_DISABLE (R438): fetch stops; jobs in flight complete. The ring's fence, if any, is released with it. -/
def State.ringDisable (s : State) (r : Nat) : State :=
  let x := s.ring r
  if x.st = .running ∨ x.st = .stoppedErr ∨ x.st = .stoppedBme then
    ((s.stopFetch r none).updRing r (fun x => { x with
      st := .disabled, active := false, db := false, inRound := false, part := [] })).fenLet 8 r
  else s

/-- RING_RESTART (R435). -/
def State.ringRestart (s : State) (r : Nat) : State :=
  let x := s.ring r
  if x.st ≠ .stoppedErr ∨ s.ringMaster r = false then s
  else
    ((s.updRing r (fun x => { x with
      st := .running, fetch := x.errIdx, lap := x.errLap, part := [], errIdx := 0, errCause := 0, errOfs := 0
      active := x.db, db := false, inRound := false })).fenLet 8 r).fenServe 8 r

/-- RING_DB (R432): a running ring becomes active; active already, the doorbell is kept; a stopped ring keeps it. -/
def State.doorbell (s : State) (r : Nat) : State :=
  let x := s.ring r
  match x.st with
  | .running => s.updRing r (fun x => if x.active || x.reads ≠ [] then { x with db := true } else { x with active := true })
  | .stoppedBme => s.updRing r (fun x => { x with db := true })
  | .stoppedErr => s.updRing r (fun x => { x with db := true })
  | _ => s

/-- Bus-master enable cleared (Table 12-8): RUNNING goes STOPPED_BME; entries whose host data was cut off run again on
resume. -/
def State.ringBmeClear (s : State) (r : Nat) : State :=
  let x := s.ring r
  let again := x.reads ≠ []
  let t := (s.stopFetch r none).updRing r (fun x => { x with
    st := if x.st = .running then .stoppedBme else x.st, active := x.active || again })
  x.jobs.foldl (fun u j =>
    if j.st = 1 ∧ u.jobCut r j then (u.cutJob r j none).updJob r j.id (fun j => { j with st := 0, buf := {}, acc := none }) else u) t

/-- RESUME (R417): held completions land first, then fetch goes on. -/
def State.ringResume (s : State) (r : Nat) : State :=
  if (s.ring r).st ≠ .stoppedBme then s
  else
    (State.landAll r ((s.ring r).jobs.length + 1) s).updRing r (fun x => { x with
      st := .running, active := x.active || x.db, db := false, inRound := false })

/-- FLR of the function, or the release of a freeze (R416, R422): DISABLED, all state cleared. -/
def State.ringClear (s : State) (r : Nat) (till : Option Nat) : State :=
  (((s.stopFetch r till).dropJobs r till).updRing r (fun _ => {})).fenLet 8 r

/-- Containment freeze (Table 13-6). -/
def State.ringFreeze (s : State) (r : Nat) : State :=
  if (s.ring r).st = .disabled then s
  else ((s.stopFetch r none).dropJobs r none).updRing r (fun x => { x with st := .frozen, active := false, part := [] })

end Sys2Proof.Machine
end

