-- ==== Sys2Proof/Machine/Shuttle.lean ====
section
/-!
DEFINITION. Machine/Shuttle.lean: Shuttle channels: descriptors (R439, R440), barrier and privileged channels (R442,
R443), completion queues (R444 to R446), registers and states (R447, R448).
-/

namespace Sys2Proof.Machine

/-! ### Descriptors (Table 13-7): 32 bytes as a little-endian number -/

def desSrcT (d : Nat) : Nat := bits d 0 4
def desDstT (d : Nat) : Nat := bits d 4 4
def desBarrier (d : Nat) : Bool := bit d 8
def desRoh (d : Nat) : Bool := bit d 9
def desIrq (d : Nat) : Bool := bit d 10
def desCmp (d : Nat) : Bool := bit d 11
def desLen (d : Nat) : Nat := bits d 32 25
def desSrc (d : Nat) : Nat := bits d 64 64
def desDst (d : Nat) : Nat := bits d 128 64
def desNext (d : Nat) : Nat := bits d 192 64

/-- Why a descriptor is malformed on a channel, 0 when it is not (R440). -/
def desBad (c d : Nat) : Nat :=
  if 7 < desSrcT d ∨ 7 < desDstT d ∨ bits d 12 20 ≠ 0 ∨ bits d 57 7 ≠ 0 then 1
  else if 6 ≤ desSrcT d ∧ 4 ≤ c then 2
  else if 5 ≤ desDstT d then 3
  else if 16777216 < desLen d ∨ (6 ≤ desSrcT d ∧ 67108864 < desSrc d + desLen d) then 4
  else if desNext d % 32 ≠ 0 then 5
  else 0

/-! ### Channels -/

/-- A channel. -/
def State.chan (s : State) (c : Nat) : Chan := Tbl.get {} s.ep.chans c

/-- Changes a channel. -/
def State.updChan (s : State) (c : Nat) (f : Chan → Chan) : State :=
  { s with ep := { s.ep with chans := Tbl.upd {} s.ep.chans c f } }

/-- The function a channel belongs to (R402). -/
def State.chanFn (s : State) (c : Nat) : Option Nat := s.fnList.find? (fun f => bit (s.rw Obj.fnShtlMask f) c)

/-- Whether a channel may reach host memory. -/
def State.chanMaster (s : State) (c : Nat) : Bool := match s.chanFn c with | some f => (s.fn f).master | none => false

/-- Signals a channel's vector. -/
def State.chanSignal (s : State) (c : Nat) : State :=
  let t := s.updChan c (fun x => { x with pend := true })
  match s.chanFn c with
  | some f => t.later (.irq f (s.chan c).vec)
  | none => t

/-- Whether a channel's queue configuration is valid (R444, R447, Table 13-10). -/
def State.chanReady (s : State) (c : Nat) : Bool :=
  let x := s.chan c
  decide (4 ≤ x.cqLog2) && decide (x.cqLog2 ≤ 16) && decide (x.cqBase % 16 = 0) && decide (x.tptr % 4 = 0)
    && (match s.chanFn c with | some f => vecOk f x.vec | none => false)

/-- Whether a channel may start work: its fence open, nothing frozen. -/
def State.chanFree (s : State) (c : Nat) : Bool := !s.isFenced 9 c && !s.devFenced && !s.frozen

/-- Starts the next descriptor, of this list or the next, or goes IDLE (R448). -/
def State.chanNext (s : State) (c : Nat) : State :=
  let x := s.chan c
  if x.next ≠ 0 then
    (s.updChan c (fun x => { x with st := .running, asked := true })).askRead ((s.chanFn c).getD 0) x.next 32 false (.desc c) 0
  else
    match x.fifo with
    | a :: l =>
      (s.updChan c (fun x => { x with st := .running, asked := true, fifo := l, next := a })).askRead ((s.chanFn c).getD 0) a 32
        false (.desc c) 0
    | [] => s.updChan c (fun x => { x with st := .idle, asked := false })

/-- Whether the completion queue is full (R444). -/
def Chan.full (x : Chan) : Bool := (x.cqTail + 1) % 2 ^ x.cqLog2 = x.cqHead % 2 ^ x.cqLog2

/-- The 16 bytes of a record (Table 13-9). -/
def CqRec.num (r : CqRec) (c : Nat) : Nat :=
  r.status % 256 + (r.detail % 256) * 256 + (c % 32) * 65536 + (r.bytes % 2 ^ 25) * 2 ^ 32 + (r.desc % 2 ^ 64) * 2 ^ 64

/-- Writes a record, the new tail to its shadow, and signals (R444). -/
def State.putRec (s : State) (c : Nat) (r : CqRec) : State :=
  let x := s.chan c
  let f := (s.chanFn c).getD 0
  let tail := (x.cqTail + 1) % 2 ^ x.cqLog2
  let t := (s.hostWrite f (x.cqBase + 16 * (x.cqTail % 2 ^ x.cqLog2)) 16 (r.num c) false).updChan c (fun x => { x with cqTail := tail })
  let u := if x.tptr = 0 then t else t.hostWrite f x.tptr 4 tail false
  if r.irq then u.chanSignal c else u

/-- Moves on after a record: `after` is the state the descriptor left the channel in, a pending `STOP` comes first (Table
13-11). -/
def State.chanGoOn (s : State) (c : Nat) (after : ChanSt) : State :=
  let x := s.chan c
  if after = .running then
    if x.stop then
      (s.updChan c (fun x => { x with st := .stopped, stop := false })).chanSignal c
    else if s.chanFree c then s.chanNext c else s.updChan c (fun x => { x with st := .running })
  else
    let t := s.updChan c (fun x => { x with st := after, stop := false })
    if after = .error then t.addCnt 32 Obj.shErrors c 1 else t

/-- A record finds its place (R444), or waits in the holding register (R445); without bus-master enable it is held too (Table
12-8). -/
def State.record_ (s : State) (c : Nat) (r : CqRec) (after : ChanSt) : State :=
  let x := s.chan c
  if s.chanMaster c = false ∨ s.frozen then s.updChan c (fun x => { x with held := some r, after := after, st := .stopped, bme := true })
  else if x.full then
    ((s.updChan c (fun x => { x with held := some r, after := after, st := .cqBlocked, cqBp := true })).addCnt 32 Obj.shCqBlocks c
      1).chanSignal c
  else (s.putRec c r).chanGoOn c after

/-- Ends the accesses of a channel's descriptor: a write not placed gives its frames back when `cut`. -/
def State.chanAccs (s : State) (c : Nat) (cut : Bool) : State :=
  match (s.chan c).run with
  | none => s
  | some d =>
    let drop := fun (t : State) (o : Option Nat) =>
      match o.bind t.acc with
      | none => t
      | some (a : EyeAcc) =>
        if a.isWrite ∧ cut = false then t
        else
          let u := match a.cmd with
            | some k => t.abandonWrite k
            | none => t
          (u.dropAcc a.id).rowSettle a.row
    drop (drop s d.sacc) d.dacc

/-- A descriptor failed (R446): 3 and 5 stop the channel, 2 and 4 engage its fence. -/
def State.shFail (s : State) (c status detail : Nat) : State :=
  match (s.chan c).run with
  | none => s
  | some d =>
    let t := ((s.killReads (fun q => decide (q.chan = some c)) none).chanAccs c true).updChan c (fun x => { x with
      run := none, asked := false, next := desNext d.word })
    let r : CqRec := ⟨status, detail, reach d.buf.here (d.buf.here.length + 1) 0, d.addr, desIrq d.word⟩
    if status = 3 ∨ status = 5 then
      ((t.record_ c r .stopped).chanSignal c).later (.detect 0x904 9 c 0)
    else
      ((t.record_ c r .error).chanSignal c).later (.detect 0x903 9 c 0)

/-- Bytes of the event ring's slot (Table 13-8, R526): 32-byte slots from `a` on. -/
def State.evtSlots (s : State) (a : Nat) : Nat → Nat
  | 0 => 0
  | n + 1 =>
    let r := Tbl.get {} s.ev.ring a
    (if r = {} then 0 else leNat r.bytes) + 2 ^ 256 * s.evtSlots (a + 1) n

/-- Bytes of the lost-block log's slot (Table 5-4): 16-byte entries from row `a` on. -/
def State.lblSlots (s : State) (a : Nat) : Nat → Nat
  | 0 => 0
  | n + 1 =>
    (match Tbl.get none s.darn.log a with
      | some l => l.block % 2 ^ 40 + (l.ns % 4096) * 2 ^ 40 + (l.cause % 16) * 2 ^ 52 + (l.time % 2 ^ 64) * 2 ^ 64
      | none => 0) + 2 ^ 128 * s.lblSlots (a + 1) n

/-- Bytes a privileged channel reads from a DRAM slot. -/
def State.slotBytes (s : State) (ty off len : Nat) : Nat :=
  let w := if ty = 6 then 32 else 16
  let a := off / w
  let n := (off + len + w - 1) / w - a
  bits (if ty = 6 then s.evtSlots a n else s.lblSlots a n) (8 * (off % w)) (8 * len)

/-- Whether a descriptor acts as a barrier: its bit, or a privileged channel (R442, R443). -/
def shBarrier (c d : Nat) : Bool := desBarrier d || decide (c < 4)

/-- Sends the barrier's zero-length reads, one to each host range written since the previous barrier (R442). -/
def State.shAsk (s : State) (c : Nat) : State :=
  let x := s.chan c
  match x.run with
  | none => s
  | some d =>
    if shBarrier c d.word = false ∨ d.issued = false ∨ d.asked ∨ (s.chanMaster c = false ∧ x.ranges ≠ []) then s
    else
      x.ranges.foldl (fun t a => t.askRead ((s.chanFn c).getD 0) (a / 4 * 4) 0 false (.barrier c) 0)
        (s.updChan c (fun x => { x with run := some { d with asked := true } }))

/-- Source bytes arrive: passed on to the destination; when all are passed on every write is issued (R442). -/
def State.shFeed (s : State) (c off len data : Nat) : State :=
  match (s.chan c).run with
  | none => s
  | some d0 =>
    let d := { d0 with buf := d0.buf.add off len data }
    let total := desLen d.word
    let now := reach d.buf.here (d.buf.here.length + 1) 0
    let t0 := s.updChan c (fun x => { x with run := some { d with fed := now } })
    let t : State := match d.dacc with
      | some a =>
        if d.fed < now then (t0.accData a (now - d.fed) (bits d.buf.data (8 * d.fed) (8 * (now - d.fed)))).moveAccs (.shtl c) else t0
      | none => t0
    if total ≤ now then
      let u : State := if desDstT d.word = 0 then
          (t.hostWrite ((s.chanFn c).getD 0) (desDst d.word) total d.buf.data (desRoh d.word)).updChan c (fun x => { x with
            ranges := if total = 0 then x.ranges else x.ranges ++ [desDst d.word + total - 1] })
        else t
      let v := (u.updChan c (fun x => { x with
        run := x.run.map (fun r => { r with issued := true }), bytes := (x.bytes + total) % 2 ^ 64 })).addCnt 64 Obj.shBytes c total
      v.shAsk c
    else t

/-- Starts a descriptor after its checks (R439, R440). -/
def State.shStart (s : State) (c d : Nat) : State :=
  let x := s.chan c
  let f := (s.chanFn c).getD 0
  let len := desLen d
  let t := s.updChan c (fun x => { x with cur := x.next, asked := false, run := some { addr := x.next, word := d }, next := desNext d })
  let eye := fun (ty off perm : Nat) (wr : Bool) =>
    if 1 ≤ ty ∧ ty ≤ 4 then s.fnCheck f (x.keys.getD (ty - 1) 0) perm off len wr else 0
  let es := eye (desSrcT d) (desSrc d) 1 false
  let ed := eye (desDstT d) (desDst d) 0 true
  let keyOf := fun (ty : Nat) => x.keys.getD (ty - 1) 0
  if desBad c d ≠ 0 then t.shFail c 4 (desBad c d)
  else if es ≠ 0 then
    (t.violation (keyOf (desSrcT d) % 16384) (s.rw Obj.fnHost f) es 0xFFFF 0x0C (desSrc d)).shFail c 3 es
  else if ed ≠ 0 then
    (t.violation (keyOf (desDstT d) % 16384) (s.rw Obj.fnHost f) ed 0xFFFF 0x0A (desDst d)).shFail c 3 ed
  else
    let t1 : State := if 1 ≤ desDstT d ∧ desDstT d ≤ 4 then
        let a := t.admitAcc (.shtl c) .write (keyOf (desDstT d) % 16384) (desDst d) len 0 0
        ((a.1.updAcc a.2 (fun y => { y with issued := true })).askFrames a.2).updChan c (fun x => { x with
          run := x.run.map (fun r => { r with dacc := some a.2 }) })
      else t
    if len = 0 then t1.shFeed c 0 0 0
    else if desSrcT d = 0 then t1.askRead f (desSrc d) len (desRoh d) (.data c) 0
    else if desSrcT d = 5 then t1.shFeed c 0 len 0
    else if 6 ≤ desSrcT d then t1.shFeed c 0 len (s.slotBytes (desSrcT d) (desSrc d) len)
    else
      let a := t1.admitAcc (.shtl c) .read (keyOf (desSrcT d) % 16384) (desSrc d) len 0 0
      (a.1.updChan c (fun x => { x with run := x.run.map (fun r => { r with sacc := some a.2 }) })).moveAccs (.shtl c)

/-- SHUTTLE_DESCRIPTOR_FETCHED: the descriptor read of a channel is here. -/
def State.shFetched (s : State) (c d : Nat) : State :=
  let x := s.chan c
  if x.asked ∧ (x.st = .running ∨ x.st = .stopping) then s.shStart c d else s

/-- Whether a descriptor is complete (R442): its writes issued; with a barrier also placed, durable, and acknowledged. -/
def State.shComplete (s : State) (c : Nat) (d : ShRun) : Bool :=
  d.issued && (!shBarrier c d.word
    || (!(s.net.accs.any (fun a => a.who = .shtl c && a.isWrite)) && d.asked
      && !(s.ep.reads.any (fun r => decide (r.who = RdFor.barrier c) && !r.dead))))

/-- SHUTTLE_DESCRIPTOR_DONE (R442, R444). -/
def State.shDone (s : State) (c : Nat) : State :=
  match (s.chan c).run with
  | none => s
  | some d =>
    if s.shComplete c d = false ∨ ¬ ((s.chan c).st = .running ∨ (s.chan c).st = .stopping) then s
    else
      let t := (s.addCnt 64 Obj.shDescs c 1).updChan c (fun x => { x with
        run := none, ranges := if shBarrier c d.word then [] else x.ranges, stop := x.stop || x.st = .stopping })
      if desCmp d.word then t.record_ c ⟨1, 0, desLen d.word, d.addr, desIrq d.word⟩ .running
      else if (t.chan c).bme then (t.updChan c (fun x => { x with st := .stopped, stop := false })).chanSignal c
      else if desIrq d.word then (t.chanSignal c).chanGoOn c .running
      else t.chanGoOn c .running

/-- A host access of a channel failed (R446): `detail` as in Table 13-3. -/
def State.shHostFail (s : State) (c detail : Nat) : State :=
  if (s.chan c).run = none then
    let x := s.chan c
    (s.updChan c (fun x => { x with run := some { addr := x.next, word := 0 } })).shFail c 2 detail |>.updChan c (fun y =>
      { y with cur := x.next })
  else s.shFail c 2 detail

/-- An eyelet access of a channel ended. -/
def State.shAccDone (s : State) (a : EyeAcc) (c status data : Nat) : State :=
  let mine := match (s.chan c).run with
    | some d => d.sacc = some a.id || d.dacc = some a.id
    | none => false
  if mine = false then s
  else if a.kind = EyeAccKind.read then
    if status = 0 then s.shFeed c 0 a.len data
    else if status = 12 ∨ status = 13 then s.shFail c 3 status
    else s.shFail c 5 (status % 256)
  else if status = 0 then s
  else s.shFail c 3 status

/-! ### Commands -/

/-- A list is enqueued (R448): into a full FIFO it is dropped. -/
def State.shEnqueue (s : State) (c hi : Nat) : State :=
  let x := s.chan c
  let a := x.enqLo + (hi % 2 ^ 32) * 2 ^ 32
  if 16 ≤ x.fifo.length then s.updChan c (fun x => { x with enqOvf := true })
  else
    let t := s.updChan c (fun x => { x with fifo := x.fifo ++ [a] })
    if x.st = .idle ∧ s.chanReady c ∧ s.chanFree c then t.chanNext c else t

/-- `GO` (Table 13-11). -/
def State.shGo (s : State) (c : Nat) : State :=
  let x := s.chan c
  if x.st = .stopped ∧ x.bme = false ∧ s.chanFree c then s.chanNext c else s

/-- `STOP` (Table 13-11); a channel its fence keeps between two descriptors stops at once. -/
def State.shStop (s : State) (c : Nat) : State :=
  let y := s.chan c
  if y.st = .running ∧ y.run = none ∧ y.asked = false then (s.updChan c (fun x => { x with st := .stopped })).chanSignal c
  else s.updChan c (fun x =>
    if x.st = .running then { x with st := .stopping } else if x.st = .cqBlocked then { x with stop := true } else x)

/-- Counts a held record that is discarded (R445). -/
def State.shDiscard (s : State) (c : Nat) : State :=
  if (s.chan c).held = none then s else s.addCnt 32 Obj.shDiscarded c 1

/-- `RESET` (Table 13-11): from STOPPED or ERROR to IDLE. -/
def State.shReset (s : State) (c : Nat) : State :=
  let x := s.chan c
  if x.st = .stopped ∨ x.st = .error then
    ((((s.shDiscard c).killReads (fun q => decide (q.chan = some c)) none).updChan c (fun x => { x with
      st := .idle, fifo := [], held := none, cqBp := false, next := 0, run := none, asked := false, stop := false, bme := false
      ranges := [] })).fenLet 9 c).fenServe 9 c
  else s

/-- SHUTTLE_CQ_HEAD (R445): the head moves; a held record is written and the channel goes on where it would be. -/
def State.shCqHead (s : State) (c head : Nat) : State :=
  let t := s.updChan c (fun x => { x with cqHead := head % 65536 })
  let y := t.chan c
  match y.held with
  | none => t
  | some r =>
    if y.full ∨ s.chanMaster c = false ∨ y.bme then t
    else
      let u := (t.putRec c r).updChan c (fun x => { x with held := none, cqBp := false })
      if y.st = .cqBlocked then u.chanGoOn c y.after else u

/-- Bus-master enable cleared (Tables 12-8, 13-11). -/
def State.shBmeClear (s : State) (c : Nat) : State :=
  let x := s.chan c
  if x.st = .idle ∨ x.st = .error then s
  else
    match x.run with
    | none =>
      (s.killReads (fun q => decide (q.chan = some c)) none).updChan c (fun x => { x with st := .stopped, bme := true, asked := false, stop := false })
    | some d =>
      if d.issued then
        (s.killReads (fun q => decide (q.chan = some c)) none).updChan c (fun x => { x with
          st := .stopping, bme := true, run := some { d with asked := d.asked && x.ranges = [] } })
      else
        ((s.killReads (fun q => decide (q.chan = some c)) none).chanAccs c true).updChan c (fun x => { x with
          st := .stopped, bme := true, run := none, next := d.addr, asked := false, stop := false })

/-- RESUME (R417, Table 13-11): the held record is written first. -/
def State.shResume (s : State) (c : Nat) : State :=
  let x := s.chan c
  if x.bme = false then s
  else
    let t := s.updChan c (fun x => { x with bme := false })
    match x.held with
    | some r => (t.updChan c (fun x => { x with held := none, cqBp := false })).record_ c r x.after
    | none =>
      if x.run = none then t.chanNext c else (t.updChan c (fun x => { x with st := .running })).shAsk c

/-- The channel's fence, or a containment freeze: ERROR (Tables 8-2, 13-11). -/
def State.shError (s : State) (c : Nat) : State :=
  if (s.chan c).st = .error then s
  else
    (((s.killReads (fun q => decide (q.chan = some c)) none).chanAccs c false).updChan c (fun x => { x with
      st := .error, run := none, asked := false, stop := false })).addCnt 32 Obj.shErrors c 1

/-- FLR of the function, or the release of a freeze (R416, R422): IDLE, queues cleared. -/
def State.shClear (s : State) (c : Nat) (till : Option Nat) : State :=
  ((((s.shDiscard c).killReads (fun q => decide (q.chan = some c)) till).chanAccs c false).updChan c (fun _ => {})).fenLet 9 c

end Sys2Proof.Machine
end

