-- ==== Sys2Proof/Machine/EpReset.lean ====
section
/-!
DEFINITION. Machine/EpReset.lean: completions and timeouts of host reads (R416, R418, R419), bus-master enable and
function reset (R416, R417), containment (R420 to R422), endpoint resets (R492), configuration requests (Table 12-1, R485).
-/

namespace Sys2Proof.Machine

/-! ### Completions -/

/-- The entries of a fetch read's data. -/
def entsOf : Nat → Nat → List Nat
  | 0, _ => []
  | n + 1, d => d % 2 ^ 512 :: entsOf n (d / 2 ^ 512)

/-- A read's data is delivered. -/
def State.deliverRead (s : State) (r : PRead) (data : Nat) : State :=
  match r.who with
  | .fetch g => s.fetchedEnts g r.id (entsOf (r.len / 64) data)
  | .job g id => s.jobData g id r.off r.len data
  | .desc c => s.shFetched c (data % 2 ^ 256)
  | .data c => s.shFeed c r.off r.len data
  | .barrier _ => s

/-- A read failed: `detail` as in Table 13-3 (1 timeout, 2 UR, 3 CA, 4 poisoned). -/
def State.failRead (s : State) (r : PRead) (detail : Nat) : State :=
  match r.who with
  | .fetch g => s.later (.detect 0x902 8 g 0)
  | .job g id => s.jobHostFail g id detail
  | .desc c => s.shHostFail c detail
  | .data c => s.shHostFail c detail
  | .barrier c => s.shHostFail c detail

/-- Takes a read off the list. -/
def State.endRead (s : State) (id : Nat) : State :=
  { s with ep := { s.ep with reads := s.ep.reads.filter (fun r => r.id ≠ id) } }

/-- An issued read by its number. -/
def State.issuedRead (s : State) (id : Nat) : Option PRead := s.ep.reads.find? (fun r => r.id = id && r.issued)

/-- A completion nobody waits for (R419). -/
def State.unexpected (s : State) (f : Nat) : State :=
  ((s.addCnt 64 Obj.epUnexpCpl 0 1).fnStatus f 3).epErr f 7

/-- PCIE_COMPLETION, RING_FETCH_DONE, SHUTTLE_DESCRIPTOR_FETCHED: a completion for a read of function `f` arrives with its
status (0 success; 2, 3, 4 as in Table 13-3) and data. -/
def State.completion (s : State) (id f status data : Nat) : State :=
  match s.issuedRead id with
  | none => s.unexpected f
  | some r =>
    let t := s.endRead id
    if r.dead then
      match r.till with
      | some e => if e < s.clk.ns then t.unexpected f else t
      | none => t
    else if status = 0 then t.deliverRead r data
    else t.failRead r status

/-- COMPLETION_TIMEOUT (R418, R419). -/
def State.readTimeout (s : State) (id : Nat) : State :=
  match s.issuedRead id with
  | none => s
  | some r =>
    if r.fn = 0xFF ∨ (s.fn r.fn).ctoDis then s
    else
      let t := s.endRead id
      if r.dead then t
      else
        let ringSrc := fun (g : Nat) => g - s.rw Obj.fnRingBase r.fn
        let src := match r.who with
          | .fetch g => ringSrc g
          | .job g _ => ringSrc g
          | .desc c => 0x800 + c
          | .data c => 0x800 + c
          | .barrier c => 0x800 + c
        let u := (t.addCnt 64 Obj.epCto 0 1).updFn r.fn (fun x => { x with ctoSrc := src, ctoCount := satAdd 16 x.ctoCount 1 })
        ((u.fnStatus r.fn 2).epErr r.fn 6).failRead r 1

/-! ### Bus-master enable and function reset -/

/-- Rings of a function that were ever configured. -/
def State.fnRings (s : State) (f : Nat) : List Nat := (s.ep.rings.map (fun e => e.1)).filter (fun r => s.ringFn r = some f)

/-- Channels of a function. -/
def State.fnChans (s : State) (f : Nat) : List Nat := (List.range 32).filter (fun c => s.chanFn c = some f)

/-- What stops when a function may no longer master the bus (Table 12-8). -/
def State.masterStop (s : State) (f : Nat) : State :=
  let t := (s.fnRings f).foldl (fun u r => u.ringBmeClear r) s
  let u := (s.fnChans f).foldl (fun u c => u.shBmeClear c) t
  let stopped := (s.fnRings f).any (fun r => (u.ring r).st = .stoppedBme) || (s.fnChans f).any (fun c => (u.chan c).bme)
  u.updFn f (fun x => { x with bmeStop := x.bmeStop || stopped })

/-- BME_CLEAR (R416). -/
def State.bmeClear (s : State) (f : Nat) : State :=
  if (s.fn f).master then (s.masterStop f).updFn f (fun x => { x with bme := false }) else s.updFn f (fun x => { x with bme := false })

/-- D3HOT_ENTRY (R399). -/
def State.d3Entry (s : State) (f : Nat) : State :=
  if (s.fn f).master then (s.masterStop f).updFn f (fun x => { x with d3 := true }) else s.updFn f (fun x => { x with d3 := true })

/-- FN_RESUME (R417): ignored without bus-master enable. -/
def State.fnResume (s : State) (f : Nat) : State :=
  if (s.fn f).master = false then s
  else
    let t := s.updFn f (fun x => { x with bmeStop := false })
    let u := (s.fnRings f).foldl (fun u r => u.ringResume r) t
    (s.fnChans f).foldl (fun u c => u.shResume c) u

/-- A function's rings, channels and MSI-X as after an FLR (Table 12-8). -/
def State.fnClear (s : State) (f : Nat) : State :=
  let till := some (s.clk.ns + ctoTime (s.fn f).ctoSel)
  let t := (s.fnRings f).foldl (fun u r => u.ringClear r till) s
  (s.fnChans f).foldl (fun u c => u.shClear c till) t

/-- A set of window registers with `EN` = 0 where it names function `f`. -/
def WinRegs.off (r : WinRegs) (f : Nat) : WinRegs := if r.func = f then { r with ctrl := clearBit r.ctrl 0 } else r

/-- A window whose `FUNC` names the function is committed as `EN` = 0, the set a commit under way has taken too (Table
12-8). -/
def State.winOff (s : State) (f w : Nat) : State :=
  s.updWin w (fun x => { x with
    act := x.act.off f, take_ := x.take_.off f, gen := if x.act.off f = x.act then x.gen else wrapAdd 16 x.gen 1 })

/-- Every window register is reset; TLPs stalled then find their window not enabled. -/
def State.winsReset (s : State) : State :=
  let q := (s.ep.wins.map (fun e => e.2.stalled)).flatten
  q.foldl (fun t i => t.bar2 i) { s with ep := { s.ep with wins := [] } }

/-- What a PF reset does beside the functions' own state: windows, mailbox and its sessions (R58, Table 12-8). -/
def State.pfClear (s : State) : State :=
  let t := s.dropPeerReads.winsReset
  { (t.closeSessions (fun x => x.carrier = .mailbox)) with mbx := {} }

/-- One function undergoes FLR: all its state, configuration with it. -/
def State.flrOne (s : State) (f : Nat) : State :=
  let t := (s.fnClear f).updFn f (fun _ => {})
  let u := if f = 0 then t.pfClear
    else (List.range 64).foldl (fun v w => v.winOff f w) t
  u.addCnt 32 Obj.fnFlrs f 1

/-- The endpoint as a release of its freeze leaves it (R422): functions as after FLR, configuration space kept. -/
def State.epRelease (s : State) : State :=
  let t := s.fnList.foldl (fun u f => (u.fnClear f).updFn f (fun x => { x with
    bmeStop := false, cto := false, unexp := false, winErr := false, evt := false, ctoSrc := 0, ctoCount := 0, vecs := [], pba := [] })) s
  { t.pfClear with ep := { t.pfClear.ep with stalled := [], relFail := 0 } }

/-- FUNCTION_LEVEL_RESET (R416): the PF's clears VF Enable and every VF undergoes it; in FROZEN it releases the freeze (Table
12-10). -/
def State.flr (s : State) (f : Nat) : State :=
  if f = 0 then
    let t := s.fnList.foldl (fun u g => u.flrOne g) s
    let u : State := { t with ep := { t.ep with vfEnable := false, numVfs := 0 } }
    if s.frozen then (u.fenLet 1 9) else u
  else s.flrOne f

/-- The freeze (R420), once its fence is engaged. -/
def State.freeze (s : State) (cause : Nat) : State :=
  let t := (s.ep.rings.map (fun e => e.1)).foldl (fun u r => if r < 2048 then u.ringFreeze r else u) s
  let u := (List.range 32).foldl (fun v c => v.shError c) t
  let v := (((u.killReads (fun r => decide (r.fn ≠ 0xFF)) none).addCnt 32 Obj.epFreezes 0 1).setCnt Obj.epFreezeCause 0 cause).emit
    (.pcie (.err 0 8))
  let w := v.freezePeers
  if cause = 2 ∨ cause = 3 then w.later (.detect 0x406 1 9 0) else w

/-- EP_PERST, HOT_RESET, EP_LINK_DOWN (R492): every function as after FLR, configuration space reset, a freeze ended. -/
def State.epReset (s : State) : State :=
  let t := s.fnList.foldl (fun u g => u.flrOne g) { s with ep := { s.ep with
    wins := Tbl.mapRows {} (fun _ x => { x with stalled := [] }) s.ep.wins } }
  let u : State := { t with ep := { t.ep with fns := [], vfEnable := false, numVfs := 0, stalled := [], inta := false } }
  let v := (u.setCnt Obj.epLinkSpeed 0 0).setCnt Obj.epLinkWidth 0 0
  if s.frozen then v.fenLet 1 9 else v

/-- ENDPOINT_LINK_UP (R397, R485): from S3 on, with the endpoint's domain on and `EP_PERST_N` high. -/
def State.epLink (s : State) (speed width : Nat) : State :=
  if s.cntAt Obj.bootStage 0 < 3 ∨ (Tbl.get {} s.pd 15).st ≠ .on ∨ s.ep.perst ∨ speed = 0 ∨ 6 < speed ∨ width ∉ [1, 2, 4, 8, 16] then s
  else (s.setCnt Obj.epLinkSpeed 0 speed).setCnt Obj.epLinkWidth 0 width

/-! ### Configuration space -/

/-- Value of a configuration field (Table 12-1); none for a capability not listed. -/
def State.cfgRead (s : State) (f : Nat) (c : CfgField) : Option Nat :=
  let x := s.fn f
  let big := s.part = .kv4896
  match c with
  | .vendor => some 0x1F6B
  | .device => some (if f = 0 then (if big then 0x4896 else 0x2448) else (if big then 0x4897 else 0x2449))
  | .revision => some 0x11
  | .classCode => some 0x018000
  | .subVendor => some (s.rw Obj.epSubsysVid 0)
  | .subDevice => some (s.rw Obj.epSubsysId 0)
  | .serial => if f = 0 then some Config.deviceId else none
  | .master => some (b2n x.bme)
  | .memory => some (b2n x.memEn)
  | .intxDisable => some (b2n x.intxDis)
  | .relaxed => some (b2n x.ro)
  | .mps => some x.mps
  | .mrrs => some x.mrrs
  | .ctoValue => some x.ctoSel
  | .ctoDisable => some (b2n x.ctoDis)
  | .msixEnable => some (b2n x.msix)
  | .msixMask => some (b2n x.fmask)
  | .vfEnable => if f = 0 then some (b2n s.ep.vfEnable) else none
  | .numVfs => if f = 0 then some s.ep.numVfs else none
  | .totalVfs => if f = 0 then some 127 else none
  | .power => if f = 0 then some (if x.d3 then 3 else 0) else none
  | .bar0 => some x.bar0
  | .bar2 => if f = 0 then some x.bar2 else none
  | .absent => none

/-- Writes a configuration field. -/
def State.cfgWrite (s : State) (f : Nat) (c : CfgField) (v : Nat) : State :=
  let on := v % 2 = 1
  match c with
  | .master => if on then (s.updFn f (fun x => { x with bme := true })).sendPba f else s.bmeClear f
  | .memory => s.updFn f (fun x => { x with memEn := on })
  | .intxDisable => s.updFn f (fun x => { x with intxDis := on })
  | .relaxed => s.updFn f (fun x => { x with ro := on })
  | .mps => if v ∈ [128, 256, 512] then s.updFn f (fun x => { x with mps := v }) else s
  | .mrrs => if v ∈ [128, 256, 512, 1024, 2048, 4096] then s.updFn f (fun x => { x with mrrs := v }) else s
  | .ctoValue => if v ∈ [0, 1, 2, 5, 6, 9, 0xA, 0xD, 0xE] then s.updFn f (fun x => { x with ctoSel := v }) else s
  | .ctoDisable => s.updFn f (fun x => { x with ctoDis := on })
  | .msixEnable => (s.updFn f (fun x => { x with msix := on })).sendPba f
  | .msixMask => (s.updFn f (fun x => { x with fmask := on })).sendPba f
  | .vfEnable =>
    if f ≠ 0 then s
    else if on then { s with ep := { s.ep with vfEnable := true } }
    else
      let t := (s.fnList.filter (fun g => g ≠ 0)).foldl (fun u g => (u.fnClear g).updFn g (fun _ => {})) s
      { t with ep := { t.ep with vfEnable := false } }
  | .numVfs => if f = 0 ∧ s.ep.vfEnable = false ∧ v ≤ 127 then { s with ep := { s.ep with numVfs := v } } else s
  | .power =>
    if f ≠ 0 then s
    else if v = 3 then s.d3Entry f
    else if v = 0 then (s.updFn f (fun x => { x with d3 := false })).sendPba f
    else s
  | .bar0 => s.updFn f (fun x => { x with bar0 := v / 262144 * 262144 % 2 ^ 64 })
  | .bar2 => if f = 0 then s.updFn f (fun x => { x with bar2 := v / 2 ^ s.rw Obj.epBar2Size 0 * 2 ^ s.rw Obj.epBar2Size 0 % 2 ^ 64 }) else s
  | _ => s

/-- CONFIG_REQUEST (R485): Retry Status before S7, UR for a function that is not there, else served (R420: normally while
FROZEN too). -/
def State.cfgRequest (s : State) (f : Nat) (c : CfgField) (w : Option Nat) : State :=
  if s.epUp = false then s
  else if s.inS7 = false then s.emit (.pcie (.cfg f 2 0))
  else if s.fnThere f = false then s.emit (.pcie (.cfg f 1 0))
  else
    match w with
    | some v => (s.cfgWrite f c v).emit (.pcie (.cfg f 0 0))
    | none => s.emit (.pcie (.cfg f 0 ((s.cfgRead f c).getD 0)))

end Sys2Proof.Machine
end

