-- ==== Sys2Proof/Machine/Bays.lean ====
section
/-!
DEFINITION. Machine/Bays.lean: bay power channels: presence and debounce (R371), grants and ramps (R372 to R374),
limiting, trips, retry and lockout (R375 to R382), ORing (R383), commanded off (R384), observe (R386), measurement and
calibration (R389 to R393), and the drive link that follows the rails (R350 to R357, R557).
-/

namespace Sys2Proof.Machine

/-- A bay channel. -/
def State.bay (s : State) (n : Nat) : Bay := Tbl.get {} s.bayCh n

/-- Changes a bay channel. -/
def State.updBay (s : State) (n : Nat) (f : Bay → Bay) : State := { s with bayCh := Tbl.upd {} s.bayCh n f }

/-- A rail of a bay. -/
def Bay.rail (x : Bay) (r33 : Bool) : Rail := if r33 then x.r33 else x.r12

/-- Changes a rail of a bay. -/
def Bay.setRail (x : Bay) (r33 : Bool) (r : Rail) : Bay := if r33 then { x with r33 := r } else { x with r12 := r }

/-- Changes both rails. -/
def Bay.both (x : Bay) (f : Rail → Rail) : Bay := { x with r12 := f x.r12, r33 := f x.r33 }

/-- Whether a rail's gate is driven with its ramp begun, or it is ON. -/
def Rail.driven (r : Rail) : Bool := r.st = .ramping || r.st = .on || r.st = .limiting

/-- A calibration under way fails once its rail leaves ON (R392). -/
def Rail.calLost (r : Rail) : Rail := { r with cal := r.cal.map (fun c => (c.1, false)) }

/-- A rail goes to `st` and its run is over. -/
def Rail.to (r : Rail) (st : RailSt) : Rail := { r.calLost with st := st, ramp := none, wasOn := false, or_ := 0 }

/-- Nanoseconds from a ramp's start to its timeout: 2 × V_nom ÷ slew + 10 ms, in mV and mV/ms (R374). -/
def rampTime (vnom slew : Nat) : Nat := 2 * vnom * 1000000 / slew + 10000000

/-- Whether a bay's presence and power are ignored because it is the odd half of a bond (R350). -/
def State.bonded (s : State) (n : Nat) : Bool := n % 2 = 1 && s.rw Obj.dlinkBond (n - 1) = 1

/-- Event of a bay channel (R388, Table 11-3). -/
def State.bayEvent (s : State) (n cause : Nat) (r33 : Bool) (cur src : Nat) : State :=
  s.later (.detect (0xA00 + cause) 3 n
    (cause + b2n r33 * 256 + (min cur 65535) * 65536 + (src % 65536) * 2 ^ 32 + ((s.bay n).count % 256) * 2 ^ 48))

/-- The fault timer of a rail brought up to date outside LIMITING: down 1 µs per 16 µs (R376). -/
def State.ftNow (s : State) (r : Rail) : Rail :=
  { r with ftimer := r.ftimer - (s.clk.sk - r.ftAt) / 16000, ftAt := s.clk.sk }

/-- The power of a bay's drive is gone: `BAYn_PERST_N` is asserted, a probe under way stops, the reference clock stops. -/
def State.bayDark (s : State) (n : Nat) : State :=
  let l := s.link n
  (s.putLink n { l with perst := false, refclk := false }).probeStopped n

/-! ### Grants and ramps -/

/-- Milliwatts counted for a bay (R372, R514): `bay.alloc_w` in RAMPING; in ON, LIMITING, TRIPPED or RETRY_WAIT at least the mean
power of both partners' paths. -/
def State.bayCounts (s : State) (n : Nat) (x : Bay) : Nat :=
  let alloc := s.rw Obj.bayAllocW n * 1000
  match x.r12.st with
  | .ramping => alloc
  | .on | .limiting | .tripped | .retryWait => max alloc (x.pAvg.toNat + x.partnerP)
  | _ => 0

/-- Milliwatts counted against `bpw.budget`. -/
def State.allocated (s : State) : Nat := (s.bayCh.map (fun e => s.bayCounts e.1 e.2)).foldl (· + ·) 0

/-- `bpw.budget` in mW. -/
def State.budget (s : State) : Nat := s.rw Obj.bpwBudget 0 * 1000

/-- Rails RAMPING. -/
def State.rampingRails (s : State) : Nat :=
  (s.bayCh.map (fun e => b2n (e.2.r12.st = .ramping) + b2n (e.2.r33.st = .ramping))).foldl (· + ·) 0

/-- Whether a bay waits for a grant. -/
def State.waitsGrant (s : State) (n : Nat) : Bool :=
  let x := s.bay n
  x.r12.st = .seating && x.deb && s.rw Obj.bayEnable n = 1 && x.granted.isNone

/-- Both rails go to RAMPING; the 3.3 V ramp starts (R374). -/
def State.rampStart (s : State) (n : Nat) : State :=
  s.updBay n (fun x =>
    let y := x.both (fun r => { (s.ftNow (r.to .ramping)) with or_ := 1 })
    { y with r33 := { y.r33 with ramp := some (s.clk.sk + rampTime 3300 (s.rw Obj.baySlew33 n)) }, granted := none, goodAt := none, offing := 0 })

/-- Whether grants may be given: from stage S6 on (R372), while the main die polls (R517). -/
def State.mayGrant (s : State) : Bool := s.cntAt Obj.bootStage 0 ∈ [5, 6, 7] && s.boot.silentAt.isNone && s.cntAt Obj.bootHalted 0 = 0

/-- Grants one bay if it fits (R372). -/
def State.grantOne (s : State) (n : Nat) : State :=
  if s.waitsGrant n && decide (s.rampingRails < s.rw Obj.bpwMaxRamping 0)
      && decide (s.allocated + s.rw Obj.bayAllocW n * 1000 ≤ s.budget) then
    let t := s.rampStart n
    if s.skn.present then t.later (.twin (.keeper (.rampGrant n))) else t
  else s

/-- Grants (R372, R373): waiting bays in ascending order; over the twin link the other device asks the keeper. A sum above
the budget is reported (R514). -/
def State.grants (s : State) : State :=
  if s.mayGrant = false then s
  else if s.keeper || !s.twinUp then
    let t := if s.budget < s.allocated then s.later (.detect 0xA0A 0 0 0) else s
    (List.range s.bays).foldl (fun t n => t.grantOne n) t
  else ((List.range s.bays).filter s.waitsGrant).foldl (fun t n => t.later (.twin (.keeper (.rampAsk n)))) s

/-- The partner asks the keeper for a ramp (R373). -/
def State.rampAsked (s : State) (n : Nat) : State :=
  let t := s.later (.twin (.keeper (.rampGrant n)))
  let x := s.bay n
  if x.r12.st = .on ∧ x.r33.st = .on then t.later (.twin (.keeper (.rampEnd n))) else t

/-- The keeper granted a bay: this device's path waits for the keeper's rails, at most 500 ms (R373). -/
def State.rampGranted (s : State) (n : Nat) : State :=
  if s.waitsGrant n then s.updBay n (fun x => { x with granted := some s.clk.sk }) else s

/-- The keeper's rails are ON, or 500 ms passed: this path ramps (R373). -/
def State.partnerRamp (s : State) (n : Nat) : State :=
  let x := s.bay n
  if x.granted.isSome ∧ x.r12.st = .seating ∧ x.deb ∧ s.mayGrant then s.rampStart n else s

/-- PARTNER_RAMP_TIMEOUT. -/
def State.partnerRampTimeout (s : State) (n : Nat) : State :=
  match (s.bay n).granted with
  | some t => if t + 500000000 ≤ s.clk.sk then s.partnerRamp n else s
  | none => s

/-- RAIL_ON (R374): the 3.3 V rail's ON starts the 12 V ramp; with both ON the drive's clock runs and the keeper tells
the partner. -/
def State.railOn (s : State) (n : Nat) (r33 : Bool) : State :=
  let x := s.bay n
  let r := x.rail r33
  if r.st ≠ .ramping ∨ r.ramp = none then s
  else
    let t := s.updBay n (fun x =>
      let y := x.setRail r33 { r with st := .on, wasOn := true }
      if r33 then { y with r12 := { y.r12 with ramp := some (s.clk.sk + rampTime 12000 (s.rw Obj.baySlew12 n)) } } else y)
    let y := t.bay n
    if y.r12.st = .on ∧ y.r33.st ∈ [.on, .limiting] then
      let u := t.updBay n (fun x => { x with goodAt := some (s.clk.sk + s.rw Obj.bayGoodTime n * 1000000000) })
      let l := u.link n
      let v := u.putLink n { l with refclk := s.rw Obj.dlinkClocking n = 0, st := if l.st = 3 then 3 else 0 }
      if s.skn.present ∧ s.keeper then v.later (.twin (.keeper (.rampEnd n))) else v
    else t

/-! ### Limiting and trips -/

/-- CURRENT_LIMIT_REACHED (R375). -/
def State.limitReached (s : State) (n : Nat) (r33 : Bool) : State :=
  let r := (s.bay n).rail r33
  if ¬ (r.st = .ramping ∨ r.st = .on) ∨ r.ramp = none then s
  else s.updBay n (fun x => x.setRail r33 { (s.ftNow r).calLost with st := .limiting })

/-- LIMIT_EXIT: below 95 % of the limit for 100 µs (R375). The time in LIMITING counted on the fault timer (R376; at
its slower rate, the faster one being the pass element's). -/
def State.limitExit (s : State) (n : Nat) (r33 : Bool) : State :=
  let r := (s.bay n).rail r33
  if r.st ≠ .limiting then s
  else s.updBay n (fun x => x.setRail r33 { r with
    st := if r.wasOn then .on else .ramping, ftimer := r.ftimer + (s.clk.sk - r.ftAt) / 1000, ftAt := s.clk.sk })

/-- A trip of either rail (R378). -/
def State.trip (s : State) (n cause : Nat) (r33 : Bool) (cur src : Nat) : State :=
  let t := s.updBay n (fun x =>
    { x.both (fun r => r.to .tripped) with
        count := satAdd 8 x.count 1, last := cause + b2n r33 * 256, retries := s.rw Obj.bayRetries n, goodAt := none, offing := 0 })
  ((t.addCnt 32 Obj.bayTrips n 1).bayDark n).bayEvent n cause r33 cur src

/-- RAMP_TIMEOUT (R374). -/
def State.rampTimeout (s : State) (n : Nat) (r33 : Bool) (cur src : Nat) : State :=
  let r := (s.bay n).rail r33
  match r.ramp with
  | some t => if (r.st = .ramping ∨ r.st = .limiting) ∧ r.wasOn = false ∧ t ≤ s.clk.sk then s.trip n 4 r33 cur src else s
  | none => s

/-- FAULT_TIMER_EXPIRY (R376). -/
def State.faultTimer (s : State) (n : Nat) (r33 : Bool) (cur src : Nat) : State :=
  if ((s.bay n).rail r33).st = .limiting then s.trip n 1 r33 cur src else s

/-- FAST_TRIP (R377). -/
def State.fastTrip (s : State) (n : Nat) (r33 : Bool) (cur src : Nat) : State :=
  if ((s.bay n).rail r33).driven then s.trip n 2 r33 cur src else s

/-- When a debounce that starts now completes (R371). -/
def State.debounceEnd (s : State) (n : Nat) : Nat := s.clk.sk + s.rw Obj.bayDebounce n * 1000000

/-- A present, enabled bay in mode 0 that reads OFF starts debounce (R384, Table 11-2). -/
def State.seat (s : State) (n : Nat) : State :=
  let x := s.bay n
  if x.r12.st = .off ∧ x.r33.st = .off ∧ x.a ∧ x.b ∧ s.rw Obj.bayEnable n = 1 ∧ s.rw Obj.bayMode n = 0 ∧ s.bonded n = false then
    s.updBay n (fun x => { x.both (fun r => r.to .seating) with deb := false, debAt := some (s.debounceEnd n) })
  else s

/-- SRC_DISCHARGED (R378, R384): SRC of both rails, or of the 12 V rail alone in a commanded off, fell below 0.8 V: to how much is a
free value. A bay that reached OFF by command and is enabled again meanwhile starts debounce (Table 11-2). -/
def State.srcDown (s : State) (n : Nat) (both : Bool) : State :=
  let x := s.bay n
  if x.offing = 2 then (s.updBay n (fun x => { x with r33 := x.r33.to .off, offing := 0 })).seat n
  else if x.r12.st ≠ .tripped ∨ both = false then s
  else
    let t := s.used.updBay n (fun x =>
      { x with r12 := { x.r12 with src := s.fresh % 800 }, r33 := { x.r33 with src := s.fresh / 800 % 800 } })
    if x.count ≤ x.retries ∨ x.retries = 255 then
      if t.rw Obj.bayEnable n = 1 then
        t.updBay n (fun x => { x.both (fun r => r.to .retryWait) with retryAt := t.clk.sk + t.rw Obj.bayRetryTime n * 1000000 })
      else t.updBay n (fun x => x.both (fun r => r.to .off))
    else (t.updBay n (fun x => x.both (fun r => r.to .lockedOut))).bayEvent n 5 (bit x.last 8) 0 ((t.bay n).rail (bit x.last 8)).src

/-- RETRY_TIMER_EXPIRY (R381). -/
def State.retryExpired (s : State) (n : Nat) : State :=
  let x := s.bay n
  if x.r12.st ≠ .retryWait ∨ s.clk.sk < x.retryAt then s
  else if x.deb ∧ s.rw Obj.bayEnable n = 1 then s.rampStart n
  else if x.debAt.isSome then s.updBay n (fun x => x.both (fun r => r.to .seating))
  else s.updBay n (fun x => x.both (fun r => r.to .off))

/-- GOOD_TIME_EXPIRY (R379). -/
def State.goodTime (s : State) (n : Nat) : State :=
  match (s.bay n).goodAt with
  | some t => if t ≤ s.clk.sk then s.updBay n (fun x => { x with count := 0 }) else s
  | none => s

/-- PASS_ELEMENT_FAULT (R382). -/
def State.passFault (s : State) (n : Nat) (r33 : Bool) (cur src : Nat) : State :=
  let r := (s.bay n).rail r33
  if r.st ∈ [.off, .seating, .tripped, .retryWait, .lockedOut] then
    let t := s.updBay n (fun x =>
      let y := x.both (fun r => r.to .lockedOut)
      { y.setRail r33 { y.rail r33 with src := src } with
        last := 3 + b2n r33 * 256, goodAt := none, offing := 0, granted := none })
    t.bayEvent n 3 r33 cur src
  else s

/-- ORING_REVERSE (R383). -/
def State.orReverse (s : State) (n : Nat) (r33 : Bool) : State :=
  let r := (s.bay n).rail r33
  if r.driven then s.updBay n (fun x => x.setRail r33 { r with or_ := 2 }) else s

/-- ORING_DROP_HIGH (R383). -/
def State.orDrop (s : State) (n : Nat) (r33 : Bool) (cur src : Nat) : State :=
  if ((s.bay n).rail r33).driven then s.bayEvent n 7 r33 cur src else s

/-! ### Presence -/

/-- Containment of a bay's port, with what it does to outstanding commands (R354). -/
def State.containBay (s : State) (n : Nat) (recover : Bool) : State := (s.contain n recover).containReads n

/-- DRIVE_LINK_DOWN and DRIVE_UNCORRECTABLE_ERROR (R354, R355): the port enters containment and recovery begins; a port in
containment already is in no other. -/
def State.linkFail (s : State) (n : Nat) : State :=
  if s.bays ≤ n ∨ (s.link n).st = 3 then s else s.containBay n true

/-- PRESENCE_CHANGE (R371, R380). Current and SRC of a rail whose drive is pulled are free values. -/
def State.presence (s : State) (n : Nat) (aLow bLow : Bool) : State :=
  if s.bays ≤ n ∨ s.bonded n then s
  else
    let x := s.bay n
    let was := x.a && x.b
    let t := s.updBay n (fun x => { x with a := aLow, b := bLow })
    if aLow && bLow then
      if was then t
      else
        let u := t.updBay n (fun x => { x with deb := false, debAt := some (s.debounceEnd n) })
        if x.r12.st = .lockedOut then u.bayEvent n 6 false 0 x.r12.src else u.seat n
    else
      let powered := x.r12.driven || x.r33.driven
      let u := t.updBay n (fun x => { x with deb := false, debAt := none, goodAt := if powered then none else x.goodAt, granted := none })
      let v := if x.r12.st = .seating ∨ powered then
          u.updBay n (fun x => { x.both (fun r => if r.st = .tripped then r else r.to .off) with offing := 0 })
        else u
      let w := if powered then (((v.used.containBay n false).bayDark n).bayEvent n 8 (!x.r12.driven) (s.fresh % 65536) (s.fresh / 65536)) else v
      if was then w.memGone n else w

/-- DEBOUNCE_COMPLETE (R371): the bay is present; a waiting bay may be granted at once (R372). -/
def State.debounced (s : State) (n : Nat) : State :=
  let x := s.bay n
  match x.debAt with
  | some t =>
    if x.a && x.b && decide (t ≤ s.clk.sk) then
      (s.updBay n (fun x => { x with deb := true, debAt := none })).grants
    else s
  | none => s

/-! ### Operator control -/

/-- `bay.enable` takes a new value (R384). -/
def State.enableBay (s : State) (n value : Nat) : State :=
  let x := s.bay n
  if value = 1 then s.seat n
  else
    match x.r12.st with
    | .seating => s.updBay n (fun x => { x.both (fun r => r.to .off) with deb := false, debAt := none, granted := none })
    | .retryWait => s.updBay n (fun x => x.both (fun r => r.to .off))
    | .ramping | .on | .limiting =>
      let l := s.link n
      (s.updBay n (fun x => { x with offing := 1 })).putLink n { l with perst := false }
    | _ => s

/-- PERST_OFF_WAIT_EXPIRY: t_perl has passed; the 12 V rail goes OFF first (R384). -/
def State.offWait (s : State) (n : Nat) : State :=
  if (s.bay n).offing = 1 then
    (s.updBay n (fun x => { x with r12 := x.r12.to .off, offing := 2, goodAt := none })).bayDark n
  else s

/-- Whether R369 holds for a rail with these settings (µΩ, 10 mA units, quarters). -/
def shuntOk (shunt limit mult : Nat) : Bool := decide (shunt * limit * mult ≤ 25000000) && decide (100000 ≤ shunt * limit)

/-- Whether a write of `bay.limit12` (6), `bay.limit33` (7) or `bay.fast_mult` (8) keeps R369 (R396). -/
def State.limitOk (s : State) (n sub value : Nat) : Bool :=
  let v := fun (k code : Nat) => if sub = k then value else s.rw code n
  shuntOk (s.rw Obj.bayShunt12 n) (v 6 Obj.bayLimit12) (v 8 Obj.bayFastMult)
    && shuntOk (s.rw Obj.bayShunt33 n) (v 7 Obj.bayLimit33) (v 8 Obj.bayFastMult)

/-- `bay.clear` (R379, R382). -/
def State.bayClearOp (s : State) (n : Nat) : State :=
  let x := s.bay n
  if x.r12.st = .lockedOut then
    if 800 < x.r12.src ∨ 800 < x.r33.src then s.actFail Obj.bayClear n 1
    else (((s.updBay n (fun x => { x.both (fun r => r.to .off) with count := 0 })).seat n)).actDone Obj.bayClear n
  else (s.updBay n (fun x => { x with count := 0 })).actDone Obj.bayClear n

/-- A commit of `bay.mode` (R386, Table 11-2). -/
def State.bayModeSet (s : State) (n mode : Nat) : State :=
  let x := s.bay n
  if mode = 1 then
    if x.r12.st = .off ∧ x.r33.st = .off then s.updBay n (fun x => x.both (fun r => r.to .observe)) else s
  else if x.r12.st = .observe then (s.updBay n (fun x => x.both (fun r => r.to .off))).seat n
  else s

/-! ### Measurement -/

/-- One sample of a rail (R389, R393): energy with sign in the states that accumulate, window sums. Q2 conducts again once SRC
exceeds the bay side by 20 mV (R374, R383). -/
def Rail.sample (r : Rail) (gain : Nat) (i : Int) (v src : Nat) : Rail :=
  let i := i * (gain : Int) / 65536
  let acc := r.driven || r.st = .observe
  { r with
    src := src
    or_ := if r.or_ = 2 ∧ v + 200 < src * 10 then 1 else r.or_
    energy := if acc then r.energy + i * (v : Int) * 268435456 / 10000000 else r.energy
    samples := if acc then r.samples + 1 else r.samples
    sumI := r.sumI + i, sumV := r.sumV + v, sumP := r.sumP + i * (v : Int) }

/-- The end of a 1 ms window: means of 16 samples. -/
def Rail.window (r : Rail) : Rail :=
  { r with i := r.sumI / 16, v := r.sumV / 16, p := r.sumP / 160000000, sumI := 0, sumV := 0, sumP := 0 }

/-- MEASUREMENT_SAMPLE: one sample of both rails (R389). -/
def State.measure (s : State) (n : Nat) (i12 : Int) (v12 : Nat) (i33 : Int) (v33 src12 src33 : Nat) : State :=
  s.updBay n (fun x =>
    let a := x.r12.sample (s.rw Obj.bayGain12 n) i12 v12 src12
    let b := x.r33.sample (s.rw Obj.bayGain33 n) i33 v33 src33
    let m := x.n + 1
    let y := { x with r12 := a, r33 := b, n := m }
    if m % 16 ≠ 0 then y
    else
      let w12 := a.window
      let w33 := b.window
      let p := a.sumP + b.sumP
      let z := { y with r12 := w12, r33 := w33, secSum := y.secSum + p, secMax := if y.secMax < p then p else y.secMax }
      if m % 16000 = 0 then { z with pAvg := z.secSum / 160000000000, pPeak := z.secMax / 160000000, secSum := 0, secMax := 0 } else z)

/-- `bay.cal12` and `bay.cal33` (R392). -/
def State.calStart (s : State) (n : Nat) (r33 : Bool) (known : Nat) : State :=
  let code := if r33 then Obj.bayCal33 else Obj.bayCal12
  let r := (s.bay n).rail r33
  if (if r33 then known < 200 ∨ 1500 < known else known < 1000 ∨ 6000 < known) then s.actFail code n 4
  else if r.st ≠ .on then s.actFail code n 2
  else (s.updBay n (fun x => x.setRail r33 { r with cal := some (known, true) })).actRun code n

/-- SHUNT_CALIBRATION_DONE: `measured` is the mean current before any gain in µA (R392). -/
def State.calDone (s : State) (n : Nat) (r33 : Bool) (measured : Nat) (varied : Bool) : State :=
  let code := if r33 then Obj.bayCal33 else Obj.bayCal12
  let r := (s.bay n).rail r33
  match r.cal with
  | none => s
  | some (known, held) =>
    let t := s.updBay n (fun x => x.setRail r33 { r with cal := none })
    if held = false ∨ r.st ≠ .on then t.actFail code n 2
    else if varied then t.actFail code n 3
    else
      let k := known * 1000
      if measured * 102 < k * 100 ∨ k * 100 < measured * 98 then t.actFail code n 1
      else
        let u := t.setRw (if r33 then Obj.bayGain33 else Obj.bayGain12) n (k * 65536 / max 1 measured)
        (u.actDone code n).bayEvent n 9 r33 (measured / 10000) r.src

/-- VAUX fell below 1.6 V (R385): the Skamo die resets; `bay.trips` counts from its power-on. -/
def State.skamoReset (s : State) : State :=
  { s with
    bayCh := Tbl.mapRows {} (fun _ (x : Bay) => { a := x.a, b := x.b }) s.bayCh
    cnt := s.cnt.filter (fun e => e.1 / 4294967296 ≠ Obj.bayTrips) }

/-! ### Drive links -/

/-- Whether both rails of a bay are ON (a LIMITING rail still feeds the drive). -/
def State.bothOn (s : State) (n : Nat) : Bool := (s.bay n).r12.st ∈ [.on, .limiting] && (s.bay n).r33.st ∈ [.on, .limiting]

/-- PERST_DEASSERT: t_pvperl after both rails are ON, from S6 on (R353): the link trains, the bay is probed. -/
def State.perstUp (s : State) (n : Nat) : State :=
  let l := s.link n
  if s.bothOn n = false ∨ l.perst ∨ ¬ s.cntAt Obj.bootStage 0 ∈ [5, 6, 7] ∨ (s.bay n).offing ≠ 0 then s
  else (s.putLink n { l with perst := true, st := if l.st = 3 then 3 else 1, tries := 0 }).memProbe n

/-- DRIVE_LINK_UP (R351): a link outside the limits is retrained up to three times, then the probe fails. -/
def State.driveUp (s : State) (n speed width : Nat) : State :=
  let l := s.link n
  let want := if s.rw Obj.dlinkBond n = 1 ∧ n % 2 = 0 then 4 else 2
  if l.perst = false ∨ l.st = 2 then s
  else if s.rw Obj.dlinkMinSpeed n ≤ speed ∧ width = want then
    if l.st = 3 then
      (if (s.mem n).st = .probing then
        s.putLink n { l with st := 2, recovering := false, path := 0, speed := speed, width := width, tries := 0 }
      else s)
    else s.putLink n { l with st := 2, speed := speed, width := width, tries := 0, path := 0 }
  else if l.tries < 3 then (s.putLink n { l with st := if l.st = 3 then 3 else 1, tries := l.tries + 1 }).addCnt 32 Obj.dlinkRetrains n 1
  else (s.putLink n { l with st := 0, tries := 0 }).probeFail n 1

/-- `dlink.retrain` (R557). -/
def State.retrainOp (s : State) (n : Nat) : State :=
  let l := s.link n
  if s.bothOn n = false then s.actFail Obj.dlinkRetrain n 1
  else
    let t := s.addCnt 32 Obj.dlinkRetrains n 1
    if l.st = 3 then (t.putLink n { l with recovering := true, path := 0 }).actDone Obj.dlinkRetrain n
    else if (s.mem n).st = .absent ∨ (s.mem n).st = .retired then
      ((t.putLink n { l with st := 1, tries := 0 }).memProbe n).actDone Obj.dlinkRetrain n
    else (t.containBay n true).actDone Obj.dlinkRetrain n

/-- ABORT_TIMEOUT: an Abort unanswered after 1 s resets the controller (R359). -/
def State.abortTimeout (s : State) (tag : Nat) : State :=
  match s.drv.aborts.find? (fun a => a.1 = tag) with
  | some a => (s.dropAbort tag).ctrlReset a.2
  | none => s

/-- MEMBER_TEMP_POLL (R360, R511). -/
def State.memTemp (s : State) (n temp : Nat) : State :=
  let t := s.putMem n { s.mem n with temp := temp }
  let limit := s.rw Obj.thermMemberLimit 0
  if limit < temp then t.later (.detect 0x104 3 n 0) else t

end Sys2Proof.Machine
end

