-- ==== Sys2Proof/Machine/Twin.lean ====
section
/-!
DEFINITION. Machine/Twin.lean: the twin link (R461 to R466): framing, sequence, replay and credit, PAIR; what its frames
carry: mirror writes, releases, journal records, KEEPER frames, proxied member commands (R133 to R140, R363, R364).
-/

namespace Sys2Proof.Machine

/-- Replaces the twin link's state. -/
def State.setTwin (s : State) (t : Twin) : State := { s with sk := { s.sk with twin := t } }

/-- Whether a frame is of class 7 (Table 14-5). -/
def TBody.urgent : TBody → Bool
  | .pair .. => true | .vaultNotice => true | .keeper _ => true | .skein _ => true | _ => false

/-- Receive-buffer KiB of a frame: a unit of frames that carries one mirror sequence, one list of records or one command
counts whole. -/
def TBody.kib : TBody → Nat
  | .mirrorWrite f => (f.blks.length * 4112 + 64 + 1023) / 1024
  | .journal r => (r.length * 64 + 32 + 1023) / 1024
  | .proxyCmd _ _ _ _ _ d => (d.length * 4112 + 64 + 1023) / 1024
  | .proxyCpl _ _ d => (d.length * 4112 + 64 + 1023) / 1024
  | _ => 1

/-- KiB sent and not yet acknowledged. -/
def Twin.out (t : Twin) : Nat := (t.replay.map (fun e => e.2.kib)).foldl (· + ·) 0

/-- Sends a frame now under the next `SEQ` and keeps it in the replay buffer (R463). -/
def State.twinPut (s : State) (b : TBody) : State :=
  let t := s.sk.twin
  (s.setTwin { t with tx := wrapAdd 32 t.tx 1, replay := t.replay ++ [(t.tx, b)] }).emit
    (.twin t.tx t.rx (s.cntAt Obj.bootEpoch 0) b)

/-- Sends waiting frames, class 7 first, as far as the peer's credit and the 4 MiB replay buffer let it (R462, R463); `n`
bounds their number. -/
def State.twinPump : Nat → State → State
  | 0, s => s
  | n + 1, s =>
    let t := s.sk.twin
    if s.twinUp = false then s
    else
      match (t.queue.find? TBody.urgent).orElse (fun _ => t.queue.head?) with
      | none => s
      | some b =>
        if t.out + b.kib ≤ min t.credit 4096 then State.twinPump n ((s.setTwin { t with queue := t.queue.erase b }).twinPut b)
        else s

/-- Hands a frame to the link; on a link that is down it is lost. -/
def State.twinSend (s : State) (b : TBody) : State :=
  let t := s.sk.twin
  if t.st < 2 ∨ t.held then s
  else State.twinPump (t.queue.length + 1) (s.setTwin { t with queue := t.queue ++ [b] })

/-- Sends a PAIR: `SEQ` restarts at 0 (R463, R466). -/
def State.sendPair (s : State) : State :=
  let t := s.sk.twin
  (s.setTwin { t with tx := 0, rx := 0, replay := [], queue := [], resends := [], credit := 0, nakSent := false, paired := false }).twinPut
    (.pair Config.deviceId s.skn.side (s.cntAt Obj.bootEpoch 0) (s.hoop.region ≠ []) (s.rw Obj.hoopDirtyCeiling 0))

/-! ### Solo mode -/

/-- The solo record of this side is written under R78, superseded, or cleared (R465). -/
def State.writeSolo (s : State) (r : Option SoloRec) : State :=
  if s.sk.solo = r then s
  else ({ s with sk := { s.sk with solo := r } }).emit (.soloRec s.skn.side r)

/-- Solo mode with its record (R138, R465). -/
def State.toSolo (s : State) : State :=
  if s.hoop.mirrorState = 1 then s
  else (s.enterSolo.writeSolo (some ⟨s.cntAt Obj.bootEpoch 0, s.hoop.mseq, false⟩)).journalCheck

/-- The solo record is superseded once every stripe is destaged (R465). -/
def State.soloCheck (s : State) : State :=
  match s.sk.solo with
  | some r => if s.hoop.mirrorState = 1 ∧ r.done = false ∧ s.hoop.stripes.all (fun e => e.2.frames = [] && e.2.succ = []) then
      s.writeSolo (some { r with done := true }) else s
  | none => s

/-- TWIN_LINK_DOWN (R464): the replay buffer is discarded, the device enters solo mode and an event is raised; the link
retrains continuously. -/
def State.twinDown (s : State) : State :=
  let t := s.sk.twin
  if t.st < 2 then s
  else
    let u := s.setTwin { t with st := 1, paired := false, replay := [], queue := [], resends := [], nakSent := false }
    ((u.addCnt 32 Obj.twinDowns 0 1).note 0xD01 1 8 0 0).toSolo

/-! ### Receiving -/

/-- Sends one NAK for a gap (R463). -/
def State.twinNakOnce (s : State) : State :=
  let t := s.sk.twin
  if t.nakSent then s else (s.setTwin { t with nakSent := true }).emit (.twinNak t.rx)

/-- Whether `a` comes before `b` in 32-bit sequence order. -/
def seqBefore (a b : Nat) : Bool := decide ((b + 2 ^ 32 - a) % 2 ^ 32 < 2 ^ 31) && a ≠ b

/-- A record the partner's journal mirror holds (R140). -/
def State.onPartner (s : State) (b : TBody) : State :=
  match b with
  | .journal rs => rs.foldl (fun t r => t.updRec r.jseq (fun x => { x with onPartner := true })) s
  | _ => s

/-- The peer's `ACK` and `CREDIT` (R463): frames below `ACK` leave the replay buffer. -/
def State.twinAcked (s : State) (ack credit : Nat) : State :=
  let t := s.sk.twin
  let gone := t.replay.filter (fun e => seqBefore e.1 ack)
  let u := s.setTwin { t with replay := t.replay.filter (fun e => !seqBefore e.1 ack), credit := credit
                              resends := t.resends.filter (fun e => !seqBefore e.1 ack) }
  State.twinPump u.sk.twin.queue.length (gone.foldl (fun v e => v.onPartner e.2) u)

/-- The partner counts as heard (R460). -/
def State.hearPartner (s : State) : State :=
  match s.skn.partner with
  | none => s
  | some p =>
    let r := Tbl.get {} s.sk.rows p
    let sk := { s.sk with rows := Tbl.set {} s.sk.rows p { r with heard := some s.clk.ns, inView := true }
                          tko := { s.sk.tko with lost := false } }
    { s with sk := sk, skn := { s.skn with present := !r.left && !s.sk.tko.adopted } }

/-- A sequenced frame: accepted only when its `SEQ` is the one expected and both CRCs pass, acted on by `f`; every other
one is discarded with one NAK per gap (R463). -/
def State.twinIn (s : State) (h : TwHdr) (f : State → State) : State :=
  let t := s.sk.twin
  if t.st < 2 ∨ t.held then s
  else if h.crcOk = false then (s.addCnt 64 Obj.twinCrcErrors 0 1).twinNakOnce
  else if t.paired = false ∨ h.seq ≠ t.rx then s.twinNakOnce
  else f (((s.setTwin { t with rx := wrapAdd 32 t.rx 1, nakSent := false }).twinAcked h.ack h.credit).hearPartner)

/-- How often frames were resent once those of the replay buffer are resent again. -/
def Twin.resent (t : Twin) : Tbl Nat := t.replay.foldl (fun r e => Tbl.upd 0 r e.1 (fun n => n + 1)) t.resends

/-- Resends every unacknowledged frame from the oldest; the sixteenth resend of one `SEQ` takes the link down (R463, R464). -/
def State.twinResend (s : State) : State :=
  let t := s.sk.twin
  if t.replay = [] ∨ t.st < 2 then s
  else
    let u := (s.setTwin { t with resends := t.resent }).addCnt 64 Obj.twinReplays 0 t.replay.length
    let v := t.replay.foldl (fun v e => v.emit (.twin e.1 t.rx (s.cntAt Obj.bootEpoch 0) e.2)) u
    if t.resent.any (fun e => decide (16 ≤ e.2)) then v.twinDown else v

/-- IDLE (R462): acknowledgment and credit. -/
def State.twinIdleIn (s : State) (h : TwHdr) : State :=
  let t := s.sk.twin
  if t.st < 2 ∨ t.held then s
  else if h.crcOk = false then s.addCnt 64 Obj.twinCrcErrors 0 1
  else (s.twinAcked h.ack h.credit).hearPartner

/-- NAK (R463): everything from the named `SEQ` is resent. -/
def State.twinNakIn (s : State) (h : TwHdr) : State :=
  let t := s.sk.twin
  if t.st < 2 ∨ t.held then s
  else if h.crcOk = false then s.addCnt 64 Obj.twinCrcErrors 0 1
  else ((s.twinAcked h.ack h.credit).hearPartner).twinResend

/-- TWIN_IDLE_TIMER: 1 µs without other traffic (Table 14-5). -/
def State.twinIdleTimer (s : State) : State :=
  let t := s.sk.twin
  if t.st < 2 ∨ t.held then s else s.emit (.twinIdle t.rx)

/-- TWIN_LINK_UP (R461, R466): eight lanes, or four with an event; each device sends PAIR. Only at S7, with the domain ON and
not fenced. -/
def State.twinLinkUp (s : State) (lanes : Nat) : State :=
  let t := s.sk.twin
  if s.inS7 = false ∨ s.boot.hold ∨ (Tbl.get {} s.pd 8).st ≠ .on ∨ s.isFenced 1 8 ∨ 2 ≤ t.st ∨ ¬ (lanes = 8 ∨ lanes = 4) then s
  else
    let u := s.setTwin { t with st := if lanes = 8 then 2 else 3, held := false }
    (if lanes = 4 then u.note 0xD02 1 8 0 0 else u).sendPair

/-- Copies every DIRTY frame to the partner (R139). -/
def State.resyncFrames (s : State) : State :=
  s.hoop.stripes.foldl (fun t e =>
    let cols := fun (f : Tbl (Option Frame)) => (f.filter (fun c => match c.2 with | some x => x.blks ≠ [] | none => false)).map (fun c => c.1)
    let u := (cols e.2.frames).foldl (fun v c => v.mirrorFrame (skeyOf e.1) false c) t
    (cols e.2.succ).foldl (fun v c => v.mirrorFrame (skeyOf e.1) true c) u) s

/-- Mirroring restarts (R139): resyncing, every DIRTY frame copied. -/
def State.startResync (s : State) : State :=
  if s.hoop.mirrorState ≠ 1 ∨ s.rw Obj.hoopMirror 0 = 0 then s
  else (({ s with hoop := { s.hoop with mirrorState := 2 } }).resyncFrames).journalCheck

/-- A mirror frame as the partner's own key names it. -/
def MirrorFrame.fkey (f : MirrorFrame) : Nat × SKey × Nat × Nat := (f.ns, f.key, f.col, f.gen)

/-- The partner's frames go back to it, then a RELEASE names them: its hoop is restored from this device's mirror (R156,
R466). The region is then empty. -/
def State.returnRegion (s : State) : State :=
  let fs := s.hoop.region
  let t := fs.foldl (fun u f => u.twinSend (.mirrorWrite f)) s
  ({ t with hoop := { t.hoop with region := [] }, jour := { t.jour with partner := [] } }).twinSend (.release (fs.map MirrorFrame.fkey))

/-- Namespaces whose frames no device holds open again, each counted and reported (R156). -/
def State.giveUpFrames (s : State) : State :=
  s.hoop.soughtNs.foldl (fun t n => ((t.addCnt 32 Obj.hoopUnrecovered 0 1).note 0xC07 4 n 0 0).later (.ana n))
    { s with hoop := { s.hoop with soughtNs := [] } }

/-- Namespaces whose frames have come back open (R156). -/
def State.framesBack (s : State) : State :=
  s.hoop.soughtNs.foldl (fun t n => t.later (.ana n)) { s with hoop := { s.hoop with soughtNs := [] } }

/-- PAIR (R466): identifies the peer; link sequencing restarts; frames and mirroring follow. -/
def State.pairIn (s : State) (h : TwHdr) (dev _side : Nat) (region : Bool) (ceiling : Nat) : State :=
  let t := s.sk.twin
  if t.st < 2 ∨ t.held ∨ t.paired then s
  else if h.crcOk = false then (s.addCnt 64 Obj.twinCrcErrors 0 1).twinNakOnce
  else if h.seq ≠ 0 then s.twinNakOnce
  else
    match s.skn.partner with
    | some p =>
      if s.rw Obj.srowDeviceId p = dev then
        let own := s.cntAt Obj.bootEpoch 0
        let rebooted := t.lastEpoch ≠ some h.epoch
        let same := t.ownEpoch = some own
        let s0 := s.setTwin { t with paired := true, rx := 1, nakSent := false, lastEpoch := some h.epoch, ownEpoch := some own }
        let s1 : State := if rebooted then { s0 with sk := { s0.sk with tko := { s0.sk.tko with adopted := false } } } else s0
        let s2 := (((s1.setCnt Obj.twinPartnerId 0 dev).setCnt Obj.twinPartnerEpoch 0 h.epoch).twinAcked h.ack h.credit).hearPartner
        let s3 : State := { s2 with sk := { s2.sk with ceiling := ceiling }, hoop := { s2.hoop with regionBytes := ceiling * mib } }
        -- what this device holds for the partner
        let s4 : State := if rebooted then s3.returnRegion
          else { s3 with hoop := { s3.hoop with region := [] }, jour := { s3.jour with partner := [] } }
        -- what the partner holds for this device: nothing, stale copies it drops, or frames it now returns
        if region = false then s4.giveUpFrames.startResync
        else if same then s4.framesBack.startResync
        else s4
      else (s.setTwin { t with st := 0, held := true, replay := [], queue := [] }).note 0xD03 1 8 0 0
    | none => (s.setTwin { t with st := 0, held := true, replay := [], queue := [] }).note 0xD03 1 8 0 0

/-! ### What frames carry -/

/-- Blocks of an operand by block row. -/
def cellBlks (l : List Cell) : Tbl (Option Blk) := l.foldl (fun t c => Tbl.set none t c.row (some ⟨c.data, c.pi⟩)) []

/-- A mirror write of the partner in its region: writes to one frame apply in sequence order (R137). -/
def regionWrite (l : List MirrorFrame) (f : MirrorFrame) : List MirrorFrame :=
  match l.find? (fun x => x.fkey = f.fkey) with
  | none => l ++ [f]
  | some x =>
    if x.epoch = f.epoch ∧ f.seq < x.seq then l
    else l.map (fun y => if y.fkey = f.fkey then { f with blks := f.blks.foldl (fun t b => Tbl.set none t b.1 b.2) y.blks } else y)

/-- A frame of this device that the partner returns (R156): it becomes DIRTY where nothing newer stands. -/
def State.takeBack (s : State) (f : MirrorFrame) : State :=
  let x := s.stripe f.key
  if s.hoop.soughtNs.contains f.ns = false ∨ Tbl.get none x.frames f.col ≠ none ∨ f.gen < x.gen then s
  else
    let fr : Frame := { blks := f.blks }
    let h := if x.timer.isNone then s.holdTime f.ns else x.hold
    (s.putStripe f.key { x with st := if x.st = .clean then .filling else x.st, gen := max x.gen f.gen
                                frames := Tbl.set none x.frames f.col (some fr)
                                timer := some (x.timer.getD s.clk.ns), hold := h }).trigger f.key

/-- MIRROR_WRITE (R136, R137): into the partner's region, acknowledged by its mirror sequence; a frame of an own namespace
is one the partner returns. -/
def State.mirrorWriteIn (s : State) (epoch : Nat) (k : FKey) (mseq : Nat) (blks : List Cell) : State :=
  let f : MirrorFrame := ⟨k.ns, ⟨k.entry, k.sel, k.stripe⟩, k.col, k.gen, mseq, epoch, cellBlks blks⟩
  if (s.nsp k.ns).owner = s.skn.side then s.takeBack f
  else ({ s with hoop := { s.hoop with region := regionWrite s.hoop.region f } }).twinSend (.mirrorAck [mseq])

/-- RELEASE (R137): the named frames leave the region; after frames that came back, mirroring restarts (R139, R156). -/
def State.releaseIn (s : State) (keys : List FKey) : State :=
  let named := fun (f : MirrorFrame) => keys.any (fun k => f.fkey = (k.ns, ⟨k.entry, k.sel, k.stripe⟩, k.col, k.gen))
  let t : State := { s with hoop := { s.hoop with region := s.hoop.region.filter (fun f => !named f) } }
  if t.hoop.mirrorState = 1 then t.framesBack.startResync else t

/-- Kinds of a record by number (Table 4-3). -/
def recKindOf (n : Nat) : RecKind :=
  if n = 0 then .destage else if n = 1 then .reconstruct else if n = 2 then .copyback else if n = 3 then .migrate
  else if n = 4 then .resync else if n = 5 then .checkpoint else .retire

/-- A record that travelled. -/
def JArg.toRec (a : JArg) : JRec :=
  { kind := recKindOf a.kind, geo := a.geo, gen := a.gen, jseq := a.jseq, key := ⟨a.entry, a.sel, a.stripe⟩, members := a.members
    stitches := a.stitches, sbase := a.sbase, time := a.time, aux := a.aux, retires := a.retires }

/-- Records kept after one more: a RETIRE record removes those it names (R143). -/
def mirrorRec (l : List JRec) (r : JRec) : List JRec :=
  if r.kind = .retire then l.filter (fun x => !r.retires.contains x.jseq) else l ++ [r]

/-- JOURNAL (R140): records of the partner into its journal mirror. -/
def State.journalIn (s : State) (recs : List JArg) : State :=
  { s with jour := { s.jour with partner := (recs.map JArg.toRec).foldl mirrorRec s.jour.partner } }

/-- A state of a member row by its code. -/
def memStOf (n : Nat) : MemSt :=
  if n = 1 then .probing else if n = 2 then .inService else if n = 3 then .failing else if n = 4 then .failed
  else if n = 5 then .rebuilding else if n = 6 then .spare else if n = 7 then .retired else .absent

/-- The keeper's member transition, applied in this device (R363). -/
def State.memberIn (s : State) (b st pos reason : Nat) : State :=
  let m := s.mem b
  let t := s.putMem b { m with st := memStOf st, pos := pos, reason := reason }
  let u := if pos ≠ 0xFF then t.recordPos pos st else t
  let v := if memStOf st = .failed ∧ m.st ≠ .failed ∧ pos ≠ 0xFF then u.posFailed pos b (m.st = .rebuilding)
    else if memStOf st = .rebuilding ∧ m.st ≠ .rebuilding ∧ pos ≠ 0xFF then u.startCopyback pos
    else if memStOf st = .failing ∧ m.st ≠ .failing ∧ pos ≠ 0xFF then u.startCopy pos
    else u
  v.later .posMoved

/-- A bolt entry's state by its code. -/
def boltStOf (n : Nat) : BoltSt := if n = 1 then .zero else if n = 2 then .mapped else if n = 3 then .migrating else .unmapped

/-- KEEPER (R363, R373, R514). -/
def State.keeperIn (s : State) (m : KMsg) : State :=
  match m with
  | .criterion b r => if s.keeper then (if r ∈ [7, 11, 12, 13] then s.memFailing b r else s.memFail b r) else s
  | .member b st pos reason => if s.keeper then s else s.memberIn b st pos reason
  | .mapUpd e base tbase st geo tgeo su lo cur ns =>
    if s.keeper then s.mapUpdate e { base := base, tbase := tbase, st := boltStOf st, geo := geo, tgeo := tgeo
                                     suspect := su, lost := lo, cursor := cur, ns := ns } else s
  | .rampAsk b => if s.keeper then s.rampAsked b else s
  | .rampGrant b => if s.keeper then s else s.rampGranted b
  | .rampEnd b => if s.keeper then s else s.partnerRamp b
  | .power b w => s.updBay b (fun x => { x with partnerP := w })

/-- Member command kinds by number: 0 read, 1 write, 2 flush. -/
def mkindOf (n : Nat) : MKind := if n = 0 then .read else if n = 1 then .write else .flush

/-- PROXY_CMD (R364): issued on the member's proxy queues, or answered as failed where this path is down too. -/
def State.proxyCmdIn (s : State) (tag bay kind lba count : Nat) (data : List (Nat × Nat)) : State :=
  let l := s.link bay
  if l.st ≠ 2 ∨ l.path ≠ 0 then s.twinSend (.proxyCpl tag 2 [])
  else
    let c : MCmd := { tag := s.drv.tag, bay := bay, kind := mkindOf kind, lba := lba, count := count
                      data := data.map (fun d => ⟨d.1, d.2⟩), owner := .proxy tag }
    ({ s with drv := { s.drv with cmds := s.drv.cmds ++ [c], tag := s.drv.tag + 1 } }).sendCmd c

/-- MIRROR_RESYNC_DONE (R139, R465): every DIRTY frame is acknowledged; the mirror state goes to 0, the solo record is
cleared, ranges wait for mirror acknowledgments only. -/
def State.resyncDone (s : State) : State :=
  let all := s.hoop.stripes.all (fun e => e.2.all.all (fun f => f.blks = [] || f.acked))
  if s.hoop.mirrorState ≠ 2 ∨ all = false then s
  else
    let t := ({ s with hoop := { s.hoop with mirrorState := 0 } }).writeSolo none
    let held := fun (_ : WCmd) (r : Range) =>
      r.st = 2 && (match Tbl.get none (if r.shadow then (t.stripe r.key).succ else (t.stripe r.key).frames) r.col with
        | some f => f.acked
        | none => false)
    t.ackWhere held

end Sys2Proof.Machine
end

