-- ==== Sys2Proof/Machine/Skein.lean ====
section
/-!
DEFINITION. Machine/Skein.lean: skein rows, roles and messages (R450 to R460), the directory (R471, R475), partner loss,
takeover and adoption (R467 to R472), moves of namespaces and leaving (R456, R473, R474).
-/

namespace Sys2Proof.Machine

/-! ### Rows -/

/-- The enabled rows (R450). -/
def State.skRows (s : State) : List Nat := (List.range 32).filter (fun r => s.rw Obj.srowEnable r = 1)

/-- Whether the skein is multi-shelf (R453). -/
def State.multiShelf (s : State) : Bool :=
  s.skRows.any (fun a => s.skRows.any (fun b => s.rw Obj.srowShelf a ≠ s.rw Obj.srowShelf b))

/-- The row, side and partner of this device by the effective rows (R450, R452). -/
def State.placeInSkein (s : State) : Skn :=
  match s.skRows.find? (fun r => s.rw Obj.srowDeviceId r = Config.deviceId) with
  | none => {}
  | some r =>
    match s.skRows.find? (fun p => p ≠ r && s.rw Obj.srowShelf p = s.rw Obj.srowShelf r) with
    | none => { row := some r }
    | some p => { row := some r, side := if r < p then 0 else 1, partner := some p, present := s.skn.present && s.skn.partner = some p }

/-- What this device knows of a row. -/
def State.skRow (s : State) (r : Nat) : SkRow := Tbl.get {} s.sk.rows r

/-- Changes what this device knows of a row. -/
def State.updSkRow (s : State) (r : Nat) (f : SkRow → SkRow) : State :=
  { s with sk := { s.sk with rows := Tbl.upd {} s.sk.rows r f } }

/-- Whether a row is in this device's view: its own, or one heard within t_d (R453). -/
def State.inView (s : State) (r : Nat) : Bool := s.skn.row = some r || (s.skRow r).inView

/-- The view (`skn.view`). -/
def State.view (s : State) : List Nat := s.skRows.filter s.inView

/-- Whether the view holds a quorum, where one is needed (R453, R454). -/
def State.quorum (s : State) : Bool := !s.multiShelf || decide (s.skRows.length < 2 * s.view.length)

/-- Whether a row may be manager or deputy. -/
def State.eligible (s : State) (r : Nat) : Bool := s.rw Obj.srowEligible r = 1

/-! ### Messages -/

/-- `TYPE` of a message (Table 14-3). -/
def SkBody.type : SkBody → Nat
  | .heartbeat .. => 1 | .join .. => 2 | .welcome .. => 3 | .leave => 4 | .dirUpdate .. => 5 | .dirAck _ => 6
  | .confirmQuery _ => 7 | .confirmReply .. => 8 | .takeoverRequest _ => 9 | .takeoverNotice .. => 0xA | .handover .. => 0xB

/-- The numbers of a directory entry. -/
def DirEnt.nums : DirEnt → List Nat
  | .row r role v sh => [0, r, role, b2n v, sh]
  | .shelf sh st a f c d => [1, sh, st, a, f, c] ++ d
  | .ns sh n side => [2, sh, n, side]

/-- The body of a message, zero-filled to a multiple of 4 (Tables 14-2 and 14-3). -/
def SkBody.bytes (b : SkBody) : Bytes :=
  let x : Bytes := match b with
    | .heartbeat st fl n v => [st % 256, fl % 256] ++ leBytes 2 n ++ leBytes 4 v
    | .join a h => leBytes 8 a ++ leBytes 8 h
    | .welcome d v e => [d % 256] ++ Config.dirBytes (v :: e.flatMap DirEnt.nums)
    | .leave => []
    | .dirUpdate v e => Config.dirBytes (v :: e.flatMap DirEnt.nums)
    | .dirAck v => leBytes 4 v
    | .confirmQuery r => [r % 256]
    | .confirmReply r m t => [r % 256, b2n m] ++ leBytes 4 t
    | .takeoverRequest c => [c % 256]
    | .takeoverNotice l n => [l % 256] ++ leBytes 2 n
    | .handover l st => l.flatMap (leBytes 2) ++ [st % 256]
  x ++ pad4 x.length

/-- The header of a message with an `AUTH` (Table 14-2). -/
def skHeader (b : SkBody) (row role term seq sender : Nat) (auth : Bytes) : Bytes :=
  [b.type, 1] ++ leBytes 2 b.bytes.length ++ [row % 32, role % 8, 0, 0] ++ leBytes 4 term ++ leBytes 8 seq ++ leBytes 8 sender ++ auth

/-- `AUTH` of a message under `skn.key` (Table 14-2). -/
def State.skAuth (s : State) (b : SkBody) (row role term seq sender : Nat) : Bytes :=
  (hmac (decStr (s.rw Obj.sknKey 0)) (skHeader b row role term seq sender (zeros 16) ++ b.bytes)).take 16

/-- Whether a path to a row exists: 0 the twin link to the partner, 1 the data ports, 2 the management ports (R457). -/
def State.pathTo (s : State) (p r : Nat) : Bool :=
  bit (s.rw Obj.sknPaths 0) p &&
    (match p with
     | 0 => s.skn.partner = some r && s.twinUp
     | 1 => s.inS7 && !s.boot.hold && decide (s.rw Obj.sknDataGid 0 ≠ 0xFFFF) && decide (s.rw Obj.srowDataIpv4 r ≠ 0)
     | _ => decide (s.rw Obj.srowMgmtIpv4 r ≠ 0) && (s.mportUp 0 || s.mportUp 1))

/-- Sends one message to a row over the paths of `ps` that lead there: one `SEQ`, shared by all (R458, R460). A device that
has left sends only heartbeats to its partner (R456); one that belongs to no skein sends nothing (R450). -/
def State.skSend (s : State) (ps : List Nat) (r : Nat) (b : SkBody) : State :=
  match s.skn.row with
  | none => s
  | some own =>
    let beat := match b with | .heartbeat .. => true | .leave => true | _ => false
    if s.sk.left && !(beat && s.skn.partner = some r) then s
    else
      let n := wrapAdd 32 s.sk.seq 1
      let q := s.cntAt Obj.bootEpoch 0 * 2 ^ 32 + n
      let m : SkMsg := { row := own, role := s.sk.role, term := s.sk.term, seq := q, sender := Config.deviceId
                         auth := s.skAuth b own s.sk.role s.sk.term q Config.deviceId, body := b }
      (ps.filter (fun p => s.pathTo p r)).foldl
        (fun t p => if p = 0 then t.twinSend (.skein m) else t.emit (.skein p r m)) { s with sk := { s.sk with seq := n } }

/-- Every path. -/
def allPaths : List Nat := [0, 1, 2]

/-- Sends to every other enabled row. -/
def State.skCast (s : State) (b : SkBody) : State :=
  (s.skRows.filter (fun r => s.skn.row ≠ some r)).foldl (fun t r => t.skSend allPaths r b) s

/-- Namespaces this device owns. -/
def State.ownNss (s : State) : List Nat :=
  (s.place.nss.filter (fun e => e.2.owner = s.skn.side && e.2.bolts ≠ 0)).map (fun e => e.1)

/-- Namespaces the partner owns. -/
def State.theirNss (s : State) : List Nat :=
  (s.place.nss.filter (fun e => e.2.owner = 1 - s.skn.side && e.2.bolts ≠ 0)).map (fun e => e.1)

/-- A heartbeat (Table 14-3). -/
def State.beat (s : State) : SkBody :=
  .heartbeat (s.cntAt Obj.bootStage 0)
    (b2n (s.hoop.mirrorState = 1) + 2 * b2n s.boot.depart.isSome + 4 * b2n (s.msq.st = .halted || s.devFenced))
    s.ownNss.length s.sk.dir.version

/-! ### The directory -/

/-- A directory with an entry applied. -/
def Directory.put (d : Directory) (e : DirEnt) : Directory :=
  match e with
  | .row r role v sh => { d with rows := Tbl.set {} d.rows r ⟨role, v, sh⟩ }
  | .shelf sh st a f c dg => { d with shelves := Tbl.set {} d.shelves sh ⟨st, a, f, c, dg⟩ }
  | .ns sh n side => { d with nss := Tbl.set 0 d.nss (sh * 4096 + n) (side + 1) }

/-- A directory with entries applied. -/
def Directory.puts (d : Directory) (l : List DirEnt) : Directory := l.foldl Directory.put d

/-- The entries of a directory. -/
def Directory.ents (d : Directory) : List DirEnt :=
  d.rows.map (fun e => .row e.1 e.2.role e.2.view e.2.shelf)
    ++ d.shelves.map (fun e => .shelf e.1 e.2.state e.2.array e.2.free e.2.count e.2.digests)
    ++ d.nss.map (fun e => .ns (e.1 / 4096) (e.1 % 4096) (e.2 - 1))

/-- Replaces the directory; hosts whose log changes are told (R476). -/
def State.setDir (s : State) (d : Directory) : State :=
  let t : State := { s with sk := { s.sk with dir := d } }
  t.discNotice s

/-- The manager changes its directory (R475): the version rises; the deputy gets the update first, with what it has not
acknowledged yet, the other rows once it has acknowledged, or at once where there is no deputy. -/
def State.dirSet (s : State) (l : List DirEnt) : State :=
  let d := s.sk.dir.puts l
  if s.sk.role ≠ 0 ∨ d = s.sk.dir then s
  else
    let v := wrapAdd 32 d.version 1
    let w := d.waiting ++ l
    if s.sk.deputy = 0xFF then (s.setDir { d with version := v, waiting := [] }).skCast (.dirUpdate v w)
    else (s.setDir { d with version := v, waiting := w }).skSend allPaths s.sk.deputy (.dirUpdate v w)

/-- Shelf of this device. -/
def State.myShelf (s : State) : Nat := match s.skn.row with | some r => s.rw Obj.srowShelf r | none => 0

/-- Unallocated raw bytes of the array (R475). -/
def State.freeRaw (s : State) : Nat :=
  s.servicePos.length * s.dataSpace - (s.place.slots.map (fun x => (s.geo x.geo).foot * 16384 * (s.geo x.geo).w)).foldl (· + ·) 0

/-- The digests of the enabled hosts' NQNs. -/
def State.hostDigests (s : State) : List Nat :=
  ((s.effRows Obj.hostEnable).filter (fun e => e.2 = 1)).map (fun e => strDigest (s.rw Obj.hostNqn e.1))

/-- State of a shelf by the view: 0 unused, 1 both present, 2 one present, 3 lost (R471). -/
def State.shelfSt (s : State) (sh : Nat) : Nat :=
  let rows := s.skRows.filter (fun r => s.rw Obj.srowShelf r = sh)
  let n := (rows.filter s.inView).length
  if rows = [] then 0 else if n = 0 then 3 else if n = 1 then 2 else 1

/-- The entries a view change makes: the row and its shelf. -/
def State.rowEnts (s : State) (r : Nat) : List DirEnt :=
  let sh := s.rw Obj.srowShelf r
  let x := Tbl.get {} s.sk.dir.shelves sh
  let role := if s.skn.row = some r then s.sk.role else if s.sk.deputy = r then 1
    else if (s.skRow r).role = 3 then 3 else 2
  [.row r role (s.inView r) sh, .shelf sh (s.shelfSt sh) x.array x.free x.count x.digests]

/-- The entries of this device's own shelf (R475). -/
def State.shelfEnts (s : State) : List DirEnt :=
  let sh := s.myShelf
  let l := s.place.nss.filter (fun e => e.2.bolts ≠ 0)
  .shelf sh (s.shelfSt sh) (s.place.array.getD 0) s.freeRaw l.length s.hostDigests
    :: l.map (fun e => .ns sh e.1 e.2.owner)

/-- Reports an ownership change: the manager updates its directory, another device tells the manager (R475). -/
def State.dirReport (s : State) (l : List DirEnt) : State :=
  if s.sk.role = 0 then s.dirSet l
  else if s.sk.mgr = 0xFF then s
  else s.skSend allPaths s.sk.mgr (.dirUpdate s.sk.dir.version l)

/-! ### Roles -/

/-- Sets the role. -/
def State.setRole (s : State) (r : Nat) : State := { s with sk := { s.sk with role := r } }

/-- The manager names a deputy: it keeps one in its view, else takes the lowest eligible row of its view (R454). -/
def State.nameDeputy (s : State) : State :=
  let ok := fun r => s.skn.row ≠ some r && s.eligible r
  if s.sk.deputy ≠ 0xFF && s.view.contains s.sk.deputy && ok s.sk.deputy then s
  else
    match s.view.find? (fun r => ok r) with
    | some r => let t : State := { s with sk := { s.sk with deputy := r } }; t.dirSet (t.rowEnts r)
    | none => { s with sk := { s.sk with deputy := 0xFF } }

/-- This device becomes manager: its term is the highest it has heard plus 1 (R454). -/
def State.becomeManager (s : State) (own : Nat) : State :=
  let t : State := { s with sk := { s.sk with role := 0, term := wrapAdd 32 s.sk.term 1, mgr := own
                                              deputy := if s.sk.deputy = own then 0xFF else s.sk.deputy } }
  (t.dirSet (t.skRows.flatMap t.rowEnts ++ t.shelfEnts)).nameDeputy

/-- The manager this device's view holds. -/
def State.mgrInView (s : State) : Option Nat :=
  s.view.find? (fun r => s.skn.row ≠ some r && (s.skRow r).role = 0 && !(s.skRow r).left)

/-- ROLE_ELECTION (R454). `lost` tells that a row has left the view. -/
def State.elect (s : State) (lost : Bool) : State :=
  match s.skn.row with
  | none => s.setRole 4
  | some own =>
    if s.sk.left ∨ s.sk.tko.st = 5 then s
    else if s.sk.role = 0 then s.nameDeputy
    else
      match s.mgrInView with
      | some m =>
        let t : State := { s with sk := { s.sk with mgr := m } }
        if t.sk.role = 3 ∨ t.sk.role = 4 then t.setRole 2 else t
      | none =>
        let both := s.skn.partner.isSome && s.eligible own && (match s.skn.partner with | some p => s.eligible p | none => false)
        if !s.multiShelf && both then
          if s.skn.side = 0 ∨ lost then (if s.eligible own then s.becomeManager own else s) else s.setRole 1
        else if s.eligible own && s.quorum && (s.sk.role = 1 || (s.view.find? s.eligible) = some own) then s.becomeManager own
        else if lost && s.multiShelf && !(s.sk.deputy ≠ 0xFF && s.sk.deputy ≠ own && s.inView s.sk.deputy) then s.setRole 3
        else if s.sk.role = 4 then s.setRole 2
        else s

/-- A claim heard in a message: terms and roles (R454). -/
def State.hearClaim (s : State) (r role term : Nat) : State :=
  let old := s.sk.term
  let t : State := { s with sk := { s.sk with term := max old term } }
  if role = 0 ∧ old ≤ term then
    let yields : Bool := t.sk.role = 0 && (decide (old < term) || (match t.skn.row with | some own => decide (r < own) | none => false))
    let u : State := { t with sk := { t.sk with mgr := r, role := if yields then 2 else t.sk.role } }
    if u.sk.role = 3 ∧ u.sk.tko.st ≠ 5 then u.setRole 2 else u
  else if role = 1 then
    let u : State := if t.sk.role = 0 then t else { t with sk := { t.sk with deputy := r } }
    if u.sk.role = 3 ∧ u.sk.tko.st ≠ 5 then u.setRole 2 else u
  else t

/-! ### Receiving -/

/-- Whether a datagram of the data ports is a skein message (R457), or the management ports carry it. -/
def State.skCarried (s : State) (h : SkHdr) : Bool :=
  bit (s.rw Obj.sknPaths 0) h.path &&
    (match h.path with
     | 0 => true
     | 1 => !s.boot.hold && h.port < s.ports && decide (s.rw Obj.sknDataGid 0 ≠ 0xFFFF)
              && s.skRows.any (fun r => s.rw Obj.srowDataIpv4 r = h.src && h.src ≠ 0) && s.rw Obj.dscpTc (h.port * 64 + h.dscp) = 7
     | 2 => h.port < 2 && s.mportUp h.port
     | _ => false)

/-- Whether a `SEQ` of a row is new and within 64 of its highest (R459). -/
def SkRow.accepts (x : SkRow) (seq : Nat) : Bool := !x.accepted.contains seq && decide (x.hi < seq + 64)

/-- A row after accepting a message. -/
def SkRow.accept (x : SkRow) (seq role now : Nat) : SkRow :=
  let hi := max x.hi seq
  { x with heard := some now, inView := true, hi := hi, role := role, accepted := (seq :: x.accepted).filter (fun n => hi < n + 64) }

/-- A skein message (R457 to R459): accepted, its sender counts as heard, then acted on by `f`; otherwise dropped, a bad tag
counted. -/
def State.skTake (s : State) (h : SkHdr) (b : SkBody) (f : State → State) : State :=
  if s.skn.row = none ∨ s.inS7 = false ∨ s.skn.row = some h.row ∨ s.skRows.contains h.row = false ∨ s.skCarried h = false then s
  else if h.auth ≠ s.skAuth b h.row h.role h.term h.seq h.sender then s.addCnt 64 Obj.sknAuthDrops 0 1
  else if s.rw Obj.srowDeviceId h.row ≠ h.sender ∨ (s.skRow h.row).accepts h.seq = false then s
  else
    let was := s.inView h.row
    let t := s.updSkRow h.row (fun x => x.accept h.seq h.role s.clk.ns)
    let u := if t.skn.partner = some h.row then
        { t with skn := { t.skn with present := !(t.skRow h.row).left && !t.sk.tko.adopted }, sk := { t.sk with tko := { t.sk.tko with lost := false } } }
      else t
    let v := (u.hearClaim h.row h.role h.term).elect false
    f (if was then v else v.dirSet (v.rowEnts h.row))

/-- A skein message over its path: over the twin link its frame comes first (R463). -/
def State.skIn (s : State) (h : SkHdr) (b : SkBody) (f : State → State) : State :=
  if h.path = 0 then
    match h.tw with
    | some w => s.twinIn w (fun t => t.skTake h b f)
    | none => s
  else s.skTake h b f

/-- The digest of the committed enabled rows, and of the host and attachment tables (R455), over the numbers they hold. -/
def State.rowDigest (s : State) : Nat :=
  leNat ((sha256 (s.skRows.flatMap (fun r => [r] ++ leBytes 8 (s.rw Obj.srowDeviceId r) ++ [s.rw Obj.srowShelf r, s.rw Obj.srowEligible r]
    ++ leBytes 4 (s.rw Obj.srowMgmtIpv4 r) ++ leBytes 4 (s.rw Obj.srowDataIpv4 r)))).take 8)

/-- The rows of an index that differ from their defaults, by object. -/
def State.idxBytes (s : State) (idx : Nat) : Bytes :=
  s.dict.eff.flatMap (fun e => match e.2 with
    | some v => if e.1 / 4294967296 / 256 = idx then leBytes 8 e.1 ++ leBytes 32 v else []
    | none => [])

/-- Digest of `0x5103 host` and `0x5104 att`. -/
def State.hostDigest (s : State) : Nat := leNat ((sha256 (s.idxBytes 0x5103 ++ s.idxBytes 0x5104)).take 8)

/-- JOIN to every enabled row (R455). -/
def State.sendJoin (s : State) : State := s.skCast (.join s.rowDigest s.hostDigest)

/-- The skein part of entering S7: the role starts, JOIN is sent (R454, R455). -/
def State.joinSkein (s : State) : State :=
  match s.skn.row with
  | none => s.setRole 4
  | some _ => ((s.setRole 2).elect false).sendJoin

/-- The rows changed (R450, R452): row, side and partner anew; at S7 the device joins. -/
def State.skeinApply (s : State) : State :=
  let n := s.placeInSkein
  let t : State := { s with skn := n }
  if n.row = s.skn.row then (if s.inS7 && n.partner ≠ s.skn.partner then t.elect false else t)
  else if s.inS7 then t.joinSkein else (if n.row = none then t.setRole 4 else t)

/-- JOIN (R455). -/
def State.joinIn (s : State) (r role digest hosts : Nat) : State :=
  let t := s.updSkRow r (fun x => { x with left := false })
  let t : State := if t.skn.partner = some r then
      { t with skn := { t.skn with present := true }, sk := { t.sk with tko := { t.sk.tko with adopted := false } } } else t
  let t := if t.skn.partner = some r ∧ hosts ≠ t.hostDigest then t.note 0xD06 0 0 0 0 else t
  if digest ≠ t.rowDigest then
    if t.sk.role = 0 then
      let u := (t.updSkRow r (fun x => { x with role := 3 })).note 0xD05 0 0 0 0
      let e := [DirEnt.row r 3 true (u.rw Obj.srowShelf r)]
      (u.dirSet e).skSend allPaths r (.dirUpdate u.sk.dir.version e)
    else if role = 0 then (t.setRole 3).note 0xD05 0 0 0 0
    else t
  else if t.sk.role = 0 then
    let u := (t.nameDeputy).dirSet (t.rowEnts r)
    u.skSend allPaths r (.welcome u.sk.deputy u.sk.dir.version u.sk.dir.ents)
  else t

/-- Takes over a directory received, with the role it gives this device. -/
def State.takeDir (s : State) (version : Nat) (l : List DirEnt) (whole : Bool) : State :=
  let d0 : Directory := if whole then {} else s.sk.dir
  let d := { d0.puts l with version := version, waiting := [] }
  let t := s.setDir d
  match t.skn.row with
  | none => t
  | some own =>
    if l.any (fun e => match e with | .row r role _ _ => r = own && role = 3 | _ => false) then
      (t.setRole 3).note 0xD05 0 0 0 0
    else if l.any (fun e => match e with | .row r role _ _ => r = own && role = 1 | _ => false) then
      { (t.setRole 1) with sk := { (t.setRole 1).sk with deputy := own } }
    else if t.sk.role = 1 ∧ l.any (fun e => match e with | .row r role _ _ => r = own && role = 2 | _ => false) then t.setRole 2
    else t

/-- WELCOME (R455): the deputy row and the directory; the device reports its shelf. -/
def State.welcomeIn (s : State) (from_ deputy version : Nat) (l : List DirEnt) : State :=
  if s.sk.role = 0 ∨ s.sk.mgr ≠ from_ then s
  else
    let t := s.takeDir version l true
    let u : State := { t with sk := { t.sk with deputy := deputy } }
    let v := if u.skn.row = some deputy ∧ u.sk.role = 2 then u.setRole 1 else u
    v.dirReport v.shelfEnts

/-- DIR_UPDATE (R475): a worker's report to the manager, or the manager's push, which is acknowledged. -/
def State.dirUpdateIn (s : State) (from_ version : Nat) (l : List DirEnt) : State :=
  if s.sk.role = 0 then s.dirSet l
  else if s.sk.mgr ≠ from_ then s
  else (s.takeDir version l false).skSend allPaths from_ (.dirAck version)

/-- DIR_ACK (R475): once the deputy has the version, the other rows get it. -/
def State.dirAckIn (s : State) (from_ version : Nat) : State :=
  let d := s.sk.dir
  if s.sk.role ≠ 0 ∨ s.sk.deputy ≠ from_ ∨ version ≠ d.version ∨ d.waiting = [] then s
  else
    let t : State := { s with sk := { s.sk with dir := { d with waiting := [] } } }
    (t.skRows.filter (fun r => t.skn.row ≠ some r && r ≠ from_)).foldl
      (fun u r => u.skSend allPaths r (.dirUpdate version d.waiting)) t

end Sys2Proof.Machine
end

