-- ==== Sys2Proof/Machine/Vault.lean ====
section
/-!
DEFINITION. Machine/Vault.lean: the vault dump and its test (R151 to R158), restoration (R156), retention (R159 to
R161), journal replay (R147) and the SUSPECT fallback (R148).
-/

namespace Sys2Proof.Machine

/-- Frame bytes of 1 MiB payload units that hold `n` bytes. -/
def chunksOf (n : Nat) : Nat := (n + mib - 1) / mib

/-- The chunks of a dump in order: journal, own frames (BASTED and DESTAGING stripes before FILLING ones, RESERVED
frames excluded), the partner's mirror region (R153): kind and count. -/
def State.dumpChunks (s : State) : List (Nat × Nat) :=
  let j := chunksOf (s.jour.recs.length * 64)
  let dirty := fun (f : Frame) => f.owner = 0
  let inDestage := fun (k : SKey) => (s.stripe k).shadowed
  let a := chunksOf (s.hoopBytes inDestage dirty) + chunksOf (s.hoopBytes (fun k => !inDestage k) dirty)
  let m := chunksOf (s.hoop.region.foldl (fun n f => n + f.blks.length * 4096) 0)
  (List.range j).map (fun i => (1, i)) ++ (List.range a).map (fun i => (2, i)) ++ (List.range m).map (fun i => (3, i))

/-- The position of chunk `i` in the rotation of IN_SERVICE positions. -/
def State.chunkPos (s : State) (i : Nat) : Option Nat :=
  let ps := s.servicePos
  if ps = [] then none else ps[i % ps.length]?

/-- Writes the next chunk, or flushes every member when the last is written (R153). -/
def State.nextChunk (s : State) (i : Nat) : State :=
  match s.vault.todo with
  | [] => (s.servicePos).foldl (fun t a => t.emit (.memFlush a)) { s with vault := { s.vault with cur := none } }
  | (kind, _) :: rest =>
    match s.chunkPos i with
    | none => { s with vault := { s.vault with cur := none } }
    | some a =>
      let c : Chunk := ⟨kind, i, a, 0⟩
      ({ s with vault := { s.vault with todo := rest, cur := some c } }).emit (.vaultChunk a s.vault.gen i kind)

/-- The frames a dump takes: DIRTY ones. -/
def State.dirtyStripes (s : State) : Tbl Stripe :=
  let keep := fun (t : Tbl (Option Frame)) => t.filter (fun e => match e.2 with | some f => f.owner = 0 | none => false)
  Tbl.mapRows {} (fun _ (x : Stripe) => { x with frames := keep x.frames, succ := keep x.succ }) s.hoop.stripes

/-- Begins a dump: STARTED headers with a new generation on every IN_SERVICE member, then the first chunk (R152, R153). The
generation of a test is superseded (R158). -/
def State.startDump (s : State) (st : Nat) : State :=
  let g := wrapAdd 32 s.vault.mediaGen 1
  let v := { s.vault with state := st, gen := g, todo := s.dumpChunks, done := 0, start := s.clk.ns, flushed := false, deasserted := false }
  let t := (s.servicePos).foldl (fun u a => u.emit (.vaultHeader a g false)) { s with vault := v }
  let t : State := if st = 1 then { t with vault := { t.vault with
      mediaGen := g, mediaComplete := false, mediaValid := true, mediaEpoch := s.cntAt Obj.bootEpoch 0, savedRecs := s.jour.recs
      savedStripes := s.dirtyStripes, savedRegion := s.hoop.region, restored := [] } }
    else { t with vault := { t.vault with mediaGen := g, mediaValid := false, restored := [] } }
  t.nextChunk 0

/-- PWRFAIL_FILTERED (R152, R157): with `vault.enable` = 1 the device quiesces and dumps; in S6 and S5 no chunk is written and
the previous vault stays valid (R484). -/
def State.pwrfail (s : State) : State :=
  let t := s.later (.detect 0x004 0 0 0)
  if s.rw Obj.vaultEnable 0 = 0 ∨ s.inS7 = false ∨ s.vault.state = 1 then t
  else
    -- steps 1 to 3: admission stops; writes not completed and destages in flight are abandoned
    let cut := fun (x : Tbl (Option Frame)) => x.filter (fun e => match e.2 with | some f => f.owner = 0 | none => false)
    let back := fun (x : Stripe) =>
      { x with frames := cut x.frames, succ := cut x.succ, st := if x.st = .destaging then .basted else x.st, left := [], omitted := [] }
    let u : State := { t with
      hoop := { t.hoop with stopped := true, writes := [], queue := [], fills := []
                            stripes := Tbl.mapRows {} (fun _ x => back x) t.hoop.stripes }
      drv := { t.drv with cmds := t.drv.cmds.filter (fun c => match c.owner with | .destage _ _ => false | _ => true) } }
    -- steps 4 to 6
    (u.later (.twin .vaultNotice)).startDump 1

/-- VAULT_CHUNK_WRITE_DONE (R153): the next chunk, or the same one at the next position of the rotation. -/
def State.chunkDone (s : State) (ok : Bool) : State :=
  match s.vault.cur with
  | none => s
  | some c =>
    if ok then ({ s with vault := { s.vault with done := s.vault.done + 1, cur := none } }).nextChunk (c.index + 1)
    else
      match s.chunkPos (c.index + c.tries + 1) with
      | none => s
      | some a =>
        let d := { c with pos := a, tries := c.tries + 1 }
        ({ s with vault := { s.vault with cur := some d } }).emit (.vaultChunk a s.vault.gen c.index c.kind)

/-- VAULT_FLUSH_DONE (R153, R157, R158): COMPLETE headers, the results; where `PWRFAIL_N` deasserted and the supplies
stayed in tolerance (`held`), a warm reset follows the dump. -/
def State.flushDone (s : State) (held : Bool) : State :=
  if s.vault.state ≠ 1 ∧ s.vault.state ≠ 3 ∨ s.vault.cur ≠ none ∨ s.vault.todo ≠ [] then s
  else
    let us := (s.clk.ns - s.vault.start) / 1000
    let bytes := s.vault.done * 1032 * 1024
    let rate := if us = 0 then s.vault.rate else bytes / us
    let t := (s.servicePos).foldl (fun u a => u.emit (.vaultHeader a s.vault.gen true)) s
    let v := { t.vault with flushed := true, rate := rate }
    if s.vault.state = 3 then
      ({ t with vault := { v with state := 0 } }).actDone Obj.vaultTest 0
    else
      let w := { v with mediaComplete := true, lastBytes := bytes, lastTime := us, state := 0, deasserted := held }
      let u : State := { t with vault := w }
      if held then u.later .warmReset else u

/-- `vault.test` (R158). -/
def State.vaultTestOp (s : State) : State :=
  if s.rw Obj.vaultEnable 0 = 0 then s.actFail Obj.vaultTest 0 1
  else if s.inS7 = false then s.actFail Obj.vaultTest 0 2
  else if s.vault.state ≠ 0 then s
  else (s.actRun Obj.vaultTest 0).startDump 3

/-- The dirty ceilings' bytes V of R155: 1 GiB and both ceilings. `partner` is the partner's ceiling in MiB. -/
def State.vaultV (s : State) (partner : Nat) : Nat := 1024 * mib + s.ceiling + partner * mib

/-- `vault.est_time` in µs for the current dirty bytes and the last measured rate (R154, R155): 3 ms and the transfer;
the members' Flush takes what their data sheet says, a free value; so does the transfer while no rate was measured. -/
def State.vaultEst (s : State) : Nat :=
  let v := 1024 * mib + s.hoopDirty + s.hoop.region.foldl (fun n f => n + f.blks.length * 4096) 0
  3000 + Config.flushUs + (if s.vault.rate = 0 then Config.vaultXfer v else v * 1032 / 1024 / s.vault.rate)

/-- `vault.capacity`. -/
def State.vaultCap (s : State) : Nat := 3047 * mib * s.servicePos.length

/-! ### S5 -/

/-- What S5 finds of what other places hold: whether the retention record and its digest are valid (R159), whether the
newest vault generation is readable with each chunk's CRC good, the stripes of frames that neither it nor the partner's half
supplied (R156), whether any journal copy is readable (R147, R148). -/
structure S5Find where
  retained : Bool := false
  vaultOk : Bool := true
  missing : List Nat := []
  journal : Bool := true
deriving DecidableEq, Repr

/-- Clears what DRAM loses: hoop, working copy, lost-block log. -/
def State.dropDram (s : State) : State :=
  { s with hoop := { mirrorState := 1, regionBytes := s.hoop.regionBytes, nextCmd := s.hoop.nextCmd }
           darn := { s.darn with log := [], relisting := !s.darn.lostStripes.isEmpty } }

/-- Discards the frames of namespaces the partner owns (R156, R161). -/
def State.dropForeign (s : State) : State :=
  let theirs := fun (k : SKey) => (s.nsp (s.bolt k.entry).ns).owner ≠ s.skn.side
  { s with hoop := { s.hoop with stripes := s.hoop.stripes.filter (fun e => !theirs (skeyOf e.1)) } }

/-- Whether the newest generation brings everything back: its COMPLETE header stands and every chunk is good (R156). -/
def State.vaultWhole (s : State) (f : S5Find) : Bool := s.vault.mediaValid && s.vault.mediaComplete && f.vaultOk

/-- The namespaces of the frames S5 found nowhere: they are sought from the partner (R156, R160). -/
def State.seek (s : State) (missing : List Nat) : State :=
  let ns := (s.place.nss.filter (fun e => e.2.owner = s.skn.side && missing.any (fun m => s.ofNs e.1 (skeyOf m)))).map (fun e => e.1)
  { s with hoop := { s.hoop with soughtNs := ns } }

/-- VAULT_RESTORE (R156): the newest generation comes back; `vault.last_result` reports the outcome. Frames that are
missing are sought from the partner, and their namespaces wait for it. -/
def State.vaultRestore (s : State) (f : S5Find) : State :=
  if s.vault.mediaValid = false then s.seek f.missing
  else
    let v := s.vault
    let whole := s.vaultWhole f
    let got := if whole then v.savedStripes else v.savedStripes.filter (fun e => !f.missing.contains e.1)
    let moved := got.any (fun e => (s.nsp (s.bolt (skeyOf e.1).entry).ns).owner ≠ s.skn.side)
    let t : State := { s with hoop := { s.hoop with stripes := got, region := v.savedRegion } }
    let u := t.dropForeign
    let w := if whole then u else (u.note 0xC08 0 0 0 0).seek f.missing
    let res := if whole then (if moved && u.hoop.stripes.isEmpty then 5 else 1) else if f.missing = [] then 2 else 3
    { w with vault := { w.vault with lastResult := res, restored := w.hoop.stripes.map (fun e => e.1)
                                     mediaValid := !w.hoop.stripes.isEmpty } }

/-- The vault generation is retired once every restored frame has been mirrored or destaged (R156). -/
def State.vaultCheck (s : State) : State :=
  if s.vault.restored = [] then s
  else
    let l := s.vault.restored.filter (fun n =>
      let fs := (s.stripe (skeyOf n)).all
      fs ≠ [] && !(s.hoop.mirrorState = 0 && fs.all (fun f => f.acked)))
    { s with vault := { s.vault with restored := l, mediaValid := s.vault.mediaValid && !l.isEmpty } }

/-- SUSPECT_FALLBACK (R148): no valid copy of the journal: every MAPPED or MIGRATING bolt is SUSPECT. -/
def State.suspectAll (s : State) : State :=
  let es := (s.place.bolts.filter (fun e => e.2.st = .mapped || e.2.st = .migrating)).map (fun e => e.1)
  let t := es.foldl (fun u e => u.markBolt e (fun b => { b with suspect := true })) s
  ({ t with jour := { t.jour with recs := [], resync := 0 } }).note 0xC05 0 0 0 0

/-- JOURNAL_REPLAY (R147, Table 4-5): a DESTAGE record with its frames destages again under it; without them its parity
is checked, `wrong` naming the records whose P and Q do not match, and recomputed; a MIGRATE copy is repeated (R112);
other operations are repeated by their walks; checkpoints give the cursors. -/
def State.replayRec (wrong : List Nat) (t : State) (r : JRec) : State :=
  match r.kind with
  | .destage =>
    let x := t.stripe r.key
    if x.frames ≠ [] ∧ (x.gen = r.gen ∨ x.frameGen false = r.gen) then
      t.putStripe r.key { x with st := .basted, gen := r.gen, live := some r.jseq, left := [], omitted := [] }
    else
      let u := t.jRetire r.jseq
      if wrong.contains r.jseq then u.note 0xC06 4 (u.bolt r.key.entry).ns 0 0 else u
  | .migrate =>
    let u := t.jRetire r.jseq
    u.updMig r.key.entry (fun m => { m with copied := false, jseq := 0 })
  | .checkpoint =>
    let op := r.aux % 256
    let a := r.aux / 256 % 256
    let n := r.aux / 65536 % 2 ^ 32
    if op = 1 then
      let p := t.pass a
      if p.st = 1 ∨ p.st = 3 then t.putPass a { p with cursor := n * 16384 + zoneBytes, since := 0 } else t
    else if op = 2 then
      if Tbl.get none t.place.copyback a ≠ none then
        { t with place := { t.place with copyback := Tbl.set none t.place.copyback a (some n) } } else t
    else { t with jour := { t.jour with resync := n } }
  | .retire => t
  | _ => t.jRetire r.jseq

/-- Every live record of the working copy acted on (R147). -/
def State.replay (s : State) (wrong : List Nat) : State := s.jour.recs.foldl (State.replayRec wrong) s

/-- The storage part of S5: retention or vault, journal, walks at their newest checkpoints or anew (R193), scrub at its bolt (R200); critical passes start over (R194),
the lost-block log is relisted unless DRAM was retained (R192). `warm` tells a warm reset. -/
def State.s5Storage (s : State) (warm : Bool) (f : S5Find) (wrong : List Nat) : State :=
  let kept := warm && f.retained
  let s0 : State := { s with hoop := { s.hoop with stopped := false, writes := [], reads := [], queue := [], fills := [], mirrorState := 1, mseq := 0 }
                             drv := { s.drv with cmds := [], aborts := [] }
                             darn := { s.darn with
                               crits := [], claims := [], rate := s.rw Obj.rbFloor 0, bgRate := s.rw Obj.bgFloor 0, cbSince := [], rsSince := 0
                               scrub := s.darn.scrub / 65536 * 65536
                               passes := Tbl.mapRows {} (fun _ (p : Pass) =>
                                 if p.st = 1 ∨ p.st = 3 then { p with cursor := 0, since := 0 } else p) s.darn.passes }
                             jour := { s.jour with resync := 0 }
                             place := { s.place with
                               mapPend := [], copyback := Tbl.mapRows none (fun _ o => o.map (fun _ => 0)) s.place.copyback
                               active := s.place.active.map (fun m => { m with copied := false }) } }
  let whole := s0.vaultWhole f
  let recs := if kept ∨ whole then s0.jour.recs else s0.jour.recs.filter (fun r => r.on0 || r.on1 || r.onPartner)
  let s1 := if kept then s0.dropForeign else (s0.dropDram.vaultRestore f)
  let s1 : State := if kept ∧ s1.vault.mediaValid ∧ s1.vault.deasserted then { s1 with vault := { s1.vault with lastResult := 4, mediaValid := false, restored := [], deasserted := false } } else s1
  let s2 : State := if kept then s1 else (s1.setCnt Obj.lblComplete 0 (if s1.darn.lostStripes = [] then 1 else 0))
  let s3 : State := { s2 with darn := { s2.darn with relisting := !kept && !s2.darn.lostStripes.isEmpty, relist := 0 } }
  -- the journal is built from every copy that can be read: the working copy retained or restored whole, else what reached
  -- the journal members or the partner
  let s4 : State := { s3 with jour := { s3.jour with recs := recs, waiting := [], pages := [], retiring := [] } }
  let s5 := if s4.place.array ≠ none ∧ kept = false ∧ f.journal = false ∧ whole = false then s4.suspectAll else s4.replay wrong
  { s5 with vault := { s5.vault with state := 0, retention := none } }

end Sys2Proof.Machine
end

