-- ==== Sys2Proof/Machine/Takeover.lean ====
section
/-!
DEFINITION. Machine/Takeover.lean: losing the partner, the takeover contest and adoption (R467 to R472), moves of
namespaces and leaving the skein (R456, R473, R474), views and heartbeats (R453, R460).
-/

namespace Sys2Proof.Machine

/-- Changes the takeover's state. -/
def State.updTko (s : State) (f : Tko → Tko) : State := { s with sk := { s.sk with tko := f s.sk.tko } }

/-- Sets the ANA state this device reports of a namespace and notifies (R250). -/
def State.setAna (s : State) (a : Nat) (n : Nat) : State := (s.putNsp n { s.nsp n with ana := a }).later (.ana n)

/-! ### The hold -/

/-- Releases the hold: writes get frames again, what was held completes (R467). -/
def State.unhold (s : State) : State :=
  if s.sk.tko.held = false then s
  else
    let t := s.updTko (fun k => { k with held := false })
    let u := (t.hoop.writes.map (fun c => c.ns)).foldl (fun v n => v.serveFrames n) t
    let v := (u.hoop.writes.map (fun c => c.id)).foldl (fun w i => w.finishWrite i) u
    (v.hoop.reads.map (fun c => c.id)).foldl (fun w i => w.finishRead i) v

/-- Holds admission and completion release of own namespaces (R467). -/
def State.hold (s : State) : State := s.updTko (fun k => { k with held := true })

/-- A namespace whose ownership record names the partner: its frames are discarded, its commands end (R467). -/
def State.loseNs (s : State) (n : Nat) : State :=
  let x := s.nsp n
  if x.owner ≠ s.skn.side then s
  else
    let t := s.putNsp n { x with owner := 1 - s.skn.side, ogen := wrapAdd 32 x.ogen 1, ana := 3 }
    let rs := t.hoop.reads.filter (fun r => r.ns = n)
    let u : State := { t with hoop := { t.hoop with reads := t.hoop.reads.filter (fun r => r.ns ≠ n) } }
    ((rs.foldl (fun v r => v.later (.done r.req 0x302 0 0)) u).dropFrames n).later (.ana n)

/-- The action of a move ends. -/
def State.moveAct (s : State) (m : Move) (detail : Nat) : State :=
  match m.act with
  | some (c, r) => if detail = 0 then s.actDone c r else s.actFail c r detail
  | none => s

/-- Undoes a move: ANA returns to what it was (R473). -/
def State.moveUndo (s : State) (detail : Nat) : State :=
  match s.sk.move with
  | none => s
  | some m =>
    let t : State := { s with sk := { s.sk with move := none } }
    let u := m.nss.foldl (fun v n => v.setAna (if (v.nsp n).owner = v.skn.side then 1 else 3) n) t
    let v : State := if m.next = 2 then { u with boot := { u.boot with depart := none } } else u
    v.moveAct m detail

/-! ### Partner loss -/

/-- The partner's namespaces report ANA change from the decision on (R469). -/
def State.decideLoss (s : State) : State :=
  (s.theirNss.foldl (fun t n => t.setAna 0xF n) s).updTko (fun k => { k with decided := some s.clk.ns })

/-- The positions a contest preempts (R468). -/
def State.contestPos (s : State) : List Nat :=
  (List.range s.bays).filter (fun a => s.posState a = .inService || s.posState a = .failing || s.posState a = .rebuilding)

/-- The partner's reservation key. -/
def State.partnerKey (s : State) : Nat := match s.skn.partner with | some p => s.rw Obj.srowDeviceId p | none => 0

/-- The contest starts at the lowest position (R468). -/
def State.contest (s : State) : State :=
  match s.contestPos with
  | [] => s.updTko (fun k => { k with st := 2, again := true, rest := [], asked := [], ok := 0, none_ := 0, failed := 0 })
  | a :: r =>
    (s.updTko (fun k => { k with st := 2, again := false, rest := r, asked := [a], ok := 0, none_ := 0, failed := 0 })).emit
      (.preempt a s.partnerKey)

/-- Asks the manager and the deputy (R467). -/
def State.askConfirm (s : State) : State :=
  match s.skn.partner with
  | none => s
  | some p =>
    let rs := [s.sk.mgr, s.sk.deputy].filter (fun r => r ≠ 0xFF && s.skn.row ≠ some r)
    rs.eraseDups.foldl (fun t r => t.skSend [1, 2] r (.confirmQuery p)) s

/-- An answer about the partner: PRESENT or MISSING (Table 14-6). The guard runs from the loss. -/
def State.confirmed (s : State) (missing : Bool) : State :=
  if missing then
    let t := s.unhold.decideLoss
    if t.sk.tko.lostAt + t.rw Obj.sknGuard 0 * 1000000 ≤ t.clk.ns then t.contest else t.updTko (fun k => { k with st := 1 })
  else s.unhold.updTko (fun k => { k with st := 0 })

/-- What a device does when its partner is lost, or halted and asking (R467, Table 14-6). A move under way is given up: ownership
is as the records stand (R473). A partner whose namespaces were adopted has nothing left to take over until it returns. -/
def State.partnerLost (s_ : State) (halted : Bool) : State :=
  match s_.skn.partner with
  | none => s_
  | some p =>
    let s := s_.moveUndo 2
    if s_.inS7 = false ∨ s_.sk.left ∨ (s_.skRow p).left ∨ s_.sk.tko.st = 5 ∨ s_.sk.tko.st = 2 ∨ s_.sk.tko.adopted ∨ s_.devFenced then s_
    else if halted then
      if s.rw Obj.tkoEnable 0 = 1 then ((s.unhold.updTko (fun k => { k with lost := true, lostAt := s.clk.ns })).decideLoss).contest
      else s.unhold
    else
      let t := (s.updTko (fun k => { k with lost := true, lostAt := s.clk.ns })).note 0xD04 0 0 0 0
      let t : State := { t with skn := { t.skn with present := false } }
      let t := t.toSolo
      if t.rw Obj.tkoEnable 0 = 0 then t.unhold
      else if t.multiShelf then
        let u := (t.hold.updTko (fun k => { k with st := 1, decided := none })).askConfirm
        if u.sk.role = 0 ∨ u.sk.role = 1 then u.confirmed (!u.inView p) else u
      else (t.hold.decideLoss).updTko (fun k => { k with st := 1 })

/-- CONFIRM_REPLY (R467): from the manager or the deputy; a device held without a reply first reads the ownership records,
`taken` being those that name the partner. -/
def State.confirmReplyIn (s : State) (from_ row : Nat) (missing : Bool) (taken : List Nat) : State :=
  if s.skn.partner ≠ some row ∨ ¬ (from_ = s.sk.mgr ∨ from_ = s.sk.deputy) then s
  else if s.sk.tko.st = 4 then
    let t := taken.foldl (fun u n => u.loseNs n) s
    let u := t.updTko (fun k => { k with st := 1 })
    (u.ownNss.foldl (fun v n => v.later (.ana n)) u).confirmed missing
  else if s.sk.tko.st = 1 ∧ s.sk.tko.decided = none then s.confirmed missing
  else s

/-- GUARD_EXPIRY (R467): `skn.guard` after the loss the contest starts, or the device without a reply is ISOLATED. -/
def State.guardExpiry (s : State) : State :=
  if s.sk.tko.st ≠ 1 then s
  else if s.sk.tko.decided.isSome then s.contest
  else if s.multiShelf then
    let t := (s.setRole 3).updTko (fun k => { k with st := 4 })
    t.ownNss.foldl (fun u n => u.later (.ana n)) t
  else s

/-- CONFIRM_QUERY (R467): the manager or deputy answers from its view. -/
def State.confirmQueryIn (s : State) (from_ row : Nat) : State :=
  if s.sk.role = 0 ∨ s.sk.role = 1 then
    let ms := match (s.skRow row).heard with | some t => (s.clk.ns - t) / 1000000 | none => 0xFFFFFFFF
    s.skSend allPaths from_ (.confirmReply row (!s.inView row) (min ms 0xFFFFFFFF))
  else s

/-! ### Adoption -/

/-- Frames of one stripe become its hoop frames: those of the generation a live DESTAGE record covers, and their
successor's; without such a record the newest content of every column. -/
def State.adoptStripe (s : State) (recs : List JRec) (fs : List MirrorFrame) (k : SKey) : State :=
  let mine := sortBy (fun a b => a.gen ≤ b.gen) (fs.filter (fun f => f.key = k))
  match mine with
  | [] => s
  | f0 :: _ =>
    let split := recs.any (fun r => r.kind = .destage && r.key = k && r.gen = f0.gen)
    let low := if split then mine.filter (fun f => f.gen = f0.gen) else mine
    let high := if split then mine.filter (fun f => f.gen ≠ f0.gen) else []
    let taken_ := fun (l : List MirrorFrame) => l.foldl (fun (t : Tbl (Option Frame)) f =>
      let old : Frame := (Tbl.get none t f.col).getD {}
      Tbl.set none t f.col (some { blks := f.blks.foldl (fun b e => Tbl.set none b e.1 e.2) old.blks })) []
    let gen := (low.map (fun f => f.gen)).foldl max 0
    let now := s.clk.ns
    let h := s.holdTime f0.ns
    let y : Stripe := { st := .filling, gen := gen - 1, frames := taken_ low, succ := taken_ high, timer := some now
                        hold := h, succHold := h, succTimer := if high = [] then none else some now }
    s.putStripe k y

/-- A live record of the partner: rewritten with a new `JSEQ` and replayed by Table 4-5; a checkpoint takes its walk back to
where the partner's stood (R469). -/
def State.adoptRec (s : State) (r : JRec) : State :=
  if r.kind = .retire then s
  else if r.kind = .checkpoint then
    let op := r.aux % 256
    let a := r.aux / 256 % 256
    let n := r.aux / 65536 % 2 ^ 32
    if op = 1 then
      let p := s.pass a
      if p.st = 0 then s else s.putPass a { p with cursor := min p.cursor (n * 16384 + zoneBytes) }
    else if op = 2 then
      match Tbl.get none s.place.copyback a with
      | some c => { s with place := { s.place with copyback := Tbl.set none s.place.copyback a (some (min c n)) } }
      | none => s
    else { s with jour := { s.jour with resync := min s.jour.resync n } }
  else
    let a := s.jAdd r
    match a.1.jrec a.2 with
    | some x => State.replayRec [] a.1 x
    | none => a.1

/-- The frames and live records of namespaces become this device's own (R469, R473). -/
def State.takeOn (s : State) (fs : List MirrorFrame) (recs : List JRec) : State :=
  let t := ((fs.map (fun f => f.key)).eraseDups).foldl (fun u k => u.adoptStripe recs fs k) s
  let u := recs.foldl State.adoptRec t
  if u.writeThrough then ((fs.map (fun f => f.key)).eraseDups).foldl (fun v k => v.trigger k) u else u

/-- The partner's mirror frames that are kept, by its solo record: 0 none, 1 superseded, 2 in force; in force, those whose
stripe has a DESTAGE record of equal or higher `GEN` in the partner's journal members are discarded (R469). -/
def keptFrames (solo : Nat) (found : List JRec) (fs : List MirrorFrame) : List MirrorFrame :=
  if solo = 1 then []
  else if solo = 2 then fs.filter (fun f => !found.any (fun r => r.kind = .destage && r.key = f.key && f.gen ≤ r.gen))
  else fs

/-- Records of both sources, each once. -/
def joinRecs (a b : List JRec) : List JRec := a ++ b.filter (fun r => !a.any (fun x => x.jseq = r.jseq))

/-- TAKEOVER_ADOPTION (R469). -/
def State.adopt (s : State) (solo : Nat) (recs : List JArg) : State :=
  let ns := s.theirNss
  let lostRow := s.skn.partner.getD 0xFF
  let t0 := State.toSolo { s with skn := { s.skn with present := false } }
  let t1 := ns.foldl (fun (u : State) n =>
    let x := u.nsp n
    (u.putNsp n { x with owner := u.skn.side, ogen := wrapAdd 32 x.ogen 1 }).emit (.ownership n u.skn.side (wrapAdd 32 x.ogen 1))) t0
  let found := recs.map JArg.toRec
  let kept := keptFrames solo found t1.hoop.region
  let live := joinRecs t1.jour.partner found
  let t2 : State := { t1 with hoop := { t1.hoop with region := [] }, jour := { t1.jour with partner := [] } }
  let t3 := (t2.takeOn kept live).unhold
  let t4 := ns.foldl (fun u n => u.setAna 1 n) t3
  let ms := (t4.clk.ns - t4.sk.tko.lostAt) / 1000000
  let t5 := ((t4.addCnt 32 Obj.tkoCount 0 1).setCnt Obj.tkoLastTime 0 ms).note 0xD09 0 0 0 0
  let t6 := t5.updTko (fun k => { k with st := 0, decided := none, rest := [], asked := [], again := false, adopted := true })
  let t7 := t6.dirReport t6.shelfEnts
  if t7.sk.mgr = 0xFF ∨ t7.sk.role = 0 then t7 else t7.skSend allPaths t7.sk.mgr (.takeoverNotice lostRow ns.length)

/-- The contest is lost (R468): device fence, ISOLATED, the namespaces report inaccessible. -/
def State.contestLost (s : State) : State :=
  let t := (s.setRole 3).updTko (fun k => { k with st := 5, decided := none, rest := [], asked := [], again := false })
  (t.theirNss.foldl (fun u n => u.setAna 3 n) t).later (.detect 0xD07 0 0 0)

/-- The end of a contest's preempts (R468). -/
def State.contestEnd (s : State) (solo : Nat) (recs : List JArg) : State :=
  let k := s.sk.tko
  let n := k.ok + k.failed
  if (k.ok = 0 ∧ (s.multiShelf = false ∨ n ≠ 0)) ∨ (n ≠ 0 ∧ 2 * k.ok ≤ n) then
    (s.updTko (fun k => { k with again := true })).note 0xD08 0 0 0 0
  else s.adopt solo recs

/-- TAKEOVER_PREEMPT_DONE (R468): result 0 success, 1 Reservation Conflict, 2 failure, 3 no reservation support. `solo` and
`recs` are what the won contest reads of the partner: its solo record and the live records of its journal members. -/
def State.preemptDone (s : State) (pos result solo : Nat) (recs : List JArg) : State :=
  let k := s.sk.tko
  if k.st ≠ 2 ∨ k.asked.contains pos = false then s
  else if result = 1 then s.contestLost
  else
    let t := s.updTko (fun k => { k with asked := k.asked.erase pos
                                         ok := k.ok + b2n (result = 0), none_ := k.none_ + b2n (result = 3)
                                         failed := k.failed + b2n (decide (result = 2 ∨ 3 < result)) })
    let j := t.sk.tko
    if j.rest ≠ [] then
      if result = 0 then
        j.rest.foldl (fun u a => u.emit (.preempt a s.partnerKey)) (t.updTko (fun k => { k with rest := [], asked := k.asked ++ k.rest }))
      else
        (t.updTko (fun k => { k with rest := k.rest.drop 1, asked := k.rest.take 1 })).emit (.preempt (j.rest.headD 0) s.partnerKey)
    else if j.asked = [] then t.contestEnd solo recs
    else t

/-- ANATT_EXPIRY (R469): while an abandoned contest is repeated the namespaces go inaccessible. -/
def State.anattExpiry (s : State) : State :=
  if s.sk.tko.st = 2 ∧ s.sk.tko.again ∧ s.sk.tko.decided.isSome then s.theirNss.foldl (fun t n => t.setAna 3 n) s else s

/-- TAKEOVER_NOTICE (R469): the manager updates its directory: the namespaces of the sender's shelf move to its side. -/
def State.noticeIn (s : State) (from_ lost : Nat) : State :=
  let sh := s.rw Obj.srowShelf from_
  if s.sk.role ≠ 0 ∨ s.rw Obj.srowShelf lost ≠ sh then s
  else
    let side := if from_ < lost then 0 else 1
    let l := (s.sk.dir.nss.filter (fun e => e.1 / 4096 = sh && e.2 = 2 - side)).map (fun e => DirEnt.ns sh (e.1 % 4096) side)
    s.dirSet (l ++ s.rowEnts lost)

/-! ### Views and heartbeats -/

/-- VIEW_EXPIRY (R453, R454, R460, R471): a row not heard for t_d leaves the view. -/
def State.viewExpiry (s : State) (r : Nat) : State :=
  if s.inS7 = false ∨ s.skn.row = none ∨ s.skn.row = some r ∨ s.skRows.contains r = false then s
  else if s.skn.partner = some r ∧ s.twinUp then s
  else
    let was := (s.skRow r).inView
    let t := s.updSkRow r (fun x => { x with inView := false })
    let u : State := if t.sk.deputy = r ∧ t.sk.role = 0 then { t with sk := { t.sk with deputy := 0xFF } } else t
    let v := u.elect true
    let w := if was then v.dirSet (v.rowEnts r) else v
    if w.skn.partner = some r ∧ w.sk.tko.lost = false then w.partnerLost false else w

/-- HEARTBEAT (R460, R467): the sender counts as heard; a halted partner is taken over. -/
def State.beatIn (s : State) (r flags : Nat) : State :=
  if s.skn.partner = some r then
    let t : State := { s with sk := { s.sk with peerSolo := bit flags 0 } }
    if bit flags 2 then t.partnerLost true else t
  else s

/-- HEARTBEAT_PERIOD (R460, R467, R468): heartbeats; a held query and an abandoned contest are repeated. -/
def State.beatOut (s : State) : State :=
  if s.skn.row = none ∨ s.inS7 = false then s
  else
    let b := s.beat
    let t : State := match s.skn.partner with | some p => s.skSend allPaths p b | none => s
    let rs := if t.sk.role = 0 then t.skRows.filter (fun r => t.skn.row ≠ some r && t.skn.partner ≠ some r)
      else ([t.sk.mgr, t.sk.deputy].filter (fun r => r ≠ 0xFF && t.skn.row ≠ some r && t.skn.partner ≠ some r)).eraseDups
    let u : State := rs.foldl (fun v r => v.skSend [1, 2] r b) t
    let w := if u.sk.tko.st = 4 then u.askConfirm else u
    if w.sk.tko.st = 2 ∧ w.sk.tko.again then w.contest else w

/-- TAKEOVER_REQUEST to the partner (R305): over the twin link, or the management ports when it is down. -/
def State.askTakeover (s : State) (cause : Nat) : State :=
  match s.skn.partner with
  | some p => s.skSend (if s.twinUp then [0] else [2]) p (.takeoverRequest cause)
  | none => s

/-- A row leaves on its LEAVE (R456, R500): from the view at once; a partner's LEAVE starts solo mode and no takeover. -/
def State.leaveIn (s : State) (r : Nat) : State :=
  let t := s.updSkRow r (fun x => { x with inView := false, left := true })
  let u : State := if t.skn.partner = some r then { t with skn := { t.skn with present := false } } else t
  let v := if u.skn.partner = some r then (u.moveUndo 2).toSolo else u
  let w : State := if v.sk.deputy = r ∧ v.sk.role = 0 then { v with sk := { v.sk with deputy := 0xFF } } else v
  let x := w.elect true
  x.dirSet (x.rowEnts r)

/-! ### Moves -/

/-- Whether a move may start (R473). -/
def State.moveOk (s : State) : Bool :=
  s.skn.present && s.twinUp && decide (s.hoop.mirrorState = 0) && !s.sk.peerSolo && decide (s.sk.tko.st = 0) && s.sk.move.isNone
    && !s.sk.left

/-- Step 1 of a move: both devices report ANA change; the current owner's eyelets on the namespaces are revoked (R271). -/
def State.moveStart (s : State) (m : Move) : State :=
  let t : State := { s with sk := { s.sk with move := some m } }
  let u := m.nss.foldl (fun v n => v.setAna 0xF n) t
  let mine := m.nss.filter (fun n => (u.nsp n).owner = u.skn.side)
  let rows := (u.net.eyes.filter (fun e => e.2.st = 1 && e.2.kind = 0 && mine.contains e.2.ns)).map (fun e => e.1)
  rows.foldl (fun v r => v.toRevoking State.disarm r) u

/-- HANDOVER to the partner: steps 1 start, 2 drained, 3 switched, 0 undone. -/
def State.handover (s : State) (nss : List Nat) (step : Nat) : State :=
  match s.skn.partner with
  | some p => s.skSend allPaths p (.handover nss step)
  | none => s

/-- Starts a move asked for by an action (R473). -/
def State.moveAsk (s : State) (nss : List Nat) (act : Option (Nat × Nat)) (next : Nat) : State :=
  (s.moveStart { nss := nss, since := s.clk.ns, act := act, next := next
                 mine := nss.all (fun n => (s.nsp n).owner ≠ s.skn.side)
                 theirs := nss.all (fun n => (s.nsp n).owner = s.skn.side) }).handover nss 1

/-- Frames of a stripe as mirror frames. -/
def State.asMirror (s : State) (k : SKey) (x : Stripe) : List MirrorFrame :=
  let of := fun (sh : Bool) (t : Tbl (Option Frame)) => t.filterMap (fun e => e.2.map (fun f =>
    (⟨(s.bolt k.entry).ns, k, e.1, x.frameGen sh, f.mseq, s.cntAt Obj.bootEpoch 0, f.blks⟩ : MirrorFrame)))
  of false x.frames ++ of true x.succ

/-- One namespace changes owner at the switch point (R473): the target's mirror copy becomes the owning copy, the former
owner's copy its mirror; live records follow. -/
def State.switchNs (s : State) (n : Nat) : State :=
  let x := s.nsp n
  let ofNs := fun (k : SKey) => s.ofNs n k
  let t := s.putNsp n { x with owner := 1 - x.owner, ogen := wrapAdd 32 x.ogen 1 }
  if x.owner = s.skn.side then
    let mine := t.hoop.stripes.filter (fun e => ofNs (skeyOf e.1))
    let recs := t.jour.recs.filter (fun r => ofNs r.key)
    let u : State := { t with
      hoop := { t.hoop with stripes := t.hoop.stripes.filter (fun e => !ofNs (skeyOf e.1))
                            region := t.hoop.region ++ mine.flatMap (fun e => s.asMirror (skeyOf e.1) e.2) }
      jour := { t.jour with recs := t.jour.recs.filter (fun r => !ofNs r.key), partner := t.jour.partner ++ recs } }
    u.setAna 3 n
  else
    let fs := t.hoop.region.filter (fun f => f.ns = n)
    let recs := t.jour.partner.filter (fun r => ofNs r.key)
    let u : State := { t with hoop := { t.hoop with region := t.hoop.region.filter (fun f => f.ns ≠ n) }
                              jour := { t.jour with partner := t.jour.partner.filter (fun r => !ofNs r.key) } }
    (u.takeOn fs recs).setAna 1 n

/-- LEAVE is sent; the device then sends only heartbeats to its partner, and its namespaces are inaccessible (R456, R474). -/
def State.sendLeave (s : State) : State :=
  let t := s.skCast .leave
  let u : State := { t with sk := { t.sk with left := true, role := if t.sk.role = 4 then 4 else 2, mgr := 0xFF, deputy := 0xFF } }
  u.ownNss.foldl (fun v n => v.later (.ana n)) u

/-- What follows a move: LEAVE, and with a departure its grace (R456, R499). -/
def State.afterMove (s : State) (m : Move) : State :=
  if m.next = 1 then s.sendLeave
  else if m.next = 2 then { s.sendLeave with boot := { s.boot with depart := s.boot.depart.map (fun d => { d with grace := true }) } }
  else s

/-- The switch of every namespace of the move (steps 3 to 5): done by the keeper, then by the partner. -/
def State.moveSwitch (s : State) : State :=
  match s.sk.move with
  | none => s
  | some m =>
    let t := if s.keeper then m.nss.foldl (fun u n => u.emit (.ownership n (1 - (u.nsp n).owner) (wrapAdd 32 (u.nsp n).ogen 1))) s else s
    let u := m.nss.foldl (fun v n => v.switchNs n) t
    let v : State := { u with sk := { u.sk with move := none } }
    let w := if s.keeper then v.handover m.nss 3 else v
    (if m.next = 2 then w.dirReport w.shelfEnts else (w.dirReport w.shelfEnts).moveAct m 0).afterMove m

/-- The keeper switches once both sides have drained. -/
def State.moveReady (s : State) : State :=
  match s.sk.move with
  | some m => if m.mine && m.theirs && s.keeper then s.moveSwitch else s
  | none => s

/-- Whether the commands admitted to the namespaces this device owns of a move have completed. -/
def State.moveDrained (s : State) (m : Move) : Bool :=
  let mine := fun n => m.nss.contains n && decide ((s.nsp n).owner = s.skn.side)
  s.hoop.writes.all (fun c => !mine c.ns) && s.hoop.reads.all (fun c => !mine c.ns)
    && s.net.eyes.all (fun e => !(e.2.st ∈ [1, 2] && e.2.kind = 0 && mine e.2.ns))

/-- MOVE_DRAIN_DONE (R473): the owner's commands have completed; the keeper switches, or is told. -/
def State.moveDrainDone (s : State) : State :=
  match s.sk.move with
  | none => s
  | some m =>
    if m.mine ∨ s.moveDrained m = false then s
    else
      let t : State := { s with sk := { s.sk with move := some { m with mine := true } } }
      if t.keeper then t.moveReady else t.handover m.nss 2

/-- MOVE_TIMEOUT (R473): not drained within 1 s. -/
def State.moveTimeout (s : State) : State :=
  match s.sk.move with
  | none => s
  | some m => (s.moveUndo 2).handover m.nss 0

/-- HANDOVER (R473). -/
def State.handoverIn (s : State) (nss : List Nat) (step : Nat) : State :=
  match step, s.sk.move with
  | 1, none =>
    s.moveStart { nss := nss, since := s.clk.ns, mine := nss.all (fun n => (s.nsp n).owner ≠ s.skn.side)
                  theirs := nss.all (fun n => (s.nsp n).owner = s.skn.side) }
  | 2, some m =>
    let t : State := { s with sk := { s.sk with move := some { m with theirs := true } } }
    t.moveReady
  | 3, some _ => if s.keeper then s else s.moveSwitch
  | 0, some _ => s.moveUndo 2
  | _, _ => s

/-- `own.move` (R473). -/
def State.ownMoveOp (s : State) (n : Nat) : State :=
  if s.moveOk = false ∨ (s.nsp n).bolts = 0 then s.actFail Obj.ownMove n 1
  else (s.actRun Obj.ownMove n).moveAsk [n] (some (Obj.ownMove, n)) 0

/-- `own.move_home` (R473). -/
def State.moveHomeOp (s : State) : State :=
  let l := (s.place.nss.filter (fun e => e.2.bolts ≠ 0 && e.2.owner ≠ s.rw Obj.ownHome e.1)).map (fun e => e.1)
  if s.moveOk = false then s.actFail Obj.ownMoveHome 0 1
  else if l = [] then s.actDone Obj.ownMoveHome 0
  else (s.actRun Obj.ownMoveHome 0).moveAsk l (some (Obj.ownMoveHome, 0)) 0

/-- `skn.leave` = 1 (R456, R474). -/
def State.leaveOp (s : State) : State :=
  if s.skn.row = none then s.actFail Obj.sknLeave 0 1
  else if s.skn.present = false ∨ s.ownNss = [] then (s.actDone Obj.sknLeave 0).sendLeave
  else if s.moveOk = false then s.actFail Obj.sknLeave 0 1
  else (s.actRun Obj.sknLeave 0).moveAsk s.ownNss (some (Obj.sknLeave, 0)) 1

/-- `skn.leave` = 2 (R456): the device rejoins. -/
def State.rejoinOp (s : State) : State :=
  if s.skn.row = none then s.actFail Obj.sknLeave 0 1
  else
    let t : State := { s with sk := { s.sk with left := false } }
    let u := t.joinSkein
    (u.ownNss.foldl (fun v n => v.later (.ana n)) u).actDone Obj.sknLeave 0

end Sys2Proof.Machine
end

