-- ==== Sys2Proof/Machine/Arch.lean ====
section
/-!
DEFINITION. Machine/Arch.lean: internal power domains (R19 to R22, R30, Tables 1-13 and 1-14), domain resets (R491) and
the timebase's PTP discipline (R15 to R18).
-/

namespace Sys2Proof.Machine

/-- Rows of units absent on the KV2448 (R3). -/
def State.pdPresent (s : State) (r : Nat) : Bool :=
  decide (r < 44) && (s.part = .kv4896 || !((decide (4 ≤ r) && decide (r ≤ 7)) || (decide (12 ≤ r) && decide (r ≤ 14))))

/-- Rows of a range whose domain is ON, other than `r`. -/
def State.othersOn (s : State) (lo n r : Nat) : List Nat :=
  ((List.range n).map (fun i => lo + i)).filter (fun q => q ≠ r && (s.pdAt q).st = .on)

/-- The off condition of a domain (Table 1-13). -/
def State.offCond (s : State) (r : Nat) : Bool :=
  if r < 8 then s.rw Obj.ethMode r = 0
  else if r = 8 then s.rw Obj.twinPairEnable 0 = 0
  else if r < 15 then
    (List.range 8).all (fun i =>
      let x := s.bay (8 * (r - 9) + i)
      (x.r12.st = .off || x.r12.st = .lockedOut) && (x.r33.st = .off || x.r33.st = .lockedOut))
  else if r < 28 then false
  else if r < 32 then s.othersOn 28 4 r ≠ [] && !(s.drv.mems.any (fun e => e.2.st = .rebuilding))
  else if r < 40 then 2 ≤ (s.othersOn 32 8 r).length
  else if r < 44 then (s.othersOn 40 4 r).length = 3 && (s.pdAt r).st = .on
  else false

/-- A switched-off domain's event (0x006): row, whether the switch-off was refused after 100 ms of draining. -/
def State.pdEvent (s : State) (r : Nat) (refused : Bool) : State := s.later (.detect 0x006 0 0 (r + 256 * b2n refused))

/-- A request to switch a domain off, from the operator or the power loop; refused where the off condition is not met. -/
def State.pdOff (s : State) (r : Nat) (loop : Bool) : State × Bool :=
  match (s.pdAt r).st with
  | .on =>
    if s.offCond r then ((s.pdTo r .draining).updPd r (fun d => { d with byLoop := loop, refused := false }), true)
    else (s.updPd r (fun d => { d with refused := true }), false)
  | .waking => (s.updPd r (fun d => { d with heldOff := true, byLoop := loop, refused := false }), true)
  | _ => (s, true)

/-- A request to switch a domain on. A plane behind its fence does not wake (R332). -/
def State.pdOn (s : State) (r : Nat) (loop : Bool) : State × Bool :=
  match (s.pdAt r).st with
  | .off =>
    if 40 ≤ r ∧ s.isFenced 2 (r - 40) then (s.updPd r (fun d => { d with refused := true }), false)
    else ((s.pdTo r .waking).updPd r (fun d => { d with owner := b2n loop, refused := false, heldOff := false, byLoop := false }), true)
  | .draining =>
    if s.boot.domains.contains r then (s, true)
    else ((s.pdTo r .on).updPd r (fun d => { d with refused := false, byLoop := false }), true)
  | .waking => (s.updPd r (fun d => { d with heldOff := false, refused := false }), true)
  | .on => (s.updPd r (fun d => { d with refused := false }), true)

/-- `pd.request` written by the operator (R19, R21, R30): answers a status. -/
def State.pdWrite (s : State) (r v : Nat) : State × Nat :=
  if s.pdPresent r = false ∨ (15 ≤ r ∧ r < 28) then (s, 0x07)
  else
    let u := if v = 0 then s.pdOff r false else s.pdOn r false
    if u.2 then (u.1.setRw Obj.pdRequest r v, 0)
    else (u.1.setRw Obj.pdRequest r (b2n ((u.1.pdAt r).st = .on || (u.1.pdAt r).st = .waking)), 0x07)

/-- Whether a domain reads as on (R30). -/
def State.pdReadsOn (s : State) (r : Nat) : Bool := (s.pdAt r).st = .on || (s.pdAt r).st = .waking

/-- `pd.request` as it reads (R30): the request, or the actual state of a refused one. -/
def State.pdRequested (s : State) (r : Nat) : Nat :=
  if (s.pdAt r).refused ∨ (15 ≤ r ∧ r < 28) then b2n (s.pdReadsOn r) else s.rw Obj.pdRequest r

/-- Units that a domain puts back in service when it is ON (Table 8-3, R166). -/
def State.pdServe (s : State) (r : Nat) : State :=
  if 40 ≤ r then s.fenServe 2 (r - 40)
  else if 32 ≤ r then (List.range 8).foldl (fun t i => t.fenServe 10 (8 * (r - 32) + i)) s
  else if 28 ≤ r then s.fenServe 10 (64 + (r - 28))
  else s

/-- DOMAIN_READY (R22): WAKING to ON; a request of 0 held meanwhile is acted on. The end of a domain reset (R491). -/
def State.domainReady (s : State) (r : Nat) : State :=
  if (s.pdAt r).st ≠ .waking ∨ 44 ≤ r then s
  else
    let held := (s.pdAt r).heldOff
    let loop := (s.pdAt r).byLoop
    let t := ((s.pdTo r .on).updPd r (fun d => { d with heldOff := false, byLoop := false })).pdServe r
    let u : State := if t.boot.domains.contains r then
        ({ t with boot := { t.boot with domains := t.boot.domains.filter (fun q => q ≠ r) } }).actDone Obj.bootDomainReset 0
      else t
    if held then (u.pdOff r loop).1 else u

/-- DOMAIN_DRAIN_DONE (R22, R329, R491): the drained domain goes OFF, a plane once its cells are receipted; or through
WAKING in a domain reset. -/
def State.domainDrained (s : State) (r : Nat) : State :=
  if (s.pdAt r).st ≠ .draining ∨ (40 ≤ r ∧ s.net.xbar.sent.any (fun c => 40 + c.plane = r)) then s
  else if s.boot.domains.contains r then s.pdTo r .waking
  else ((s.pdTo r .off).updPd r (fun d => { d with owner := b2n d.byLoop })).pdEvent r false

/-- DOMAIN_DRAIN_TIMEOUT (R22, R491): 100 ms in DRAINING: the domain stays ON, the request is refused. -/
def State.domainStuck (s : State) (r : Nat) : State :=
  if (s.pdAt r).st ≠ .draining then s
  else
    let t := s.pdTo r .on
    if s.boot.domains.contains r then
      ({ t with boot := { t.boot with domains := t.boot.domains.filter (fun q => q ≠ r) } }).actFail Obj.bootDomainReset 0 3
    else
      ((t.updPd r (fun d => { d with refused := true, byLoop := false })).setRw Obj.pdRequest r (if (s.pdAt r).byLoop then s.rw Obj.pdRequest r else 1)).pdEvent r true

/-- What the reset of a domain does at once (R491): links of rows 0 to 14 go down. -/
def State.domainStop (s : State) (r : Nat) : State :=
  if r < 8 then (List.range 8).foldl (fun t i => t.ethDown r i) s
  else if r = 8 then s.twinDown
  else if r < 15 then
    ((List.range 8).map (fun i => 8 * (r - 9) + i)).foldl (fun t n => if (t.link n).st = 2 then t.containBay n true else t) s
  else s

/-- `boot.domain_reset` (R491): the argument names the row; answers a status. -/
def State.domainReset (s : State) (r : Nat) : State × Nat :=
  if s.pdPresent r = false then (s, 0x04)
  else if (15 ≤ r ∧ r < 28) ∨ 40 ≤ r then (s.actFail Obj.bootDomainReset 0 1, 0)
  else if (28 ≤ r ∧ r < 32 ∧ (s.engines.filter (fun n => 28 + n ≠ r)) = []) ∨ (32 ≤ r ∧ (s.othersOn 32 8 r).length < 2) then
    (s.actFail Obj.bootDomainReset 0 2, 0)
  else if (s.pdAt r).st ≠ .on ∨ s.boot.domains ≠ [] then (s, 0x07)
  else
    let t : State := { s with boot := { s.boot with domains := [r] } }
    (((t.pdTo r .draining).actRun Obj.bootDomainReset 0).domainStop r, 0)

/-- Standing operator requests acted on when the device enters S7 (R30). -/
def State.pdStanding (s : State) : State :=
  ((List.range 44).filter (fun r => s.pdPresent r && !(15 ≤ r && r < 28) && s.rw Obj.pdRequest r = 0)).foldl
    (fun t r => (t.pdOff r false).1) s

/-- Bring-up powers the domains the configuration calls for (R30): the endpoint's under `ep.enable`, DRAM channels that are
populated, every other one. -/
def State.pdPower (s : State) (rows : List Nat) : State :=
  (rows.filter (fun r => s.pdPresent r)).foldl
    (fun t r => ((t.pdTo r .on).updPd r (fun d => { d with owner := 3, refused := false, heldOff := false, byLoop := false }))) s

/-! ### PTP -/

/-- Units of `time.freq_adj` in 500 ppm. -/
def maxAdj : Nat := 32768000

/-- PTP_SYNC (R15, R16): a Sync exchange of the chosen port, domain and transport measured `offset`; the servo's frequency
adjustment, and whether it steps, are free values. -/
def State.ptpSync (s : State) (port domain transport : Nat) (offset : Int) : State :=
  if s.clk.running = false ∨ s.rw Obj.timeSource 0 ≠ 1 ∨ port ≠ s.rw Obj.timePtpPort 0 ∨ domain ≠ s.rw Obj.timePtpDomain 0
      ∨ transport ≠ s.rw Obj.timePtpTransport 0 then s
  else
    let adj : Int := (s.fresh % (2 * maxAdj + 1) : Nat) - (maxAdj : Int)
    let t := s.used
    let ns := if t.fresh % 2 = 1 then ((s.clk.ns : Int) - offset).toNat else s.clk.ns
    ({ t with clk := { t.clk with ns := ns, freqAdj := adj, offset := offset, locked := true } }).used

/-- PTP_LOCK_LOST (R18): no valid Sync for t_lock. -/
def State.ptpLost (s : State) : State :=
  if s.clk.locked then ({ s with clk := { s.clk with locked := false } }).later (.detect 0x003 0 0 0) else s

end Sys2Proof.Machine
end

