-- ==== Sys2Proof/Machine/Bringup.lean ====
section
/-!
DEFINITION. Machine/Bringup.lean: bring-up stages (R478 to R487), resets of the main die (R488 to R490), firmware images (R493
to R497) and planned departure (R499, R500).
-/

namespace Sys2Proof.Machine

/-! ### Firmware slots -/

/-- Bytes of a firmware slot. -/
def fwSlotBytes : Nat := 25165824

/-- A slot. -/
def State.fwSlot (s : State) (i : Nat) : FwSlot := s.boot.slots.getD i {}

/-- Changes a slot. -/
def State.updFw (s : State) (i : Nat) (f : FwSlot → FwSlot) : State :=
  { s with boot := { s.boot with slots := updAt i f s.boot.slots } }

/-- A field of a slot's header (Table 15-8): first byte, bytes. An erased byte reads 0xFF. -/
def FwSlot.field (x : FwSlot) (at_ n : Nat) : Nat := leNat ((List.range n).map (fun i => Tbl.get 255 x.image (at_ + i)))

/-- Header fields: firmware version, security version, key index, schema. -/
def FwSlot.version (x : FwSlot) : Nat := if x.factory then Config.fwVersion else x.field 8 4
def FwSlot.svn (x : FwSlot) : Nat := if x.factory then Config.fwSvn else x.field 12 4
def FwSlot.key (x : FwSlot) : Nat := if x.factory then Config.fwKey else x.field 20 1
def FwSlot.schema (x : FwSlot) : Nat := if x.factory then Config.fwSchema else x.field 24 4

/-- Check 1 of R493: magic, header version and length. -/
def FwSlot.headOk (x : FwSlot) : Bool :=
  x.factory || (x.field 0 4 = 0x5746564B && x.field 4 4 = 1 && decide (1 ≤ x.field 16 4) && decide (x.field 16 4 ≤ fwSlotBytes - 512)
    && decide (x.field 12 4 < 64) && decide (x.field 20 1 < 4))

/-- The first check of R493 a slot fails, 0 when it is valid; `bad` is the check among 3 to 5 that its bytes fail. -/
def State.fwCheck (s : State) (i bad : Nat) : Nat :=
  let x := s.fwSlot i
  if x.headOk = false then 1
  else if s.boot.revoked ≠ 0 ∧ bit s.boot.revoked x.key then 2
  else if bad = 3 ∨ bad = 4 ∨ bad = 5 then bad
  else if s.boot.otpSvn ≠ 0 ∧ x.svn < s.boot.otpSvn then 6
  else 0

/-- The inactive slot: the one not running. -/
def State.inactive (s : State) : Nat := 1 - s.boot.running

/-- `fwu.begin` (R495). -/
def State.fwuBegin (s : State) : State :=
  if s.boot.isTrial then s.actFail Obj.fwuBegin 0 1
  else ((s.updFw s.inactive (fun _ => {})).setCnt Obj.fwuState 0 1).actRun Obj.fwuBegin 0

/-- FWU_ERASE_DONE: the slot is erased; data is received (R495). -/
def State.fwuErased (s : State) : State :=
  if s.cntAt Obj.fwuState 0 ≠ 1 then s else (s.setCnt Obj.fwuState 0 2).actDone Obj.fwuBegin 0

/-- Bytes stored at consecutive offsets. -/
def storeBytes : Tbl Nat → Nat → Bytes → Tbl Nat
  | t, _, [] => t
  | t, a, b :: r => storeBytes (Tbl.set 255 t a b) (a + 1) r

/-- `fwu.data` while the device receives (R495, R503): stores at `fwu.offset`, which advances; answers a status. -/
def State.fwuStore (s : State) (v : Nat) : State × Nat :=
  match hexBytes (decStr v) with
  | none => (s, 0x04)
  | some b =>
    let o := s.rw Obj.fwuOffset 0
    if b = [] then (s, 0x04)
    else if s.cntAt Obj.fwuState 0 ≠ 2 ∨ fwSlotBytes < o + b.length then (s, 0x07)
    else ((s.updFw s.inactive (fun x => { x with factory := false, image := storeBytes x.image o b })).setRw Obj.fwuOffset 0 (o + b.length), 0)

/-- `fwu.verify` (R493): whether the key's hash, the signature and the payload digest hold. -/
def State.fwuVerify (s : State) (hashOk sigOk digestOk : Bool) : State :=
  let i := s.inactive
  let c := s.fwCheck i (if hashOk = false then 3 else if sigOk = false then 4 else if digestOk = false then 5 else 0)
  let t := s.updFw i (fun x => { x with fail := c })
  if c = 0 then (t.setCnt Obj.fwuState 0 4).actDone Obj.fwuVerify 0 else (t.setCnt Obj.fwuState 0 6).actFail Obj.fwuVerify 0 c

/-- `fwu.activate` (R495). -/
def State.fwuActivate (s : State) : State :=
  if s.cntAt Obj.fwuState 0 ≠ 4 then s.actFail Obj.fwuActivate 0 1
  else ({ s with boot := { s.boot with trial := some (s.inactive, false) } }.setCnt Obj.fwuState 0 5).actDone Obj.fwuActivate 0

/-- The running image is confirmed: it becomes the active slot (R495). -/
def State.fwConfirmed (s : State) : State :=
  { s with boot := { s.boot with active := s.boot.running, trial := none, isTrial := false } }

/-- `fwu.confirm`. -/
def State.fwuConfirm (s : State) : State :=
  if s.boot.isTrial then s.fwConfirmed.actDone Obj.fwuConfirm 0 else s.actFail Obj.fwuConfirm 0 1

/-- FWU_TRIAL_CONFIRM_EXPIRY (R495): `fwu.trial_confirm` seconds at S7 without a watchdog expiry. -/
def State.fwuTrialOver (s : State) : State :=
  if s.boot.isTrial ∧ s.inS7 ∧ s.rw Obj.fwuTrialConfirm 0 ≠ 0 ∧ s.boot.wdSeen = false then s.fwConfirmed else s

/-- `fwu.raise_svn` (R497): `cells` says whether OTP cells remain. -/
def State.fwuRaise (s : State) (cells : Bool) : State :=
  if s.boot.isTrial then s.actFail Obj.fwuRaiseSvn 0 1
  else if cells = false then s.actFail Obj.fwuRaiseSvn 0 2
  else { s with boot := { s.boot with otpSvn := (s.fwSlot s.boot.running).svn } }.actDone Obj.fwuRaiseSvn 0

/-- The choice of the boot ROM (R494): the slot booted, whether it is a trial, whether it is a fallback; none when no slot is
valid. `ok` says which slots pass R493. -/
def Boot.choose (b : Boot) (ok : Nat → Bool) : Option (Nat × Bool × Bool) :=
  let plain := fun (first : Nat) (fell : Bool) =>
    if ok first then some (first, false, fell) else if ok (1 - first) then some (1 - first, false, true) else none
  match b.trial with
  | some (t, false) => if ok t then some (t, true, false) else plain b.active false
  | some (t, true) => if ok (1 - t) then some (1 - t, false, true) else if ok t then some (t, false, true) else none
  | none => plain b.active false

/-! ### Resets of the main die -/

/-- Reported values that a warm reset returns to their start: links, modes and tests, not counts since the cold reset. -/
def liveObjs : List Nat :=
  [Obj.mportLink, Obj.ethLink, Obj.epLinkSpeed, Obj.epLinkWidth, Obj.epFreezeCause, Obj.tnsMode, Obj.tnsFlows, Obj.planeTestOk,
    Obj.twinPartnerId, Obj.twinPartnerEpoch, Obj.bastState, Obj.fwuState, Obj.fwuFallback, Obj.bootHalted, Obj.bootHaltCause,
    Obj.bootStage, Obj.bootStageTime, Obj.bootRetained, Obj.thermTj, Obj.thermSensors]

/-- Reported values a reset keeps. A cold one keeps what the flash, OTP cells and the Skamo die hold. -/
def keepCnt (warm : Bool) (c : Tbl Nat) : Tbl Nat :=
  c.filter (fun e =>
    let code := e.1 / 4294967296
    if warm then !liveObjs.contains code else code = Obj.bootEpoch || code = Obj.bayTrips || code = Obj.lblComplete)

/-- Member rows at a reset: bindings and identities stay; every state is found anew. -/
def Member.atReset (m : Member) : Member := { pos := m.pos, serial := m.serial, model := m.model, capacity := m.capacity, hdrGen := m.hdrGen }

/-- `therm.throttle_time` brought up to date. -/
def State.throttleNoted (s : State) : State :=
  { (if s.level = 0 then s else s.addCnt 64 Obj.thermThrottleTime 0 (s.clk.ns - s.boot.lvlAt)) with boot := { s.boot with lvlAt := s.clk.ns } }

/-- A main-die reset (R488): what it starts with. `code` is `boot.last_reset`. The Skamo die keeps its channels (R8, R385);
media, flash and OTP keep theirs; a warm one keeps DRAM in self-refresh. -/
def State.mainReset (s : State) (code : Nat) (warm : Bool) : State :=
  let cnt := keepCnt warm (s.throttleNoted.cnt)
  let stage := if s.boot.pwron ∨ s.boot.vaux = false then 0 else 1
  { pending := s.pending, outbox := .reset code :: s.outbox, free := s.free, part := s.part
    cnt := Tbl.set 0 (Tbl.set 0 (Tbl.set 0 cnt (okey Obj.bootLastReset 0) code) (okey Obj.bootStage 0) stage) (okey Obj.thermSensors 0) 0xFFFF
    clk := { sk := s.clk.sk }
    pd := Tbl.mapRows {} (fun r (d : Pd) => {
      st := if 44 ≤ r then d.st else .off
      onTime := if warm then (if d.st = .on then d.onTime + (s.clk.ns - d.onAt) else d.onTime) else 0 }) s.pd
    dict := { s.dict with pend := [], run := none, act := [], commitState := 0 }
    ev := if warm then { s.ev with isOpen := false, pre := [], preDrop := 0, coal := [], inj := [] } else {}
    place := { s.place with mapPend := [], rehome := none
                            geos := Tbl.mapRows {} (fun _ (g : Geo) => if g.st = 1 then {} else g) s.place.geos }
    hoop := if warm then { s.hoop with writes := [], reads := [], queue := [], fills := [], mirrorState := 1, lowering := none, stopped := false }
      else { nextCmd := s.hoop.nextCmd, regionBytes := s.hoop.regionBytes }
    jour := { s.jour with waiting := [], pages := [], retiring := [], rehome := none, partner := if warm then s.jour.partner else [] }
    vault := { s.vault with state := 0, todo := [], cur := none, flushed := false, retention := if warm then s.vault.retention else none }
    darn := { s.darn with log := if warm then s.darn.log else [] }
    drv := { links := [], mems := Tbl.mapRows {} (fun _ m => Member.atReset m) s.drv.mems, recs := s.drv.recs, cmds := [], tag := s.drv.tag }
    skn := { s.skn with present := false }
    sk := { solo := s.sk.solo, twin := { lastEpoch := s.sk.twin.lastEpoch, ownEpoch := s.sk.twin.ownEpoch } }
    net := { ram := if warm then s.net.ram else [], nextAcc := s.net.nextAcc }
    msq := { away := if warm then s.msq.away + (if s.msq.st = .paired then 0 else s.clk.ns - s.msq.leftAt) else 0 }
    bayCh := s.bayCh
    ep := { perst := s.ep.perst, nextRd := s.ep.nextRd, nextJob := s.ep.nextJob }
    boot := { s.boot with svcOpen := false, since := s.clk.sk, warm := warm, wait := .none, depart := none, hold := false, times := []
                          probed := [], domains := [], isTrial := false, wdSeen := false, fwWait := [], therm := {}, power := {}
                          tj := none, watts := 0, forced := false, lvlAt := 0, shedN := 0, wdOnce := [] } }

/-- Halted in the present stage (R487). -/
def State.halt (s : State) (cause : Nat) : State := (s.setCnt Obj.bootHalted 0 1).setCnt Obj.bootHaltCause 0 cause

/-- Enters a stage; the time in the one before is noted (R481, R502). -/
def State.enter (s : State) (n : Nat) : State :=
  let cur := s.cntAt Obj.bootStage 0
  { s.setCnt Obj.bootStage 0 n with boot := { s.boot with
    times := Tbl.set 0 s.boot.times cur ((s.clk.sk - s.boot.since) / 1000000), since := s.clk.sk } }

/-- A warm reset, or one from HALTED, which `boot.last_reset` reports as 6 and R160 governs (R305). -/
def State.warmReset (s : State) (code : Nat) : State :=
  if s.msq.st = .halted then ({ s with vault := { s.vault with retention := none } }).mainReset 6 true else s.mainReset code true

/-- The retention record (R159). -/
def State.retain (s : State) : State := { s with vault := { s.vault with retention := some (s.cntAt Obj.bootEpoch 0) } }

/-- Admission stops and uncompleted writes are abandoned (R159, R489). -/
def State.quiesce (s : State) : State :=
  let t := s.abandonWrites (fun _ => true) false
  { t with hoop := { t.hoop with stopped := true } }

/-- Every FILLING stripe destages (Table 4-1). -/
def State.triggerAll (s : State) : State := (s.oldest (fun _ => true)).foldl (fun t k => t.trigger k) s

/-- Starts the drain before a commanded reset; below S7 or halted there is nothing to drain (R159, R489). -/
def State.drainFor (s : State) (code : Nat) (cold : Bool) : State :=
  if s.boot.wait ≠ .none then s
  else if s.inS7 = false ∨ s.cntAt Obj.bootHalted 0 = 1 ∨ s.msq.st = .halted then
    (if cold then s.mainReset code false else ({ s with vault := { s.vault with retention := none } }).warmReset code)
  else { s.triggerAll with boot := { s.boot with wait := .drain code cold } }

/-- PRE_RESET_DRAIN_DONE (R159, R489): the drain ended or 100 ms passed. A cold reset with `vault.enable` = 1 dumps first. -/
def State.drainOver (s : State) : State :=
  match s.boot.wait with
  | .drain code true =>
    let t := s.quiesce
    if s.rw Obj.vaultEnable 0 = 0 ∨ s.servicePos = [] then t.mainReset code false
    else
      let u : State := { t with boot := { t.boot with wait := .dump code } }
      if u.vault.state = 1 then u else u.startDump 1
  | .drain code false => s.quiesce.retain.warmReset code
  | _ => s

/-- The dump of a commanded cold reset is over (R489). -/
def State.dumpOver (s : State) : State :=
  match s.boot.wait with
  | .dump code => if s.vault.state = 0 then s.mainReset code false else s
  | _ => s

/-- A warm reset that the device starts without a drain of its own having run: the one that follows a dump (R157) or an
uncorrectable error of Thimble's memory; the manual gives `boot.last_reset` no value for it, so it is a free value. -/
def State.resetFree (s : State) : State :=
  match s.boot.wait with
  | .dump code => s.mainReset code false
  | _ => s.used.quiesce.retain.warmReset (s.fresh % 8)

/-- `boot.reset` (R489): detail 1 while a departure runs. -/
def State.bootReset (s : State) (cold : Bool) : State :=
  if s.boot.depart.isSome then s.actFail Obj.bootReset 0 1
  else (s.actRun Obj.bootReset 0).drainFor (if cold then 2 else 4) cold

/-- WARM_RST_EDGE. -/
def State.warmEdge (s : State) : State :=
  if s.boot.pwron ∨ s.boot.vaux = false ∨ s.cntAt Obj.bootStage 0 = 0 then s else s.drainFor 3 false

/-- VAUX_POWER_ON (R480, R482): the Skamo die lives; S0. With `PWRON_RST_N` high the main die goes on. -/
def State.vauxOn (s : State) : State :=
  if s.boot.vaux then s
  else
    let t : State := { s with boot := { s.boot with vaux := true } }
    let u := (t.mainReset 0 false)
    (List.range u.bays).foldl (fun v n => v.seat n) u

/-- VAUX_UNDERVOLTAGE (R385): the Skamo die resets; the main die is held in reset until VAUX returns. -/
def State.vauxLow (s : State) : State :=
  let t := s.skamoReset
  if s.boot.vaux = false then s else ({ t with boot := { t.boot with vaux := false }, clk := { t.clk with sk := 0 } }).mainReset 0 false

/-- PWRON_RST_ASSERT (Table 15-6): an immediate cold reset. -/
def State.pwronLow (s : State) : State :=
  if s.boot.pwron then s
  else ({ s with boot := { s.boot with pwron := true } }).mainReset 1 false

/-- PWRON_RST_DEASSERT (R481): S1. -/
def State.pwronHigh (s : State) : State :=
  if s.boot.pwron = false then s
  else
    let t : State := { s with boot := { s.boot with pwron := false } }
    if t.boot.vaux then t.enter 1 else t

/-! ### Stages -/

/-- Objects whose values live in array metadata and not in dictionary images (R115, R477). -/
def arrayObj (code : Nat) : Bool :=
  let idx := code / 256
  (decide (0x4000 ≤ idx) && decide (idx ≤ 0x41FF)) || idx = 0x7803

/-- Whether an object takes effect only at a cold reset. -/
def lateObj (code : Nat) : Bool := match findDesc code with | some d => d.late | none => false

/-- The committed image the firmware loads (R46, R496): valid, schema major its own, the higher generation. -/
def State.imageToLoad (s : State) : Option Image :=
  let own := (s.fwSlot s.boot.running).schema / 65536
  let ok := fun (i : Image) => i.valid && i.schema / 65536 = own
  if ok s.dict.slotA ∧ (ok s.dict.slotB = false ∨ s.dict.slotB.gen ≤ s.dict.slotA.gen) then some s.dict.slotA
  else if ok s.dict.slotB then some s.dict.slotB else none

/-- Effective values after the dictionary load (R39, R45, R46): committed ones; values of the array's metadata stay; those that
wait for a cold reset keep theirs at a warm one. -/
def State.dictLoad (s : State) : State :=
  let keep := s.dict.eff.filter (fun e => arrayObj (e.1 / 4294967296) || (s.boot.warm && lateObj (e.1 / 4294967296)))
  let vals := match s.imageToLoad with | some i => i.vals | none => []
  let fresh := vals.filter (fun e => !(s.boot.warm && lateObj (e.1 / 4294967296)))
  let t : State := { s with dict := { s.dict with
    eff := fresh.foldl (fun d e => Tbl.set none d e.1 e.2) keep
    active := if s.imageToLoad = none then s.dict.active else if s.imageToLoad = some s.dict.slotA then 0 else 1 } }
  if s.imageToLoad = none then t.note 0xE01 0 0 0 0 else t

/-- Bay settings after the load (R384, R385, R386): a changed `bay.enable` and the committed `bay.mode` take effect; a mated bay that
goes to OBSERVE was powered by nobody before. -/
def State.bayLoad (old s : State) : State :=
  (List.range s.bays).foldl (fun t n =>
    let u := if old.rw Obj.bayEnable n ≠ t.rw Obj.bayEnable n then t.enableBay n (t.rw Obj.bayEnable n) else t
    if u.rw Obj.bayMode n = 1 ∧ (u.bay n).r12.st = .seating then
      u.updBay n (fun x => { x.both (fun r => r.to .observe) with granted := none })
    else u.bayModeSet n (u.rw Obj.bayMode n)) s

/-- S2 done (R306, R493, R494): MSQ self-tests, the firmware slot. -/
def State.stage2 (s : State) (f : StageArg) : State :=
  if f.msqA = false ∧ f.msqB = false then ({ s with msq := { s.msq with st := .halted } }).halt 5
  else
    let s0 : State := { s with msq := { s.msq with st := if f.msqA && f.msqB then .paired else if f.msqA then .singleA else .singleB } }
    let s1 := if f.msqA && f.msqB then s0 else s0.later (.detect 0x702 10 (if f.msqA then 69 else 68) 0)
    let a := s1.fwCheck 0 f.fwA
    let b := s1.fwCheck 1 f.fwB
    let s2 := (s1.updFw 0 (fun x => { x with fail := a })).updFw 1 (fun x => { x with fail := b })
    match s2.boot.choose (fun i => (if i = 0 then a else b) = 0) with
    | none => s2.halt 4
    | some (slot, trial, fell) =>
      let s3 : State := { s2 with boot := { s2.boot with
        running := slot, isTrial := trial, trial := if trial then some (slot, true) else none } }
      (if fell then (s3.setCnt Obj.fwuFallback 0 1).note 0xE02 0 0 0 0 else s3).enter 3

/-- S3 done: boot epoch, dictionary, skein row, power domains (R482). -/
def State.stage3 (s : State) : State :=
  let t := s.setCnt Obj.bootEpoch 0 (wrapAdd 32 (s.cntAt Obj.bootEpoch 0) 1)
  let u := State.bayLoad t t.dictLoad
  let v : State := { u with skn := u.placeInSkein }
  let rows := (List.range 44).filter (fun r => !(16 ≤ r && r < 28) && (r ≠ 15 || v.rw Obj.epEnable 0 = 1))
  (v.pdPower rows).enter 4

/-- Whether a DIMM population is valid (R23), by nominal size of each channel. -/
def dimmsOk (l : List Nat) : Bool :=
  let a := l.take 6
  let b := l.drop 6
  let n := l.headD 0
  l.length = 12 && n ≠ 0 && a.all (fun x => x = n) && (b.all (fun x => x = n) || b.all (fun x => x = 0))

/-- S4 done (R23, R24, R523): DRAM; after a cold reset the event ring opens. -/
def State.stage4 (s : State) (f : StageArg) : State :=
  if dimmsOk f.dimms = false then s.halt 6
  else
    let pop := (f.dimms.zipIdx).foldl (fun m e => if e.1 = 0 then m else orBit m e.2) 0
    let t := (s.setCnt Obj.dramPopulated 0 pop).setCnt Obj.dramSize 0 (f.dimms.sum * 2 ^ 30)
    let rows := ((List.range 12).filter (fun c => bit pop c)).map (fun c => 16 + c)
    let u := t.pdPower rows
    let v := if s.boot.warm then u else u.openRing false
    -- a bay whose rails stayed ON through the reset has its clock again
    let w := (List.range v.bays).foldl (fun x n =>
      if x.bothOn n then x.putLink n { x.link n with refclk := x.rw Obj.dlinkClocking n = 0 } else x) (v.enter 6)
    w.grants

/-- Whether a present bay is settled (R483). -/
def State.settled (s : State) (n : Nat) : Bool :=
  let x := s.bay n
  s.boot.probed.any (fun p => p.bay = n) || (s.mem n).st = .retired || x.r12.st = .lockedOut || s.rw Obj.bayEnable n = 0
    || s.rw Obj.bayMode n = 1 || s.bonded n

/-- Whether S6 may complete: every present bay is settled. -/
def State.allSettled (s : State) : Bool := (List.range s.bays).all (fun n => !(s.bay n).deb || s.settled n)

/-- A probe that ends before S5 is over waits for its end (R482, R484). -/
def State.probeIn (s : State) (p : ProbeRes) : State :=
  if s.cntAt Obj.bootStage 0 = 6 ∨ s.cntAt Obj.bootStage 0 = 5 then
    if (s.mem p.bay).st ≠ .probing ∨ s.boot.probed.any (fun q => q.bay = p.bay) then s
    else { s with boot := { s.boot with probed := s.boot.probed ++ [p] } }
  else s.probeDone p.bay p.fail ⟨p.serial, p.model, p.capacity, p.queues, p.volatile, p.array, p.gen⟩

/-- Service opens (S7): standing requests, the skein, the links (R30, R455, R483, R485). -/
def State.openService (s : State) : State :=
  let t := s.enter 7
  let u := t.boot.times.foldl (fun v e => v.setCnt Obj.bootStageTime e.1 e.2) t
  let late := u.drv.mems.filter (fun e => e.2.st = .absent && e.2.pos ≠ 0xFF)
  let v := late.foldl (fun w e => w.putMem e.1 { w.mem e.1 with grace := true }) u
  let w : State := { v with boot := { v.boot with svcOpen := true, wdSeen := false } }
  let x := if w.rw Obj.twinPairEnable 0 = 1 then w.setTwin { w.sk.twin with st := 1 } else w
  x.pdStanding.joinSkein.grants

/-- S5 done (R78, R85, R147, R156, R159, R161, R484, R523): metadata, retention or vault, journal; each member takes its state;
then service opens. -/
def State.stage5 (s : State) (f : StageArg) : State :=
  let kept := s.boot.warm && f.retained && s.vault.retention.isSome
  let taken := f.taken.filter (fun n => (s.nsp n).bolts ≠ 0 && (s.nsp n).owner = s.skn.side)
  let s1 := taken.foldl (fun t n => t.putNsp n { t.nsp n with owner := 1 - s.skn.side, ogen := wrapAdd 32 (t.nsp n).ogen 1, ana := 3 }) s
  let s2 := s1.s5Storage s.boot.warm ⟨kept, f.vaultOk, f.missing, f.journal⟩ f.wrong
  let s3 := if s.boot.warm then (s2.openRing kept).setCnt Obj.bootRetained 0 (b2n kept) else s2
  let s5 := s.boot.probed.foldl (fun t p => t.probeDone p.bay p.fail ⟨p.serial, p.model, p.capacity, p.queues, p.volatile, p.array, p.gen⟩) s3
  let s6 : State := { s5 with boot := { s5.boot with probed := [] } }
  (s6.later .posMoved).openService

/-- STAGE_COMPLETE (R481 to R487): the present stage ends, or fails with a halt cause of Table 15-5. -/
def State.stageDone (s : State) (fail : Nat) (f : StageArg) : State :=
  if s.cntAt Obj.bootHalted 0 = 1 ∨ s.boot.vaux = false ∨ s.boot.pwron then s
  else
    match s.cntAt Obj.bootStage 0 with
    | 1 => if fail = 1 ∨ fail = 2 then s.halt fail else { s with clk := { s.clk with ns := 0, frac := 0, running := true } }.enter 2
    | 2 => if fail = 3 then s.halt 3 else s.stage2 f
    | 3 => s.stage3
    | 4 => if fail = 7 then s.halt 7 else s.stage4 f
    | 6 => if s.allSettled then s.enter 5 else s
    | 5 => s.stage5 f
    | _ => s

/-- S6_LIMIT_EXPIRY (R483). -/
def State.s6Limit (s : State) : State :=
  if s.cntAt Obj.bootStage 0 = 6 ∧ s.cntAt Obj.bootHalted 0 = 0 then s.enter 5 else s

/-- MGMT_LINK_UP (R72, R485): from S3 on under the port's objects. -/
def State.mgmtUp (s : State) (n : Nat) : State :=
  if n < 2 ∧ 3 ≤ s.cntAt Obj.bootStage 0 ∧ s.rw Obj.mportMode n ≠ 0 then s.setCnt Obj.mportLink n 1 else s

/-! ### Power fail and departure -/

/-- Every Ethernet link goes down. -/
def State.ethAllDown (s : State) : State :=
  (List.range s.ports).foldl (fun t p => (t.port p).up.foldl (fun u i => u.ethDown p i) t) s

/-- PWRFAIL_FILTERED (R152): once a dump runs, E0–E7 and the endpoint link are down. -/
def State.pwrfailOp (s : State) : State :=
  let t := s.pwrfail
  if t.vault.state = 1 ∧ s.vault.state ≠ 1 then t.ethAllDown.epReset else t

/-- Whether every stripe has destaged (R499 step 2 without a partner). -/
def State.allClean (s : State) : Bool := s.hoop.stripes.all (fun e => e.2.frames = [] && e.2.succ = [])

/-- LEAVE and the grace of a departure (R499 steps 3 and 4). -/
def State.departGrace (s : State) : State :=
  { s.sendLeave with boot := { s.boot with depart := s.boot.depart.map (fun d => { d with grace := true }) } }

/-- A departure without a partner goes on once every DIRTY stripe is destaged. -/
def State.departCheck (s : State) : State :=
  match s.boot.depart with
  | some d => if d.grace = false ∧ s.sk.move = none ∧ s.allClean then s.departGrace else s
  | none => s

/-- `boot.depart` (R499). -/
def State.departOp (s : State) (arg : Nat) : State :=
  if s.boot.depart.isSome ∨ s.boot.wait ≠ .none ∨ s.boot.hold then s
  else
    let t := { s with boot := { s.boot with depart := some { arg := arg } } }.actRun Obj.bootDepart 0
    let own := s.ownNss
    if s.skn.present ∧ own ≠ [] then
      if s.moveOk = false then ({ t with boot := { t.boot with depart := none } }).actFail Obj.bootDepart 0 1
      else t.moveAsk own (some (Obj.bootDepart, 0)) 2
    else own.foldl (fun u n => u.later (.ana n)) (if s.skn.present then t else t.triggerAll)

/-- DEPART_GRACE_EXPIRY (R499 steps 4 and 5): E0–E7 go down, `SVC_OPEN` goes low; the reset follows, or the device holds. -/
def State.departEnd (s : State) : State :=
  match s.boot.depart with
  | some d =>
    if d.grace = false then s
    else
      let t := s.ethAllDown
      let u : State := { t with boot := { t.boot with svcOpen := false, depart := none, hold := true } }
      let v := u.actDone Obj.bootDepart 0
      if d.arg = 1 then v.drainFor 7 true else if d.arg = 2 then v.drainFor 7 false else v
  | none => s

end Sys2Proof.Machine
end

