-- ==== Sys2Proof/Machine/Units.lean ====
section
/-!
DEFINITION. Machine/Units.lean: what an engaged fence stops in each unit, what its release clears, and when work of a
scope is in flight (R294, Table 8-2).
-/

namespace Sys2Proof.Machine

/-- Commands of a needle: block commands are spread over the 64 needles by their number. -/
def onNeedle (n id : Nat) : Bool := id % 64 = n

/-- A fenced needle's commands complete with Internal Error (Table 8-2): writes of whole blocks that already are in the hoop
stay, the rest is as before. -/
def State.needleStop (s : State) (n : Nat) : State :=
  let ws := s.hoop.writes.filter (fun c => onNeedle n c.id)
  let rs := s.hoop.reads.filter (fun c => onNeedle n c.id)
  let t := ws.foldl (fun u c => (u.abandonWrite c.id).later (.done c.req 0x006 0 0)) s
  rs.foldl (fun u c => ({ u with hoop := { u.hoop with reads := u.hoop.reads.filter (fun d => d.id ≠ c.id) } }).later
    (.done c.req 0x006 0 0)) t

/-- The device fence (Table 8-2): admission and completion release end, E0–E7 go down, takeover is requested. -/
def State.deviceStop (s : State) (det : Nat) : State :=
  let t := s.ethAllDown.quiesce
  let u : State := { t with hoop := { t.hoop with reads := [] } }
  if s.inS7 then u.askTakeover det else u

/-- Freeze causes of the endpoint (Table 12-9): the detector that engaged its fence names it. -/
def freezeCause (det : Nat) : Nat :=
  if det = 0x404 then 1 else if det = 0x501 ∨ det = 0x503 then 2 else if det = 0x405 then 4 else 3

/-- What engagement stops (Table 8-2); `det` is the detector. -/
def State.stopUnit (s : State) (stype id det : Nat) : State :=
  match stype with
  | 0 => s.deviceStop det
  | 1 =>
    if id = 9 then s.freeze (freezeCause det)
    else if id = 8 then s.twinDown
    else (s.port id).up.foldl (fun t i => t.ethDown id i) s
  | 2 => s.planeCut id
  | 3 => match s.posBay id with | some b => s.memFail b 9 | none => s
  | 4 =>
    ((s.net.eyes.filter (fun e => e.2.st = 1 && e.2.kind = 0 && e.2.ns = id)).map (fun e => e.1)).foldl
      (fun t r => t.toRevoking State.disarm r) s
  | 5 => (s.hostQps id).foldl (fun t q => t.fenceQp q) s
  | 6 => s.fenceQp id
  | 7 => if (s.eye id).st = 1 then s.toRevoking State.disarm id else s
  | 8 => s.ringErr id
  | 9 => s.shError id
  | 10 => if id < 64 then s.needleStop id else s
  | _ => s

/-- A FENCED QP goes to IDLE at the release of its fence. -/
def State.unfenceQp (s : State) (q : Nat) : State := if (s.qp q).st = .fenced then s.freeQp q else s

/-- What the release of a fence leaves of the unit (Table 8-2, last column). -/
def State.clearUnit (s : State) (stype id : Nat) : State :=
  match stype with
  | 1 => if id = 9 then s.epRelease else s
  | 3 => match s.posBay id with
    | some b => if (s.mem b).st = .failed then s.memTo b .probing 0 else s
    | none => s
  | 5 => (s.hostQps id).foldl (fun t q => t.unfenceQp q) s
  | 6 => s.unfenceQp id
  | _ => s

/-- Whether work of a scope is in flight that its release waits for: commands of a namespace, of a QP, of a host's QPs; work
of every other scope is abandoned, held or moved at engagement. -/
def State.scopeBusy (s : State) (stype id : Nat) : Bool :=
  match stype with
  | 4 => s.hoop.writes.any (fun c => c.ns = id) || s.hoop.reads.any (fun c => c.ns = id)
  | 5 => (s.hostQps id).any s.qpBusy
  | 6 => s.qpBusy id
  | _ => false

end Sys2Proof.Machine
end

