-- ==== Sys2Proof/Machine/Fence.lean ====
section
/-!
DEFINITION. Machine/Fence.lean: selvedge fences: engagement, groups, release (R294 to R299), and detections that
engage a fence (R519, Table 16-3).
-/

namespace Sys2Proof.Machine

/-- Rows of the fence list. -/
def fenRows : Nat := 4096

/-- The lowest free fence row. -/
def State.freeFen (s : State) : Option Nat :=
  (List.range (s.fen.rows.length + 1)).find? (fun r => r < fenRows && (Tbl.get {} s.fen.rows r).st = .unused)

/-- Writes a fence row. -/
def State.putFen (s : State) (row : Nat) (f : Fen) : State :=
  { s with fen := { s.fen with rows := Tbl.set {} s.fen.rows row f } }

/-- The members of a fence group: scope type and identifier (R299). -/
def State.groupMembers (s : State) (g : Nat) : List (Nat × Nat) :=
  (s.effRows Obj.fgmGroup).filterMap (fun e =>
    if e.2 = g then some (s.rw Obj.fgmScope e.1, s.rw Obj.fgmId e.1) else none)

/-- The groups that hold a scope. -/
def State.groupsOf (s : State) (stype id : Nat) : List Nat :=
  (s.effRows Obj.fgmGroup).filterMap (fun e =>
    if s.rw Obj.fgmScope e.1 = stype ∧ s.rw Obj.fgmId e.1 = id then some e.2 else none)

/-- One engagement waiting to be made: scope, engaging group, detector, whether a group engages it. -/
structure ToEngage where
  stype : Nat
  id : Nat
  group : Nat
  det : Nat
  byGroup : Bool
deriving DecidableEq, Repr

/-- A further detection against a scope already FENCED or DRAINING (Table 8-3): a hit; a drain in progress ends and
its release fails with detail 3. -/
def State.fenHit (s : State) (row : Nat) : State :=
  let f := Tbl.get {} s.fen.rows row
  let t := s.putFen row { f with hits := satAdd 32 f.hits 1, st := .fenced }
  if f.st = .draining then t.actFail Obj.fenRelease row 3 else t

/-- Takes a row and stops the unit, or sets the bare fence bit when no row is free (R295). -/
def State.fenTake (s : State) (x : ToEngage) : State :=
  match s.freeFen with
  | some row =>
    (s.putFen row { st := .fenced, scope := x.stype, id := x.id, det := x.det, group := x.group, time := s.clk.ns
                    hits := 0 }).stopUnit x.stype x.id x.det
  | none =>
    let t := { s with fen := { s.fen with loose := Tbl.set 0 s.fen.loose (fenKey x.stype x.id) 1 } }
    ((t.addCnt 32 Obj.selListOverflow 0 1).note 0xE05 0 0 0 0).stopUnit x.stype x.id x.det

/-- What a fresh engagement brings with it: every escalating group that holds the scope (R299), and the members of
a group that is itself engaged. -/
def State.escalation (s : State) (x : ToEngage) : List ToEngage :=
  if x.stype = 11 then
    (s.groupMembers x.id).map (fun m => ⟨m.1, m.2, x.id, x.det, true⟩)
  else
    ((s.groupsOf x.stype x.id).filter (fun g => s.rw Obj.fgrpEscalate g = 1 && !s.isFenced 11 g)).map
      (fun g => ⟨11, g, 0xFFFF, x.det, false⟩)

/-- Engages the fences of a list and all that follows from them; `n` bounds their number. -/
def State.engageList : Nat → List ToEngage → State → State
  | 0, _, s => s
  | _, [], s => s
  | n + 1, x :: xs, s =>
    match s.fenRowOf x.stype x.id with
    | some row => State.engageList n xs (s.fenHit row)
    | none =>
      if Tbl.get 0 s.fen.loose (fenKey x.stype x.id) = 1 then State.engageList n xs s
      else
        let more := s.escalation x
        let t := s.fenTake x
        let u := if x.byGroup then t.note 0xE09 x.stype x.id 5 x.group else t
        State.engageList n (xs ++ more) u

/-- Most engagements one detection can bring: every group and every member row. -/
def engageBound : Nat := 40000

/-- Engages the fence of a scope. -/
def State.engage (s : State) (stype id det : Nat) : State :=
  State.engageList engageBound [⟨stype, id, 0xFFFF, det, false⟩] s

/-- Detectors whose detection engages the fence of its own scope (Table 16-3). -/
def fencing (det : Nat) : Bool :=
  det ∈ [0x001, 0x002, 0x102, 0x202, 0x204, 0x304, 0x404, 0x405, 0x501, 0x502, 0x503, 0x505, 0x701, 0x702, 0x802,
    0x808, 0x901, 0x902, 0x903, 0xC03, 0xD07]

/-- The `ACT` of a detector without a fence: 5 for the state changes of R520, 4 for the throttle level, else 0. -/
def plainAct (det : Nat) : Nat :=
  if det ∈ [0x006, 0x706, 0xC0A, 0xE09, 0xE0A, 0xE0B] then 5 else if det = 0x101 then 4 else 0

/-- A detection (R519): counted, recorded, and its fence engaged; `ACT` 1 for a new fence, 2 for one already
engaged. -/
def State.detectInj (s : State) (inj : Bool) (det stype scope detail : Nat) : State :=
  if fencing det then
    let act := if s.isFenced stype scope then 2 else 1
    (s.noteInj inj det stype scope act detail).engage stype scope det
  else s.noteInj inj det stype scope (plainAct det) detail

/-- A detection. -/
def State.detect (s : State) (det stype scope detail : Nat) : State := s.detectInj (s.forced det) det stype scope detail

/-- Whether an identifier exists for a scope type (Table 8-2). -/
def State.scopePresent (s : State) (stype id : Nat) : Bool :=
  match stype with
  | 0 => id = 0
  | 1 => id < s.ports || id = 8 || id = 9
  | 2 => id < 4
  | 3 => id < s.bays
  | 4 => id < 4096
  | 5 => id < 2048
  | 6 => id < 65536
  | 7 => id < 16384
  | 8 => id < 2112
  | 9 => id < 32
  | 10 => id < 70
  | 11 => id < 256
  | _ => false

/-- A fence reaches RELEASED (Table 8-3): the bit clears, the unit is cleared, 0xE0A, the action ends done. -/
def State.fenReleased (s : State) (row : Nat) : State :=
  let f := Tbl.get {} s.fen.rows row
  (((s.putFen row { f with st := .released }).actDone Obj.fenRelease row).clearUnit f.scope f.id).note 0xE0A f.scope
    f.id 5 0

/-- The owning chapter's action releases a scope: FENCED to RELEASED without DRAINING. -/
def State.fenOwner (s : State) (stype id : Nat) : State :=
  match s.fenRowOf stype id with
  | some row => s.fenReleased row
  | none => s

/-- Enters DRAINING, and RELEASED at once when nothing of the scope is in flight (R295). -/
def State.fenDrain (s : State) (row : Nat) : State :=
  let f := Tbl.get {} s.fen.rows row
  let t := (s.putFen row { f with st := .draining }).actRun Obj.fenRelease row
  if t.scopeBusy f.scope f.id then t else t.fenReleased row

/-- Whether the owning chapter alone releases a scope (R297 detail 6). -/
def ownerOnly (stype id : Nat) : Bool := stype = 7 || stype = 8 || stype = 9 || (stype = 10 && 68 ≤ id)

/-- The detail with which `fen.release` fails, 0 when it does not (R297). A plane needs a passed test (R332), an
engine its self-test: `clear` says that the detector's condition is gone. -/
def State.releaseDetail (s : State) (row : Nat) (clear : Bool) : Nat :=
  let f := Tbl.get {} s.fen.rows row
  if f.st ≠ .fenced then 1
  else if f.scope = 0 then 5
  else if ownerOnly f.scope f.id then 6
  else if clear = false then 2
  else if f.scope = 2 ∧ s.cntAt Obj.planeTestOk f.id = 0 then 2
  else 0

/-- The member rows that releasing a group releases: engaged by it and not reported against since (R299). -/
def State.groupRows (s : State) (g : Nat) : List Nat :=
  (s.fen.rows.filter (fun e => e.2.group = g && e.2.hits = 0 && e.2.st = .fenced)).map (fun e => e.1)

/-- `fen.release` (R297, R299). -/
def State.releaseOp (s : State) (row : Nat) (clear : Bool) : State :=
  let d := s.releaseDetail row clear
  if d ≠ 0 then s.actFail Obj.fenRelease row d
  else
    let f := Tbl.get {} s.fen.rows row
    if f.scope = 11 then
      let t := (s.groupRows f.id).foldl (fun u r => if u.releaseDetail r clear = 0 then u.fenDrain r else u) s
      t.fenDrain row
    else s.fenDrain row

/-- `sel.drain_timeout` passes in DRAINING: the release fails with detail 4 (Table 8-3). -/
def State.fenDrainTimeout (s : State) (row : Nat) : State :=
  let f := Tbl.get {} s.fen.rows row
  if f.st = .draining then
    ((s.putFen row { f with st := .fenced }).actFail Obj.fenRelease row 4).note 0xE0B f.scope f.id 5 0
  else s

/-! ### The MSQ pair -/

/-- Leaves PAIRED, or another state, for `st`. -/
def State.msqTo (s : State) (st : MsqState) : State :=
  { s with msq := { s.msq with
      st := st
      leftAt := if s.msq.st = .paired ∧ st ≠ .paired then s.clk.ns else s.msq.leftAt
      away := if s.msq.st ≠ .paired ∧ st = .paired then s.msq.away + (s.clk.ns - s.msq.leftAt) else s.msq.away
      testArmed := st = .paired } }

/-- HALTED (R305): both copies stop and the device fence engages. -/
def State.msqHalt (s : State) (inj : Bool) (det : Nat) : State := (s.msqTo .halted).detectInj inj det 0 0 0

/-- A switch-over from PAIRED (R302 to R304): the values latched at cycle 0, the decision, the fence, one detection
of 0x701, or 0x702 without a mismatch. `rowDet` is what the fence row names. The gap is a free value of at most 48
cycles. -/
def State.msqSwitch (s : State) (inj : Bool) (slices : Nat) (fa fb : Bool) (rowDet : Nat) : State :=
  let cause := if fa && !fb then 1 else if fb && !fa then 2 else if fa && fb then 4 else 3
  let det := if slices = 0 then 0x702 else 0x701
  let s1 := { s with msq := { s.msq with lastMismatch := s.clk.ns, lastSlices := slices, lastCause := cause } }
  let s2 := s1.addCnt 32 Obj.msqSwitchovers 0 1
  if cause = 1 ∨ cause = 2 then
    let eng := if cause = 1 then 68 else 69
    let s3 := (s2.msqTo (if cause = 1 then .singleB else .singleA)).noteInj inj det 10 eng 1 0
    let s4 := State.engageList engageBound [⟨10, eng, 0xFFFF, rowDet, false⟩] s3
    ({ s4 with msq := { s4.msq with lastGap := s4.fresh % 49 } }).used
  else s2.msqHalt inj det

/-- The survivor of a single state: whether MSQ-A is it. -/
def Msq.survivorA (m : Msq) : Bool := if m.st = .resync then m.before = .singleA else m.st = .singleA

/-- A mismatch of `slices`, or a faulty copy, in any state (Table 8-5). -/
def State.msqFault (s : State) (inj : Bool) (slices : Nat) (fa fb : Bool) : State :=
  match s.msq.st with
  | .paired =>
    if slices = 0 ∧ fa = false ∧ fb = false then s
    else s.msqSwitch inj slices fa fb (if slices = 0 then 0x702 else 0x701)
  | .halted => s
  | _ => if (if s.msq.survivorA then fa else fb) then s.msqHalt inj 0x702 else s

/-- `msq.repair` (R307). -/
def State.msqRepairOp (s : State) (selfTest : Bool) : State :=
  if ¬ (s.msq.st = .singleA ∨ s.msq.st = .singleB) then s.actFail Obj.msqRepair 0 1
  else if selfTest = false then s.actFail Obj.msqRepair 0 2
  else (({ s with msq := { s.msq with before := s.msq.st } }).msqTo .resync).actRun Obj.msqRepair 0

/-- The fenced copy's engine during a re-pairing. -/
def Msq.fencedCopy (m : Msq) : Nat := if m.survivorA then 69 else 68

/-- The state copy of a re-pairing ends (Table 8-5). -/
def State.msqResyncDone (s : State) (inj equal : Bool) : State :=
  if s.msq.st ≠ .resync then s
  else
    let eng := s.msq.fencedCopy
    if equal then
      ((((s.fenOwner 10 eng).fenServe 10 eng).msqTo .paired).actDone Obj.msqRepair 0).note 0x706 0 0 5 0
    else
      let t := ((s.msqTo s.msq.before).actFail Obj.msqRepair 0 3).noteInj inj 0x704 10 eng 2 0
      t.engage 10 eng 0x704

/-- The slice test (R310). -/
def State.sliceTest (s : State) (pass : Bool) : State :=
  let t := { s with msq := { s.msq with cmpOk := pass, testArmed := true } }
  if pass then t else t.note 0x703 0 0 0 0

/-- `msq.cmp_test` (R310). -/
def State.cmpTestOp (s : State) (pass : Bool) : State :=
  if s.msq.st ≠ .paired then s.actFail Obj.msqCmpTest 0 1
  else if pass then (s.sliceTest true).actDone Obj.msqCmpTest 0
  else (s.sliceTest false).actFail Obj.msqCmpTest 0 2

/-- `msq.switch_test` (R311): a real switch-over blaming the named copy; one inverted bit makes one slice, a free
value, mismatch. -/
def State.switchTestOp (s : State) (arg : Nat) : State :=
  if s.msq.st ≠ .paired then s.actFail Obj.msqSwitchTest 0 1
  else
    let t := s.used.msqSwitch false (2 ^ (s.fresh % 64)) (arg = 1) (arg = 2) 0x701
    if t.msq.st = (if arg = 1 then .singleB else .singleA) ∧ t.msq.lastGap ≤ 48 then t.actDone Obj.msqSwitchTest 0
    else t.actFail Obj.msqSwitchTest 0 2

/-- `sel.engage` on an MSQ copy (R298). -/
def State.selEngageMsq (s : State) (eng : Nat) : State :=
  match s.msq.st with
  | .halted => s.actFail Obj.selEngage 0 2
  | .paired => ((s.msqSwitch false 0 (eng = 68) (eng = 69) 0xFFFF).note 0xE09 10 eng 5 0xFFFF).actDone Obj.selEngage 0
  | _ =>
    if eng = s.msq.fencedCopy then ((s.engage 10 eng 0xFFFF).note 0xE09 10 eng 5 0xFFFF).actDone Obj.selEngage 0
    else s.actFail Obj.selEngage 0 2

/-- `sel.engage` on the scope its objects name (R298). -/
def State.selEngageOp (s : State) : State :=
  let ty := s.rw Obj.selEngageType 0
  let id := s.rw Obj.selEngageId 0
  if s.scopePresent ty id = false then s.actFail Obj.selEngage 0 1
  else if ty = 10 ∧ 68 ≤ id then s.selEngageMsq id
  else ((s.engage ty id 0xFFFF).note 0xE09 ty id 5 0xFFFF).actDone Obj.selEngage 0

end Sys2Proof.Machine
end

