-- ==== Sys2Proof/Machine/SelfMgmt.lean ====
section
/-!
DEFINITION. Machine/SelfMgmt.lean: policy loops (R504 to R514), watchdogs and deadlines (R515 to R517), detections (R518 to
R520) and injection (R527 to R529).
-/

namespace Sys2Proof.Machine

/-! ### Junction sensors and throttle levels -/

/-- In range: −50 to +150 °C (R507). -/
def sensorIn (t : Int) : Bool := decide (-50 ≤ t) && decide (t ≤ 150)

/-- Whether an in-range reading is within 10 °C of the mean of the other in-range ones (R507); alone it is valid. -/
def sensorNear (all : List Int) (t : Int) : Bool :=
  let n : Int := (all.length : Int) - 1
  let d := n * t - (all.sum - t)
  n ≤ 0 || (decide (-(10 * n) ≤ d) && decide (d ≤ 10 * n))

/-- Whether a reading is valid among its peers (R507). -/
def sensorOk (all : List Int) (t : Int) : Bool := sensorIn t && sensorNear (all.filter sensorIn) t

/-- The highest of some readings; none of no reading. -/
def maxInt : List Int → Option Int
  | [] => none
  | t :: r => match maxInt r with
    | none => some t
    | some m => some (if m < t then t else m)

/-- A loop's next level (R508, R512): up by 1 above its limit; down by 1 for each full second (100 passes) below its lower
point without a break. -/
def Loop.next (l : Loop) (above below : Bool) : Loop :=
  if above then { lvl := min 8 (l.lvl + 1), below := 0 }
  else if below then
    if 100 ≤ l.below + 1 then { lvl := l.lvl - 1, below := 0 } else { l with below := l.below + 1 }
  else { l with below := 0 }

/-- The thermal loop (R507, R508): L_t is held at 8 while no sensor is valid. -/
def State.thermLoop (s : State) (tj : Option Int) : Loop :=
  match tj with
  | none => { lvl := 8, below := 0 }
  | some t =>
    s.boot.therm.next (decide ((s.rw Obj.thermThrottle 0 : Int) < t))
      (decide (t < (s.rw Obj.thermThrottle 0 : Int) - (s.rw Obj.thermHyst 0 : Int)))

/-- The power loop (R512). -/
def State.powerLoop (s : State) (w : Nat) : Loop :=
  s.boot.power.next (decide (s.rw Obj.pwrCap 0 < w)) (decide (w + 5 < s.rw Obj.pwrCap 0))

/-- Rates under throttling (R509): `bg.rate` at its floor, `rb.rate` capped and never below its floor. -/
def State.throttleRates (s : State) : State :=
  if s.level = 0 then s
  else
    let cap := max (s.rw Obj.rbFloor 0) ((16 - s.level) * s.darn.ceiling / 16)
    { s with darn := { s.darn with bgRate := s.rw Obj.bgFloor 0, rate := min s.darn.rate cap } }

/-- What follows a change of L from `old` (R508). -/
def State.levelMoved (s : State) (old : Nat) : State :=
  if s.level = old then s else (s.later (.detect 0x101 0 0 s.level)).throttleRates

/-- Whether a row of the power loop may be asked off (R513). -/
def State.sheddable (s : State) (idle : List Nat) (r : Nat) : Bool := (s.pdAt r).st = .on && s.offCond r && idle.contains r

/-- Whether the power loop switched a row off. -/
def State.shed (s : State) (r : Nat) : Bool := (s.pdAt r).st = .off && (s.pdAt r).owner = 1

/-- Domain requests of the power loop (R513): off one a second, highest row first; on one every pass. -/
def State.shedStep (s : State) (idle : List Nat) (busyE busyG : Bool) : State :=
  let n := if 4 ≤ s.boot.power.lvl then s.boot.shedN + 1 else 0
  let t : State := { s with boot := { s.boot with shedN := n } }
  let back := ((List.range 12).map (fun i => 28 + i)).filter (fun r =>
    t.shed r && (t.boot.power.lvl = 0 || (if r < 32 then busyE else busyG)))
  match back with
  | r :: _ => (t.pdOn r true).1
  | [] =>
    if t.rw Obj.pwrShed 0 = 1 ∧ 100 ≤ n ∧ n % 100 = 0 then
      match (((List.range 12).map (fun i => 39 - i)).filter (fun r => t.sheddable idle r)) with
      | r :: _ => (t.pdOff r true).1
      | [] => t
    else t

/-- The end of a silence on the die-to-die interface (R517); its length in ns is the event's detail. -/
def State.pollBack (s : State) : State :=
  match s.boot.silentAt with
  | some t => ({ s with boot := { s.boot with silentAt := none } }).later (.detect 0xE08 0 0 (s.clk.sk - t))
  | none => s

/-- SAFETY_PASS (R504, R507 to R514, R516): a rank 1 pass. It polls the Skamo die, kicks the watchdogs, judges the sensors,
moves both levels and gives grants. -/
def State.safetyPass (s : State) (sensors : List Int) (watts : Nat) (hot : Bool) (idle : List Nat) (busyE busyG : Bool) : State :=
  if s.cntAt Obj.bootStage 0 < 3 ∨ s.cntAt Obj.bootHalted 0 = 1 then s
  else
    let old := s.level
    let a := s.pollBack.throttleNoted
    let bad := (sensors.filter (fun t => !sensorOk sensors t)).length
    let b := (List.range bad).foldl (fun t _ => t.later (.detect 0x103 0 0 0)) a
    let tj := maxInt (sensors.filter (sensorOk sensors))
    let mask := sensors.zipIdx.foldl (fun m e => if sensorOk sensors e.1 then orBit m e.2 else m) 0
    let c : State := { b with boot := { b.boot with
      tj := tj, watts := watts, therm := b.thermLoop tj, power := b.powerLoop watts, forced := false, wdOnce := [] } }
    let d := (c.setCnt Obj.thermSensors 0 mask).levelMoved old
    let e := if hot && (match tj with | some t => decide (123 ≤ t) | none => false) then d.later (.detect 0x102 0 0 0) else d
    (e.shedStep idle busyE busyG).grants

/-- SAFETY_DEADLINE_EXPIRY (R516): 100 ms without a rank 1 pass. -/
def State.deadline (s : State) : State :=
  let old := s.level
  let t := s.throttleNoted
  let u : State := { t with boot := { t.boot with forced := true } }
  (u.later (.detect 0xE07 0 0 0)).levelMoved old

/-- POLL_SILENCE_TIMEOUT (R517): 100 ms without a poll. -/
def State.pollSilent (s : State) : State :=
  if s.boot.silentAt.isSome then s else { s with boot := { s.boot with silentAt := some (s.clk.sk - 100000000) } }

/-- WATCHDOG_EXPIRY (R515). -/
def State.watchdog (s : State) (core : Nat) : State :=
  if 4 ≤ core ∨ s.cntAt Obj.bootStage 0 < 3 then s
  else
    let t := (s.addCnt 32 Obj.wdExpiries 0 1)
    let u : State := { t with boot := { t.boot with wdSeen := true } }
    if s.boot.wdOnce.contains core then u.drainFor 5 false
    else ({ u with boot := { u.boot with wdOnce := u.boot.wdOnce ++ [core] } }).later (.detect 0xE03 0 0 core)

/-- TELEMETRY_PASS (R505): shares of the cores by rank, lag, percentiles. -/
def State.telemetry (s : State) (loads : List Nat) (lag flushP99 readP99 : Nat) : State :=
  let t := (List.range 6).foldl (fun u r => u.setCnt Obj.thmLoad r (min 100 (loads.getD r 0))) s
  let u := (t.setCnt Obj.thmTelemetryLag 0 (lag % 2 ^ 32)).setCnt Obj.ordFlushP99 0 (flushP99 % 2 ^ 32)
  { u with darn := { u.darn with p99 := readP99 } }

/-! ### Detections -/

/-- Scope types a detector reports against (Table 16-3). -/
def detScopes (det : Nat) : List Nat :=
  if multiScope det then
    (if det = 0x201 then [0, 1, 10] else if det = 0x501 ∨ det = 0x503 then [0, 1, 3, 10] else if det = 0x701 ∨ det = 0x702 then [0, 10]
      else [0, 1, 2, 3, 4, 5, 6, 7, 8, 9, 10, 11])
  else if det ∈ [0x203, 0x303, 0x601, 0x606, 0x807, 0x809] then [6]
  else if det ∈ [0x202, 0x704, 0x705] then [10]
  else if det ∈ [0x204, 0x401, 0x402, 0x403, 0x404, 0x405, 0x406, 0x905, 0xD01, 0xD02, 0xD03] then [1]
  else if det ∈ [0x302, 0x602, 0x604, 0x605, 0x607, 0x608, 0xB06, 0xC03, 0xC06, 0xC07, 0xC09] then [4]
  else if det ∈ [0x304, 0x801, 0x802, 0x803, 0x804, 0x805, 0x806] then [7]
  else if det ∈ [0x502, 0x504] then [2]
  else if det = 0x808 then [5]
  else if det ∈ [0x901, 0x902] then [8]
  else if det ∈ [0x903, 0x904] then [9]
  else if det = 0x104 ∨ det = 0x603 ∨ (det / 256 = 0xA ∧ det ≠ 0xA0A) ∨ (det / 256 = 0xB ∧ det ≠ 0xB07) then [3]
  else [0]

/-- Whether a detector exists and can report against a scope. -/
def State.detHere (s : State) (det stype scope : Nat) : Bool :=
  detExists det && (detScopes det).contains stype && s.scopePresent stype scope

/-- The first sub-port whose link is up. -/
def State.firstUp (s : State) (n : Nat) : Option Nat := (s.port n).up.head?

/-- A detector's condition holds (R519): the action its rule gives it where it has one that can act now, or count, record and the
fence of Table 16-3. -/
def State.occur (s : State) (det stype scope detail : Nat) : State :=
  let plain := s.detect det stype scope detail
  match det with
  | 0x003 => if s.clk.locked then s.ptpLost else plain
  | 0x004 => s.pwrfailOp
  | 0x203 | 0x303 => plain.errQp scope 4
  | 0x402 => match s.firstUp scope with | some i => s.ethDown scope i | none => plain
  | 0x504 => if s.net.plane.contains scope then s.planeTestDone scope false else plain
  | 0x701 => if s.msq.st = .paired then s.msqFault (s.forced det) 1 (stype = 10 && scope = 68) (stype = 10 && scope = 69) else plain
  | 0x702 =>
    if s.msq.st = .paired then s.msqFault (s.forced det) 0 (stype = 0 || scope = 68) (stype = 0 || scope = 69)
    else if s.msq.st ≠ .halted ∧ stype = 10 then s.msqFault (s.forced det) 0 (scope = 68) (scope = 69) else plain
  | 0x703 => s.sliceTest false
  | 0x704 => if s.msq.st = .resync ∧ scope = s.msq.fencedCopy then s.msqResyncDone (s.forced det) false else plain
  | 0x807 => if (s.qp scope).st = .active then s.errQp scope 4 else plain
  | 0xA01 => if (s.bay scope).r12.driven then s.trip scope 1 false 0 (s.bay scope).r12.src else plain
  | 0xA02 => if (s.bay scope).r12.driven then s.trip scope 2 false 0 (s.bay scope).r12.src else plain
  | 0xA03 =>
    let t := s.updBay scope (fun x => { x.both (fun r => r.to .lockedOut) with last := 3, goodAt := none, offing := 0 })
    (t.bayDark scope).bayEvent scope 3 false 0 (s.bay scope).r12.src
  | 0xA04 => if (s.bay scope).r12.driven then s.trip scope 4 false 0 (s.bay scope).r12.src else plain
  | 0xA08 => if (s.bay scope).r12.driven || (s.bay scope).r33.driven then (s.presence scope false false).presence scope true true else plain
  | 0xB02 => if (s.mem scope).st = .inService ∨ (s.mem scope).st = .failing ∨ (s.mem scope).st = .rebuilding then s.memFail scope 9 else plain
  | 0xB03 => if (s.mem scope).st = .inService then s.memFailing scope 11 else plain
  | 0xB0A => if (s.link scope).st = 2 then s.containBay scope true else plain
  | 0xD01 => if 2 ≤ s.sk.twin.st then s.twinDown else plain
  | 0xD04 => if s.skn.present then s.partnerLost false else plain
  | 0xE06 => plain.later .warmReset
  | 0xE07 => s.deadline
  | _ => plain

/-- DETECTION (R519). -/
def State.detection (s : State) (det stype scope detail : Nat) : State :=
  if s.detHere det stype scope then s.occur det stype scope detail else s

/-! ### Injection -/

/-- The scope a row of an injection point names (R518). -/
def injScope (det row : Nat) : Nat × Nat :=
  if multiScope det then (row / 65536, row % 65536) else ((detScopes det).headD 0, row)

/-- Whether a detector's fence or action reaches device scope (R528). -/
def deviceReach (det stype : Nat) : Bool := (fencing det && stype = 0) || det = 0x004 || det = 0xE06

/-- The detail with which an injection fails, 0 when it does not (R528). -/
def State.injDetail (s : State) (det row : Nat) : Nat :=
  let sc := injScope det row
  if s.rw Obj.injEnable 0 = 0 then 1
  else if deviceReach det sc.1 ∧ s.rw Obj.injEnable 0 ≠ 2 then 2
  else if s.detHere det sc.1 sc.2 = false then 3
  else if (0xA01 ≤ det ∧ det ≤ 0xA04 ∧ (s.bay row).r12.st ≠ .on) ∨ (det = 0x502 ∧ (s.pdAt (40 + row)).st ≠ .on)
      ∨ (det = 0x504 ∧ s.net.plane.contains row = false) ∨ (0x701 ≤ det ∧ det ≤ 0x703 ∧ s.msq.st ≠ .paired)
      ∨ (det = 0x704 ∧ s.msq.st ≠ .resync) then 4
  else 0

/-- The object of a detector's injection point. -/
def injCode (det : Nat) : Nat := (0x2210 + det / 256) * 256 + det % 256

/-- Sets a detector's condition (R527): the records it causes carry `INJ`. -/
def State.injFire (s : State) (det row : Nat) : State :=
  let sc := injScope det row
  ({ (s.addCnt 32 Obj.injCount 0 1) with ev := { s.ev with force := some det } }).occur det sc.1 sc.2 0

/-- INJECTION (R527, R528). -/
def State.injectOp (s : State) (det row n : Nat) : State :=
  let d := if s.injDetail det row ≠ 0 then s.injDetail det row
    else if s.ev.inj.any (fun i => i.det = det && i.row = row) then 5 else 0
  if d ≠ 0 then s.actFail (injCode det) row d
  else
    let t := if n = 1 then s.actDone (injCode det) row
      else ({ s with ev := { s.ev with inj := s.ev.inj ++ [({ det := det, row := row, left := n - 1 } : InjRun)] } }).actRun (injCode det) row
    t.injFire det row

/-- INJECTION_OCCURRENCE (R527): the next occurrence, after the checks of R528. -/
def State.injNext (s : State) (det row : Nat) : State :=
  match s.ev.inj.find? (fun i => i.det = det && i.row = row) with
  | none => s
  | some i =>
    let rest := s.ev.inj.filter (fun j => !(j.det = det && j.row = row))
    let d := s.injDetail det row
    if d ≠ 0 then ({ s with ev := { s.ev with inj := rest } }).actFail (injCode det) row d
    else if i.left ≤ 1 then (({ s with ev := { s.ev with inj := rest } }).actDone (injCode det) row).injFire det row
    else ({ s with ev := { s.ev with inj := rest ++ [({ det := det, row := row, left := i.left - 1 } : InjRun)] } }).injFire det row

end Sys2Proof.Machine
end

