-- ==== Sys2Proof/Machine/Report.lean ====
section
/-!
DEFINITION. Machine/Report.lean: what an RO object reads as (the object tables of every chapter): most are reported values kept
as such; the others are taken from the state of their unit.
-/

namespace Sys2Proof.Machine

/-- A word with bit `i` set where `p i` holds, for `i` below `n`. -/
def bitsOf (n : Nat) (p : Nat → Bool) : Nat := ((List.range n).map (fun i => if p i then 2 ^ i else 0)).sum

/-- Bytes as a STR value. -/
def strOf (t : String) : Nat := encStr (ascii t)

/-- The state of a row of `0x2010 pd`: rows from 44 mirror the rail (R21, R384). Codes as `pd.state`. -/
def State.pdCode (s : State) (r : Nat) : Nat :=
  if 44 ≤ r then
    match ((s.bay ((r - 44) / 2)).rail (r % 2 = 1)).st with
    | .on => 2
    | .limiting => 2
    | .ramping => 1
    | _ => 0
  else
    match (s.pdAt r).st with
    | .off => 0
    | .waking => 1
    | .on => 2
    | .draining => 3

/-- `clk.pll_lock` (R555): a PLL is locked while a domain it clocks is not OFF; core, engine, Thimble and management-port PLLs
clock parts that no row of `0x2010` switches. -/
def State.pllLock (s : State) : Nat :=
  let any := fun (l : List Nat) => l.any (fun r => s.pdCode r ≠ 0)
  if s.clk.running = false then 0
  else bitsOf 12 (fun i =>
    if i = 3 then any [16, 17, 18, 19, 20, 21]
    else if i = 4 then any [22, 23, 24, 25, 26, 27]
    else if i = 5 then any [9, 10, 11]
    else if i = 6 then any [12, 13, 14]
    else if i = 7 then any [15]
    else if i = 8 then any [0, 1, 2, 3]
    else if i = 9 then s.part = .kv4896 && any [4, 5, 6, 7]
    else if i = 10 then any [8]
    else true)

/-- Index 0x2000 and 0x2001. -/
def State.roClock (s : State) (code row : Nat) : Nat :=
  match code with
  | 0x200001 => s.pllLock
  | 0x200101 => s.clk.ns
  | 0x200106 => ofSigned 32 s.clk.offset
  | 0x200107 => b2n s.clk.locked
  | 0x200108 => ofSigned 32 s.clk.freqAdj
  | _ => s.cntAt code row

/-- Index 0x2010. -/
def State.roPd (s : State) (code row : Nat) : Nat :=
  let d := s.pdAt row
  match code with
  | 0x201001 => s.pdCode row
  | 0x201003 => if 44 ≤ row then 4 else d.owner
  | _ => d.onTime + (if d.st = .on then s.clk.ns - d.onAt else 0)

/-- Index 0x1000. The parts are at stepping A1 (Table 0-2 names no other difference; log entry 30). -/
def State.roId (s : State) (code row : Nat) : Nat :=
  let fw := s.fwSlot s.boot.running
  match code with
  | 0x100001 => strOf "Caerom"
  | 0x100002 => strOf (match s.part with | .kv4896 => "KV4896" | .kv2448 => "KV2448")
  | 0x100003 => strOf "A1"
  | 0x100004 => encStr (Config.serial.map (fun b => b % 256))
  | 0x100005 => Config.deviceId
  | 0x100006 => fw.version
  | 0x100007 => s.boot.running
  | 0x100008 => Config.bootromVersion
  | 0x100009 => fw.schema
  | 0x10000A => Config.skamoRev
  | 0x10000B => Config.macBase
  | 0x10000C => s.bays
  | 0x10000D => s.ports
  | _ => s.cntAt code row

/-- The active image. -/
def State.image (s : State) : Image := if s.dict.active = 0 then s.dict.slotA else s.dict.slotB

/-- First 4 bytes of the SHA-256 of a key; 0 if it is empty. -/
def fingerprint (v : Nat) : Nat := if v = 0 then 0 else leNat ((sha256 (decStr v)).take 4)

/-- `sess.carrier` codes. -/
def carrierCode : Carrier → Nat
  | .meth n => n
  | .inband _ _ => 2
  | .mailbox => 3

/-- Indexes 0x1100 to 0x1130. -/
def State.roDict (s : State) (code row : Nat) : Nat :=
  let x := Tbl.get none s.rendi.sessions row
  let of := fun (f : Session → Nat) => match x with | some y => f y | none => 0
  match code with
  | 0x110001 => s.dict.commitState
  | 0x110002 => s.image.gen
  | 0x110003 => s.dict.active
  | 0x110004 => s.dict.pend.length
  | 0x110005 => s.dict.commitCount
  | 0x110006 => s.dict.commitTime
  | 0x111002 => fingerprint (s.rw Obj.keyValue row)
  | 0x112001 => of (fun y => y.id)
  | 0x112002 => of (fun y => y.level)
  | 0x112003 => of (fun y => carrierCode y.carrier)
  | 0x112004 => of (fun y => y.kslot)
  | 0x112005 => of (fun y => (s.clk.ns - y.since) / 1000000)
  | _ => s.cntAt code row

/-- Indexes 0x1200 to 0x1403: bring-up and images, management ports, SMBus. `SMB_ADDR0` and `SMB_ADDR1` are taken as 0 (log
entry 31). -/
def State.roBoot (s : State) (code row : Nat) : Nat :=
  let f := s.fwSlot row
  match code with
  | 0x12020B => s.boot.otpSvn
  | 0x12020C => s.boot.revoked
  | 0x120301 =>
    if f.fail ≠ 0 then 0
    else if (match s.boot.trial with | some t => decide (t.1 = row) | none => false) then 3
    else if s.boot.active = row then 2 else 1
  | 0x120302 => f.version
  | 0x120303 => f.svn
  | 0x120304 => f.key
  | 0x140008 =>
    if s.cntAt Obj.mportLink row = 0 then 0
    else if s.rw Obj.mportDhcp row = 1 then Config.mportIpv4 row else s.rw Obj.mportIpv4Addr row
  | 0x140009 => (Config.mportIpv6 row).1
  | 0x14000A => (Config.mportIpv6 row).2
  | 0x140301 => 0x58
  | _ => s.cntAt code row

/-- Indexes 0x2100 to 0x2105 (Table 16-5). -/
def State.roPolicy (s : State) (code row : Nat) : Nat :=
  match code with
  | 0x210001 => ofSigned 16 (s.boot.tj.getD (-32768))
  | 0x210005 => s.boot.therm.lvl
  | 0x210007 => s.cntAt code row + (if s.level = 0 then 0 else s.clk.ns - s.boot.lvlAt)
  | 0x210101 => s.boot.watts
  | 0x210103 => s.boot.power.lvl
  | 0x210105 => bitsOf 12 (fun i => s.shed (28 + i))
  | 0x210203 => s.allocated / 1000
  | 0x210204 => ((List.range s.bays).filter s.waitsGrant).length
  | _ => s.cntAt code row

/-- The oldest record of the ring. -/
def State.oldestRec (s : State) : Option Rec :=
  s.ev.ring.foldl (fun o e =>
    let age := fun (r : Rec) => (s.ev.next + 4294967296 - r.seq) % 4294967296
    match o with
    | none => some e.2
    | some r => if age r < age e.2 then some e.2 else some r) none

/-- Indexes 0x2200 to 0x220E: `det.count`. -/
def State.roDet (s : State) (code row : Nat) : Nat := s.detCount ((code / 256 - 0x2200) * 256 + code % 256) row

/-- Indexes 0x2300 and 0x2301 (R526). -/
def State.roEvt (s : State) (code row : Nat) : Nat :=
  let r := Tbl.get {} s.ev.ring row
  let b := if r = {} then zeros 32 else r.bytes
  match code with
  | 0x230001 => if s.ev.ring = [] then 0 else (s.ev.next + 4294967295) % 4294967296
  | 0x230002 => match s.oldestRec with | some r => r.seq | none => 0
  | 0x230008 => s.ev.ring.length
  | 0x230101 => leNat (b.take 8)
  | 0x230102 => leNat ((b.drop 8).take 8)
  | 0x230103 => leNat ((b.drop 16).take 8)
  | 0x230104 => leNat ((b.drop 24).take 8)
  | _ => s.cntAt code row

/-- Index 0x3000: bay channels (Table 11-7). -/
def State.roBay (s : State) (code row : Nat) : Nat :=
  let x := s.bay row
  match code with
  | 0x300001 => x.r12.st.code
  | 0x300002 => x.r33.st.code
  | 0x300003 => b2n x.a + 2 * b2n x.b + 4 * b2n x.deb
  | 0x300010 => x.count
  | 0x300011 => x.last
  | 0x300015 => ofSigned 32 x.r12.i
  | 0x300016 => x.r12.v
  | 0x300017 => ofSigned 32 x.r12.p
  | 0x300018 => ofSigned 64 (x.r12.energy / 4294967296)
  | 0x300019 => ofSigned 32 x.r33.i
  | 0x30001A => x.r33.v
  | 0x30001B => ofSigned 32 x.r33.p
  | 0x30001C => ofSigned 64 (x.r33.energy / 4294967296)
  | 0x30001D => x.r12.src
  | 0x30001E => x.r33.src
  | 0x30001F => ofSigned 32 x.pAvg
  | 0x300020 => ofSigned 32 x.pPeak
  | 0x300021 => x.r12.samples
  | 0x300027 => x.r12.or_ + 4 * x.r33.or_
  | 0x300029 => x.r33.samples
  | _ => s.cntAt code row

/-- Indexes 0x3100 to 0x3201: drive links, members, positions (Tables 10-5, 10-6). -/
def State.roDrive (s : State) (code row : Nat) : Nat :=
  let l := s.link row
  let m := s.mem row
  match code with
  | 0x310001 => l.st
  | 0x310002 => l.speed
  | 0x310003 => l.width
  | 0x310008 => l.path
  | 0x320001 => m.st.code
  | 0x320002 => m.pos
  | 0x320003 => m.serial
  | 0x320004 => m.model
  | 0x320005 => m.capacity
  | 0x320006 => m.reason
  | 0x320007 => b2n m.foreign
  | 0x32000B => m.temp
  | 0x32000C => m.pctUsed
  | 0x32000D => m.mediaErrors
  | 0x320010 => m.ioQueues
  | 0x320101 => (s.posState row).code
  | 0x320102 => (s.posBay row).getD 0xFF
  | _ => s.cntAt code row

/-- Index 0x4000: geometries (Table 3-10). Objects that hold from ACTIVE read 0 before. -/
def State.roGeo (s : State) (code row : Nat) : Nat :=
  let g := s.geo row
  let on := fun (v : Nat) => if g.st = 2 then v else 0
  match code with
  | 0x400001 => g.st
  | 0x400007 => on g.seedUsed
  | 0x400008 => on g.period
  | 0x400009 => on g.sb
  | 0x40000A => on g.slotStripes
  | 0x40000B => on (g.dm / 1024)
  | 0x40000C => on (g.sm / 1024)
  | 0x40000D => on g.z
  | 0x40000E => on (minOf (pairCounts g.pat g.w))
  | 0x40000F => on (maxOf (pairCounts g.pat g.w))
  | 0x400010 => on g.digest
  | 0x400011 => s.geoBolts row
  | 0x400012 => on (s.freeBolts row)
  | _ => s.cntAt code row

/-- Bolts of a namespace not yet on `ns.geometry`. -/
def State.nsMoving (s : State) (ns : Nat) : Nat :=
  let x := s.nsp ns
  ((List.range x.bolts).filter (fun i => (s.bolt (x.mapBase + i)).geo ≠ s.rw Obj.nsGeometry ns)).length

/-- An entry of a geometry's pattern: pattern row, column. -/
def Geo.patAt (g : Geo) (i : Nat) : Option (Nat × Nat) := (g.pat.getD (i / (g.k + 2)) [])[i % (g.k + 2)]?

/-- An entry of a geometry's spare table: pattern row, column, lane. -/
def Geo.spareRow (g : Geo) (i : Nat) : Option (Nat × Nat) :=
  let c := i / 4
  if g.s ≤ i % 4 then none
  else (((g.spare.getD (c / (g.k + 2)) []).getD (c % (g.k + 2)) [])[i % 4]?)

/-- Indexes 0x4001 to 0x4102 and the pattern tables (Tables 3-1, 3-11). -/
def State.roPlace (s : State) (code row : Nat) : Nat :=
  let x := s.nsp row
  let map := fun (i : Nat) => ((s.place.maps[i]?).getD {}).pos
  match code with
  | 0x400102 => map 0 + 256 * map 1 + 65536 * map 2
  | 0x400103 => ((s.darn.skipped.map (fun e => e.1.num)).eraseDups).length
  | 0x400104 => s.dataSpace
  | 0x400301 => (Tbl.get {} s.place.lanes row).pos
  | 0x400302 => (Tbl.get {} s.place.lanes row).st
  | 0x410001 => if s.nsThere row = false then 0 else if s.nsMoving row = 0 then 1 else 2
  | 0x410008 => x.mapBase
  | 0x410009 => s.nsMoving row
  | 0x41000A => s.nsBlocks row
  | 0x410101 => leNat ((s.bolt row).bytes.take 8)
  | 0x410102 => leNat ((s.bolt row).bytes.drop 8)
  | 0x410202 => (s.place.waiting.filter (fun m => m.noSlot)).length
  | 0x401001 => match (s.geo (row / 65536)).patAt (row % 65536) with | some e => e.1 + 64 * e.2 | none => 0
  | 0x401002 => match (s.geo (row / 65536)).spareRow (row % 65536) with | some e => e.1 + 64 * e.2 | none => 0
  | _ => s.cntAt code row

/-- Bytes for own hoop partitions (R118) with a scratch region of `gib` GiB. -/
def State.ownSpaceAt (s : State) (gib : Nat) : Nat := s.cntAt Obj.dramSize 0 - 4 * 2 ^ 30 - gib * 2 ^ 30 - s.hoop.regionBytes

/-- `hoop.own_space`. -/
def State.ownSpace (s : State) : Nat := s.ownSpaceAt (s.rw Obj.scratchSize 0)

/-- Indexes 0x4200 to 0x4400: hoop, journal, vault (Tables 4-8 to 4-10). -/
def State.roHoop (s : State) (code row : Nat) : Nat :=
  match code with
  | 0x420004 => s.ownSpace
  | 0x420006 => s.hoop.mirrorState
  | 0x420007 => s.hoopDirty
  | 0x420008 => s.hoop.regionBytes
  | 0x420103 => s.hoopBytes (s.ofNs row) (fun f => f.owner = 0)
  | 0x420104 => s.hoopBytes (s.ofNs row) (fun f => f.owner ≠ 0)
  | 0x420105 => (s.hoop.queue.filter (fun id => match s.findWrite id with | some c => c.ns = row | none => false)).length
  | 0x430001 => s.jour.pos0 + 256 * s.jour.pos1
  | 0x430003 => s.jour.recs.length
  | 0x430004 => s.jour.next - 1
  | 0x430005 => match s.jour.recs with | r :: _ => r.jseq | [] => s.jour.next
  | 0x430008 => (s.place.bolts.filter (fun e => e.2.suspect)).length
  | 0x430009 => s.jour.resync / 131072
  | 0x440002 => s.vault.state
  | 0x440003 => s.vaultEst
  | 0x440004 => s.vaultCap
  | 0x440005 => s.vault.lastResult
  | 0x440006 => s.vault.lastBytes
  | 0x440007 => s.vault.lastTime
  | 0x440009 => s.vault.rate
  | _ => s.cntAt code row

/-- `rb.critical`: stripes lacking two or more stitches not yet passed. -/
def State.critical (s : State) : Nat :=
  (s.walkSlots.map (fun w => ((List.range w.g.sb).filter (fun x =>
    decide (2 ≤ ((List.range (w.g.k + 2)).filter (fun c => s.locate (w.at_ x) c = none)).length))).length)).sum

/-- `bg.active` (Table 5-3): bit n, rank n + 4 has work. -/
def State.bgActive (s : State) : Nat :=
  bitsOf 5 (fun i =>
    match i with
    | 0 => (s.nextEntry s.jour.resync (fun w => (s.bolt w.key.entry).suspect)).isSome
    | 1 => s.place.copyback.any (fun e => e.2.isSome)
    | 2 => s.place.active ≠ []
    | 3 => decide (s.place.zeroing ≠ []) || s.darn.relisting
    | _ => s.rw Obj.scrubEnable 0 = 1 && !s.rank1 && !s.rank2 && !s.rank3 && decide (s.walkSlots ≠ []))

/-- Indexes 0x4500 to 0x4602: darning, rebuild, integrity (Tables 5-8, 5-9). -/
def State.roDarn (s : State) (code row : Nat) : Nat :=
  let p := s.pass row
  match code with
  | 0x450001 => bitsOf 4 s.darnUp
  | 0x450108 => s.darn.rate
  | 0x450109 => s.darn.ceiling
  | 0x45010A => s.darn.p99
  | 0x45010B => s.critical
  | 0x450201 => p.st
  | 0x450202 => p.cursor
  | 0x450203 => p.done
  | 0x450204 => p.total
  | 0x450205 => min (2 ^ 32 - 1) ((p.total - p.done) / (s.darn.rate * 1000000))
  | 0x450303 => s.darn.bgRate
  | 0x450304 => s.bgActive
  | 0x460103 => s.darn.scrub / 131072
  | 0x460201 => s.darn.log.length
  | 0x460204 => s.darn.lostStripes.length
  | 0x460205 => s.lblSlots row 1 % 2 ^ 64
  | 0x460206 => s.lblSlots row 1 / 2 ^ 64
  | _ => s.cntAt code row

/-- Indexes 0x5000 to 0x5105: ports, transport, hosts, QPs (Tables 6-7 to 6-9). -/
def State.roNet (s : State) (code row : Nat) : Nat :=
  let q := s.qp row
  match code with
  | 0x510001 => (s.net.qps.filter (fun e => e.2.st ≠ .idle)).length
  | 0x510002 => s.residents
  | 0x510010 => s.net.reqs.length
  | 0x510011 => (s.net.admits.filter (fun t => s.clk.ns ≤ t + 1000000000)).length
  | 0x510019 => s.subsysNqn
  | 0x51030A => (s.hostQps row).length
  | 0x51030B => (s.hostCtrls row).length
  | 0x51030D => b2n (s.isFenced 5 row)
  | 0x510501 => q.st.code
  | 0x510502 => q.host
  | 0x510503 => q.port + 16 * q.sub
  | 0x510504 => q.qpn
  | 0x510505 => b2n q.resident
  | 0x510507 => q.rc
  | _ => s.cntAt code row

/-- Indexes 0x5200 to 0x5300: eyelets, chains, ordering (Tables 7-9, 7-10, 8-6). -/
def State.roEye (s : State) (code row : Nat) : Nat :=
  let x := s.eye row
  let c := s.chain row
  match code with
  | 0x520001 => x.st
  | 0x52000A => if x.st = 1 then x.key row else 0
  | 0x520011 => x.wgen
  | 0x520012 => (s.admitted row).length
  | 0x520013 => x.viol
  | 0x520014 => x.lastCause
  | 0x520201 => (s.net.eyes.filter (fun e => e.2.st = 1)).length
  | 0x520203 => (s.net.chains.filter (fun e => e.2.st = .armed)).length
  | 0x520204 => s.running
  | 0x520101 => c.st.code
  | 0x520102 => c.eye
  | 0x520103 => c.host
  | 0x520104 => c.count
  | 0x520105 => c.next
  | 0x530002 => (s.net.accs.filter (fun a => a.kind = .knot && !a.issued)).length
  | _ => s.cntAt code row

/-- `fen.state` codes. -/
def FenState.code : FenState → Nat
  | .unused => 0 | .fenced => 1 | .draining => 2 | .released => 3

/-- `msq.state` codes. -/
def MsqState.code : MsqState → Nat
  | .paired => 0 | .singleA => 1 | .singleB => 2 | .resync => 3 | .halted => 4

/-- Indexes 0x6800 to 0x6810: MSQ pair and fences (Tables 8-6, 8-7). -/
def State.roFence (s : State) (code row : Nat) : Nat :=
  let f := Tbl.get {} s.fen.rows row
  match code with
  | 0x680001 => s.msq.st.code
  | 0x680003 => s.msq.lastMismatch
  | 0x680004 => s.msq.lastSlices
  | 0x680005 => s.msq.lastGap
  | 0x680006 => s.msq.lastCause
  | 0x68000A => b2n s.msq.cmpOk
  | 0x68000C => s.msq.away + (if s.msq.st = .paired then 0 else s.clk.ns - s.msq.leftAt)
  | 0x680101 => (s.fen.rows.filter (fun e => e.2.st = .fenced || e.2.st = .draining)).length
  | 0x680201 => f.st.code
  | 0x680202 => f.scope
  | 0x680203 => f.id
  | 0x680204 => f.det
  | 0x680205 => f.group
  | 0x680206 => f.time
  | 0x680207 => f.hits
  | 0x681002 => (s.groupMembers row).length
  | _ => s.cntAt code row

/-- Indexes 0x6000 to 0x6200: crossbar, Tension unit, policers (Tables 9-6, 9-7). -/
def State.roFabric (s : State) (code row : Nat) : Nat :=
  match code with
  | 0x600001 => bitsOf 4 (fun p => s.planes.contains p)
  | 0x600304 => ((List.range 4).map (fun sub => s.depthOf (row / 8) sub (row % 8))).sum / 1024
  | 0x610202 => b2n (((s.port (s.qp row).port).shaper (shKey 0 row)).isSome)
  | _ => s.cntAt code row

/-- Indexes 0x7000 to 0x7200: endpoint, rings, Shuttle (Tables 12-11, 13-12). -/
def State.roEp (s : State) (code row : Nat) : Nat :=
  let f := s.fn row
  match code with
  | 0x700007 => b2n s.frozen
  | 0x70000E => if s.ep.vfEnable then s.ep.numVfs else 0
  | 0x700105 => b2n f.bme
  | 0x700106 => if f.msix then 1 else if row = 0 ∧ f.intxDis = false then 2 else 0
  | 0x700201 => (s.win row).act.key
  | 0x700202 => (s.win row).gen
  | 0x710001 => (s.ring row).st.code
  | 0x710002 => (s.ringFn row).getD 0xFF
  | 0x710004 => s.inflight row
  | 0x710007 => (s.ring row).errIdx
  | 0x710102 => s.allInflight
  | 0x720001 => (s.chan row).st.code
  | 0x720002 => (s.chanFn row).getD 0xFF
  | _ => s.cntAt code row

/-- Indexes 0x7800 to 0x7806: the skein (Tables 14-8 to 14-10). -/
def State.roSkein (s : State) (code row : Nat) : Nat :=
  let sh := Tbl.get {} s.sk.dir.shelves row
  match code with
  | 0x780001 => s.sk.role
  | 0x780002 => s.skn.row.getD 0xFF
  | 0x780003 => s.sk.term
  | 0x780004 => s.sk.dir.version
  | 0x78000D => fingerprint (s.rw Obj.sknKey 0)
  | 0x78000E => bitsOf 32 (fun r => s.view.contains r)
  | 0x780107 => match (s.skRow row).heard with | some t => min 0xFFFFFFFF ((s.clk.ns - t) / 1000000) | none => 0xFFFFFFFF
  | 0x780108 => (Tbl.get {} s.sk.dir.rows row).role
  | 0x780202 => s.sk.twin.st
  | 0x780302 => if s.nsThere row then (s.nsp row).owner else 0xFF
  | 0x780303 => (s.nsp row).ogen
  | 0x780502 => s.sk.tko.st
  | 0x780601 => sh.state
  | 0x780602 => sh.array
  | 0x780603 => sh.free
  | 0x780604 => sh.count
  | _ => s.cntAt code row

/-- What an RO object reads as. -/
def State.readRO (s : State) (code row : Nat) : Nat :=
  let idx := code / 256
  if idx = 0x1000 then s.roId code row
  else if idx ≤ 0x1130 then s.roDict code row
  else if idx ≤ 0x1403 then s.roBoot code row
  else if idx ≤ 0x2002 then s.roClock code row
  else if idx = 0x2010 then s.roPd code row
  else if idx ≤ 0x2105 then s.roPolicy code row
  else if idx ≤ 0x220E then s.roDet code row
  else if idx ≤ 0x2301 then s.roEvt code row
  else if idx = 0x3000 then s.roBay code row
  else if idx ≤ 0x3201 then s.roDrive code row
  else if idx = 0x4000 then s.roGeo code row
  else if idx ≤ 0x4102 then s.roPlace code row
  else if idx ≤ 0x4400 then s.roHoop code row
  else if idx ≤ 0x4602 then s.roDarn code row
  else if idx ≤ 0x5105 then s.roNet code row
  else if idx ≤ 0x5300 then s.roEye code row
  else if idx ≤ 0x6200 then s.roFabric code row
  else if idx ≤ 0x6810 then s.roFence code row
  else if idx ≤ 0x7200 then s.roEp code row
  else s.roSkein code row

/-- Rows that come and go: pattern and spare table rows of a geometry from ACTIVE (Table 3-11), rows of the lost-block log
(R190); `det.count` has a row for each present instance (R518). -/
def State.rowHere (s : State) (code row : Nat) : Bool :=
  match code with
  | 0x401001 => (s.geo (row / 65536)).st = 2 && ((s.geo (row / 65536)).patAt (row % 65536)).isSome
  | 0x401002 => (s.geo (row / 65536)).st = 2 && ((s.geo (row / 65536)).spareRow (row % 65536)).isSome
  | 0x460205 => (Tbl.get none s.darn.log row).isSome
  | 0x460206 => (Tbl.get none s.darn.log row).isSome
  | _ =>
    if 0x2200 ≤ code / 256 ∧ code / 256 ≤ 0x220E then
      let det := (code / 256 - 0x2200) * 256 + code % 256
      s.detHere det (injScope det row).1 (injScope det row).2
    else true

end Sys2Proof.Machine
end

