-- ==== Sys2Proof/Machine/Sessions.lean ====
section
/-!
DEFINITION. Machine/Sessions.lean: opening and closing sessions, subscriptions and notifications, coalescing
windows, the mailbox flags (R55 to R60, R63, R64, R69, R522).
-/

namespace Sys2Proof.Machine

/-- The 32 bytes of a key row; none while it is empty. -/
def State.keyOf (s : State) (slot : Nat) : Option Bytes :=
  if s.rw Obj.keyValue slot = 0 then none else some (decStr (s.rw Obj.keyValue slot))

/-- Whether every `key.level` is 0 (R60). -/
def State.provisioning (s : State) : Bool := (List.range 8).all (fun r => s.rw Obj.keyLevel r = 0)

/-- The key and level a HELLO may use (R55, R60). -/
def State.helloKey (s : State) (h : Hdr) (slot : Nat) : Option (Bytes × Nat) :=
  if slot = 0xFF then
    if s.provisioning ∧ h.carrier = .mailbox then some (zeros 32, 3) else none
  else if slot < 8 ∧ s.rw Obj.keyLevel slot ≠ 0 then
    (s.keyOf slot).map (fun k => (k, s.rw Obj.keyLevel slot))
  else none

/-- Whether a session identifier is in use. -/
def State.idTaken (s : State) (id : Nat) : Bool :=
  s.rendi.half.any (fun x => x.id = id) || (s.findSession id).isSome

/-- A fresh session identifier in 1-0xFFFE: from a free value upward, the first not in use (R55). -/
def State.newId (s : State) : Nat :=
  ((List.range 64).map (fun i => (s.fresh + i) % 0xFFFE + 1)).find? (fun id => !s.idTaken id) |>.getD 1

/-- The session key (R55). -/
def sessionKey (k cnonce dnonce : Bytes) (id : Nat) : Bytes :=
  hmac k (ascii "RENDI1" ++ cnonce ++ dnonce ++ leBytes 2 id)

/-- HELLO: half-open session and device nonce (R55). The nonce is the next free value. -/
def State.helloOp (s : State) (h : Hdr) (slot level : Nat) (nonce : Bytes) : State :=
  match s.admitHead h 0x01 20 with
  | some a => s.turnAway h 0x01 a
  | none =>
    if h.session ≠ 0 ∨ h.seq ≠ 0 ∨ h.auth ≠ zeros 16 ∨ nonce.length ≠ 16 ∨ level = 0 ∨ 3 < level then
      s.turnAway h 0x01 (.bare 0x0E 0)
    else
      match s.helloKey h slot with
      | none => s.respondBare h 0x01 0x0A 0 []
      | some (k, _) =>
        if 32 ≤ s.rendi.half.length then s.respondBare h 0x01 0x0D 0 []
        else
          let id := s.newId
          let s1 := s.used
          let dn := leBytes 16 s1.fresh
          let half : HalfOpen := ⟨id, level, slot, h.carrier, sessionKey k nonce dn id⟩
          let s2 := { s1.used with rendi := { s.rendi with half := s.rendi.half ++ [half] } }
          s2.respondBare h 0x01 0 0 (dn ++ leBytes 2 id ++ [0, 0])

/-- The lowest free session row. -/
def State.freeSession (s : State) : Option Nat :=
  (List.range 16).find? (fun r => Tbl.get none s.rendi.sessions r = none)

/-- The level an OPEN is granted: the lower of the requested level and `key.level`, SERVICE when provisioning. -/
def State.grant (s : State) (x : HalfOpen) : Nat :=
  if x.slot = 0xFF then 3 else min x.level (s.rw Obj.keyLevel x.slot)

/-- OPEN (R55). -/
def State.openOp (s : State) (h : Hdr) : State :=
  match s.admitHead h 0x02 0 with
  | some a => s.turnAway h 0x02 a
  | none =>
    match s.rendi.half.find? (fun x => x.id = h.session) with
    | none => s.respondBare h 0x02 0x0C 0 []
    | some x =>
      let m := authed x.ks (hdrBytes 0 0x02 0 0 h.session 0 0 h.seq h.rtag (b2n h.pend)) []
      if (m.drop 16).take 16 ≠ h.auth ∨ s.grant x = 0 then s.respondBare h 0x02 0x0A 0 []
      else
        let y : Session := ⟨x.id, s.grant x, h.carrier, x.slot, x.ks, h.dport, h.src, 1, [1], [], 1, s.clk.ns⟩
        if h.seq ≠ 1 then s.turnAway h 0x02 (.replay 0 y)
        else
          match s.freeSession with
          | none => s.respondAs h y 0 ⟨h.seq, 0x02, 0x0D, 0, h.rtag, []⟩
          | some row =>
            let half := s.rendi.half.filter (fun z => z.id ≠ x.id)
            let s1 := { s with rendi := { s.rendi with half := half } }
            let s2 := (s1.putSession row (some y)).addCnt 64 Obj.rendiRxOk 0 1
            let s3 := if x.slot < 8 then s2.addCnt 32 Obj.keyUses x.slot 1 else s2
            s3.finish h 0x02 y { body := [y.level, 0, 0, 0] }

/-- The `sess.close` action (R58): argument 1 closes the session of the row. -/
def State.sessCloseOp (s : State) (row : Nat) : State :=
  match Tbl.get none s.rendi.sessions row with
  | some _ => (s.actDone Obj.sessClose row).closeSession row
  | none => s.actDone Obj.sessClose row

/-- Records of the ring in sequence order. -/
def State.ringRecords (s : State) : List Rec :=
  let age := fun (r : Rec) => (s.ev.next + 4294967296 - r.seq) % 4294967296
  sortBy (fun a b => age b ≤ age a) (s.ev.ring.map (fun e => e.2))

/-- Offers the ring's records to one subscription, sending whenever 43 are ready (R63, R64). -/
def State.replayRing (s : State) (id : Nat) : State :=
  s.ringRecords.foldl (fun t r =>
    let subs := updWhere (fun (b : Subn) => b.id = id) (fun b => b.take r) t.rendi.subs
    ({ t with rendi := { t.rendi with subs := subs } }).sendFull) s

/-- The lowest identifier no subscription has. -/
def State.newSub (s : State) : Nat :=
  ((List.range 65).find? (fun i => !(s.rendi.subs.any (fun b => b.id = i + 1)))).getD 0 + 1

/-- SUBSCRIBE (R63): at most 4 a session and 64 in all. -/
def State.subscribeOp (s : State) (x : Session) (groups scopes start : Nat) : State × Reply :=
  if x.kslot = 0xFF then (s, { status := 0x05 })
  else if 1 < start then (s, { status := 0x0E })
  else if 4 ≤ (s.rendi.subs.filter (fun b => b.session = x.id)).length ∨ 64 ≤ s.rendi.subs.length then
    (s, { status := 0x0D })
  else
    let id := s.newSub
    let b : Subn := ⟨id, x.id, groups, scopes, [], 0⟩
    let t := { s with rendi := { s.rendi with subs := s.rendi.subs ++ [b] } }
    (if start = 1 then t.replayRing id else t, { body := leBytes 2 id ++ [0, 0] })

/-- UNSUBSCRIBE (R63): removes a subscription of the session; an identifier that names none changes nothing. -/
def State.unsubscribeOp (s : State) (x : Session) (sub : Nat) : State × Reply :=
  if x.kslot = 0xFF then (s, { status := 0x05 })
  else
    let subs := s.rendi.subs.filter (fun b => ¬ (b.id = sub ∧ b.session = x.id))
    ({ s with rendi := { s.rendi with subs := subs } }, { body := leBytes 2 sub ++ [0, 0] })

/-- The end of a coalescing window (R522): one record with ACT 7 reports the suppressed repeats, and its own window
follows it; a window without repeats just ends. -/
def State.coalesceEnd (s : State) (det stype scope : Nat) : State :=
  let here := fun (c : Coal) => c.det = det ∧ c.stype = stype ∧ c.scope = scope
  match s.ev.coal.find? (fun c => here c) with
  | none => s
  | some c =>
    if c.supp = 0 then { s with ev := { s.ev with coal := s.ev.coal.filter (fun d => ¬ here d) } }
    else
      let coal := updWhere (fun d => here d) (fun d => { d with supp := 0 }) s.ev.coal
      ({ s with ev := { s.ev with coal := coal } }).record
        { time := c.time, det := det, stype := stype, act := 7, inj := c.inj, scope := scope
          rep := min c.supp 65535, detail := c.detail }

/-- Clearing `RSP_VALID` frees the response buffer; a response that waited is written (R69). -/
def State.rspClear (s : State) : State :=
  match s.mbx.waiting with
  | [] => { s with mbx := { s.mbx with rspValid := false } }
  | m :: r =>
    { s with mbx := { s.mbx with rsp := m, rspLen := m.length, rspValid := true, waiting := r }
             todo := s.todo ++ [.irq 0 0] }

/-- The subscriptions whose session came over the mailbox. -/
def State.mbxSubs (s : State) : List Nat :=
  (s.rendi.subs.filter (fun b => match s.findSession b.session with
    | some (_, x) => x.carrier = .mailbox && decide (b.unsent ≠ [])
    | none => false)).map (fun b => b.id)

/-- Clearing `NTF_VALID` frees the notification buffer; the next notification that waits is delivered (R69). -/
def State.ntfClear (s : State) : State :=
  let t := { s with mbx := { s.mbx with ntfValid := false } }
  match t.mbxSubs with
  | [] => t
  | b :: _ => t.sendNtf b

end Sys2Proof.Machine
end

