-- ==== Sys2Proof/Machine/Items.lean ====
section
/-!
DEFINITION. Machine/Items.lean: what READ, WRITE and ACTION do with one item (R31 to R37, R48, R51 to R53): reading any object,
the effect of a written value, the action behind every ACT object.
-/

namespace Sys2Proof.Machine

/-! ### Indexes -/

/-- The index that holds the objects of an index: copy 0 of a numbered one. -/
def indexBase (idx : Nat) : Nat :=
  if 0x3000 ≤ idx ∧ idx ≤ 0x302F then 0x3000
  else if 0x3100 ≤ idx ∧ idx ≤ 0x312F then 0x3100
  else if 0x5000 ≤ idx ∧ idx ≤ 0x5007 then 0x5000
  else if 0x4010 ≤ idx ∧ idx ≤ 0x4017 then 0x4010
  else idx

/-- Whether an index has objects on this part (R3, R31). -/
def State.indexHere (s : State) (idx : Nat) : Bool :=
  if indexBase idx = 0x5000 then idx - 0x5000 < s.ports
  else if indexBase idx = 0x3000 ∨ indexBase idx = 0x3100 then idx - indexBase idx < s.bays
  else (objsOf (indexBase idx)).isSome || (0x2200 ≤ idx && idx ≤ 0x220E) || (0x2210 ≤ idx && idx ≤ 0x221E)

/-- The highest subindex of an index (R32). -/
def topSub (idx : Nat) : Nat :=
  match objsOf (indexBase idx) with
  | some (_, ds) => (ds.map (fun d => d.sub)).foldl max 0
  | none => ((List.range 16).filter (fun i => detExists (idx % 16 * 256 + i))).foldl max 0

/-- Rows a table index can have; none where it is no table (R33). A row of `det.count` and of an injection point can be any of
16 scope types × 65,536 identifiers. -/
def tableRows (idx : Nat) : Option Nat :=
  match objsOf (indexBase idx) with
  | some (n, ds) => if ds.any (fun d => d.row) then some n else none
  | none => if 0x2200 ≤ idx ∧ idx ≤ 0x221E then some 1048576 else none

/-- Whether a row of a table index is present: some object of it is. -/
def State.tableRow (s : State) (idx row : Nat) : Bool :=
  match objsOf (indexBase idx) with
  | some (_, ds) => ds.any (fun d =>
      let key := if indexBase idx = 0x4010 then (idx - 0x4010) * 65536 + row else row
      let code := indexBase idx * 256 + d.sub
      s.present code key && s.rowHere code key)
  | none => (List.range 16).any (fun i => detExists (idx % 16 * 256 + i) && s.rowHere ((0x2200 + idx % 16) * 256 + i) row)

/-- The TABLE descriptor (Table 2-1): rows at most, rows present, lowest present row. -/
def State.tableDesc (s : State) (idx n : Nat) : Nat :=
  let here := (List.range n).filter (s.tableRow idx)
  n + here.length * 2 ^ 32 + (match here with | r :: _ => r | [] => 0xFFFFFFFF) * 2 ^ 64

/-- READ of subindex 0 (R32, R33). -/
def State.readSub0 (s : State) (i : Item) : ItemRes :=
  if s.indexHere i.idx = false then { stat := 0x03 }
  else if bit i.flags 0 = false then { value := [topSub i.idx] }
  else
    match tableRows i.idx with
    | some n => if i.row = 0xFFFFFFFF then { value := leBytes 12 (s.tableDesc i.idx n) } else { stat := 0x03 }
    | none => { stat := 0x03 }

/-- Any other operation on subindex 0: it is RO, and so is the descriptor (R32, R33). -/
def State.otherSub0 (s : State) (i : Item) : Nat :=
  if s.indexHere i.idx = false then 0x03
  else if bit i.flags 0 = false then 0x05
  else if (tableRows i.idx).isSome ∧ i.row = 0xFFFFFFFF then 0x05 else 0x03

/-! ### READ -/

/-- READ of an object: its value, and whether that is a pending one (R36, R41). -/
def State.readObj (s : State) (pend : Bool) (code row : Nat) : ItemRes :=
  if 0x2200 ≤ code / 256 ∧ code / 256 ≤ 0x220E then { value := leBytes 4 (s.roDet code row) }
  else
    match (if 0x2210 ≤ code / 256 ∧ code / 256 ≤ 0x221E then Acc.act else accOf code), findDesc code with
    | .act, _ => { value := leBytes 4 (s.actAt code row) }
    | _, none => { stat := 0x03 }
    | .wo, _ => { stat := 0x05 }
    | .ro, some d => { value := encValue d.ty (s.readRO code row) }
    | _, some d =>
      match (if pend then s.pendAt code row else none) with
      | some v => { value := encValue d.ty v, pend := true }
      | none => { value := encValue d.ty (if code = Obj.pdRequest then s.pdRequested row else s.rw code row) }

/-- READ of one item for a session. -/
def State.readItem (s : State) (pend : Bool) (x : Session) (i : Item) : ItemRes :=
  if itemBad 0x08 i then { stat := 0x0E }
  else if provOk x 0x08 i.idx = false then { stat := 0x05 }
  else if i.sub = 0 then s.readSub0 i
  else
    match resolve i.idx i.sub i.flags i.row with
    | none => { stat := 0x03 }
    | some (code, row) =>
      if s.present code row = false ∨ s.rowHere code row = false then { stat := 0x03 } else s.readObj pend code row

/-- The response items of a READ: those that do not fit the carrier's body limit are NOT_DONE (R53). `left` is the room left
once every later item has its 12 bytes. -/
def fitItems : Nat → List (Item × ItemRes) → List Item
  | _, [] => []
  | left, (i, r) :: t =>
    let n := r.value.length + (4 - r.value.length % 4) % 4
    if n ≤ left then answer i r :: fitItems (left - n) t else answer i { stat := 0x11 } :: fitItems left t

/-! ### WRITE -/

/-- A value written to an RW object takes effect: a restored pending value is cancelled (R48), and a commit that runs does not
bring it back (R44). -/
def State.putRw (s : State) (code row v : Nat) : State :=
  let t := (s.setRw code row v).dropPend code row
  { t with dict := { t.dict with run := t.dict.run.map (fun r => { r with kept := okey code row :: r.kept }) } }

/-- A value written to an RWC object is held as pending (R41, R44). -/
def State.putPend (s : State) (code row v : Nat) : State :=
  let t := s.setPend code row v
  { t with dict := { t.dict with run := t.dict.run.map (fun r => { r with kept := okey code row :: r.kept }) } }

/-- XOR of two byte strings. -/
def xorBytes (a b : Bytes) : Bytes := List.zipWith (fun x y => x ^^^ y) a b

/-- A wrapped key (R59): the 32-byte key, or empty; none when the characters are not that. -/
def unwrapKey (x : Session) (row v : Nat) : Option Nat :=
  if v = 0 then some 0
  else
    match hexBytes (decStr v) with
    | some b => if b.length = 32 then some (encStr (xorBytes b (hmac x.ks (ascii "WRAP" ++ leBytes 4 row)))) else none
    | none => none

/-- `key.value` (R58, R59): stored, sessions of the slot close. -/
def State.keySet (s : State) (x : Session) (row v : Nat) : State × Nat :=
  match unwrapKey x row v with
  | none => (s, 0x04)
  | some k => ((s.putRw Obj.keyValue row k).closeSessions (fun y => y.kslot = row), 0)

/-- `key.level` (R58). -/
def State.keyLevelSet (s : State) (row v : Nat) : State × Nat :=
  ((s.putRw Obj.keyLevel row v).closeSessions (fun y => y.kslot = row), 0)

/-- `skn.key` (Table 14-8). -/
def State.sknKeySet (s : State) (x : Session) (v : Nat) : State × Nat :=
  match unwrapKey x 0 v with
  | none => (s, 0x04)
  | some k => (s.putRw Obj.sknKey 0 k, 0)

/-- `qp.pin` (R236): at most 1,024 pinned rows. -/
def State.pinSet (s : State) (row v : Nat) : State × Nat :=
  if v = 1 ∧ s.rw Obj.qpPin row = 0 ∧ 1024 ≤ s.pins then (s, 0x07) else (s.putRw Obj.qpPin row v, 0)

/-- `bay.enable` (R384). -/
def State.bayEnableSet (s : State) (n v : Nat) : State × Nat :=
  (((s.putRw Obj.bayEnable n v).enableBay n v).grants, 0)

/-- `bay.limit12`, `bay.limit33` and `bay.fast_mult` (subindexes 6, 7, 8; R369, R396). -/
def State.bayLimitSet (s : State) (n sub v : Nat) : State × Nat :=
  if s.limitOk n sub v then (s.putRw (0x300000 + sub) n v, 0) else (s, 0x07)

/-- `pol.mode` and `pol.aware` (R345): the buckets are refilled. -/
def State.polSet (s : State) (code row v : Nat) : State × Nat := ((s.putRw code row v).polRefill row, 0)

/-- Geometry parameters: CONDITION unless the geometry is FREE (Table 3-10). -/
def State.geoSet (s : State) (code g v : Nat) : State × Nat :=
  if (s.geo g).st = 0 then (s.putRw code g v, 0) else (s, 0x07)

/-- `place.spare_lanes`: CONDITION while any geometry is not FREE (Table 3-10). -/
def State.lanesSet (s : State) (v : Nat) : State × Nat :=
  if s.place.geos.all (fun e => e.2.st = 0) then (s.putRw Obj.placeSpareLanes 0 v, 0) else (s, 0x07)

/-- Registration fields of an eyelet: CONDITION unless the row is FREE or DEAD (Table 7-9). -/
def State.eyeSet (s : State) (code e v : Nat) : State × Nat :=
  if (s.eye e).st = 0 ∨ (s.eye e).st = 3 then (s.putRw code e v, 0) else (s, 0x07)

/-- Shadow fields of an eyelet: a write sets `SVALID` (R272). -/
def State.eyeShadow (s : State) (code e v : Nat) : State × Nat :=
  ((s.putRw code e v).updEye e (fun x => { x with svalid := true }), 0)

/-- `time.source` (R15): in free-run the timebase is not locked. -/
def State.timeSource (s : State) (v : Nat) : State × Nat :=
  let t := s.putRw Obj.timeSource 0 v
  (if v = 0 then { t with clk := { t.clk with locked := false } } else t, 0)

/-- A value written to an RW or WO object (`fwu.data` apart): the rule of its chapter. -/
def State.writeRule (s : State) (x : Session) (code row v : Nat) : State × Nat :=
  match code with
  | 0x111001 => s.keySet x row v
  | 0x111003 => s.keyLevelSet row v
  | 0x78000C => s.sknKeySet x v
  | 0x200102 => s.timeSource v
  | 0x201002 => let r := s.pdWrite row v; (r.1.dropPend code row, r.2)
  | 0x400002 => s.geoSet code row v
  | 0x400003 => s.geoSet code row v
  | 0x400004 => s.geoSet code row v
  | 0x400101 => s.lanesSet v
  | 0x520002 => s.eyeSet code row v
  | 0x520003 => s.eyeSet code row v
  | 0x520004 => s.eyeSet code row v
  | 0x520005 => s.eyeSet code row v
  | 0x520006 => s.eyeSet code row v
  | 0x520007 => s.eyeSet code row v
  | 0x520008 => s.eyeSet code row v
  | 0x52000B => s.eyeShadow code row v
  | 0x52000C => s.eyeShadow code row v
  | 0x52000D => s.eyeShadow code row v
  | 0x52000E => s.eyeShadow code row v
  | 0x510506 => s.pinSet row v
  | 0x620001 => s.polSet code row v
  | 0x620002 => s.polSet code row v
  | 0x300004 => s.bayEnableSet row v
  | 0x300006 => s.bayLimitSet row 6 v
  | 0x300007 => s.bayLimitSet row 7 v
  | 0x300008 => s.bayLimitSet row 8 v
  | 0x300026 => ((s.putRw code row v).grants, 0)
  | 0x210201 => ((s.putRw code row v).grants, 0)
  | 0x210202 => ((s.putRw code row v).grants, 0)
  | _ => (s.putRw code row v, 0)

/-- A value written to an RWC object: immediate refusals of its chapter (R350, R369), else pending (R41). -/
def State.pendRule (s : State) (code row v : Nat) : State × Nat :=
  if code = Obj.dlinkBond ∧ row % 2 = 1 then (s, 0x04)
  else if code = Obj.bayShunt12 ∧ shuntOk v (s.rw Obj.bayLimit12 row) (s.rw Obj.bayFastMult row) = false then (s, 0x07)
  else if code = Obj.bayShunt33 ∧ shuntOk v (s.rw Obj.bayLimit33 row) (s.rw Obj.bayFastMult row) = false then (s, 0x07)
  else (s.putPend code row v, 0)

/-- The value of a WRITE item acts; none where it must wait for the erase of a firmware slot (R503). -/
def State.writeValue (s : State) (x : Session) (code row v : Nat) : Option (State × Nat) :=
  if code = Obj.fwuData then (if s.cntAt Obj.fwuState 0 = 1 then none else some (s.fwuStore v))
  else if accOf code = .rwc then some (s.pendRule code row v)
  else some (s.writeRule x code row v)

/-- The checks of a WRITE item: 0, or the status that refuses it; with the object, row and value. -/
def State.writeTarget (s : State) (x : Session) (i : Item) : Nat × Nat × Nat × Nat :=
  if itemBad 0x09 i then (0x0E, 0, 0, 0)
  else if provOk x 0x09 i.idx = false then (0x05, 0, 0, 0)
  else if i.sub = 0 then (s.otherSub0 i, 0, 0, 0)
  else
    match resolve i.idx i.sub i.flags i.row with
    | none => (0x03, 0, 0, 0)
    | some (code, row) =>
      if s.rowHere code row = false then (0x03, 0, 0, 0)
      else let c := s.writeCheck x code row i.value; (c.1, code, row, c.2)

/-- WRITE of the items of a body in order (R53): it stops at the first that fails, and later ones are NOT_DONE. `done` are the
answers so far. The second result is the items left while a firmware write waits. -/
def State.writeItems (x : Session) : List Item → State → List Item → State × List Item × List Item
  | [], s, done => (s, done, [])
  | i :: r, s, done =>
    let c := s.writeTarget x i
    if c.1 ≠ 0 then (s, done ++ answer i { stat := c.1 } :: r.map (fun j => answer j { stat := 0x11 }), [])
    else
      match s.writeValue x c.2.1 c.2.2.1 c.2.2.2 with
      | none => (s, done, i :: r)
      | some (t, 0) => State.writeItems x r t (done ++ [answer i {}])
      | some (t, st) => (t, done ++ answer i { stat := st } :: r.map (fun j => answer j { stat := 0x11 }), [])

/-- Firmware writes that waited go on once the erase is over (R503), oldest first. -/
def State.fwResume : List FwWait → State → State
  | [], s => s
  | w :: r, s =>
    match State.writeItems w.session w.rest s w.done with
    | (t, done, []) => State.fwResume r (t.finish w.hdr 0x09 w.session (itemsReply done))
    | (t, done, rest) =>
      State.fwResume r { t with boot := { t.boot with fwWait := t.boot.fwWait ++ [{ w with done := done, rest := rest }] } }

/-- FWU_ERASE_DONE (R495, R503). -/
def State.eraseDone (s : State) : State :=
  let t := s.fwuErased
  State.fwResume t.boot.fwWait { t with boot := { t.boot with fwWait := [] } }

end Sys2Proof.Machine
end

