-- ==== Sys2Proof/Machine/Acts.lean ====
section
/-!
DEFINITION. Machine/Acts.lean: the action behind every ACT object, by argument (R7: an argument the object does not list is
OUT_OF_RANGE), and ACTION of the items of a body (R53). What an action finds out about the outside (a self-test, a hash) is a
free value where the request does not carry it.
-/

namespace Sys2Proof.Machine

/-- An action that takes one argument: another is OUT_OF_RANGE (R7). -/
def onlyArg (want arg : Nat) (s t : State) : State × Nat := if arg = want then (t, 0) else (s, 0x04)

/-- An action whose effect needs an outcome from outside: a free value. -/
def State.drawn (s : State) (f : Nat → State → State) : State := f s.fresh s.used

/-- `geo.activate` (R84). -/
def State.actGeo (s : State) (g arg : Nat) : State × Nat :=
  if arg = 1 then s.geoActivateOp g else if arg = 2 then s.geoRetireOp g else (s, 0x04)

/-- `bolt.migrate` (R111): argument [2:0]. -/
def State.actMigrate (s : State) (e arg : Nat) : State × Nat := if arg < 8 then s.boltMigrateOp e arg else (s, 0x04)

/-- `bast.journal_move` (R145): argument [5:0]. -/
def State.actJournalMove (s : State) (arg : Nat) : State × Nat := if arg < 48 then (s.journalMove arg, 0) else (s, 0x04)

/-- `qp.close` (Table 6-3): detail 1 not ACTIVE. -/
def State.qpCloseOp (s : State) (q : Nat) : State :=
  if (s.qp q).st = .active then (s.drainQp q).actDone Obj.qpClose q else s.actFail Obj.qpClose q 1

/-- `mem.assign` (Table 10-3): argument [5:0] position, [8] force. -/
def State.actAssign (s : State) (b arg : Nat) : State × Nat :=
  if arg % 64 < s.bays ∧ (arg / 64 = 0 ∨ arg / 64 = 4) then (s.assign b arg, 0) else (s, 0x04)

/-- `bay.cal12` and `bay.cal33` (R392): the known current in mA. -/
def State.actCal (s : State) (n arg : Nat) (r33 : Bool) : State × Nat := (s.calStart n r33 arg, 0)

/-- `skn.leave` (R456). -/
def State.actLeave (s : State) (arg : Nat) : State × Nat :=
  if arg = 1 then (s.leaveOp, 0) else if arg = 2 then (s.rejoinOp, 0) else (s, 0x04)

/-- `boot.reset` (R489). -/
def State.actReset (s : State) (arg : Nat) : State × Nat :=
  if arg = 1 then (s.bootReset true, 0) else if arg = 2 then (s.bootReset false, 0) else (s, 0x04)

/-- `boot.depart` (R499). -/
def State.actDepart (s : State) (arg : Nat) : State × Nat := if 1 ≤ arg ∧ arg ≤ 3 then (s.departOp arg, 0) else (s, 0x04)

/-- `msq.switch_test` (R311). -/
def State.actSwitchTest (s : State) (arg : Nat) : State × Nat :=
  if arg = 1 ∨ arg = 2 then (s.switchTestOp arg, 0) else (s, 0x04)

/-- An injection point (R527): argument 1 to 255. -/
def State.actInject (s : State) (det row n : Nat) : State × Nat :=
  if 1 ≤ n ∧ n ≤ 255 then (s.injectOp det row n, 0) else (s, 0x04)

/-- `fen.release` of a row (R295, R297); a failed release of the endpoint's fence sets `REL_FAIL` and `EVT` (R420). -/
def State.releaseRow (s : State) (row : Nat) (clear : Bool) : State :=
  let f := Tbl.get {} s.fen.rows row
  let t := s.releaseOp row clear
  let d := t.actAt Obj.fenRelease row
  if f.scope = 1 ∧ f.id = 9 ∧ f.st ≠ .unused ∧ d % 256 = 3 then ({ t with ep := { t.ep with relFail := d / 256 } } : State).epEvt 0
  else t

/-- `EP_CONT_CTRL.RELEASE` (R420): releases the fence row of port 9; without one, detail 1 (Table 8-3: not FENCED). -/
def State.contRelease (s : State) (clear : Bool) : State :=
  match s.fenRowOf 1 9 with
  | some row => s.releaseRow row clear
  | none => ({ s with ep := { s.ep with relFail := 1 } } : State).epEvt 0

/-- `ep.release` (R420). -/
def State.epReleaseOp (s : State) (clear : Bool) : State :=
  let t := s.contRelease clear
  match s.fenRowOf 1 9 with
  | some row =>
    let d := t.actAt Obj.fenRelease row
    if d % 256 = 3 then t.actFail Obj.epRelease 0 (d / 256) else t.actDone Obj.epRelease 0
  | none => t.actFail Obj.epRelease 0 1

/-! ### Restores -/

/-- The image of the inactive slot. -/
def State.oldImage (s : State) : Image := if s.dict.active = 0 then s.dict.slotB else s.dict.slotA

/-- Whether an object's value is kept in dictionary images (R38, R115, R477). -/
def persistObj (code : Nat) : Bool := match findDesc code with | some d => d.persist | none => false

/-- Committed values of the objects that wait for a cold reset (R45). -/
def State.lateVals (s : State) : Tbl (Option Nat) :=
  (match s.imageToLoad with | some i => i.vals | none => s.dict.eff).filter (fun e => lateObj (e.1 / 4294967296))

/-- The value an object is committed at, where that is not the one in force (R45). -/
def State.committed (s : State) (code row : Nat) : Nat :=
  if lateObj code then (Tbl.get none s.lateVals (okey code row)).getD (dfltOf code row) else s.rw code row

/-- A restore (R48): every pending value is dropped; each P object that `p` takes and whose value would change gets its restored
value as pending. -/
def State.restore (s : State) (p : Nat → Bool) (vals : Tbl (Option Nat)) : State :=
  let keys := ((s.dict.eff.map (fun e => e.1)) ++ s.lateVals.map (fun e => e.1) ++ vals.map (fun e => e.1)).eraseDups.filter (fun k =>
    p (k / 4294967296) && persistObj (k / 4294967296))
  keys.foldl (fun t k =>
    let v := (Tbl.get none vals k).getD (dfltOf (k / 4294967296) (k % 4294967296))
    if v = s.rw (k / 4294967296) (k % 4294967296) ∧ v = s.committed (k / 4294967296) (k % 4294967296) then t else t.putPend (k / 4294967296) (k % 4294967296) v)
    { s with dict := { s.dict with pend := [] } }

/-- `dict.restore` = 1: all pending values are discarded. -/
def State.restoreDiscard (s : State) : State := ({ s with dict := { s.dict with pend := [] } }).actDone Obj.dictRestore 0

/-- `dict.restore` = 2: factory defaults, but for keys and 0x1400-0x14FF. -/
def State.restoreFactory (s : State) : State :=
  (s.restore (fun c => c / 256 ≠ 0x1110 && !(0x1400 ≤ c / 256 && c / 256 ≤ 0x14FF)) []).actDone Obj.dictRestore 0

/-- `dict.restore` = 3: the inactive slot's image, but for keys; detail 1 if it is not valid or of another schema major. -/
def State.restoreSlot (s : State) : State :=
  if s.oldImage.valid ∧ s.oldImage.schema / 65536 = (s.fwSlot s.boot.running).schema / 65536 then
    (s.restore (fun c => c / 256 ≠ 0x1110) s.oldImage.vals).actDone Obj.dictRestore 0
  else s.actFail Obj.dictRestore 0 1

/-- `dict.restore_all`: factory defaults of every P object. -/
def State.restoreAll (s : State) : State := (s.restore (fun _ => true) []).actDone Obj.dictRestoreAll 0

/-- `dict.restore` (Table 2-4). -/
def State.actRestore (s : State) (arg : Nat) : State × Nat :=
  if arg = 1 then (s.restoreDiscard, 0)
  else if arg = 2 then (s.restoreFactory, 0)
  else if arg = 3 then (s.restoreSlot, 0)
  else (s, 0x04)

/-! ### Every action -/

/-- What an ACTION does, by object, row and argument. -/
def State.actRule (s : State) (code row arg : Nat) : State × Nat :=
  match code with
  | 0x110101 => s.actRestore arg
  | 0x110102 => onlyArg 1 arg s s.restoreAll
  | 0x112006 => onlyArg 1 arg s (s.sessCloseOp row)
  | 0x400006 => s.actGeo row arg
  | 0x410103 => s.actMigrate row arg
  | 0x43000A => s.actJournalMove arg
  | 0x44000A => onlyArg 1 arg s s.vaultTestOp
  | 0x460107 => onlyArg 1 arg s s.scrubStartOp
  | 0x510509 => onlyArg 1 arg s (s.qpCloseOp row)
  | 0x520009 => onlyArg 1 arg s (s.eyeRegister row)
  | 0x52000F => onlyArg 1 arg s (s.eyeCommitOp row)
  | 0x520010 => onlyArg 1 arg s (s.eyeRevokeOp State.disarm row)
  | 0x520108 => onlyArg 1 arg s (s.chainDisarmAct row)
  | 0x680007 => onlyArg 1 arg s (s.drawn (fun d t => t.msqRepairOp (d % 2 = 1)))
  | 0x680008 => onlyArg 1 arg s (s.drawn (fun d t => t.cmpTestOp (d % 2 = 1)))
  | 0x68000B => s.actSwitchTest arg
  | 0x680105 => onlyArg 1 arg s s.selEngageOp
  | 0x680208 => onlyArg 1 arg s (s.drawn (fun d t => t.releaseRow row (d % 2 = 1)))
  | 0x600104 => onlyArg 1 arg s (s.planeTestOp row)
  | 0x31000C => onlyArg 1 arg s (s.retrainOp row)
  | 0x320008 => s.actAssign row arg
  | 0x320009 => onlyArg 1 arg s (s.retire row)
  | 0x32000A => onlyArg 1 arg s (s.clearFailing row)
  | 0x300012 => onlyArg 1 arg s (s.bayClearOp row)
  | 0x300022 => s.actCal row arg false
  | 0x300023 => s.actCal row arg true
  | 0x70000A => onlyArg 1 arg s (s.drawn (fun d t => t.epReleaseOp (d % 2 = 1)))
  | 0x78000F => s.actLeave arg
  | 0x780304 => onlyArg 1 arg s (s.ownMoveOp row)
  | 0x780401 => onlyArg 1 arg s s.moveHomeOp
  | 0x120101 => s.actReset arg
  | 0x120102 => s.actDepart arg
  | 0x120104 => s.domainReset arg
  | 0x120202 => onlyArg 1 arg s s.fwuBegin
  | 0x120205 => onlyArg 1 arg s (s.drawn (fun d t => t.fwuVerify (bit d 0) (bit d 1) (bit d 2)))
  | 0x120206 => onlyArg 1 arg s s.fwuActivate
  | 0x120207 => onlyArg 1 arg s s.fwuConfirm
  | 0x12020A => onlyArg 1 arg s (s.drawn (fun d t => t.fwuRaise (d % 2 = 1)))
  | _ => if 0x2210 ≤ code / 256 ∧ code / 256 ≤ 0x221E then s.actInject ((code / 256 - 0x2210) * 256 + code % 256) row arg else (s, 0x05)

/-- The checks of an ACTION item: 0 or the status that refuses it, with the object and row. -/
def State.actionTarget (s : State) (x : Session) (i : Item) : Nat × Nat × Nat :=
  if itemBad 0x0B i then (0x0E, 0, 0)
  else if provOk x 0x0B i.idx = false then (0x05, 0, 0)
  else if i.sub = 0 then (s.otherSub0 i, 0, 0)
  else
    match resolve i.idx i.sub i.flags i.row with
    | none => (0x03, 0, 0)
    | some (code, row) => (s.actionCheck x code row i.value.length, code, row)

/-- ACTION of the items of a body in order (R53), stopping at the first that fails. -/
def State.actItems (x : Session) : List Item → State → List Item → State × List Item
  | [], s, done => (s, done)
  | i :: r, s, done =>
    let c := s.actionTarget x i
    let u := if c.1 = 0 then s.actRule c.2.1 c.2.2 (leNat i.value) else (s, c.1)
    if u.2 ≠ 0 then (u.1, done ++ answer i { stat := u.2 } :: r.map (fun j => answer j { stat := 0x11 }))
    else State.actItems x r u.1 (done ++ [answer i { value := leBytes 4 (u.1.actAt c.2.1 c.2.2) }])

end Sys2Proof.Machine
end

