-- ==== Sys2Proof/Machine/Commit.lean ====
section
/-!
DEFINITION. Machine/Commit.lean: COMMIT (R42 to R45, R47): the cross-object rules a commit must meet, the image it writes, the
switch point, and what the applied values do.
-/

namespace Sys2Proof.Machine

/-! ### Step 2: validation -/

/-- Object and row of a key. -/
def keyPair (k : Nat) : Nat × Nat := (k / 4294967296, k % 4294967296)

/-- The state with every pending value in force: what validation looks at. -/
def State.asCommitted (s : State) : State :=
  s.dict.pend.foldl (fun t e => match e.2 with
    | some v => t.setRw (keyPair e.1).1 (keyPair e.1).2 v
    | none => t) s

/-- Objects whose pending value differs from the effective one, with their rows. -/
def State.changed (s : State) : List (Nat × Nat) :=
  (s.dict.pend.filter (fun e => match e.2 with
    | some v => decide (v ≠ s.rw (keyPair e.1).1 (keyPair e.1).2)
    | none => false)).map (fun e => keyPair e.1)

/-- Rows at which one of the objects is in a list. -/
def rowsIn (l : List (Nat × Nat)) (codes : List Nat) : List Nat :=
  ((l.filter (fun e => codes.contains e.1)).map (fun e => e.2)).eraseDups

/-- The listed objects of a row. -/
def objsAt (l : List (Nat × Nat)) (codes : List Nat) (row : Nat) : List (Nat × Nat) :=
  l.filter (fun e => codes.contains e.1 && e.2 = row)

/-- R73: a management port stays enabled, or in-band carriage. -/
def vMport (t : State) : List (Nat × Nat) :=
  if t.rw Obj.mportMode 0 = 0 ∧ t.rw Obj.mportMode 1 = 0 ∧ t.rw Obj.rendiInbandEnable 0 = 0 then
    [(Obj.mportMode, 0), (Obj.mportMode, 1)]
  else []

/-- Objects of a namespace. -/
def nsObjs : List Nat := [Obj.nsBolts, Obj.nsGeometry, Obj.nsLbaSize, Obj.nsPiFormat, Obj.nsPiMode]

/-- Bolts a commit adds for a geometry. -/
def newBolts (s t : State) (rows : List Nat) (g : Nat) : Nat :=
  (rows.map (fun n => if t.rw Obj.nsGeometry n = g then t.rw Obj.nsBolts n - s.rw Obj.nsBolts n else 0)).sum

/-- R94 for one namespace; `rows` are the namespaces the commit changes. -/
def vNsRow (s t : State) (c : List (Nat × Nat)) (rows : List Nat) (n : Nat) : List (Nat × Nat) :=
  let was := s.rw Obj.nsBolts n
  let now := t.rw Obj.nsBolts n
  let g := t.rw Obj.nsGeometry n
  let attached := (t.effRows Obj.attHost).any (fun e => e.2 ≠ 0xFFFF && t.rw Obj.attNs e.1 = n)
  let live := s.net.eyes.any (fun e => e.2.st = 1 && e.2.kind = 0 && e.2.ns = n)
  let badBolts := (was < now && s.freeBolts g < newBolts s t rows g) || (now < was && now ≠ 0) || (now = 0 && was ≠ 0 && (attached || live))
  let badGeo := (s.geo g).st ≠ 2 && now ≠ 0
  let fixed := (objsAt c [Obj.nsLbaSize, Obj.nsPiFormat, Obj.nsPiMode] n).filter (fun _ => was ≠ 0)
  (if badBolts then [(Obj.nsBolts, n)] else [])
    ++ (if badGeo || ((objsAt c [Obj.nsGeometry] n) ≠ [] && (s.geo g).st ≠ 2) then [(Obj.nsGeometry, n)] else [])
    ++ fixed
    ++ (if t.rw Obj.nsPiMode n = 1 ∧ t.rw Obj.nsPiFormat n ≠ 1 ∧ t.rw Obj.nsPiFormat n ≠ 4 then [(Obj.nsPiMode, n)] else [])
    ++ (if t.rw Obj.nsPiFormat n ≠ 0 ∧ t.rw Obj.nsLbaSize n = 512 then [(Obj.nsPiFormat, n)] else [])
    ++ (if s.validMaps < 2 then objsAt c nsObjs n else [])

/-- R94. -/
def vNs (s t : State) (c : List (Nat × Nat)) : List (Nat × Nat) :=
  let rows := rowsIn c nsObjs
  rows.flatMap (vNsRow s t c rows)

/-- Namespaces with bolts. -/
def nsUsed (t : State) : List Nat := (t.effRows Obj.nsBolts).filterMap (fun e => if e.2 ≠ 0 then some e.1 else none)

/-- Sum of the hoop partitions in bytes. -/
def partSum (t : State) : Nat := ((nsUsed t).map t.partSize).sum

/-- Geometries a namespace uses. -/
def nsGeos (s t : State) (n : Nat) : List Geo :=
  let x := s.nsp n
  s.geo (t.rw Obj.nsGeometry n) :: (List.range x.bolts).map (fun i => s.geo (s.bolt (x.mapBase + i)).geo)

/-- R117 and R118: partition sizes; those of namespaces the commit creates count as changed. -/
def vPart (s t : State) (c : List (Nat × Nat)) : List (Nat × Nat) :=
  let mine := (rowsIn c [Obj.hpartSize, Obj.nsBolts, Obj.nsGeometry]).filter (fun n => t.rw Obj.nsBolts n ≠ 0)
  let small := mine.filter (fun n => t.partSize n < 64 * mib || (nsGeos s t n).any (fun g => t.partSize n < 16 * g.ku))
  let moved := mine.filter (fun n => (objsAt c [Obj.hpartSize] n) ≠ [] || s.rw Obj.nsBolts n = 0)
  ((small ++ (if s.ownSpace < partSum t then moved else [])).eraseDups).map (fun n => (Obj.hpartSize, n))

/-- R120: the dirty ceiling. `fits` is the partner's answer. -/
def vCeiling (s t : State) (c : List (Nat × Nat)) (fits : Bool) : List (Nat × Nat) :=
  if rowsIn c [Obj.hoopDirtyCeiling] = [] then []
  else if s.twinUp = false ∨ s.skn.present = false ∨ fits = false
      ∨ (t.rw Obj.vaultEnable 0 = 1 ∧ s.vaultCap < 1024 * mib + t.ceiling + s.sk.ceiling * mib) then [(Obj.hoopDirtyCeiling, 0)]
  else []

/-- R208: a port's mode and medium change only while no QP is bound to it. -/
def vEth (s : State) (c : List (Nat × Nat)) : List (Nat × Nat) :=
  c.filter (fun e => (e.1 = Obj.ethMode || e.1 = Obj.ethMedium) && s.net.qps.any (fun q => q.2.st ≠ .idle && q.2.port = e.2))

/-- A `gid` entry still used does not change (Table 6-8). -/
def vGid (s : State) (c : List (Nat × Nat)) : List (Nat × Nat) :=
  c.filter (fun e => e.1 / 256 = 0x5101 && s.net.qps.any (fun q => q.2.st ≠ .idle && q.2.gid = e.2))

/-- Attachment rows in use. -/
def attRows (t : State) : List Nat := (t.effRows Obj.attHost).filterMap (fun e => if e.2 ≠ 0xFFFF then some e.1 else none)

/-- Host rows enabled. -/
def hostRows (t : State) : List Nat := (t.effRows Obj.hostEnable).filterMap (fun e => if e.2 = 1 then some e.1 else none)

/-- R251. -/
def vAtt (t : State) : List (Nat × Nat) :=
  let rows := attRows t
  let hosts := hostRows t
  (rows.filter (fun r => t.rw Obj.nsBolts (t.rw Obj.attNs r) = 0)).map (fun r => (Obj.attNs, r))
    ++ (rows.filter (fun r => !hosts.contains (t.rw Obj.attHost r)
        || rows.any (fun q => q ≠ r && t.rw Obj.attHost q = t.rw Obj.attHost r && t.rw Obj.attNs q = t.rw Obj.attNs r))).map
      (fun r => (Obj.attHost, r))
    ++ (hosts.filter (fun h => hosts.any (fun k => k ≠ h && t.rw Obj.hostNqn k = t.rw Obj.hostNqn h))).map (fun h => (Obj.hostNqn, h))

/-- R282. -/
def vScratch (s t : State) (c : List (Nat × Nat)) : List (Nat × Nat) :=
  if rowsIn c [Obj.scratchSize] ≠ [] ∧ s.ownSpaceAt (t.rw Obj.scratchSize 0) < partSum t then [(Obj.scratchSize, 0)] else []

/-- R313. -/
def vFgm (t : State) (c : List (Nat × Nat)) : List (Nat × Nat) :=
  let key := fun (r : Nat) => (t.rw Obj.fgmGroup r, t.rw Obj.fgmScope r, t.rw Obj.fgmId r)
  let used := (t.effRows Obj.fgmGroup).filterMap (fun e => if e.2 ≠ 0xFFFF then some e.1 else none)
  ((rowsIn c [Obj.fgmGroup, Obj.fgmScope, Obj.fgmId]).filter (fun r => used.contains r
    && (!t.scopePresent (t.rw Obj.fgmScope r) (t.rw Obj.fgmId r) || used.any (fun q => q ≠ r && key q = key r)))).map
    (fun r => (Obj.fgmId, r))

/-- R347. -/
def vEcl (t : State) (c : List (Nat × Nat)) : List (Nat × Nat) :=
  c.filter (fun e =>
    let p := e.2 / 8 * 8
    let mins := ((List.range 8).map (fun i => t.rw Obj.eclMin (p + i))).sum
    (e.1 = Obj.eclMin || e.1 = Obj.eclMax)
      && (4096 < mins || (List.range 8).any (fun i => t.rw Obj.eclMax (p + i) < t.rw Obj.eclMin (p + i)
        || 4096 + t.rw Obj.eclMin (p + i) < t.rw Obj.eclMax (p + i) + mins)))

/-- R350; `differs` says whether the partner's setting differs. -/
def vBond (s : State) (c : List (Nat × Nat)) (differs : Bool) : List (Nat × Nat) :=
  let off := fun (n : Nat) => (s.bay n).r12.st = .off && (s.bay n).r33.st = .off
  c.filter (fun e => e.1 = Obj.dlinkBond && (!off e.2 || !off (e.2 + 1) || (s.skn.present && differs)))

/-- R369 and R386. -/
def vBay (s t : State) (c : List (Nat × Nat)) : List (Nat × Nat) :=
  let idle := fun (r : RailSt) => r = .off || r = .observe
  let bad12 := fun (n : Nat) => !shuntOk (t.rw Obj.bayShunt12 n) (t.rw Obj.bayLimit12 n) (t.rw Obj.bayFastMult n)
  let bad33 := fun (n : Nat) => !shuntOk (t.rw Obj.bayShunt33 n) (t.rw Obj.bayLimit33 n) (t.rw Obj.bayFastMult n)
  c.filter (fun e =>
    ((e.1 = Obj.bayShunt12 || e.1 = Obj.bayLimit12 || e.1 = Obj.bayFastMult) && bad12 e.2)
      || ((e.1 = Obj.bayShunt33 || e.1 = Obj.bayLimit33 || e.1 = Obj.bayFastMult) && bad33 e.2)
      || (e.1 = Obj.bayMode && !(idle (s.bay e.2).r12.st && idle (s.bay e.2).r33.st)))

/-- Ring range of a function. -/
def fnRange (t : State) (f : Nat) : Nat × Nat := (t.rw Obj.fnRingBase f, t.rw Obj.fnRingCount f)

/-- R404. -/
def vFn (s t : State) (c : List (Nat × Nat)) : List (Nat × Nat) :=
  c.filter (fun e =>
    let f := e.2
    let a := fnRange t f
    let clash := fun (g : Nat) => let b := fnRange t g; g ≠ f && decide (a.1 < b.1 + b.2) && decide (b.1 < a.1 + a.2)
    let m := t.rw Obj.fnShtlMask f
    e.1 / 256 = 0x7001
      && (decide (2048 < a.1 + a.2) || (List.range 128).any clash
        || (List.range 128).any (fun g => g ≠ f && decide (m &&& t.rw Obj.fnShtlMask g ≠ 0))
        || (f ≠ 0 && m % 16 ≠ 0)
        || (s.fnRings f).any (fun r => (s.ring r).st ≠ .disabled)
        || (s.fnChans f).any (fun k => (s.chan k).st ≠ .idle)))

/-- R451. -/
def vSkein (s t : State) (c : List (Nat × Nat)) : List (Nat × Nat) :=
  let rows := t.skRows
  let twice := rows.any (fun r => rows.any (fun q => q ≠ r && t.rw Obj.srowDeviceId q = t.rw Obj.srowDeviceId r))
  let crowd := rows.any (fun r => 2 < (rows.filter (fun q => t.rw Obj.srowShelf q = t.rw Obj.srowShelf r)).length)
  let side := t.placeInSkein.side ≠ s.skn.side && decide (nsUsed s ≠ [])
  (c.filter (fun e => e.1 / 256 = 0x7801
      && ((twice && (e.1 = Obj.srowEnable || e.1 = Obj.srowDeviceId)) || (crowd && (e.1 = Obj.srowEnable || e.1 = Obj.srowShelf))
        || (side && (e.1 = Obj.srowEnable || e.1 = Obj.srowDeviceId || e.1 = Obj.srowShelf)))))
    ++ (if t.rw Obj.sknGuard 0 < t.rw Obj.sknHbPeriod 0 then c.filter (fun e => e.1 = Obj.sknGuard || e.1 = Obj.sknHbPeriod) else [])

/-- The objects that fail validation, each once (R42 step 2, R43). The partner's answers (R120, R350) are free values. -/
def State.validate (s : State) : List (Nat × Nat) :=
  let t := s.asCommitted
  let c := s.changed
  (vMport t ++ vNs s t c ++ vPart s t c ++ vCeiling s t c (bit s.fresh 0) ++ vEth s c ++ vGid s c ++ vAtt t ++ vScratch s t c
    ++ vFgm t c ++ vEcl t c ++ vBond s c (bit s.fresh 1) ++ vBay s t c ++ vFn s t c ++ vSkein s t c).eraseDups

/-! ### Steps 1 and 3 to 7 -/

/-- The values a commit stores (R42 step 1): current P values, of objects that wait for a cold reset the committed ones (R45), overlaid
with the pending ones. -/
def State.imageVals (s : State) : Tbl (Option Nat) :=
  s.dict.pend.foldl (fun t e =>
    match e.2 with
    | some v => if persistObj (keyPair e.1).1 then setVal t (keyPair e.1).1 (keyPair e.1).2 v else t
    | none => t) (s.lateVals.foldl (fun d e => Tbl.set none d e.1 e.2)
      (s.dict.eff.filter (fun e => persistObj (keyPair e.1).1 && !lateObj (keyPair e.1).1)))

/-- Replaces the image of the inactive slot. -/
def State.putOld (s : State) (i : Image) : State :=
  { s with dict := if s.dict.active = 0 then { s.dict with slotB := i } else { s.dict with slotA := i } }

/-- COMMIT of a session at OPERATE or above (R37, R42 to R45): answered at once when it fails, else its image is being written. -/
def State.commitStart (s0 : State) (h : Hdr) (x : Session) : State × Option Reply :=
  if x.level < 2 then (s0, some { status := 0x05 })
  else if s0.dict.run.isSome then (s0, some { status := 0x08 })
  else
    let s := s0.used
    match s0.validate with
    | [] =>
      (({ s with dict := { s.dict with commitState := 1
                                       run := some { image := s.imageVals, taken := s.dict.pend, hdr := h, session := x } } } : State).putOld
        {}, none)
    | bad =>
      ({ s with dict := { s.dict with commitState := 3 } },
        some { status := 0x10, body := encItems (bad.map (fun e => answer (itemFor e.1 e.2 []) { stat := 0x07 })) })

/-! ### Step 6: what applied values do -/

/-- A host's commands to a namespace it loses (R251): those not admitted are discarded (R230), and the notice is sent. -/
def State.detach (s : State) (h ns : Nat) : State :=
  let mine := fun (r : Req) => match r with
    | .nvme q _ => (s.qp q).host = h && decide ((s.qp q).st ≠ .idle)
    | _ => false
  ((((s.hoop.writes.filter (fun c => mine c.req && c.ns = ns && c.ranges.all (fun r => r.st = 0))).map (fun c => c.id)).foldl
    (fun t id => t.abandonWrite id) s)).nsNotice h ns

/-- Attachments: pairs the commit took away. -/
def State.detachAll (t old : State) (c : List (Nat × Nat)) : State :=
  (rowsIn c [Obj.attHost, Obj.attNs]).foldl (fun u r =>
    let h := old.rw Obj.attHost r
    let n := old.rw Obj.attNs r
    if h = 0xFFFF ∨ (attRows t).any (fun q => t.rw Obj.attHost q = h && t.rw Obj.attNs q = n) then u else u.detach h n) t

/-- Bonded ports (R350): the odd bay's lane pair belongs to the even bay, or is its own again and looks at its pins. -/
def State.bondSet (t : State) (n : Nat) : State :=
  if t.rw Obj.dlinkBond n = 1 then
    let u := (t.putLink (n + 1) { t.link (n + 1) with perst := false, refclk := false, st := 0, speed := 0, width := 0 }).memGone (n + 1)
    u.updBay (n + 1) (fun x => { x with deb := false, debAt := none, granted := none })
  else
    let x := t.bay (n + 1)
    (t.updBay (n + 1) (fun y => { y with a := false, b := false })).presence (n + 1) x.a x.b

/-- What one applied object does (R42 step 6), by the rule of its chapter; `old` is the state before the values applied. -/
def State.applyObj (old t : State) (e : Nat × Nat) : State :=
  let v := t.rw e.1 e.2
  match e.1 with
  | 0x140001 => t.setCnt Obj.mportLink e.2 0
  | 0x500001 => ((old.port e.2).up).foldl (fun u sub => u.ethDown e.2 sub) t
  | 0x500002 => ((old.port e.2).up).foldl (fun u sub => u.ethDown e.2 sub) t
  | 0x510301 => if v = 0 then (old.hostQps e.2).foldl (fun u q => u.drainQp q) t else t
  | 0x410002 => t.nsApply e.2
  | 0x410003 => t.nsApply e.2
  | 0x300005 => t.bayModeSet e.2 v
  | 0x310004 => t.bondSet e.2
  | 0x420001 => { t with hoop := { t.hoop with lowering := if v < old.rw Obj.hoopDirtyCeiling 0 then some v else none } }
  | 0x420005 => if v = 0 then t.triggerAll else t
  | 0x300004 => t.enableBay e.2 v
  | 0x201002 => (t.pdWrite e.2 v).1
  | 0x620001 => t.polRefill e.2
  | 0x620002 => t.polRefill e.2
  | 0x200102 => if v = 0 then { t with clk := { t.clk with locked := false } } else t
  | _ => t

/-- Step 6 (R42): pending values become effective, but for those that wait for a cold reset (R45), and act. RW objects written
since the commit point keep what was written (log entry 38). -/
def State.applyTaken (s : State) (r : CommitRun) : State :=
  let now := r.taken.filter (fun e => !lateObj (keyPair e.1).1
    && !(r.kept.contains e.1 && accOf (keyPair e.1).1 ≠ .rwc))
  let t : State := now.foldl (fun u e => match e.2 with
    | some v => u.setRw (keyPair e.1).1 (keyPair e.1).2 v
    | none => u) s
  let c := ((now.map (fun e => keyPair e.1)).filter (fun e => t.rw e.1 e.2 ≠ s.rw e.1 e.2))
  let t2 := c.foldl (fun u e => State.applyObj s u e) t
  let t3 := (t2.detachAll s c)
  let t4 := if c.any (fun e => e.1 / 256 = 0x7800 || e.1 / 256 = 0x7801 || e.1 / 256 = 0x7802) then t3.skeinApply else t3
  (t4.discNotice s).grants

/-- COMMIT_WRITE_DONE (R42 steps 4 to 7): the flash wrote and read back the image, or failed. -/
def State.commitDone (s : State) (ok : Bool) : State :=
  match s.dict.run with
  | none => s
  | some r =>
    if ok = false then
      ({ s with dict := { s.dict with run := none, commitState := 3 } }).finish r.hdr 0x0A r.session { status := 0x09 }
    else
      let img : Image := { valid := true, gen := s.image.gen + 1, schema := (s.fwSlot s.boot.running).schema, vals := r.image }
      let t := s.putOld img
      let u : State := { t with dict := { t.dict with
        active := 1 - s.dict.active, commitCount := satAdd 32 s.dict.commitCount 1, commitTime := s.clk.ns } }
      let v := u.applyTaken r
      let w : State := { v with dict := { v.dict with
        run := none, commitState := 2
        pend := v.dict.pend.filter (fun e => !((r.taken.map (fun x => x.1)).contains e.1 && !r.kept.contains e.1)) } }
      let y := w.finish r.hdr 0x0A r.session {}
      if r.image.any (fun e => e.1 / 4294967296 = Obj.keyLevel && e.2 = some 3) then y.closeSessions (fun z => z.kslot = 0xFF) else y

end Sys2Proof.Machine
end

