-- ==== Sys2Proof/Machine/Message.lean ====
section
/-!
DEFINITION. Machine/Message.lean: a Rendi message of any opcode (Table 2-7), the requests READ, WRITE, ACTION and COMMIT, the BAR0
mailbox's request buffer (R68, R69), and the SMBus commands (R70, R71).
-/

namespace Sys2Proof.Machine

/-! ### Requests -/

/-- READ (R53): every item is processed. -/
def State.readMsg (s : State) (h : Hdr) (items : List Item) : State :=
  s.request h 0x08 (encItems items) (fun t _ x =>
    if 64 < items.length then (t, some { status := 0x0E })
    else
      let l := items.map (fun i => (i, t.readItem h.pend x i))
      (t, some (itemsReply (fitItems (bodyMax h.carrier - 12 * items.length) l))))

/-- WRITE (R53, R503). -/
def State.writeMsg (s : State) (h : Hdr) (items : List Item) : State :=
  s.request h 0x09 (encItems items) (fun t _ x =>
    if 64 < items.length then (t, some { status := 0x0E })
    else
      match State.writeItems x items t [] with
      | (u, done, []) => (u, some (itemsReply done))
      | (u, done, rest) =>
        ({ u with boot := { u.boot with fwWait := u.boot.fwWait ++ [{ hdr := h, session := x, done := done, rest := rest }] } }, none))

/-- ACTION (R53). -/
def State.actMsg (s : State) (h : Hdr) (items : List Item) : State :=
  s.request h 0x0B (encItems items) (fun t _ x =>
    if 64 < items.length then (t, some { status := 0x0E })
    else let u := State.actItems x items t []; (u.1, some (itemsReply u.2)))

/-- COMMIT (R42). -/
def State.commitMsg (s : State) (h : Hdr) : State := s.request h 0x0A [] (fun t _ x => t.commitStart h x)

/-- SUBSCRIBE (R63). -/
def State.subscribeMsg (s : State) (h : Hdr) (groups scopes start : Nat) : State :=
  s.request h 0x0C (leBytes 2 groups ++ leBytes 2 scopes ++ [start % 256, 0, 0, 0]) (fun t _ x =>
    let r := t.subscribeOp x (groups % 65536) (scopes % 65536) (start % 256)
    (r.1, some r.2))

/-- UNSUBSCRIBE (R63). -/
def State.unsubscribeMsg (s : State) (h : Hdr) (sub : Nat) : State :=
  s.request h 0x0D (leBytes 2 sub ++ [0, 0]) (fun t _ x => let r := t.unsubscribeOp x (sub % 65536); (r.1, some r.2))

/-- CLOSE (R58): answered, then the session closes. -/
def State.closeMsg (s : State) (h : Hdr) : State :=
  match s.screen h 0x03 [] with
  | .go row x => ((s.accepted h row x).finish h 0x03 x {}).closeSession row
  | a => s.turnAway h 0x03 a

/-- A message whose body has no valid structure for its opcode (R50). -/
def State.badBody (s : State) (h : Hdr) (op : Nat) (body : Bytes) : State :=
  match s.admitHead h op body.length with
  | some a => s.turnAway h op a
  | none => s.turnAway h op (.bare 0x0E 0)

/-- A request of items. -/
def State.itemsMsg (s : State) (h : Hdr) (op : Nat) (body : Bytes) (f : State → List Item → State) : State :=
  match decItems 64 body with
  | some l => f s l
  | none => s.badBody h op body

/-- A message of any opcode, as its bytes say (Table 2-7). -/
def State.message (s : State) (h : Hdr) (op : Nat) (body : Bytes) : State :=
  match op with
  | 0x01 => if body.length = 20 then s.helloOp h (body.getD 0 0) (body.getD 1 0) (body.drop 4) else s.badBody h op body
  | 0x02 => if body = [] then s.openOp h else s.badBody h op body
  | 0x03 => if body = [] then s.closeMsg h else s.badBody h op body
  | 0x08 => s.itemsMsg h op body (fun t l => t.readMsg h l)
  | 0x09 => s.itemsMsg h op body (fun t l => t.writeMsg h l)
  | 0x0A => if body = [] then s.commitMsg h else s.badBody h op body
  | 0x0B => s.itemsMsg h op body (fun t l => t.actMsg h l)
  | 0x0C =>
    if body.length = 8 then s.subscribeMsg h (leNat (body.take 2)) (leNat ((body.drop 2).take 2)) (body.getD 4 0) else s.badBody h op body
  | 0x0D => if body.length = 4 then s.unsubscribeMsg h (leNat (body.take 2)) else s.badBody h op body
  | _ => s.badBody h op body

/-! ### The mailbox -/

/-- Bytes of a sparse byte memory. -/
def ramBytes (m : Tbl Nat) (a n : Nat) : Bytes := (List.range n).map (fun i => Tbl.get 0 m (a + i))

/-- The device takes the request of the buffer (R69): 32 header bytes, then the body. `queued` requests are queued (R61). -/
def State.mbxTake (s : State) (queued : Nat) : State :=
  let b := ramBytes s.mbx.req 0 (max 32 (min s.mbx.reqLen 4096))
  let w := leNat (b.take 4)
  let w1 := leNat ((b.drop 4).take 4)
  let h : Hdr := { carrier := .mailbox, src := 0, dport := 0, frag := false, queued := queued
                   ver := bits w 28 4, kind := bits w 26 2, pend := bit w 19, len := w % 65536
                   session := w1 / 65536, seq := leNat ((b.drop 8).take 4), rtag := leNat ((b.drop 12).take 4)
                   auth := (b.drop 16).take 16 }
  ({ s with mbx := { s.mbx with go := false } }).message h (bits w 20 6) (b.drop 32)

/-- MAILBOX_GO (R69): a response that waits for `RSP_VALID` holds the request back. -/
def State.mbxGo (s : State) (queued : Nat) : State :=
  if s.mbx.go then s
  else if s.mbx.waiting ≠ [] then { s with mbx := { s.mbx with go := true } }
  else s.mbxTake queued

/-- MAILBOX_RSP_CLEAR (R69): the waiting response is written, and a request held back is taken. -/
def State.mbxRspClear (s : State) : State :=
  let t := s.rspClear
  if t.mbx.go ∧ t.mbx.waiting = [] then t.mbxTake 0 else t

/-! ### SMBus -/

/-- Whether `ALERT_N` is asserted (R71). -/
def State.alert (s : State) : Bool := decide (s.smb.groups &&& s.rw Obj.smbAlertMask 0 ≠ 0)

/-- SMBus data goes out. -/
def State.smbSend (s : State) (b : Bytes) : State := s.emit (.smbus b)

/-- Command 0x00 (R70): stage, halt, alert, from hardware while the Skamo die and main die run. -/
def State.smbStage (s : State) : State :=
  s.smbSend [s.cntAt Obj.bootStage 0 % 8 + 8 * (s.cntAt Obj.bootHalted 0 % 2) + 16 * b2n s.alert]

/-- Pads a text with zeros. -/
def padText (n v : Nat) : Bytes := padTo n 0 (decStr v)

/-- Command 0x01 (R70), at S7. -/
def State.smbIdentity (s : State) : State :=
  if s.inS7 = false then s
  else s.smbSend (padText 8 (s.roId 0x100002 0) ++ padText 2 (s.roId 0x100003 0) ++ leBytes 4 (s.roId 0x100006 0) ++ [0, 0])

/-- Command 0x02 (R70), at S7: the read clears. -/
def State.smbEvents (s : State) : State :=
  if s.inS7 = false then s
  else
    let t := s.smbSend (leBytes 2 s.smb.groups ++ leBytes 2 s.smb.count ++ leBytes 4 s.smb.last)
    { t with smb := { t.smb with groups := 0, count := 0, last := 0 } }

/-- Command 0x10 (R70, R71), at S7: a bad PEC is not acknowledged and selects nothing. -/
def State.smbSelect (s : State) (idx sub flags row : Nat) (pecBad : Bool) : State :=
  if s.inS7 = false ∨ pecBad then s
  else { s with smb := { s.smb with sel := ⟨idx % 65536, sub % 256, flags % 256, row % 4294967296, 0, 0, []⟩ } }

/-- A session at OBSERVE, as SMBus reads (R71). -/
def observer : Session := ⟨0, 1, .mailbox, 0, [], 0, 0, 0, [], [], 0, 0⟩

/-- Command 0x11 (R70), at S7: item status, then the value; only the status where it cannot be read or is longer than 31 bytes. -/
def State.smbObject (s : State) : State :=
  if s.inS7 = false then s
  else
    let r := s.readItem (bit s.smb.sel.flags 1) observer { s.smb.sel with flags := s.smb.sel.flags % 2 }
    s.smbSend (r.stat :: (if r.stat = 0 ∧ r.value.length ≤ 31 then r.value else []))

/-- The Alert Response Address (R71): the device's 7-bit address in bits [7:1] while `ALERT_N` is asserted. -/
def State.smbAlert (s : State) : State := if s.alert then s.smbSend [2 * s.readRO Obj.smbAddr 0] else s

end Sys2Proof.Machine
end

