-- ==== Sys2Proof/Machine/Bar.lean ====
section
/-!
DEFINITION. Machine/Bar.lean: memory TLPs that arrive at the endpoint (R415, R420) and the registers of BAR0 (R68, R400, R401,
Tables 2-9, 12-3, 12-7, 13-5, 13-10). A register write is one aligned dword.
-/

namespace Sys2Proof.Machine

/-- Low and high half of a 64-bit register. -/
def setLo (x v : Nat) : Nat := setBits x 0 32 v
/-- High half. -/
def setHi (x v : Nat) : Nat := x % 2 ^ 32 + (v % 2 ^ 32) * 2 ^ 32

/-! ### Function registers -/

/-- RW1C bits of `EP_FN_STATUS` (Table 12-3). -/
def State.fnStatusClear (s : State) (f v : Nat) : State :=
  s.updFn f (fun x => { x with
    cto := x.cto && !bit v 2, unexp := x.unexp && !bit v 3, winErr := x.winErr && !(decide (f = 0) && bit v 4) })

/-- A write to a function register (Table 12-3); the others are read-only. -/
def State.fnReg (s : State) (f off v : Nat) : State :=
  if off = 0x08 then (if bit v 0 then s.fnResume f else s)
  else if off = 0x0C then s.fnStatusClear f v
  else if off = 0x10 then (if bit v 1 then s.updFn f (fun x => { x with evt := false }) else s)
  else if off = 0x18 then (if f = 0 ∧ bit v 0 then s.drawn (fun d t => t.contRelease (d % 2 = 1)) else s)
  else s

/-! ### Peer window registers -/

/-- A write to a register of window `w` (Table 12-7): the shadow, `GO`, the RW1C bit `ERR`. -/
def State.winReg (s : State) (w off v : Nat) : State :=
  let sh := fun (g : WinRegs → WinRegs) => s.updWin w (fun x => { x with sh := g x.sh })
  if off = 0x00 then sh (fun r => { r with key := v })
  else if off = 0x08 then sh (fun r => { r with eoffLo := v })
  else if off = 0x0C then sh (fun r => { r with eoffHi := v })
  else if off = 0x10 then sh (fun r => { r with len := v })
  else if off = 0x14 then sh (fun r => { r with ctrl := v })
  else if off = 0x18 then (if bit v 0 then s.winCommit w else s)
  else if off = 0x1C then s.updWin w (fun x => { x with err := x.err && !bit v 21 })
  else s

/-! ### The mailbox -/

/-- `NTF_EN` is written (Table 2-9): once enabled, a notification that waits is delivered. -/
def State.mbxNtfEn (s : State) (on : Bool) : State :=
  let t : State := { s with mbx := { s.mbx with ntfEn := on } }
  if on && !s.mbx.ntfValid then (match t.mbxSubs with
    | [] => t
    | b :: _ => t.sendNtf b)
  else t

/-- A dword of the request buffer is written (Table 2-9): while `GO` is 1 it is discarded and `OVW` set. -/
def State.mbxWord (s : State) (off v : Nat) : State :=
  if s.mbx.go then { s with mbx := { s.mbx with ovw := true } }
  else
    let put := fun (m : Tbl Nat) (i : Nat) => Tbl.set 0 m (off + i) (v / 256 ^ i % 256)
    { s with mbx := { s.mbx with req := [0, 1, 2, 3].foldl put s.mbx.req } }

/-- A write to the mailbox block (Table 2-9). -/
def State.mbxReg (s : State) (off v : Nat) : State :=
  if off = 0x0000 then
    let t := s.mbxNtfEn (bit v 1)
    if bit v 0 then t.drawn (fun d u => u.mbxGo (d % 33)) else t
  else if off = 0x0004 then
    let t := if bit v 0 then s.mbxRspClear else s
    let u := if bit v 1 then t.ntfClear else t
    if bit v 2 then { u with mbx := { u.mbx with ovw := false } } else u
  else if off = 0x0008 then { s with mbx := { s.mbx with reqLen := v % 8192 } }
  else if 0x1000 ≤ off ∧ off < 0x2000 then s.mbxWord (off - 0x1000) v
  else s

/-! ### Ring registers -/

/-- The ring a function's local index names (R401); function 0xFF stands for the Thimble firmware's IRings. -/
def State.ringAt (s : State) (f i : Nat) : Option Nat :=
  if f = 0xFF then (if i < 64 then some (2048 + i) else none) else s.localRing f i

/-- A write to `RING_CTRL` (Tables 13-5, 13-6): `STRICT` while DISABLED only, `WEIGHT`, `BURST`, then `EN` and `RESTART`. -/
def State.ringCtrl (s : State) (f r v : Nat) : State :=
  let t := s.updRing r (fun x => { x with
    strict := if x.st = .disabled then bit v 1 else x.strict, weight := bits v 8 8, burst := bits v 16 7 })
  if bit v 0 = false then t.ringDisable r
  else if (s.ring r).st = .disabled then t.ringEnable f r
  else if bit v 2 then t.ringRestart r
  else t

/-- A write to a register of ring `r` (Table 13-5): base, size and vector while DISABLED only (R436). -/
def State.ringReg (s : State) (f r off v : Nat) : State :=
  let off_ := (s.ring r).st = .disabled
  if off = 0x00 then s.doorbell r
  else if off = 0x04 then s.ringCtrl f r v
  else if off = 0x08 then (if off_ then s.updRing r (fun x => { x with base := setLo x.base v }) else s)
  else if off = 0x0C then (if off_ then s.updRing r (fun x => { x with base := setHi x.base v }) else s)
  else if off = 0x10 then (if off_ then s.updRing r (fun x => { x with log2 := v % 32, vec := bits v 8 8 }) else s)
  else if off = 0x1C then s.updRing r (fun x => { x with pend := x.pend && !bit v 0, holdoff := bits v 8 8 })
  else s

/-! ### Shuttle channel registers -/

/-- A write to `SHTL_CTRL` (Table 13-10): `VEC` in IDLE or STOPPED, then `RESET`, `STOP`, `GO`. -/
def State.shCtrl (s : State) (c v : Nat) : State :=
  let x := s.chan c
  let t := if x.st = .idle ∨ x.st = .stopped then s.updChan c (fun x => { x with vec := bits v 8 8 }) else s
  if bit v 2 then t.shReset c else if bit v 1 then t.shStop c else if bit v 0 then t.shGo c else t

/-- A write to a register of channel `c` (Table 13-10). The queue's registers but the head are written in IDLE or STOPPED
only (R445, R447). -/
def State.shReg (s : State) (c off v : Nat) : State :=
  let x := s.chan c
  let cq := fun (g : Chan → Chan) => if x.st = .idle ∨ x.st = .stopped then s.updChan c g else s
  if off = 0x00 then s.shCtrl c v
  else if off = 0x04 then s.updChan c (fun x => { x with enqOvf := x.enqOvf && !bit v 5, pend := x.pend && !bit v 6 })
  else if off = 0x08 then s.updChan c (fun x => { x with enqLo := v })
  else if off = 0x0C then s.shEnqueue c v
  else if off = 0x18 then cq (fun x => { x with cqBase := setLo x.cqBase v })
  else if off = 0x1C then cq (fun x => { x with cqBase := setHi x.cqBase v })
  else if off = 0x20 then cq (fun x => { x with cqLog2 := v % 32 })
  else if off = 0x24 then s.shCqHead c (v % 65536)
  else if off = 0x30 then cq (fun x => { x with tptr := setLo x.tptr v })
  else if off = 0x34 then cq (fun x => { x with tptr := setHi x.tptr v })
  else if 0x40 ≤ off ∧ off ≤ 0x4C then s.updChan c (fun x => { x with keys := x.keys.set ((off - 0x40) / 4) v })
  else s

/-! ### MSI-X -/

/-- Vectors of a function (Table 12-1). -/
def vecsOf (f : Nat) : Nat := if f = 0 then 256 else 32

/-- Changes a vector of a function's MSI-X table. -/
def State.updVec (s : State) (f vec : Nat) (g : MsixVec → MsixVec) : State :=
  s.updFn f (fun x => { x with vecs := Tbl.upd {} x.vecs vec g })

/-- A vector is unmasked: what its PBA bit holds is sent (R405). -/
def State.unmask (s : State) (f vec : Nat) : State := (s.updVec f vec (fun e => { e with masked := false })).sendPba f

/-- A write to the MSI-X table: address, data, mask of a vector (R405). -/
def State.msixReg (s : State) (f off v : Nat) : State :=
  let n := off / 16
  if vecsOf f ≤ n then s
  else if off % 16 = 0 then s.updVec f n (fun e => { e with addr := setLo e.addr v })
  else if off % 16 = 4 then s.updVec f n (fun e => { e with addr := setHi e.addr v })
  else if off % 16 = 8 then s.updVec f n (fun e => { e with data := v })
  else if bit v 0 then s.updVec f n (fun e => { e with masked := true })
  else s.unmask f n

/-! ### BAR0 -/

/-- REGISTER_WRITE: a dword written to BAR0 of a function (Table 12-2); offsets outside the blocks, blocks of the PF in a VF and
read-only registers ignore it (R400). -/
def State.regWrite (s : State) (f off v : Nat) : State :=
  if off % 4 ≠ 0 then s
  else if 0x10000 ≤ off ∧ off < 0x20000 then (match s.ringAt f ((off - 0x10000) / 32) with
    | some r => s.ringReg f r (off % 32) v
    | none => s)
  else if s.fnThere f = false then s
  else if off < 0x1000 then s.fnReg f off v
  else if f = 0 ∧ 0x2000 ≤ off ∧ off < 0x3000 then s.winReg ((off - 0x2000) / 64) (off % 64) v
  else if f = 0 ∧ 0x4000 ≤ off ∧ off < 0x8000 then s.mbxReg (off - 0x4000) v
  else if 0x20000 ≤ off ∧ off < 0x21000 then
    (let c := (off - 0x20000) / 128
     if s.chanFn c = some f then s.shReg c (off % 128) v else s)
  else if 0x30000 ≤ off ∧ off < 0x31000 then s.msixReg f (off - 0x30000) v
  else s

/-! ### TLPs -/

/-- A read while FROZEN: all ones (R420); before service and after it: Unsupported Request. -/
def State.readRefused (s : State) (reqid tag len : Nat) (ro : Bool) : State :=
  if s.epUp = false then s
  else if s.frozen then s.onesCpl reqid tag len ro
  else s.emit (.pcie (.cpl reqid tag 1 0 0 ro))

/-- What a memory TLP of the host does. -/
def State.tlp (s : State) (i : Instr) : State :=
  match i with
  | .peerWrite .. => s.bar2 i
  | .peerRead .. => s.bar2 i
  | .registerWrite f off v => s.regWrite f off v.toNat
  | .mailboxGo q => s.mbxGo q
  | .mailboxRspClear => s.mbxRspClear
  | .mailboxNtfClear => s.ntfClear
  | .fnResume f => if s.fnThere f then s.fnResume f else s
  | .windowCommit w => if w < 64 then s.winCommit w else s
  | .containmentRelease none clear => s.contRelease clear
  | .msixUnmask f v => if s.fnThere f ∧ v < vecsOf f then s.unmask f v else s
  | .ringDb f i => (match s.ringAt f i with | some r => s.doorbell r | none => s)
  | .ringEnable f i v => (match s.ringAt f i with | some r => s.ringCtrl f r (clearBit (orBit v 0) 2) | none => s)
  | .ringDisable f i v => (match s.ringAt f i with | some r => s.ringCtrl f r (clearBit (clearBit v 0) 2) | none => s)
  | .ringRestart f i v => (match s.ringAt f i with | some r => s.ringCtrl f r (orBit (orBit v 0) 2) | none => s)
  | .shuttleEnqueue f c v => if s.chanFn c = some f then s.shEnqueue c v else s
  | .shuttleGo f c => if s.chanFn c = some f then s.shGo c else s
  | .shuttleStop f c => if s.chanFn c = some f then s.shStop c else s
  | .shuttleReset f c => if s.chanFn c = some f then s.shReset c else s
  | .shuttleCqHead f c v => if s.chanFn c = some f then s.shCqHead c v else s
  | _ => s

/-- Whether a command is a write of the Thimble firmware to an IRing's registers: no TLP, and the endpoint does not bear on
it. -/
def firmwareWrite : Instr → Bool
  | .ringDb f _ => f = 0xFF
  | .ringEnable f _ _ => f = 0xFF
  | .ringDisable f _ _ => f = 0xFF
  | .ringRestart f _ _ => f = 0xFF
  | .registerWrite f _ _ => f = 0xFF
  | _ => false

/-- A command that is a posted memory write to BAR0 or BAR2: discarded while FROZEN (R420) and while memory TLPs are not served
(Table 15-4, R499); held in arrival order while the peer write buffer is full, and the stall counted as it begins (R415). -/
def State.posted (s : State) (i : Instr) : State :=
  if firmwareWrite i then s.tlp i
  else if s.epServes = false ∨ s.frozen then s
  else if s.peerFull ∨ s.ep.stalled ≠ [] then
    let t := if s.ep.stalled = [] then s.addCnt 64 Obj.epPeerStalls 0 1 else s
    { t with ep := { t.ep with stalled := t.ep.stalled ++ [i] } }
  else s.tlp i

/-- A read of BAR2: it never passes a posted write that waits. -/
def State.nonPosted (s : State) (i : Instr) (reqid tag len : Nat) (ro : Bool) : State :=
  if s.epServes = false ∨ s.frozen then s.readRefused reqid tag len ro
  else if s.ep.stalled ≠ [] then { s with ep := { s.ep with stalled := s.ep.stalled ++ [i] } }
  else s.tlp i

/-- What waits for posted credits goes on while the buffer has room (R415); `n` bounds it. -/
def State.unstall : Nat → State → State
  | 0, s => s
  | n + 1, s =>
    match s.ep.stalled with
    | [] => s
    | i :: r =>
      if s.peerFull then s
      else State.unstall n (State.tlp { s with ep := { s.ep with stalled := r } } i)

end Sys2Proof.Machine
end

