-- ==== Sys2Proof/Machine/Settle.lean ====
section
/-!
DEFINITION. Machine/Settle.lean: the consequences of a command in other units, carried out before the step ends; the time a
core cycle takes.
-/

namespace Sys2Proof.Machine

/-- A storage request is finished, for the one that asked. -/
def State.requestDone (s : State) (r : Req) (status data len : Nat) : State :=
  match r with
  | .nvme q cid => s.nvmeDone q cid status data len
  | .ring g id => s.ringBlockDone g id status data
  | .eyelet id => s.eyeDone id status data
  | .chain slot wr => s.chainDone slot wr status data
  | .shtl _ => s
  | .peer _ => s
  | .own => s

/-- Frames of a write's range are reserved: its data is fetched. -/
def State.requestFetch (s : State) (r : Req) (cmd idx : Nat) : State :=
  match r with
  | .nvme q cid => s.nvmeFetch q cid cmd idx
  | .ring g id => s.ringFetch g id cmd idx
  | .eyelet id => (match s.acc id with
    | some a => (s.accDeliver id).moveAccs a.who
    | none => s)
  | .shtl _ => s
  | .peer _ => s
  | .chain _ _ => s
  | .own => s

/-- An eyelet access of the endpoint side ended. -/
def State.accessDone (s : State) (a : EyeAcc) (status data : Nat) : State :=
  match a.who with
  | .ring r slot => s.ringAccDone a r slot status data
  | .shtl c => s.shAccDone a c status data
  | .peer reqid => s.peerDone a reqid status data
  | .qp _ => s
  | .chain _ _ => s

/-- One consequence. -/
def State.settleOne (s : State) (t : Todo) : State :=
  match t with
  | .detect det stype scope detail => s.detect det stype scope detail
  | .twin b => s.twinSend b
  | .done r status data len => s.requestDone r status data len
  | .fetch r cmd idx => s.requestFetch r cmd idx
  | .memDown b => s.bayDown b
  | .readLost tag => s.readLost tag
  | .posMoved => s.mapCheck.journalCheck
  | .warmReset => s.resetFree
  | .rxMore q => (s.moveAccs (.qp q)).rxMore q
  | .ana ns => s.anaChanged ns
  | .irq f v => s.signal f v
  | .acc a status data => s.accessDone a status data

/-- The consequences in the order they arose; `n` bounds them. -/
def State.settleTodo : Nat → State → State
  | 0, s => s
  | n + 1, s =>
    match s.todo with
    | [] => s
    | t :: r => State.settleTodo n (State.settleOne { s with todo := r } t)

/-- Most consequences of one step. -/
def settleBound : Nat := 1000000

/-- A bit of `EP_INTX_STATUS` of the PF (Table 12-3): 0 `MBX`, 1 `EVT`, 2 `RING`, 3 `SHTL`. -/
def State.intxBit (s : State) (b : Nat) : Bool :=
  match b with
  | 0 => s.mbx.rspValid || s.mbx.ntfValid
  | 1 => (s.fn 0).evt
  | 2 => s.ep.rings.any (fun e => e.2.pend && decide (s.ringFn e.1 = some 0))
  | 3 => s.ep.chans.any (fun e => e.2.pend && decide (s.chanFn e.1 = some 0))
  | _ => false

/-- The level INTA should have (R406). -/
def State.intxLevel (s : State) : Bool :=
  !(s.fn 0).msix && !(s.fn 0).intxDis && (s.intxBit 0 || s.intxBit 1 || s.intxBit 2 || s.intxBit 3)

/-- INTA follows its causes (R406); while FROZEN or with the link down nothing is sent. -/
def State.intx (s : State) : State :=
  if s.ep.inta = s.intxLevel ∨ s.frozen ∨ s.epUp = false then s
  else
    let l := s.intxLevel
    State.emit { s with ep := { s.ep with inta := l } } (.pcie (.intx l))

/-- What goes on by itself once a command has had its effect: reads that may be issued, the solo record, a planned departure, a
reset that waits for its dump, a vault generation to retire. -/
def State.goesOn (s : State) : State := (((s.pumpReads 768).soloCheck).departCheck).dumpOver.vaultCheck

/-- The end of a step. `todo` is empty and no injection is under way between steps. -/
def State.settle (s : State) : State :=
  let t := (State.settleTodo settleBound s).goesOn
  let u := State.settleTodo settleBound (State.unstall (t.ep.stalled.length + 1) t)
  let v := u.intx
  { v with todo := [], ev := { v.ev with force := none } }

/-- The rail states of the bays. -/
def State.railStates (s : State) : List (Nat × RailSt × RailSt) := s.bayCh.map (fun e => (e.1, e.2.r12.st, e.2.r33.st))

/-- Whether a rail's row of `0x2010 pd` reads ON (R387). -/
def Rail.feeds (r : Rail) : Bool := r.st = .on || r.st = .limiting

/-- A rail's row of `0x2010 pd` follows the rail, and with it `pd.on_time` (R21, R387). -/
def State.railRow (s : State) (r : Nat) (on : Bool) : State :=
  if decide ((s.pdAt r).st = .on) = on then s else s.pdTo r (if on then .on else .off)

/-- The rail rows of `0x2010 pd` (Table 1-13). -/
def State.railRows (s : State) : State :=
  s.bayCh.foldl (fun t e => (t.railRow (44 + 2 * e.1) e.2.r12.feeds).railRow (45 + 2 * e.1) e.2.r33.feeds) s

/-- Grants are decided at every rail state change (R514); the rail rows of `0x2010 pd` follow. -/
def State.railsMoved (s t : State) : State := if s.railStates = t.railStates then t else t.railRows.grants

/-- A command: its effect, the grants a rail state change brings, the consequences. It always answers a next state, and the
queue is as it was. -/
def State.act (s : State) (f : State → State) : Host.Outcome State Fault Refusal :=
  .next { (s.railsMoved (f s)).settle with pending := s.pending }

/-- Fraction of a nanosecond, in units of 2^-32 ns, that the frequency adjustment adds to a core cycle (R15). -/
def Clk.step (c : Clk) : Int := 4294967296 + c.freqAdj * 65536 / 1000000

/-- A core cycle: the timebase advances by 1 ns and its adjustment, once it runs (R15); the Skamo die's time runs while VAUX is
within tolerance. -/
def State.tick (s : State) : State :=
  let c := s.clk
  let n := ((c.ns * 4294967296 + c.frac : Nat) : Int) + c.step
  let m := n.toNat
  { s with clk := { c with
      ns := if c.running then m / 4294967296 % 18446744073709551616 else c.ns
      frac := if c.running then m % 4294967296 else c.frac
      sk := if s.boot.vaux then c.sk + 1 else c.sk } }

end Sys2Proof.Machine
end

