-- ==== Sys2Proof/Machine/Cmd.lean ====
section
/-!
DEFINITION. Machine/Cmd.lean: what the meanings of the commands share: operands given their types, and the small effects that
one command or two have of their own.
-/

namespace Sys2Proof.Machine

/-- Blocks of a member or of a frame as a command carries them. -/
def blkArgs (l : List (Nat × Nat)) : List Blk := l.map (fun e => { data := e.1, pi := e.2 })

/-- Cells as the hoop takes them: column, row, the block or none where it could not be read. -/
def cellArgs (l : List Cell) : List (Nat × Nat × Option Blk) :=
  l.map (fun c => (c.col, c.row, if c.ok then some { data := c.data, pi := c.pi } else none))

/-- A write of `pd.request` takes effect at once and replaces a pending value (R22, R41). -/
def State.pdSet (s : State) (row v : Nat) : State × Nat :=
  let r := s.pdWrite row v
  (r.1.dropPend Obj.pdRequest row, r.2)

/-- A half-open session is discarded (R55). -/
def State.halfOpenEnd (s : State) (id : Nat) : State :=
  { s with rendi := { s.rendi with half := s.rendi.half.filter (fun x => x.id ≠ id) } }

/-- A session without an accepted request for `rendi.idle_timeout` closes (R58). -/
def State.idleEnd (s : State) (row : Nat) : State :=
  match Tbl.get none s.rendi.sessions row with
  | none => s
  | some x => if x.since + s.rw Obj.rendiIdleTimeout 0 * 1000000000 ≤ s.clk.ns then s.closeSession row else s

/-- The hold timer of a stripe has run out: its destage is triggered (R127, R128). -/
def State.holdOver (s : State) (k : SKey) : State :=
  match (s.stripe k).timer with
  | none => s
  | some t => if t + (s.stripe k).hold ≤ s.clk.ns then s.trigger k else s

/-- A CM REQ arrives (R226 to R228). -/
def State.cmReqIn (s : State) (k : Pkt) (q : CmReq) : State :=
  match s.frameIn k with
  | (t, true) => t.cmReq k q
  | (t, false) => t

/-- A REJ, or no RTU in time: a QP in CONNECTING goes to IDLE (Table 6-3). -/
def State.rejIn (s : State) (q : Nat) : State := if (s.qp q).st = .connecting then s.freeQp q else s

/-- A DREQ (Table 6-3): from CONNECTING to IDLE; an ACTIVE QP drains, and a DREP follows its drain. -/
def State.dreqIn (s : State) (q : Nat) : State :=
  match (s.qp q).st with
  | .connecting => s.freeQp q
  | .active => (s.updQp q (fun x => { x with dreq := true })).drainQp q
  | .draining => s.updQp q (fun x => { x with dreq := true })
  | .error => s.updQp q (fun x => { x with dreq := true })
  | _ => s

/-- Nothing of a DRAINING fence's scope is in flight any more (Table 8-3). -/
def State.fenDrainOver (s : State) (row : Nat) : State :=
  let f := Tbl.get {} s.fen.rows row
  if f.st = .draining ∧ s.scopeBusy f.scope f.id = false then s.fenReleased row else s

/-- A RELEASED row is UNUSED again after its time (Table 8-3). -/
def State.fenForget (s : State) (row : Nat) : State :=
  if (Tbl.get {} s.fen.rows row).st = .released then s.putFen row {} else s

/-- The presence pins of a bay move (R371); without VAUX only the pins do. -/
def State.presenceIn (s : State) (n : Nat) (a b : Bool) : State :=
  if s.boot.vaux then s.presence n a b
  else if n < s.bays then s.updBay n (fun x => { x with a := a, b := b })
  else s

/-- A WRITE of `bay.limit12` (subindex 6), `bay.limit33` (7) or `bay.fast_mult` (8) (R369, R396). -/
def State.limitWrite (s : State) (h : Hdr) (n sub v : Nat) : State :=
  if sub = 6 ∨ sub = 7 then s.writeReq h (0x300000 + sub) n (leBytes 2 v) (fun u _ w => u.bayLimitSet n sub w)
  else if sub = 8 then s.writeReq h 0x300008 n (leBytes 1 v) (fun u _ w => u.bayLimitSet n 8 w)
  else s

/-- `EP_PERST_N` falls: the endpoint resets and holds; it rises: the link may train (R492). -/
def State.perstIn (s : State) (low : Bool) : State :=
  let t := if low then s.epReset else s
  { t with ep := { t.ep with perst := low } }

/-- What a configuration write of a function does, where configuration requests are served (R485). -/
def State.ifCfg (s : State) (f : Nat) (go : State → State) : State :=
  if s.epUp && s.inS7 && s.fnThere f then go s else s

/-- A release of the endpoint's freeze: `ep.release`, or `EP_CONT_CTRL.RELEASE`, the one register write that acts while FROZEN
(R420). -/
def State.releaseIn_ (s : State) (h : Option Hdr) (clear : Bool) : State :=
  match h with
  | some h => s.actionReq h Obj.epRelease 0 1 true (fun u => u.epReleaseOp clear)
  | none => if s.epServes ∧ s.frozen then s.contRelease clear else s.posted (.containmentRelease none clear)

/-- A ring's fetch read returns its entries (R428). -/
def State.fetchIn (s : State) (id : Nat) (ents : List Nat) : State :=
  match s.issuedRead id with
  | none => s
  | some r =>
    match r.who with
    | .fetch g =>
      if r.dead then s.completion id r.fn 0 0
      else (s.endRead id).fetchedEnts g id ((List.range (r.len / 64)).map (fun i => ents.getD i 0 % 2 ^ 512))
    | _ => s

/-- A Shuttle channel's read returns its descriptor (R439). -/
def State.descIn (s : State) (id word : Nat) : State :=
  match s.issuedRead id with
  | none => s
  | some r =>
    match r.who with
    | .desc _ => s.completion id r.fn 0 word
    | _ => s

end Sys2Proof.Machine
end

