-- ==== Sys2Proof/Machine/CmdBay.lean ====
section
/-!
DEFINITION. Machine/CmdBay.lean: the meanings of the commands of a family, one definition each. Drive links, members and bay power (chapters 10 and 11).
-/

namespace Sys2Proof.Machine

/-- DRIVE_LINK_DOWN (R354): A bay link goes down and the root port enters containment. -/
def execDriveLinkDown (bay : Nat) (s : State) : Host.Outcome State Fault Refusal :=
  s.act (fun t => t.linkFail bay)

/-- DRIVE_UNCORRECTABLE_ERROR (R354): An uncorrectable error on a root port enters containment. -/
def execDriveUncorrectableError (bay : Nat) (s : State) : Host.Outcome State Fault Refusal :=
  s.act (fun t => t.linkFail bay)

/-- DRIVE_LINK_RECOVERED (R355): Retraining and controller re-enable succeed; reissued writes complete and containment ends.
-/
def execDriveLinkRecovered (bay speed width : Nat) (s : State) : Host.Outcome State Fault Refusal :=
  s.act (fun t => t.linkBack bay speed width)

/-- DRIVE_RECOVER_TIMEOUT (R355): dlink.recover_time passes without recovery and the member state decides. -/
def execDriveRecoverTimeout (bay : Nat) (partnerPath : Bool) (s : State) : Host.Outcome State Fault Refusal :=
  s.act (fun t => t.recoverTimeout bay partnerPath)

/-- DLINK_RETRAIN (R557): dlink.retrain restarts recovery, probes the bay or retrains the link. -/
def execDlinkRetrain (h : Hdr) (bay : Nat) (s : State) : Host.Outcome State Fault Refusal :=
  s.act (fun t => t.actionReq h Obj.dlinkRetrain bay 1 true (fun u => u.retrainOp bay))

/-- PERST_DEASSERT (R353): t_pvperl after both rails ON, BAYn_PERST_N is deasserted. -/
def execPerstDeassert (bay : Nat) (s : State) : Host.Outcome State Fault Refusal :=
  s.act (fun t => t.perstUp bay)

/-- DRIVE_LINK_UP (R351): A bay link trains and is checked against speed and width limits. -/
def execDriveLinkUp (bay speed width : Nat) (s : State) : Host.Outcome State Fault Refusal :=
  s.act (fun t => t.driveUp bay speed width)

/-- PROBE_DONE (R358): A probe finishes or fails and the member row takes its state under Table 10-3. -/
def execProbeDone (bay fail serial model capacity queues : Nat) (volatile : Bool) (array gen : Nat) (s : State) : Host.Outcome State Fault Refusal :=
  s.act (fun t => t.probeIn ⟨bay, fail, serial, model, capacity, queues, volatile, array, gen⟩)

/-- COMMAND_TIMEOUT (R359): A member I/O command times out; the device aborts, reissues or resets the controller. -/
def execCommandTimeout (tag : Nat) (s : State) : Host.Outcome State Fault Refusal :=
  s.act (fun t => t.cmdTimeout tag)

/-- ABORT_TIMEOUT (R359): An Abort unanswered after 1 s resets the member controller. -/
def execAbortTimeout (tag : Nat) (s : State) : Host.Outcome State Fault Refusal :=
  s.act (fun t => t.abortTimeout tag)

/-- CONTROLLER_FATAL_STATUS (R359): CSTS.CFS = 1 starts a controller reset. -/
def execControllerFatalStatus (bay : Nat) (s : State) : Host.Outcome State Fault Refusal :=
  s.act (fun t => t.ctrlReset bay)

/-- CONTROLLER_RESET_DONE (R359): A member controller reset completes and queues are recreated, or the reset fails. -/
def execControllerResetDone (bay : Nat) (ok : Bool) (s : State) : Host.Outcome State Fault Refusal :=
  s.act (fun t => t.resetDone bay ok)

/-- HEALTH_POLL (R360): Every arr.health_period the SMART log is read and failing criteria judged. -/
def execHealthPoll (bay warn pct media : Nat) (s : State) : Host.Outcome State Fault Refusal :=
  s.act (fun t => t.health bay warn pct media)

/-- MEMBER_ASYNC_EVENT (R360): A SMART asynchronous event from a member triggers a health read. -/
def execMemberAsyncEvent (bay warn pct media : Nat) (s : State) : Host.Outcome State Fault Refusal :=
  s.act (fun t => t.health bay warn pct media)

/-- MEMBER_TEMP_POLL (R360): Every second the member's composite temperature is read into mem.temp. -/
def execMemberTempPoll (bay temp : Nat) (s : State) : Host.Outcome State Fault Refusal :=
  s.act (fun t => t.memTemp bay temp)

/-- ABSENT_GRACE_EXPIRY (R361): arr.absent_grace expires; the bay is unbound and the position goes FAILED or ABSENT. -/
def execAbsentGraceExpiry (bay : Nat) (s : State) : Host.Outcome State Fault Refusal :=
  s.act (fun t => t.graceExpired bay)

/-- MEM_ASSIGN (R361): mem.assign binds a SPARE bay to a position. -/
def execMemAssign (h : Hdr) (bay arg : Nat) (s : State) : Host.Outcome State Fault Refusal :=
  s.act (fun t => t.actionReqS h Obj.memAssign bay arg (fun u => u.actAssign bay arg))

/-- MEM_RETIRE (R361): mem.retire retires a member directly or through proactive copy. -/
def execMemRetire (h : Hdr) (bay : Nat) (s : State) : Host.Outcome State Fault Refusal :=
  s.act (fun t => t.actionReq h Obj.memRetire bay 1 true (fun u => u.retire bay))

/-- MEM_CLEAR_FAILING (R361): mem.clear_failing returns a FAILING member to IN_SERVICE. -/
def execMemClearFailing (h : Hdr) (bay : Nat) (s : State) : Host.Outcome State Fault Refusal :=
  s.act (fun t => t.actionReq h Obj.memClearFailing bay 1 true (fun u => u.clearFailing bay))

/-- PRESENCE_CHANGE (R371): A bay presence pin changes level, starting or restarting debounce or removing power. -/
def execPresenceChange (bay : Nat) (aLow bLow : Bool) (s : State) : Host.Outcome State Fault Refusal :=
  s.act (fun t => t.presenceIn bay aLow bLow)

/-- DEBOUNCE_COMPLETE (R371): Both presence pins stayed low for bay.debounce and the bay waits for a grant. -/
def execDebounceComplete (bay : Nat) (s : State) : Host.Outcome State Fault Refusal :=
  s.act (fun t => t.debounced bay)

/-- PARTNER_RAMP_TIMEOUT (R373): 500 ms after the keeper's grant the other device ramps its path. -/
def execPartnerRampTimeout (bay : Nat) (s : State) : Host.Outcome State Fault Refusal :=
  s.act (fun t => t.partnerRampTimeout bay)

/-- RAIL_ON (R374): A rail meets the ON condition; 3.3 V ON starts the 12 V ramp. -/
def execRailOn (bay : Nat) (rail33 : Bool) (s : State) : Host.Outcome State Fault Refusal :=
  s.act (fun t => t.railOn bay rail33)

/-- RAMP_TIMEOUT (R374): A rail not ON within its ramp timeout trips with cause 4. -/
def execRampTimeout (bay : Nat) (rail33 : Bool) (cur src : Nat) (s : State) : Host.Outcome State Fault Refusal :=
  s.act (fun t => t.rampTimeout bay rail33 cur src)

/-- CURRENT_LIMIT_REACHED (R375): A rail's current reaches its limit and it enters LIMITING. -/
def execCurrentLimitReached (bay : Nat) (rail33 : Bool) (s : State) : Host.Outcome State Fault Refusal :=
  s.act (fun t => t.limitReached bay rail33)

/-- LIMIT_EXIT (R375): Current below 95 % of the limit for 100 µs returns the rail to ON or RAMPING. -/
def execLimitExit (bay : Nat) (rail33 : Bool) (s : State) : Host.Outcome State Fault Refusal :=
  s.act (fun t => t.limitExit bay rail33)

/-- FAULT_TIMER_EXPIRY (R376): The fault timer reaches bay.ftimer and the rail trips with cause 1. -/
def execFaultTimerExpiry (bay : Nat) (rail33 : Bool) (cur src : Nat) (s : State) : Host.Outcome State Fault Refusal :=
  s.act (fun t => t.faultTimer bay rail33 cur src)

/-- FAST_TRIP (R377): Current above the fast-trip level trips the rail with cause 2. -/
def execFastTrip (bay : Nat) (rail33 : Bool) (cur src : Nat) (s : State) : Host.Outcome State Fault Refusal :=
  s.act (fun t => t.fastTrip bay rail33 cur src)

/-- SRC_DISCHARGED (R378): SRC falls below 0.8 V and the bay moves to RETRY_WAIT, LOCKED_OUT or the next off step. -/
def execSrcDischarged (bay : Nat) (both : Bool) (s : State) : Host.Outcome State Fault Refusal :=
  s.act (fun t => t.srcDown bay both)

/-- RETRY_TIMER_EXPIRY (R381): bay.retry_time after RETRY_WAIT entry the bay ramps, seats or goes OFF. -/
def execRetryTimerExpiry (bay : Nat) (s : State) : Host.Outcome State Fault Refusal :=
  s.act (fun t => t.retryExpired bay)

/-- GOOD_TIME_EXPIRY (R379): Both rails ON for bay.good_time resets the fault count. -/
def execGoodTimeExpiry (bay : Nat) (s : State) : Host.Outcome State Fault Refusal :=
  s.act (fun t => t.goodTime bay)

/-- PASS_ELEMENT_FAULT (R382): SRC above 0.8 V for 2 ms while commanded off locks the bay out with cause 3. -/
def execPassElementFault (bay : Nat) (rail33 : Bool) (cur src : Nat) (s : State) : Host.Outcome State Fault Refusal :=
  s.act (fun t => t.passFault bay rail33 cur src)

/-- ORING_REVERSE (R383): VOUT above SRC by 10 mV turns Q2 off within 0.5 µs. -/
def execOringReverse (bay : Nat) (rail33 : Bool) (s : State) : Host.Outcome State Fault Refusal :=
  s.act (fun t => t.orReverse bay rail33)

/-- ORING_DROP_HIGH (R383): ORing drop above 300 mV at over 1 A for 10 ms raises a cause 7 event. -/
def execOringDropHigh (bay : Nat) (rail33 : Bool) (cur src : Nat) (s : State) : Host.Outcome State Fault Refusal :=
  s.act (fun t => t.orDrop bay rail33 cur src)

/-- BAY_ENABLE_WRITE (R384): A write of bay.enable turns a bay off in sequence or starts debounce. -/
def execBayEnableWrite (h : Hdr) (bay value : Nat) (s : State) : Host.Outcome State Fault Refusal :=
  s.act (fun t => t.writeReq h Obj.bayEnable bay [value % 256] (fun u _ v => u.bayEnableSet bay v))

/-- PERST_OFF_WAIT_EXPIRY (R384): t_perl after BAYn_PERST_N asserts for a commanded off, the 12 V rail turns off. -/
def execPerstOffWaitExpiry (bay : Nat) (s : State) : Host.Outcome State Fault Refusal :=
  s.act (fun t => t.offWait bay)

/-- BAY_LIMIT_WRITE (R396): A write of a rail limit or fast multiple is checked against R369 and applied. -/
def execBayLimitWrite (h : Hdr) (bay sub value : Nat) (s : State) : Host.Outcome State Fault Refusal :=
  s.act (fun t => t.limitWrite h bay sub value)

/-- BAY_CLEAR (R379): bay.clear zeroes the fault count and leaves LOCKED_OUT if SRC is low. -/
def execBayClear (h : Hdr) (bay : Nat) (s : State) : Host.Outcome State Fault Refusal :=
  s.act (fun t => t.actionReq h Obj.bayClear bay 1 true (fun u => u.bayClearOp bay))

/-- SHUNT_CALIBRATION (R392): bay.cal12 or bay.cal33 starts averaging a known current for 1 s. -/
def execShuntCalibration (h : Hdr) (bay : Nat) (rail33 : Bool) (known : Nat) (s : State) : Host.Outcome State Fault Refusal :=
  s.act (fun t => t.actionReqS h (if rail33 then Obj.bayCal33 else Obj.bayCal12) bay known (fun u => u.actCal bay known rail33))

/-- SHUNT_CALIBRATION_DONE (R392): The calibration second ends and the gain is written or the action fails. -/
def execShuntCalibrationDone (bay : Nat) (rail33 : Bool) (measured : Nat) (varied : Bool) (s : State) : Host.Outcome State Fault Refusal :=
  s.act (fun t => t.calDone bay rail33 measured varied)

/-- MEASUREMENT_SAMPLE (R393): Each 62.5 µs Skamo sample adds V × I to the rail's energy accumulator, counts in bay.samples
and closes 1 ms and 1 s windows. -/
def execMeasurementSample (bay : Nat) (i12 : Int) (v12 : Nat) (i33 : Int) (v33 src12 src33 : Nat) (s : State) : Host.Outcome State Fault Refusal :=
  s.act (fun t => t.measure bay i12 v12 i33 v33 src12 src33)

end Sys2Proof.Machine
end

