-- ==== Sys2Proof/Machine/CmdBoot.lean ====
section
/-!
DEFINITION. Machine/CmdBoot.lean: the meanings of the commands of a family, one definition each. Bring-up, resets, firmware, policy loops and injection (chapters 15 and 16).
-/

namespace Sys2Proof.Machine

/-- VAUX_UNDERVOLTAGE (R385): VAUX below 1.6 V resets the Skamo die with every rail OFF. -/
def execVauxUndervoltage (s : State) : Host.Outcome State Fault Refusal :=
  s.act (fun t => t.vauxLow)

/-- POLL_SILENCE_TIMEOUT (R517): 100 ms without a main-die poll stops new ramps on the Skamo die. -/
def execPollSilenceTimeout (s : State) : Host.Outcome State Fault Refusal :=
  s.act (fun t => t.pollSilent)

/-- SAFETY_PASS (R504): Every 10 ms the rank 1 pass runs the thermal and power loops and bay grant decisions. -/
def execSafetyPass (sensors : List Int) (watts : Nat) (hot : Bool) (idle : List Nat) (busyEngines busyGroups : Bool) (s : State) : Host.Outcome State Fault Refusal :=
  s.act (fun t => t.safetyPass sensors watts hot idle busyEngines busyGroups)

/-- VAUX_POWER_ON (R480): VAUX within tolerance brings the Skamo die to S0. -/
def execVauxPowerOn (s : State) : Host.Outcome State Fault Refusal :=
  s.act (fun t => t.vauxOn)

/-- PWRON_RST_ASSERT (R488): PWRON_RST_N low holds the main die in cold reset. -/
def execPwronRstAssert (s : State) : Host.Outcome State Fault Refusal :=
  s.act (fun t => t.pwronLow)

/-- PWRON_RST_DEASSERT (R481): PWRON_RST_N deasserted starts bring-up at S1. -/
def execPwronRstDeassert (s : State) : Host.Outcome State Fault Refusal :=
  s.act (fun t => t.pwronHigh)

/-- WARM_RST_EDGE (R489): A WARM_RST_N falling edge requests a warm reset. -/
def execWarmRstEdge (s : State) : Host.Outcome State Fault Refusal :=
  s.act (fun t => t.warmEdge)

/-- STAGE_COMPLETE (R481): A bring-up stage completes and the next stage starts, or bring-up halts. -/
def execStageComplete (fail : Nat) (f : StageArg) (s : State) : Host.Outcome State Fault Refusal :=
  s.act (fun t => t.stageDone fail f)

/-- S6_LIMIT_EXPIRY (R483): boot.s6_limit passes and S6 completes with unsettled bays. -/
def execS6LimitExpiry (s : State) : Host.Outcome State Fault Refusal :=
  s.act (fun t => t.s6Limit)

/-- MGMT_LINK_UP (R485): A management port link comes up and mport.link reads 1, so Rendi and skein traffic can flow on it. -/
def execMgmtLinkUp (port : Nat) (s : State) : Host.Outcome State Fault Refusal :=
  s.act (fun t => t.mgmtUp port)

/-- BOOT_RESET_COLD (R489): boot.reset argument 1 drains, dumps and cold resets. -/
def execBootResetCold (h : Hdr) (s : State) : Host.Outcome State Fault Refusal :=
  s.act (fun t => t.actionReq h Obj.bootReset 0 1 true (fun u => u.bootReset true))

/-- BOOT_RESET_WARM (R489): boot.reset argument 2 drains and warm resets with retention. -/
def execBootResetWarm (h : Hdr) (s : State) : Host.Outcome State Fault Refusal :=
  s.act (fun t => t.actionReq h Obj.bootReset 0 2 true (fun u => u.bootReset false))

/-- PRE_RESET_DRAIN_DONE (R489): The pre-reset destage ends or 100 ms pass and the reset sequence continues. -/
def execPreResetDrainDone (s : State) : Host.Outcome State Fault Refusal :=
  s.act (fun t => t.drainOver)

/-- BOOT_DOMAIN_RESET (R491): boot.domain_reset drains, resets and wakes one internal domain. -/
def execBootDomainReset (h : Hdr) (row : Nat) (s : State) : Host.Outcome State Fault Refusal :=
  s.act (fun t => t.actionReqS h Obj.bootDomainReset 0 row (fun u => u.domainReset row))

/-- BOOT_DEPART (R499): boot.depart starts a planned departure. -/
def execBootDepart (h : Hdr) (arg : Nat) (s : State) : Host.Outcome State Fault Refusal :=
  s.act (fun t => t.actionReqS h Obj.bootDepart 0 arg (fun u => u.actDepart arg))

/-- DEPART_GRACE_EXPIRY (R499): boot.depart_grace passes; ports go down and the chosen reset follows. -/
def execDepartGraceExpiry (s : State) : Host.Outcome State Fault Refusal :=
  s.act (fun t => t.departEnd)

/-- FWU_BEGIN (R495): fwu.begin erases the inactive firmware slot. -/
def execFwuBegin (h : Hdr) (s : State) : Host.Outcome State Fault Refusal :=
  s.act (fun t => t.actionReq h Obj.fwuBegin 0 1 true State.fwuBegin)

/-- FWU_ERASE_DONE (R495): The slot erase completes and waiting data writes proceed. -/
def execFwuEraseDone (s : State) : Host.Outcome State Fault Refusal :=
  s.act (fun t => t.eraseDone)

/-- FWU_DATA (R503): A write of fwu.data stores image bytes at fwu.offset. -/
def execFwuData (h : Hdr) (value : Bytes) (s : State) : Host.Outcome State Fault Refusal :=
  s.act (fun t => t.writeMsg h [itemFor Obj.fwuData 0 value])

/-- FWU_VERIFY (R493): fwu.verify applies the six image checks to the inactive slot. -/
def execFwuVerify (h : Hdr) (hashOk sigOk digestOk : Bool) (s : State) : Host.Outcome State Fault Refusal :=
  s.act (fun t => t.actionReq h Obj.fwuVerify 0 1 true (fun u => u.fwuVerify hashOk sigOk digestOk))

/-- FWU_ACTIVATE (R495): fwu.activate marks the verified slot as trial for the next bring-up. -/
def execFwuActivate (h : Hdr) (s : State) : Host.Outcome State Fault Refusal :=
  s.act (fun t => t.actionReq h Obj.fwuActivate 0 1 true State.fwuActivate)

/-- FWU_CONFIRM (R495): fwu.confirm makes the running trial image the active slot. -/
def execFwuConfirm (h : Hdr) (s : State) : Host.Outcome State Fault Refusal :=
  s.act (fun t => t.actionReq h Obj.fwuConfirm 0 1 true State.fwuConfirm)

/-- FWU_TRIAL_CONFIRM_EXPIRY (R495): fwu.trial_confirm seconds at S7 confirm the trial image automatically. -/
def execFwuTrialConfirmExpiry (s : State) : Host.Outcome State Fault Refusal :=
  s.act (fun t => t.fwuTrialOver)

/-- FWU_RAISE_SVN (R497): fwu.raise_svn raises the OTP minimum security version. -/
def execFwuRaiseSvn (h : Hdr) (cells : Bool) (s : State) : Host.Outcome State Fault Refusal :=
  s.act (fun t => t.actionReq h Obj.fwuRaiseSvn 0 1 true (fun u => u.fwuRaise cells))

/-- WATCHDOG_EXPIRY (R515): A core watchdog expires; the core restarts or a second expiry warm resets. -/
def execWatchdogExpiry (core : Nat) (s : State) : Host.Outcome State Fault Refusal :=
  s.act (fun t => t.watchdog core)

/-- SAFETY_DEADLINE_EXPIRY (R516): 100 ms without a rank 1 pass forces L = 8. -/
def execSafetyDeadlineExpiry (s : State) : Host.Outcome State Fault Refusal :=
  s.act (fun t => t.deadline)

/-- TELEMETRY_PASS (R505): Every 1 ms rank 6 updates percentiles, rates and means. -/
def execTelemetryPass (loads : List Nat) (lag : Nat) (flushP99 readP99 : Nat) (s : State) : Host.Outcome State Fault Refusal :=
  s.act (fun t => t.telemetry loads lag flushP99 readP99)

/-- INJECTION (R527): An injection point action checks and sets its first occurrence. -/
def execInjection (h : Hdr) (det row n : Nat) (s : State) : Host.Outcome State Fault Refusal :=
  s.act (fun t => t.actionReqS h (injCode det) row n (fun u => u.actInject det row n))

/-- INJECTION_OCCURRENCE (R527): inj.spacing after the last, the next injected occurrence is checked and set. -/
def execInjectionOccurrence (det row : Nat) (s : State) : Host.Outcome State Fault Refusal :=
  s.act (fun t => t.injNext det row)

end Sys2Proof.Machine
end

