-- ==== Sys2Proof/Machine/CmdDict.lean ====
section
/-!
DEFINITION. Machine/CmdDict.lean: the meanings of the commands of a family, one definition each. The Pricking and Rendi (chapters 1 and 2), clocks, power domains and detectors.
-/

namespace Sys2Proof.Machine

/-- PD_REQUEST (R22): A write of pd.request to an internal power domain row requests it on or off under Table 1-14. -/
def execPdRequest (h : Hdr) (row value : Nat) (s : State) : Host.Outcome State Fault Refusal :=
  s.act (fun t => t.writeReq h Obj.pdRequest row [value % 256] (fun u _ v => u.pdSet row v))

/-- DOMAIN_READY (R22): A WAKING domain becomes ready and goes ON, opening fabric port and work admission. -/
def execDomainReady (row : Nat) (s : State) : Host.Outcome State Fault Refusal :=
  s.act (fun t => t.domainReady row)

/-- DOMAIN_DRAIN_DONE (R22): A DRAINING domain has no work in flight, opens its switch and goes OFF. -/
def execDomainDrainDone (row : Nat) (s : State) : Host.Outcome State Fault Refusal :=
  s.act (fun t => t.domainDrained row)

/-- DOMAIN_DRAIN_TIMEOUT (R22): After 100 ms of draining with work in flight, the off request is refused and the domain
returns to ON. -/
def execDomainDrainTimeout (row : Nat) (s : State) : Host.Outcome State Fault Refusal :=
  s.act (fun t => t.domainStuck row)

/-- PTP_SYNC (R16): A PTP Sync message received on the chosen port disciplines the timebase. -/
def execPtpSync (port domain transport : Nat) (offset : Int) (s : State) : Host.Outcome State Fault Refusal :=
  s.act (fun t => t.ptpSync port domain transport offset)

/-- PTP_LOCK_LOST (R18): No valid Sync for t_lock declares loss of lock; the counter keeps its last adjustment and an event is
raised. -/
def execPtpLockLost (s : State) : Host.Outcome State Fault Refusal :=
  s.act (fun t => t.ptpLost)

/-- DETECTION (R519): A detector senses a fault condition, counts it, engages its fence and writes an event record. -/
def execDetection (det stype scope detail : Nat) (s : State) : Host.Outcome State Fault Refusal :=
  s.act (fun t => t.detection det stype scope detail)

/-- NOTIFY_TIMER_EXPIRY (R64): 1 ms after the first unsent record, a notification is sent with the records ready. -/
def execNotifyTimerExpiry (sub : Nat) (s : State) : Host.Outcome State Fault Refusal :=
  s.act (fun t => t.sendNtf sub)

/-- COALESCE_WINDOW_EXPIRY (R522): At the end of the evt.coalesce window one record with ACT 7 reports the suppressed repeats.
-/
def execCoalesceWindowExpiry (det stype scope : Nat) (s : State) : Host.Outcome State Fault Refusal :=
  s.act (fun t => t.coalesceEnd det stype scope)

/-- HELLO (R55): A HELLO request opens a half-open session and returns the device nonce and session identifier. -/
def execHello (h : Hdr) (slot level : Nat) (nonce : Bytes) (s : State) : Host.Outcome State Fault Refusal :=
  s.act (fun t => t.helloOp h slot level nonce)

/-- OPEN (R55): An OPEN request completes session setup and grants the lower of the requested level and key.level. -/
def execOpenReq (h : Hdr) (s : State) : Host.Outcome State Fault Refusal :=
  s.act (fun t => t.openOp h)

/-- CLOSE (R58): A CLOSE request closes the session and removes its subscriptions. -/
def execCloseReq (h : Hdr) (s : State) : Host.Outcome State Fault Refusal :=
  s.act (fun t => t.closeMsg h)

/-- READ (R53): A READ request returns the value of every item, or pending values with the PENDING flag. -/
def execReadReq (h : Hdr) (items : List Item) (s : State) : Host.Outcome State Fault Refusal :=
  s.act (fun t => t.readMsg h items)

/-- WRITE (R53): A WRITE request writes objects without behaviour of their own, stopping at the first failing item. -/
def execWriteReq (h : Hdr) (items : List Item) (s : State) : Host.Outcome State Fault Refusal :=
  s.act (fun t => t.writeMsg h items)

/-- COMMIT (R42): A COMMIT snapshots and validates pending values and starts writing the image to the inactive slot. -/
def execCommitReq (h : Hdr) (s : State) : Host.Outcome State Fault Refusal :=
  s.act (fun t => t.commitMsg h)

/-- COMMIT_WRITE_DONE (R42): The image write completes; the digest is checked, the slot marked valid, pending RWC values
applied and OK sent. -/
def execCommitWriteDone (ok : Bool) (s : State) : Host.Outcome State Fault Refusal :=
  s.act (fun t => t.commitDone ok)

/-- SUBSCRIBE (R63): A SUBSCRIBE request creates a subscription for the selected detector groups and scope types. -/
def execSubscribe (h : Hdr) (groups scopes start : Nat) (s : State) : Host.Outcome State Fault Refusal :=
  s.act (fun t => t.subscribeMsg h groups scopes start)

/-- UNSUBSCRIBE (R63): An UNSUBSCRIBE request removes a subscription. -/
def execUnsubscribe (h : Hdr) (sub : Nat) (s : State) : Host.Outcome State Fault Refusal :=
  s.act (fun t => t.unsubscribeMsg h sub)

/-- HALF_OPEN_EXPIRY (R55): A half-open session not opened within 1 s is discarded. -/
def execHalfOpenExpiry (id : Nat) (s : State) : Host.Outcome State Fault Refusal :=
  s.act (fun t => t.halfOpenEnd id)

/-- SESSION_IDLE_TIMEOUT (R58): A session without an accepted request for rendi.idle_timeout is closed. -/
def execSessionIdleTimeout (row : Nat) (s : State) : Host.Outcome State Fault Refusal :=
  s.act (fun t => t.idleEnd row)

/-- DICT_RESTORE_DISCARD (R48): dict.restore argument 1 discards all pending values. -/
def execDictRestoreDiscard (h : Hdr) (s : State) : Host.Outcome State Fault Refusal :=
  s.act (fun t => t.actionReq h Obj.dictRestore 0 1 true State.restoreDiscard)

/-- DICT_RESTORE_FACTORY (R48): dict.restore argument 2 sets factory defaults as pending values except keys and management
ports. -/
def execDictRestoreFactory (h : Hdr) (s : State) : Host.Outcome State Fault Refusal :=
  s.act (fun t => t.actionReq h Obj.dictRestore 0 2 true State.restoreFactory)

/-- DICT_RESTORE_SLOT (R48): dict.restore argument 3 sets the inactive slot's image values as pending values. -/
def execDictRestoreSlot (h : Hdr) (s : State) : Host.Outcome State Fault Refusal :=
  s.act (fun t => t.actionReq h Obj.dictRestore 0 3 true State.restoreSlot)

/-- DICT_RESTORE_ALL (R48): dict.restore_all sets factory defaults for every P object, including keys and management ports, as
pending values. -/
def execDictRestoreAll (h : Hdr) (s : State) : Host.Outcome State Fault Refusal :=
  s.act (fun t => t.actionReq h Obj.dictRestoreAll 0 1 true State.restoreAll)

/-- SESS_CLOSE (R58): The sess.close action closes the session in its row. -/
def execSessClose (h : Hdr) (row : Nat) (s : State) : Host.Outcome State Fault Refusal :=
  s.act (fun t => t.actionReq h Obj.sessClose row 1 true (fun u => u.sessCloseOp row))

/-- KEY_VALUE_WRITE (R59): A wrapped key written to key.value is unwrapped and stored, closing sessions on the row. -/
def execKeyValueWrite (h : Hdr) (row : Nat) (value : Bytes) (s : State) : Host.Outcome State Fault Refusal :=
  s.act (fun t => t.writeReq h Obj.keyValue row value (fun u x v => u.keySet x row v))

/-- KEY_LEVEL_WRITE (R58): A write of key.level changes the slot's level and closes sessions on the row. -/
def execKeyLevelWrite (h : Hdr) (row level : Nat) (s : State) : Host.Outcome State Fault Refusal :=
  s.act (fun t => t.writeReq h Obj.keyLevel row [level % 256] (fun u _ v => u.keyLevelSet row v))

/-- MAILBOX_GO (R69): Setting EP_MBX_CTRL.GO submits the request buffer to the device. -/
def execMailboxGo (queued : Nat) (s : State) : Host.Outcome State Fault Refusal :=
  s.act (fun t => t.posted (.mailboxGo queued))

/-- MAILBOX_RSP_CLEAR (R69): Clearing RSP_VALID frees the response buffer and lets the next request proceed. -/
def execMailboxRspClear (s : State) : Host.Outcome State Fault Refusal :=
  s.act (fun t => t.posted .mailboxRspClear)

/-- MAILBOX_NTF_CLEAR (R69): Clearing NTF_VALID frees the notification buffer for the next notification. -/
def execMailboxNtfClear (s : State) : Host.Outcome State Fault Refusal :=
  s.act (fun t => t.posted .mailboxNtfClear)

/-- REGISTER_WRITE (R6): A write to a BAR register field that has no behaviour of its own stores the value. -/
def execRegisterWrite (func off : Nat) (value : BitVec 32) (s : State) : Host.Outcome State Fault Refusal :=
  s.act (fun t => t.posted (.registerWrite func off value))

/-- SMB_READ_STAGE (R70): SMBus command 0x00 returns the stage, halt and alert byte from hardware. -/
def execSmbReadStage (s : State) : Host.Outcome State Fault Refusal :=
  s.act (fun t => if t.boot.vaux then t.smbStage else t)

/-- SMB_READ_IDENTITY (R70): SMBus command 0x01 returns part, stepping and firmware version. -/
def execSmbReadIdentity (s : State) : Host.Outcome State Fault Refusal :=
  s.act (fun t => t.smbIdentity)

/-- SMB_READ_EVENTS (R70): SMBus command 0x02 returns and clears the event summary. -/
def execSmbReadEvents (s : State) : Host.Outcome State Fault Refusal :=
  s.act (fun t => t.smbEvents)

/-- SMB_SELECT_OBJECT (R71): SMBus command 0x10 selects a dictionary object for later reads. -/
def execSmbSelectObject (idx sub flags row : Nat) (pecBad : Bool) (s : State) : Host.Outcome State Fault Refusal :=
  s.act (fun t => t.smbSelect idx sub flags row pecBad)

/-- SMB_READ_OBJECT (R70): SMBus command 0x11 returns the status and value of the selected object. -/
def execSmbReadObject (s : State) : Host.Outcome State Fault Refusal :=
  s.act (fun t => t.smbObject)

/-- SMB_ALERT_RESPONSE (R71): A read of the Alert Response Address is answered with the device address. -/
def execSmbAlertResponse (s : State) : Host.Outcome State Fault Refusal :=
  s.act (fun t => t.smbAlert)

end Sys2Proof.Machine
end

