-- ==== Sys2Proof/Machine/CmdEp.lean ====
section
/-!
DEFINITION. Machine/CmdEp.lean: the meanings of the commands of a family, one definition each. The endpoint, work rings and the Shuttle (chapters 12 and 13).
-/

namespace Sys2Proof.Machine

/-- EP_PERST (R492): EP_PERST_N asserted resets the endpoint only. -/
def execEpPerst (low : Bool) (s : State) : Host.Outcome State Fault Refusal :=
  s.act (fun t => t.perstIn low)

/-- HOT_RESET (R492): A hot reset resets the endpoint and its configuration space. -/
def execHotReset (s : State) : Host.Outcome State Fault Refusal :=
  s.act (fun t => t.epReset)

/-- EP_LINK_DOWN (R492): The endpoint link goes down, resetting the endpoint. -/
def execEpLinkDown (s : State) : Host.Outcome State Fault Refusal :=
  s.act (fun t => t.epReset)

/-- ENDPOINT_LINK_UP (R397): The endpoint link trains and reports ep.link_speed and ep.link_width. -/
def execEndpointLinkUp (speed width : Nat) (s : State) : Host.Outcome State Fault Refusal :=
  s.act (fun t => t.epLink speed width)

/-- CONFIG_REQUEST (R485): A configuration request is served, or answered with Retry Status before S7. -/
def execConfigRequest (fn : Nat) (f : CfgField) (w : Option Nat) (s : State) : Host.Outcome State Fault Refusal :=
  s.act (fun t => t.cfgRequest fn f w)

/-- FUNCTION_LEVEL_RESET (R416): An FLR clears the function's rings, channels, windows and MSI-X state. -/
def execFunctionLevelReset (fn : Nat) (s : State) : Host.Outcome State Fault Refusal :=
  s.act (fun t => t.ifCfg fn (fun u => u.flr fn))

/-- BME_CLEAR (R416): Clearing bus-master enable stops the function's rings and channels and holds completions. -/
def execBmeClear (fn : Nat) (s : State) : Host.Outcome State Fault Refusal :=
  s.act (fun t => t.ifCfg fn (fun u => u.bmeClear fn))

/-- D3HOT_ENTRY (R399): Entry to D3hot acts as clearing bus-master enable. -/
def execD3hotEntry (fn : Nat) (s : State) : Host.Outcome State Fault Refusal :=
  s.act (fun t => t.ifCfg fn (fun u => u.d3Entry fn))

/-- FN_RESUME (R417): EP_FN_CTRL.RESUME writes held completions and resumes fetch. -/
def execFnResume (fn : Nat) (s : State) : Host.Outcome State Fault Refusal :=
  s.act (fun t => t.posted (.fnResume fn))

/-- CONTAINMENT_RELEASE (R420): EP_CONT_CTRL.RELEASE or ep.release requests release of the endpoint freeze. -/
def execContainmentRelease (h : Option Hdr) (clear : Bool) (s : State) : Host.Outcome State Fault Refusal :=
  s.act (fun t => t.releaseIn_ h clear)

/-- MSIX_UNMASK (R405): Unmasking a vector sends its pending message. -/
def execMsixUnmask (fn vec : Nat) (s : State) : Host.Outcome State Fault Refusal :=
  s.act (fun t => t.posted (.msixUnmask fn vec))

/-- PEER_WRITE (R408): A BAR2 write TLP is translated through its window and checked against the eyelet. -/
def execPeerWrite (reqid off len data : Nat) (ro poison : Bool) (s : State) : Host.Outcome State Fault Refusal :=
  s.act (fun t => t.posted (.peerWrite reqid off len data ro poison))

/-- PEER_READ (R413): A BAR2 read waits for earlier writes of its Requester ID to be placed and durable. -/
def execPeerRead (reqid tag off len : Nat) (ro : Bool) (s : State) : Host.Outcome State Fault Refusal :=
  s.act (fun t => t.nonPosted (.peerRead reqid tag off len ro) reqid tag len ro)

/-- WINDOW_COMMIT (R411): EP_WIN_COMMIT.GO checks the shadow and activates it at one update point. -/
def execWindowCommit (w : Nat) (s : State) : Host.Outcome State Fault Refusal :=
  s.act (fun t => t.posted (.windowCommit w))

/-- WINDOW_UPDATE_POINT (R411): At most 2 µs after GO, the peer window shadow becomes active, GEN rises, BUSY clears and
stalled TLPs are translated under the new generation. -/
def execWindowUpdatePoint (w : Nat) (s : State) : Host.Outcome State Fault Refusal :=
  s.act (fun t => t.winUpdate w)

/-- PCIE_COMPLETION (R416): A completion TLP for an endpoint read arrives and is delivered or discarded. -/
def execPcieCompletion (id fn status data : Nat) (s : State) : Host.Outcome State Fault Refusal :=
  s.act (fun t => t.completion id fn status data)

/-- COMPLETION_TIMEOUT (R419): An endpoint read times out; its entry fails and the ring or channel fence engages. -/
def execCompletionTimeout (id : Nat) (s : State) : Host.Outcome State Fault Refusal :=
  s.act (fun t => t.readTimeout id)

/-- RING_DB (R432): A doorbell write makes a RUNNING ring active for fetch. -/
def execRingDb (fn loc : Nat) (s : State) : Host.Outcome State Fault Refusal :=
  s.act (fun t => t.posted (.ringDb fn loc))

/-- RING_FETCH_TURN (R433): An active ring takes its arbitration turn and issues a fetch read. -/
def execRingFetchTurn (s : State) : Host.Outcome State Fault Refusal :=
  s.act (fun t => t.fetchTurn)

/-- RING_FETCH_DONE (R428): Fetched entries are checked for ownership, lap and form, and complete jobs start. -/
def execRingFetchDone (id : Nat) (ents : List Nat) (s : State) : Host.Outcome State Fault Refusal :=
  s.act (fun t => t.fetchIn id ents)

/-- NOP (R425): A NOP job completes at fetch. -/
def execNop (r idx : Nat) (s : State) : Host.Outcome State Fault Refusal :=
  s.act (fun t => t.ringNop r idx)

/-- NS_READ (R425): An NS_READ job reads namespace blocks into host memory. -/
def execNsRead (r idx : Nat) (s : State) : Host.Outcome State Fault Refusal :=
  s.act (fun t => t.ringNsRead r idx)

/-- NS_WRITE (R425): An NS_WRITE job writes host data to a namespace durably. -/
def execNsWrite (r idx : Nat) (s : State) : Host.Outcome State Fault Refusal :=
  s.act (fun t => t.ringNsWrite r idx)

/-- EYE_READ (R425): An EYE_READ job reads an eyelet into host memory. -/
def execEyeRead (r idx : Nat) (s : State) : Host.Outcome State Fault Refusal :=
  s.act (fun t => t.ringEyeRead r idx)

/-- EYE_WRITE (R425): An EYE_WRITE job writes host data into an eyelet. -/
def execEyeWrite (r idx : Nat) (s : State) : Host.Outcome State Fault Refusal :=
  s.act (fun t => t.ringEyeWrite r idx)

/-- EYE_FLUSH (R425): An EYE_FLUSH job completes once earlier EYE_WRITEs are placed and durable. -/
def execEyeFlush (r idx : Nat) (s : State) : Host.Outcome State Fault Refusal :=
  s.act (fun t => t.ringFlush r idx)

/-- RING_JOB_COMPLETE (R430): A finished job's completion is written back, in order for strict jobs. -/
def execRingJobComplete (r idx : Nat) (s : State) : Host.Outcome State Fault Refusal :=
  s.act (fun t => t.jobComplete r idx)

/-- RING_ENABLE (R438): RING_CTRL.EN = 1 checks the ring configuration and starts it. -/
def execRingEnable (fn loc value : Nat) (s : State) : Host.Outcome State Fault Refusal :=
  s.act (fun t => t.posted (.ringEnable fn loc value))

/-- RING_DISABLE (R438): RING_CTRL.EN = 0 stops fetch and disables the ring. -/
def execRingDisable (fn loc value : Nat) (s : State) : Host.Outcome State Fault Refusal :=
  s.act (fun t => t.posted (.ringDisable fn loc value))

/-- RING_RESTART (R435): RING_CTRL.RESTART returns a STOPPED_ERR ring to RUNNING at the latched index. -/
def execRingRestart (fn loc value : Nat) (s : State) : Host.Outcome State Fault Refusal :=
  s.act (fun t => t.posted (.ringRestart fn loc value))

/-- IRQ_HOLDOFF_EXPIRY (R437): The ring's holdoff ends and a pending interrupt may be signalled again. -/
def execIrqHoldoffExpiry (r : Nat) (s : State) : Host.Outcome State Fault Refusal :=
  s.act (fun t => t.holdoffOver r)

/-- SHUTTLE_ENQUEUE (R448): A write of SHTL_ENQ_HI enqueues a descriptor list. -/
def execShuttleEnqueue (fn c value : Nat) (s : State) : Host.Outcome State Fault Refusal :=
  s.act (fun t => t.posted (.shuttleEnqueue fn c value))

/-- SHUTTLE_GO (R448): SHTL_CTRL.GO resumes a STOPPED channel. -/
def execShuttleGo (fn c : Nat) (s : State) : Host.Outcome State Fault Refusal :=
  s.act (fun t => t.posted (.shuttleGo fn c))

/-- SHUTTLE_STOP (R448): SHTL_CTRL.STOP stops the channel at the next descriptor boundary. -/
def execShuttleStop (fn c : Nat) (s : State) : Host.Outcome State Fault Refusal :=
  s.act (fun t => t.posted (.shuttleStop fn c))

/-- SHUTTLE_RESET (R448): SHTL_CTRL.RESET returns the channel to IDLE, clearing the FIFO and held record. -/
def execShuttleReset (fn c : Nat) (s : State) : Host.Outcome State Fault Refusal :=
  s.act (fun t => t.posted (.shuttleReset fn c))

/-- SHUTTLE_CQ_HEAD (R445): A write of SHTL_CQ_HEAD frees queue room and writes a held record. -/
def execShuttleCqHead (fn c value : Nat) (s : State) : Host.Outcome State Fault Refusal :=
  s.act (fun t => t.posted (.shuttleCqHead fn c value))

/-- SHUTTLE_DESCRIPTOR_FETCHED (R439): A descriptor read completes and the descriptor starts after its checks. -/
def execShuttleDescriptorFetched (id word : Nat) (s : State) : Host.Outcome State Fault Refusal :=
  s.act (fun t => t.descIn id word)

/-- SHUTTLE_DESCRIPTOR_DONE (R442): A descriptor's writes are issued or acknowledged and its record is written. -/
def execShuttleDescriptorDone (c : Nat) (s : State) : Host.Outcome State Fault Refusal :=
  s.act (fun t => t.shDone c)

end Sys2Proof.Machine
end

