-- ==== Sys2Proof/Machine/CmdFence.lean ====
section
/-!
DEFINITION. Machine/CmdFence.lean: the meanings of the commands of a family, one definition each. Fences, the MSQ pair, the fabric and Tension (chapters 8 and 9).
-/

namespace Sys2Proof.Machine

/-- FENCE_RELEASE (R295): fen.release moves a FENCED row to DRAINING or fails with a detail. -/
def execFenceRelease (h : Hdr) (row : Nat) (clear : Bool) (s : State) : Host.Outcome State Fault Refusal :=
  s.act (fun t => t.actionReq h Obj.fenRelease row 1 true (fun u => u.releaseRow row clear))

/-- FENCE_DRAIN_DONE (R295): Nothing of the scope is in flight; the fence bit clears and the row goes RELEASED. -/
def execFenceDrainDone (row : Nat) (s : State) : Host.Outcome State Fault Refusal :=
  s.act (fun t => t.fenDrainOver row)

/-- FENCE_DRAIN_TIMEOUT (R295): sel.drain_timeout elapses in DRAINING and the release fails back to FENCED. -/
def execFenceDrainTimeout (row : Nat) (s : State) : Host.Outcome State Fault Refusal :=
  s.act (fun t => t.fenDrainTimeout row)

/-- FENCE_RELEASED_TIMEOUT (R295): A RELEASED row whose unit is not back in service is freed after sel.drain_timeout. -/
def execFenceReleasedTimeout (row : Nat) (s : State) : Host.Outcome State Fault Refusal :=
  s.act (fun t => t.fenForget row)

/-- SEL_ENGAGE (R298): sel.engage engages an operator fence on the named scope. -/
def execSelEngage (h : Hdr) (s : State) : Host.Outcome State Fault Refusal :=
  s.act (fun t => t.actionReq h Obj.selEngage 0 1 true State.selEngageOp)

/-- MSQ_MISMATCH (R302): A compare mismatch or faulty copy starts the MSQ switch-over. -/
def execMsqMismatch (slices : Nat) (aFaulty bFaulty : Bool) (s : State) : Host.Outcome State Fault Refusal :=
  s.act (fun t => t.msqFault false (slices % 18446744073709551616) aFaulty bFaulty)

/-- MSQ_REPAIR (R307): msq.repair self-tests the fenced copy and starts copying the survivor's state. -/
def execMsqRepair (h : Hdr) (selfTest : Bool) (s : State) : Host.Outcome State Fault Refusal :=
  s.act (fun t => t.actionReq h Obj.msqRepair 0 1 true (fun u => u.msqRepairOp selfTest))

/-- MSQ_RESYNC_DONE (R306): The state copy completes; equal signatures return the pair to PAIRED. -/
def execMsqResyncDone (equal : Bool) (s : State) : Host.Outcome State Fault Refusal :=
  s.act (fun t => t.msqResyncDone false equal)

/-- MSQ_CMP_TEST (R310): msq.cmp_test runs the comparator slice test. -/
def execMsqCmpTest (h : Hdr) (pass : Bool) (s : State) : Host.Outcome State Fault Refusal :=
  s.act (fun t => t.actionReq h Obj.msqCmpTest 0 1 true (fun u => u.cmpTestOp pass))

/-- CMP_TEST_PERIOD_EXPIRY (R310): The automatic slice test runs one msq.cmp_test_period after the latest reference moment. -/
def execCmpTestPeriodExpiry (pass : Bool) (s : State) : Host.Outcome State Fault Refusal :=
  s.act (fun t => if t.msq.st = .paired ∧ t.rw Obj.msqCmpTestPeriod 0 ≠ 0 then t.sliceTest pass else t)

/-- MSQ_SWITCH_TEST (R311): msq.switch_test performs a real switch-over blaming the named copy. -/
def execMsqSwitchTest (h : Hdr) (arg : Nat) (s : State) : Host.Outcome State Fault Refusal :=
  s.act (fun t => t.actionReqS h Obj.msqSwitchTest 0 arg (fun u => u.actSwitchTest arg))

/-- CELL_ARRIVAL (R318): A cell reaches the hem and is discarded, stored or linked in sequence order. -/
def execCellArrival (src dst cls seq plane : Nat) (crcOk : Bool) (s : State) : Host.Outcome State Fault Refusal :=
  s.act (fun t => t.cellArrival src dst cls seq plane crcOk)

/-- RECEIPT_CREDIT (R316): A receipt credit frees a cell from the input's replay store. -/
def execReceiptCredit (src dst cls seq : Nat) (s : State) : Host.Outcome State Fault Refusal :=
  s.act (fun t => t.receipt src dst cls seq)

/-- HEM_GAP_TIMEOUT (R319): A flow's missing cell after bxb.hem_timeout triggers a replay request or an unrecovered gap. -/
def execHemGapTimeout (src dst cls : Nat) (s : State) : Host.Outcome State Fault Refusal :=
  s.act (fun t => t.gapTimeout src dst cls)

/-- FRAME_ASSEMBLY (R324): An RoCEv2 frame is assembled at an Ethernet output and marked or dropped by depth. -/
def execFrameAssembly (port sub : Nat) (s : State) : Host.Outcome State Fault Refusal :=
  s.act (fun t => t.assemble port sub)

/-- HOLD_EXPIRY (R327): The link-down hold expires and every held frame of the sub-port is flushed. -/
def execHoldExpiry (port sub : Nat) (s : State) : Host.Outcome State Fault Refusal :=
  s.act (fun t => t.holdExpiry port sub)

/-- PLANE_TEST (R332): plane.test powers a fenced plane in isolation and runs test cells. -/
def execPlaneTest (h : Hdr) (plane : Nat) (s : State) : Host.Outcome State Fault Refusal :=
  s.act (fun t => t.actionReq h Obj.planeTest plane 1 true (fun u => u.planeTestOp plane))

/-- PLANE_TEST_DONE (R332): The plane test ends, sets plane.test_ok and switches the plane off again. -/
def execPlaneTestDone (plane : Nat) (pass : Bool) (s : State) : Host.Outcome State Fault Refusal :=
  s.act (fun t => t.planeTestDone plane pass)

/-- FRAME_TRANSMIT (R333): A sub-port picks its next eligible frame by strict and deficit round robin order. -/
def execFrameTransmit (port sub : Nat) (s : State) : Host.Outcome State Fault Refusal :=
  s.act (fun t => t.transmit port sub)

/-- CALENDAR_SLOT (R337): A calendar wheel slot makes its flows eligible and recomputes waiting flows. -/
def execCalendarSlot (port : Nat) (s : State) : Host.Outcome State Fault Refusal :=
  s.act (fun t => t.calendarSlot port)

/-- BUCKET_REFILL (R338): In bucket mode every shaper is refilled every 4.096 µs. -/
def execBucketRefill (port : Nat) (s : State) : Host.Outcome State Fault Refusal :=
  s.act (fun t => t.bucketRefill port)

/-- TENSION_MODE_SWITCH_BACK (R336): After 10 ms at or below 960 entries the port returns to calendar mode. -/
def execTensionModeSwitchBack (port : Nat) (s : State) : Host.Outcome State Fault Refusal :=
  s.act (fun t => t.switchBack port)

/-- POLICER_MODE_WRITE (R345): A write of pol.mode or pol.aware refills both buckets. -/
def execPolicerModeWrite (h : Hdr) (row : Nat) (aware : Bool) (value : Nat) (s : State) : Host.Outcome State Fault Refusal :=
  s.act (fun t => t.writeReq h (if aware then Obj.polAware else Obj.polMode) row [value % 256] (fun u _ v => u.polSet (if aware then Obj.polAware else Obj.polMode) row v))

end Sys2Proof.Machine
end

