-- ==== Sys2Proof/Machine/CmdNet.lean ====
section
/-!
DEFINITION. Machine/CmdNet.lean: the meanings of the commands of a family, one definition each. Transport, eyelets and chains (chapters 6 and 7).
-/

namespace Sys2Proof.Machine

/-- ETH_LINK_UP (R207): A sub-port link comes up after auto-negotiation and training; held frames leave first. -/
def execEthLinkUp (port sub : Nat) (matched : Bool) (s : State) : Host.Outcome State Fault Refusal :=
  s.act (fun t => t.ethUp port sub matched)

/-- ETH_LINK_DOWN (R240): A sub-port link goes down; QPs keep state and the link-down hold starts. -/
def execEthLinkDown (port sub : Nat) (s : State) : Host.Outcome State Fault Refusal :=
  s.act (fun t => t.ethDown port sub)

/-- ARP_REQUEST (R212): An ARP request for a gid entry's address is answered. -/
def execArpRequest (k : Pkt) (target : Nat) (s : State) : Host.Outcome State Fault Refusal :=
  s.act (fun t => t.resolveAddr k target false)

/-- NEIGHBOR_SOLICITATION (R212): An IPv6 Neighbor Solicitation for an entry's address is answered. -/
def execNeighborSolicitation (k : Pkt) (target : Nat) (s : State) : Host.Outcome State Fault Refusal :=
  s.act (fun t => t.resolveAddr k target true)

/-- PFC_PAUSE (R220): A received PAUSE stops egress of the priority's class queues for the pause time. -/
def execPfcPause (port prio quanta : Nat) (s : State) : Host.Outcome State Fault Refusal :=
  s.act (fun t => t.pfcPause port prio quanta)

/-- PAUSE_QUANTA_EXPIRY (R220): The received pause time runs out and egress of the priority resumes. -/
def execPauseQuantaExpiry (port prio : Nat) (s : State) : Host.Outcome State Fault Refusal :=
  s.act (fun t => t.pauseOver port prio)

/-- PFC_REPEAT_TIMER (R220): Every half quanta while above xoff, PAUSE is sent again. -/
def execPfcRepeatTimer (port prio level : Nat) (s : State) : Host.Outcome State Fault Refusal :=
  s.act (fun t => t.pfcRepeat port prio level)

/-- PFC_WATCHDOG_EXPIRY (R221): Egress paused longer than eth.pfc_wd trips the watchdog and PAUSE is ignored for the priority.
-/
def execPfcWatchdogExpiry (port prio : Nat) (s : State) : Host.Outcome State Fault Refusal :=
  s.act (fun t => t.pfcTrip port prio)

/-- PFC_WATCHDOG_RECOVERY (R221): After 1 s with no PAUSE received for a tripped priority, the port again honours received
PAUSE for it. -/
def execPfcWatchdogRecovery (port prio : Nat) (s : State) : Host.Outcome State Fault Refusal :=
  s.act (fun t => t.pfcRecover port prio)

/-- CM_REQ (R228): A CM REQ is queued for admission, dropped when the queue is full, or answered if duplicate. -/
def execCmReq (k : Pkt) (q : CmReq) (s : State) : Host.Outcome State Fault Refusal :=
  s.act (fun t => t.cmReqIn k q)

/-- CM_REQ_ADMIT (R226): Thimble checks a queued REQ and creates a QP with a REP or sends a REJ. -/
def execCmReqAdmit (s : State) : Host.Outcome State Fault Refusal :=
  s.act (fun t => t.cmAdmit)

/-- CM_RTU (R229): An RTU moves a CONNECTING QP to ACTIVE. -/
def execCmRtu (k : Pkt) (row : Nat) (s : State) : Host.Outcome State Fault Refusal :=
  s.act (fun t => t.cmIn k row (fun u => u.toActive row))

/-- CM_REJ (R229): A REJ returns a CONNECTING QP to IDLE. -/
def execCmRej (k : Pkt) (row : Nat) (s : State) : Host.Outcome State Fault Refusal :=
  s.act (fun t => t.cmIn k row (fun u => u.rejIn row))

/-- CM_DREQ (R229): A DREQ moves a QP to DRAINING or a CONNECTING QP to IDLE. -/
def execCmDreq (k : Pkt) (row : Nat) (s : State) : Host.Outcome State Fault Refusal :=
  s.act (fun t => t.cmIn k row (fun u => u.dreqIn row))

/-- CONNECTING_TIMEOUT (R229): No RTU within four REP timeouts returns the QP to IDLE. -/
def execConnectingTimeout (row : Nat) (s : State) : Host.Outcome State Fault Refusal :=
  s.act (fun t => t.rejIn row)

/-- ACK (R238): An ACK received as requester retires packets and restores the retry count. -/
def execAck (k : Pkt) (s : State) : Host.Outcome State Fault Refusal :=
  s.act (fun t => t.receive (.ack k))

/-- NAK_SEQUENCE_ERROR (R238): A PSN sequence error NAK starts go-back-N retransmission. -/
def execNakSequenceError (k : Pkt) (s : State) : Host.Outcome State Fault Refusal :=
  s.act (fun t => t.receive (.nakSequenceError k))

/-- RNR_NAK (R239): An RNR NAK received as requester starts the RNR wait. -/
def execRnrNak (k : Pkt) (s : State) : Host.Outcome State Fault Refusal :=
  s.act (fun t => t.receive (.rnrNak k))

/-- NAK_ERROR (R229): A NAK Invalid Request or Remote Access Error moves the QP to ERROR. -/
def execNakError (k : Pkt) (code : Nat) (s : State) : Host.Outcome State Fault Refusal :=
  s.act (fun t => t.receive (.nakError k code))

/-- RDMA_READ_RESPONSE (R246): An RDMA READ response delivers write data into reserved frames. -/
def execRdmaReadResponse (k : Pkt) (len data : Nat) (s : State) : Host.Outcome State Fault Refusal :=
  s.act (fun t => t.receive (.rdmaReadResponse k len data))

/-- CNP (R219): A received CNP reduces the QP's send rate and raises alpha. -/
def execCnp (k : Pkt) (s : State) : Host.Outcome State Fault Refusal :=
  s.act (fun t => t.receive (.cnp k))

/-- INVALID_OPCODE_PACKET (R224): A packet with an unsupported opcode or field gets NAK Invalid Request and the QP goes to
ERROR. -/
def execInvalidOpcodePacket (k : Pkt) (op : Nat) (s : State) : Host.Outcome State Fault Refusal :=
  s.act (fun t => t.receive (.invalidOpcodePacket k op))

/-- ACK_TIMEOUT (R238): The local ACK timeout expires and retransmission restarts, consuming a retry. -/
def execAckTimeout (row : Nat) (s : State) : Host.Outcome State Fault Refusal :=
  s.act (fun t => t.retryFrom row (t.qp row).una)

/-- RNR_WAIT_EXPIRY (R239): The RNR wait ends and the requester resends from the NAKed PSN. -/
def execRnrWaitExpiry (row : Nat) (s : State) : Host.Outcome State Fault Refusal :=
  s.act (fun t => t.rnrOver row)

/-- ACK_COALESCE_TIMER (R237): 2 µs after an unacknowledged accepted packet a coalesced ACK is sent. -/
def execAckCoalesceTimer (row : Nat) (s : State) : Host.Outcome State Fault Refusal :=
  s.act (fun t => if 0 < (t.qp row).since then t.sendAck row else t)

/-- ALPHA_TIMER (R219): Every tp.alpha_timer without a CNP alpha decays. -/
def execAlphaTimer (row : Nat) (s : State) : Host.Outcome State Fault Refusal :=
  s.act (fun t => t.alphaTimer row)

/-- RP_TIMER (R219): Every tp.rp_timer without a CNP the rate recovers towards its target. -/
def execRpTimer (row : Nat) (s : State) : Host.Outcome State Fault Refusal :=
  s.act (fun t => t.rpTimer row)

/-- CONTEXT_FETCH_START (R235): A context fetch starts once a resident context is eligible for eviction. -/
def execContextFetchStart (row : Nat) (s : State) : Host.Outcome State Fault Refusal :=
  s.act (fun t => t.fetchStart row)

/-- CONTEXT_FETCH_DONE (R233): A fetched context becomes resident and its miss-queued packets are processed in order. -/
def execContextFetchDone (row : Nat) (s : State) : Host.Outcome State Fault Refusal :=
  s.act (fun t => t.fetchDone row)

/-- QP_DRAIN_COMPLETE (R229): A DRAINING or ERROR QP has nothing in flight, sends DREQ or DREP and frees its context. -/
def execQpDrainComplete (row : Nat) (s : State) : Host.Outcome State Fault Refusal :=
  s.act (fun t => t.drainDone row)

/-- DRAIN_TIMEOUT (R231): tp.drain_timeout elapses; remaining work is abandoned and the QP goes IDLE. -/
def execDrainTimeout (row : Nat) (s : State) : Host.Outcome State Fault Refusal :=
  s.act (fun t => t.drainTimeout row)

/-- KEEPALIVE_EXPIRY (R247): No keep-alive within KATO drains the controller's QPs and deletes the controller. -/
def execKeepaliveExpiry (ctrl : Nat) (s : State) : Host.Outcome State Fault Refusal :=
  s.act (fun t => t.kaExpired ctrl)

/-- QP_CLOSE (R229): qp.close moves an ACTIVE QP to DRAINING. -/
def execQpClose (h : Hdr) (row : Nat) (s : State) : Host.Outcome State Fault Refusal :=
  s.act (fun t => t.actionReq h Obj.qpClose row 1 true (fun u => u.qpCloseOp row))

/-- QP_PIN_WRITE (R236): A write of qp.pin pins a context resident, refused beyond 1,024 pins. -/
def execQpPinWrite (h : Hdr) (row value : Nat) (s : State) : Host.Outcome State Fault Refusal :=
  s.act (fun t => t.writeReq h Obj.qpPin row [value % 256] (fun u _ v => u.pinSet row v))

/-- CONNECT (R248): A Fabrics Connect checks the host NQN and creates or joins a controller. -/
def execFabricsConnect (k : Pkt) (cid qid sqsize kato cntlid : Nat) (tbkas : Bool) (nqn subnqn hostId : Nat) (s : State) : Host.Outcome State Fault Refusal :=
  s.act (fun t => t.receive (.fabricsConnect k cid qid sqsize kato cntlid tbkas nqn subnqn hostId))

/-- PROPERTY_GET (R243): A Fabrics Property Get returns a controller property. -/
def execPropertyGet (k : Pkt) (cid off : Nat) (s : State) : Host.Outcome State Fault Refusal :=
  s.act (fun t => t.receive (.propertyGet k cid off))

/-- PROPERTY_SET (R243): A Fabrics Property Set writes a controller property. -/
def execPropertySet (k : Pkt) (cid off value : Nat) (s : State) : Host.Outcome State Fault Refusal :=
  s.act (fun t => t.receive (.propertySet k cid off value))

/-- DISCONNECT (R229): A Fabrics Disconnect moves the QP to DRAINING. -/
def execDisconnect (k : Pkt) (cid : Nat) (s : State) : Host.Outcome State Fault Refusal :=
  s.act (fun t => t.receive (.disconnect k cid))

/-- IDENTIFY (R244): Identify returns controller or namespace data. -/
def execIdentify (k : Pkt) (cid cns nsid : Nat) (sgl : Sgl) (s : State) : Host.Outcome State Fault Refusal :=
  s.act (fun t => t.receive (.identify k cid cns nsid sgl))

/-- GET_LOG_PAGE (R243): Get Log Page returns error, SMART, changed namespace, ANA or discovery log data. -/
def execGetLogPage (k : Pkt) (cid lid off : Nat) (rae : Bool) (sgl : Sgl) (s : State) : Host.Outcome State Fault Refusal :=
  s.act (fun t => t.receive (.getLogPage k cid lid off rae sgl))

/-- SET_FEATURES (R243): Set Features sets a supported feature or returns Invalid Field. -/
def execSetFeatures (k : Pkt) (cid fid value : Nat) (s : State) : Host.Outcome State Fault Refusal :=
  s.act (fun t => t.receive (.setFeatures k cid fid value))

/-- GET_FEATURES (R243): Get Features returns a supported feature. -/
def execGetFeatures (k : Pkt) (cid fid : Nat) (s : State) : Host.Outcome State Fault Refusal :=
  s.act (fun t => t.receive (.getFeatures k cid fid))

/-- ASYNCHRONOUS_EVENT_REQUEST (R243): An Asynchronous Event Request is held outstanding for later notices. -/
def execAsynchronousEventRequest (k : Pkt) (cid : Nat) (s : State) : Host.Outcome State Fault Refusal :=
  s.act (fun t => t.receive (.asynchronousEventRequest k cid))

/-- KEEP_ALIVE (R247): Keep Alive restarts the controller's keep-alive timer. -/
def execKeepAlive (k : Pkt) (cid : Nat) (s : State) : Host.Outcome State Fault Refusal :=
  s.act (fun t => t.receive (.keepAlive k cid))

/-- ABORT (R243): Abort completes with not aborted. -/
def execAbort (k : Pkt) (cid : Nat) (s : State) : Host.Outcome State Fault Refusal :=
  s.act (fun t => t.receive (.abort k cid))

/-- NVME_READ (R246): An NVMe Read is served from the hoop or members and its data written before the response. -/
def execNvmeRead (k : Pkt) (cid nsid slba nlb : Nat) (pr : PrInfo) (sgl : Sgl) (s : State) : Host.Outcome State Fault Refusal :=
  s.act (fun t => t.receive (.nvmeRead k cid nsid slba nlb pr sgl))

/-- NVME_WRITE (R246): An NVMe Write is admitted per stitch, fetches its data and completes under R123. -/
def execNvmeWrite (k : Pkt) (cid nsid slba nlb : Nat) (pr : PrInfo) (sgl : Sgl) (s : State) : Host.Outcome State Fault Refusal :=
  s.act (fun t => t.receive (.nvmeWrite k cid nsid slba nlb pr sgl))

/-- WRITE_ZEROES (R243): Write Zeroes is processed as a write of zero blocks through the hoop. -/
def execWriteZeroes (k : Pkt) (cid nsid slba nlb : Nat) (s : State) : Host.Outcome State Fault Refusal :=
  s.act (fun t => t.receive (.writeZeroes k cid nsid slba nlb))

/-- NVME_FLUSH (R243): An NVMe Flush completes at once since completed writes are durable. -/
def execNvmeFlush (k : Pkt) (cid nsid : Nat) (s : State) : Host.Outcome State Fault Refusal :=
  s.act (fun t => t.receive (.nvmeFlush k cid nsid))

/-- RDMA_WRITE (R260): An RDMA WRITE into an eyelet is checked at its first packet and admitted or rejected. -/
def execRdmaWrite (k : Pkt) (first last : Bool) (key va len plen payload : Nat) (s : State) : Host.Outcome State Fault Refusal :=
  s.act (fun t => t.receive (.rdmaWrite k first last key va len plen payload))

/-- KNOT_WRITE (R263): A KNOT WRITE is checked and held until every earlier write of its QP is placed. -/
def execKnotWrite (k : Pkt) (key va len payload : Nat) (s : State) : Host.Outcome State Fault Refusal :=
  s.act (fun t => t.receive (.knotWrite k key va len payload))

/-- RDMA_READ (R264): An RDMA READ of an eyelet waits for earlier writes to be placed and returns placed data. -/
def execRdmaRead (k : Pkt) (key va len : Nat) (s : State) : Host.Outcome State Fault Refusal :=
  s.act (fun t => t.receive (.rdmaRead k key va len))

/-- FLUSH (R265): A FLUSH waits for earlier writes of its QP to be placed and durable. -/
def execEyeletFlush (k : Pkt) (s : State) : Host.Outcome State Fault Refusal :=
  s.act (fun t => t.receive (.eyeletFlush k))

/-- EYELET_WRITE_PLACED (R262): An eyelet write becomes placed, releasing dependent knots, flushes, reads and triggers. -/
def execEyeletWritePlaced (id : Nat) (s : State) : Host.Outcome State Fault Refusal :=
  s.act (fun t => t.writePlaced id)

/-- CHAIN_ARM (R275): CHAIN ARM validates a chain slot and its work requests and arms it. -/
def execChainArm (k : Pkt) (c : Ceth) (s : State) : Host.Outcome State Fault Refusal :=
  s.act (fun t => t.receive (.chainArm k c))

/-- CHAIN_DISARM (R280): CHAIN DISARM empties a chain or stops a running one. -/
def execChainDisarm (k : Pkt) (c : Ceth) (s : State) : Host.Outcome State Fault Refusal :=
  s.act (fun t => t.receive (.chainDisarm k c))

/-- SEND_WITH_IMMEDIATE (R276): A SEND with Immediate is received as a chain trigger and held until earlier writes are placed.
-/
def execSendWithImmediate (k : Pkt) (imm len payload : Nat) (s : State) : Host.Outcome State Fault Refusal :=
  s.act (fun t => t.receive (.sendWithImmediate k imm len payload))

/-- CHAIN_HELD_TRIGGER_START (R279): A held trigger starts its chain once fewer than 512 chains run. -/
def execChainHeldTriggerStart (s : State) : Host.Outcome State Fault Refusal :=
  s.act (fun t => t.startHeld)

/-- WR_READ (R277): A chain READ work request issues as block reads into its destination eyelet. -/
def execWrRead (slot : Nat) (s : State) : Host.Outcome State Fault Refusal :=
  s.act (fun t => t.wrRead slot)

/-- WR_WRITE (R278): A chain WRITE work request issues on its destination QP. -/
def execWrWrite (slot : Nat) (s : State) : Host.Outcome State Fault Refusal :=
  s.act (fun t => t.wrOut slot [2, 3])

/-- WR_SEND (R278): A chain SEND work request issues on its destination QP. -/
def execWrSend (slot : Nat) (s : State) : Host.Outcome State Fault Refusal :=
  s.act (fun t => t.wrOut slot [4, 5])

/-- WR_LINK (R277): A chain LINK work request starts its target chain. -/
def execWrLink (slot : Nat) (s : State) : Host.Outcome State Fault Refusal :=
  s.act (fun t => t.wrLink slot)

/-- WR_NOP (R277): A chain NOP completes at issue. -/
def execWrNop (slot : Nat) (s : State) : Host.Outcome State Fault Refusal :=
  s.act (fun t => t.wrNop slot)

/-- WORK_REQUEST_COMPLETE (R277): A work request completes, writes STATUS and TIME, and may end, fail or stop its chain. -/
def execWorkRequestComplete (slot wr : Nat) (s : State) : Host.Outcome State Fault Refusal :=
  s.act (fun t => t.wrComplete slot wr)

/-- CHAIN_DISARM_ACTION (R280): chain.disarm empties a chain or moves a running one to STOPPING. -/
def execChainDisarmAction (h : Hdr) (slot : Nat) (s : State) : Host.Outcome State Fault Refusal :=
  s.act (fun t => t.actionReq h Obj.chainDisarm slot 1 true (fun u => u.chainDisarmAct slot))

/-- EYE_REGISTER (R257): eye.register checks and registers an eyelet row, issuing a new key. -/
def execEyeRegister (h : Hdr) (row : Nat) (s : State) : Host.Outcome State Fault Refusal :=
  s.act (fun t => t.actionReq h Obj.eyeRegister row 1 true (fun u => u.eyeRegister row))

/-- EYE_REVOKE (R271): eye.revoke sets the eyelet REVOKING at one update point. -/
def execEyeRevoke (h : Hdr) (row : Nat) (s : State) : Host.Outcome State Fault Refusal :=
  s.act (fun t => t.actionReq h Obj.eyeRevoke row 1 true (fun u => u.eyeRevokeOp State.disarm row))

/-- EYE_REVOKE_TIMEOUT (R271): 64 µs after the update point remaining accesses are aborted and the row goes DEAD. -/
def execEyeRevokeTimeout (row : Nat) (s : State) : Host.Outcome State Fault Refusal :=
  s.act (fun t => t.revokeTimeout row)

/-- EYE_COMMIT (R272): eye.commit applies the shadow window at one update point and raises WGEN. -/
def execEyeCommit (h : Hdr) (row : Nat) (s : State) : Host.Outcome State Fault Refusal :=
  s.act (fun t => t.actionReq h Obj.eyeCommit row 1 true (fun u => u.eyeCommitOp row))

/-- KEY_CACHE_UPDATE_DONE (R272): The key cache update ends and stalled first packets are checked against the new window. -/
def execKeyCacheUpdateDone (row : Nat) (s : State) : Host.Outcome State Fault Refusal :=
  s.act (fun t => t.cacheDone row)

/-- EYE_COMMIT_TIMEOUT (R273): 64 µs after a window commit, accesses of the previous WGEN are aborted. -/
def execEyeCommitTimeout (row : Nat) (s : State) : Host.Outcome State Fault Refusal :=
  s.act (fun t => t.commitTimeout row)

end Sys2Proof.Machine
end

