-- ==== Sys2Proof/Machine/CmdSkein.lean ====
section
/-!
DEFINITION. Machine/CmdSkein.lean: the meanings of the commands of a family, one definition each. The skein and the twin link (chapter 14).
-/

namespace Sys2Proof.Machine

/-- HEARTBEAT (R460): A HEARTBEAT message is accepted and its sender counts as heard. -/
def execHeartbeat (h : SkHdr) (stage flags owned dirver : Nat) (s : State) : Host.Outcome State Fault Refusal :=
  s.act (fun t => t.skIn h (.heartbeat stage flags owned dirver) (fun u => u.beatIn h.row flags))

/-- HEARTBEAT_PERIOD (R460): Every skn.hb_period heartbeats are sent and held queries and contests repeated. -/
def execHeartbeatPeriod (s : State) : Host.Outcome State Fault Refusal :=
  s.act (fun t => t.beatOut)

/-- VIEW_EXPIRY (R453): A row not heard within t_d leaves the view, possibly losing the partner or changing roles. -/
def execViewExpiry (row : Nat) (s : State) : Host.Outcome State Fault Refusal :=
  s.act (fun t => t.viewExpiry row)

/-- JOIN (R455): A JOIN is checked against the row digest and answered with WELCOME or refused. -/
def execJoinMsg (h : SkHdr) (digest hosts : Nat) (s : State) : Host.Outcome State Fault Refusal :=
  s.act (fun t => t.skIn h (.join digest hosts) (fun u => u.joinIn h.row h.role digest hosts))

/-- WELCOME (R455): A WELCOME delivers the deputy row and the directory. -/
def execWelcome (h : SkHdr) (deputy version : Nat) (dir : List DirEnt) (s : State) : Host.Outcome State Fault Refusal :=
  s.act (fun t => t.skIn h (.welcome deputy version dir) (fun u => u.welcomeIn h.row deputy version dir))

/-- LEAVE (R456): A LEAVE removes the sender from the manager's view at once. -/
def execLeaveMsg (h : SkHdr) (s : State) : Host.Outcome State Fault Refusal :=
  s.act (fun t => t.skIn h .leave (fun u => u.leaveIn h.row))

/-- DIR_UPDATE (R475): A DIR_UPDATE reports or pushes changed directory entries. -/
def execDirUpdate (h : SkHdr) (version : Nat) (dir : List DirEnt) (s : State) : Host.Outcome State Fault Refusal :=
  s.act (fun t => t.skIn h (.dirUpdate version dir) (fun u => u.dirUpdateIn h.row version dir))

/-- DIR_ACK (R475): A DIR_ACK acknowledges a directory version. -/
def execDirAck (h : SkHdr) (version : Nat) (s : State) : Host.Outcome State Fault Refusal :=
  s.act (fun t => t.skIn h (.dirAck version) (fun u => u.dirAckIn h.row version))

/-- CONFIRM_QUERY (R467): A CONFIRM_QUERY is answered from the manager's or deputy's view. -/
def execConfirmQuery (h : SkHdr) (row : Nat) (s : State) : Host.Outcome State Fault Refusal :=
  s.act (fun t => t.skIn h (.confirmQuery row) (fun u => u.confirmQueryIn h.row row))

/-- CONFIRM_REPLY (R467): A CONFIRM_REPLY releases held namespaces and decides whether takeover follows. -/
def execConfirmReply (h : SkHdr) (row : Nat) (missing : Bool) (ms : Nat) (taken : List Nat) (s : State) : Host.Outcome State Fault Refusal :=
  s.act (fun t => t.skIn h (.confirmReply row missing ms) (fun u => u.confirmReplyIn h.row row missing taken))

/-- TAKEOVER_REQUEST (R467): A TAKEOVER_REQUEST from the partner starts takeover at once. -/
def execTakeoverRequest (h : SkHdr) (cause : Nat) (s : State) : Host.Outcome State Fault Refusal :=
  s.act (fun t => t.skIn h (.takeoverRequest cause) (fun u => if u.skn.partner = some h.row then u.partnerLost true else u))

/-- TAKEOVER_NOTICE (R469): A TAKEOVER_NOTICE lets the manager update the directory. -/
def execTakeoverNotice (h : SkHdr) (lost adopted : Nat) (s : State) : Host.Outcome State Fault Refusal :=
  s.act (fun t => t.skIn h (.takeoverNotice lost adopted) (fun u => u.noticeIn h.row lost))

/-- HANDOVER (R473): A HANDOVER message advances a namespace move between partners. -/
def execHandover (h : SkHdr) (nss : List Nat) (step : Nat) (s : State) : Host.Outcome State Fault Refusal :=
  s.act (fun t => t.skIn h (.handover nss step) (fun u => if u.skn.partner = some h.row then u.handoverIn nss step else u))

/-- GUARD_EXPIRY (R467): skn.guard after partner loss the takeover contest starts. -/
def execGuardExpiry (s : State) : Host.Outcome State Fault Refusal :=
  s.act (fun t => t.guardExpiry)

/-- TAKEOVER_PREEMPT_DONE (R468): A Reservation Preempt completes; the contest advances, is won, lost or abandoned. -/
def execTakeoverPreemptDone (pos result solo : Nat) (recs : List JArg) (s : State) : Host.Outcome State Fault Refusal :=
  s.act (fun t => t.preemptDone pos result solo recs)

/-- TWIN_LINK_UP (R466): The twin link trains and each device sends PAIR. -/
def execTwinLinkUp (lanes : Nat) (s : State) : Host.Outcome State Fault Refusal :=
  s.act (fun t => t.twinLinkUp lanes)

/-- TWIN_LINK_DOWN (R464): The twin link is declared down and the replay buffer is discarded. -/
def execTwinLinkDown (s : State) : Host.Outcome State Fault Refusal :=
  s.act (fun t => t.twinDown)

/-- PAIR (R466): A PAIR frame identifies the peer and restarts link sequencing and mirroring. -/
def execPair (h : TwHdr) (dev side : Nat) (region : Bool) (ceiling : Nat) (s : State) : Host.Outcome State Fault Refusal :=
  s.act (fun t => t.pairIn h dev side region ceiling)

/-- TWIN_IDLE (R462): An IDLE frame carries acknowledgment and credit. -/
def execTwinIdle (h : TwHdr) (s : State) : Host.Outcome State Fault Refusal :=
  s.act (fun t => t.twinIdleIn h)

/-- TWIN_NAK (R463): A twin NAK makes the sender resend from the named SEQ. -/
def execTwinNak (h : TwHdr) (s : State) : Host.Outcome State Fault Refusal :=
  s.act (fun t => t.twinNakIn h)

/-- TWIN_IDLE_TIMER (R462): 1 µs without other traffic an IDLE frame is sent. -/
def execTwinIdleTimer (s : State) : Host.Outcome State Fault Refusal :=
  s.act (fun t => t.twinIdleTimer)

/-- TWIN_ACK_TIMEOUT (R463): ACK not advancing for 10 µs resends from the oldest unacknowledged frame. -/
def execTwinAckTimeout (s : State) : Host.Outcome State Fault Refusal :=
  s.act (fun t => t.twinResend)

/-- MIRROR_WRITE (R137): A MIRROR_WRITE frame is applied to the partner's mirror region in sequence order. -/
def execMirrorWrite (h : TwHdr) (k : FKey) (mseq : Nat) (blks : List Cell) (s : State) : Host.Outcome State Fault Refusal :=
  s.act (fun t => t.twinIn h (fun u => u.mirrorWriteIn h.epoch k mseq blks))

/-- MIRROR_ACK (R133): A MIRROR_ACK makes frames DIRTY and stitch ranges acknowledged. -/
def execMirrorAck (h : TwHdr) (seqs : List Nat) (s : State) : Host.Outcome State Fault Refusal :=
  s.act (fun t => t.twinIn h (fun u => u.mirrorAcked seqs))

/-- RELEASE (R137): A RELEASE frame frees the named mirror frames on the partner. -/
def execMirrorRelease (h : TwHdr) (keys : List FKey) (s : State) : Host.Outcome State Fault Refusal :=
  s.act (fun t => t.twinIn h (fun u => u.releaseIn keys))

/-- JOURNAL (R140): A JOURNAL frame stores basting records in the partner's journal mirror. -/
def execJournalFrame (h : TwHdr) (recs : List JArg) (s : State) : Host.Outcome State Fault Refusal :=
  s.act (fun t => t.twinIn h (fun u => u.journalIn recs))

/-- VAULT_NOTICE (R152): A VAULT_NOTICE tells the partner a vault dump has begun. -/
def execVaultNotice (h : TwHdr) (s : State) : Host.Outcome State Fault Refusal :=
  s.act (fun t => t.twinIn h (fun u => u))

/-- KEEPER (R363): A KEEPER frame carries criteria, member transitions, map updates or bay grants. -/
def execKeeperFrame (h : TwHdr) (m : KMsg) (s : State) : Host.Outcome State Fault Refusal :=
  s.act (fun t => t.twinIn h (fun u => u.keeperIn m))

/-- PROXY_CMD (R364): A PROXY_CMD is issued on the member's proxy queues for the partner. -/
def execProxyCmd (h : TwHdr) (tag bay kind lba count : Nat) (data : List (Nat × Nat)) (s : State) : Host.Outcome State Fault Refusal :=
  s.act (fun t => t.twinIn h (fun u => u.proxyCmdIn tag bay kind lba count data))

/-- PROXY_CPL (R364): A PROXY_CPL returns a proxied command's completion and data. -/
def execProxyCpl (h : TwHdr) (tag status : Nat) (data : List (Nat × Nat)) (s : State) : Host.Outcome State Fault Refusal :=
  s.act (fun t => t.twinIn h (fun u => u.memberCpl tag status (blkArgs data)))

/-- OWN_MOVE (R473): own.move starts moving one namespace to the other side. -/
def execOwnMove (h : Hdr) (ns : Nat) (s : State) : Host.Outcome State Fault Refusal :=
  s.act (fun t => t.actionReq h Obj.ownMove ns 1 true (fun u => u.ownMoveOp ns))

/-- OWN_MOVE_HOME (R473): own.move_home moves every namespace not on its home side. -/
def execOwnMoveHome (h : Hdr) (s : State) : Host.Outcome State Fault Refusal :=
  s.act (fun t => t.actionReq h Obj.ownMoveHome 0 1 true State.moveHomeOp)

/-- MOVE_DRAIN_DONE (R473): The current owner's commands drain and the keeper writes the ownership records. -/
def execMoveDrainDone (s : State) : Host.Outcome State Fault Refusal :=
  s.act (fun t => t.moveDrainDone)

/-- MOVE_TIMEOUT (R473): Drain not finished within 1 s undoes the move. -/
def execMoveTimeout (s : State) : Host.Outcome State Fault Refusal :=
  s.act (fun t => t.moveTimeout)

/-- SKN_LEAVE (R456): skn.leave argument 1 hands namespaces over and sends LEAVE. -/
def execSknLeave (h : Hdr) (s : State) : Host.Outcome State Fault Refusal :=
  s.act (fun t => t.actionReq h Obj.sknLeave 0 1 true State.leaveOp)

/-- SKN_REJOIN (R456): skn.leave argument 2 sends JOIN to rejoin the skein. -/
def execSknRejoin (h : Hdr) (s : State) : Host.Outcome State Fault Refusal :=
  s.act (fun t => t.actionReq h Obj.sknLeave 0 2 true State.rejoinOp)

/-- ANATT_EXPIRY (R469): ANATT after the takeover decision, namespaces of a repeatedly abandoned contest move from ANA change
to inaccessible. -/
def execAnattExpiry (s : State) : Host.Outcome State Fault Refusal :=
  s.act (fun t => t.anattExpiry)

end Sys2Proof.Machine
end

