-- ==== Sys2Proof/Machine/CmdStore.lean ====
section
/-!
DEFINITION. Machine/CmdStore.lean: the meanings of the commands of a family, one definition each. Placement, hoop, basting, vault and darning (chapters 3 to 5).
-/

namespace Sys2Proof.Machine

/-- GEO_ACTIVATE (R84): geo.activate argument 1 checks R81 and starts generating the pattern and spare tables. -/
def execGeoActivate (h : Hdr) (g : Nat) (s : State) : Host.Outcome State Fault Refusal :=
  s.act (fun t => t.actionReqS h Obj.geoActivate g 1 (fun u => u.geoActivateOp g))

/-- GEO_TABLES_GENERATED (R84): Table generation ends; passing tables are written to all map copies, or the activation fails.
-/
def execGeoTablesGenerated (g : Nat) (s : State) : Host.Outcome State Fault Refusal :=
  s.act (fun t => t.geoGenerated g)

/-- GEO_MAP_ACK (R84): Map copies acknowledge the tables; they are loaded on die and the geometry becomes ACTIVE. -/
def execGeoMapAck (g : Nat) (ok : Bool) (s : State) : Host.Outcome State Fault Refusal :=
  s.act (fun t => t.geoAck g ok)

/-- GEO_RETIRE (R84): geo.activate argument 2 returns an unused ACTIVE geometry to FREE, or fails with detail 5. -/
def execGeoRetire (h : Hdr) (g : Nat) (s : State) : Host.Outcome State Fault Refusal :=
  s.act (fun t => t.actionReqS h Obj.geoActivate g 2 (fun u => u.geoRetireOp g))

/-- MAP_COPY_ACK (R78): The map copies acknowledge a bolt map block write and MSQ applies the entry update. -/
def execMapCopyAck (blk : Nat) (s : State) : Host.Outcome State Fault Refusal :=
  s.act (fun t => t.mapAck blk)

/-- MAP_COPY_DONE (R79): The copy of array metadata to the new map position completes. -/
def execMapCopyDone (s : State) : Host.Outcome State Fault Refusal :=
  s.act (fun t => t.mapCopyDone)

/-- NS_SLOTS_FREED (R95): Slots of a deleted namespace return to the free list once commands that looked up them complete. -/
def execNsSlotsFreed (ns : Nat) (s : State) : Host.Outcome State Fault Refusal :=
  s.act (fun t => t.slotsFreed ns)

/-- ZERO_INIT_DONE (R99): Zero full stripes of a ZERO bolt are written; the entry goes MAPPED and the waiting destage
proceeds. -/
def execZeroInitDone (entry : Nat) (s : State) : Host.Outcome State Fault Refusal :=
  s.act (fun t => t.zeroDone entry)

/-- ZERO_WALK_STEP (R99): The background walker initialises the next ZERO bolt at the background rate. -/
def execZeroWalkStep (s : State) : Host.Outcome State Fault Refusal :=
  s.act (fun t => t.zeroWalk)

/-- BOLT_MIGRATE (R111): bolt.migrate requests migration of one bolt to a target geometry. -/
def execBoltMigrate (h : Hdr) (entry geo : Nat) (s : State) : Host.Outcome State Fault Refusal :=
  s.act (fun t => t.actionReqS h Obj.boltMigrate entry geo (fun u => u.actMigrate entry geo))

/-- MIGRATION_START (R111): A waiting bolt gets a target slot and an active migration place and is set MIGRATING. -/
def execMigrationStart (entry : Nat) (s : State) : Host.Outcome State Fault Refusal :=
  s.act (fun t => t.migStart entry)

/-- MIGRATION_STRIPE_COPY (R111): The range of the next target stripe is held, read newest first and written as a full stripe
under a record. -/
def execMigrationStripeCopy (entry : Nat) (cells : List Cell) (s : State) : Host.Outcome State Fault Refusal :=
  s.act (fun t => t.migCopy entry cells)

/-- MIGRATION_RECORD_RETIRE (R111): The copy's record retires, CURSOR advances and the range is released. -/
def execMigrationRecordRetire (entry : Nat) (s : State) : Host.Outcome State Fault Refusal :=
  s.act (fun t => t.migRetire entry)

/-- MIGRATION_SOURCE_FREE (R111): The source slot is freed after every command that looked up the old entry has completed. -/
def execMigrationSourceFree (entry : Nat) (s : State) : Host.Outcome State Fault Refusal :=
  s.act (fun t => t.migSourceFree entry)

/-- COPYBACK_STRIPE (R107): Copy-back copies or reconstructs the stitches of one stripe for the refilled position and advances
its cursor. -/
def execCopybackStripe (pos : Nat) (cells : List Cell) (s : State) : Host.Outcome State Fault Refusal :=
  s.act (fun t => t.copybackStripe pos cells)

/-- FRAME_RESERVE (R122): A waiting write reserves hoop frames in its partition as they become available. -/
def execFrameReserve (ns : Nat) (s : State) : Host.Outcome State Fault Refusal :=
  s.act (fun t => t.serveFrames ns)

/-- FILL_READ_DONE (R126): The read filling a partly written 4 KiB block completes and the write is merged. -/
def execFillReadDone (cmd range row : Nat) (ok : Bool) (data pi : Nat) (s : State) : Host.Outcome State Fault Refusal :=
  s.act (fun t => t.fillReadDone cmd range row (if ok then some ⟨data, pi⟩ else none))

/-- HOLD_TIMER_EXPIRY (R127): A stripe's hold timer expires and its destage is triggered. -/
def execHoldTimerExpiry (entry sel stripe : Nat) (s : State) : Host.Outcome State Fault Refusal :=
  s.act (fun t => t.holdOver ⟨entry, sel, stripe⟩)

/-- DESTAGE_START (R128): A triggered FILLING stripe without a live record starts fill-in. -/
def execDestageStart (entry sel stripe : Nat) (s : State) : Host.Outcome State Fault Refusal :=
  s.act (fun t => t.destageStart ⟨entry, sel, stripe⟩)

/-- FILL_IN_DONE (R129): Fill-in completes and the DESTAGE record is submitted for persistence. -/
def execFillInDone (entry sel stripe : Nat) (cells : List Cell) (s : State) : Host.Outcome State Fault Refusal :=
  s.act (fun t => t.fillInDone ⟨entry, sel, stripe⟩ cells)

/-- BASTING_RECORD_PERSISTED (R140): A basting record is held in every existing place and its stripe goes to BASTED. -/
def execBastingRecordPersisted (jseq : Nat) (s : State) : Host.Outcome State Fault Refusal :=
  s.act (fun t => t.recPersisted jseq)

/-- DESTAGE_ENCODE (R132): A darning engine reads the BASTED stripe, computes P and Q and streams k + 2 stitches to members.
-/
def execDestageEncode (entry sel stripe : Nat) (bad : List Cell) (s : State) : Host.Outcome State Fault Refusal :=
  s.act (fun t => t.destageEncode ⟨entry, sel, stripe⟩ (cellArgs bad))

/-- MEMBER_COMPLETION (R356): A member command completes or fails on its I/O queue and its owner proceeds. -/
def execMemberCompletion (tag status : Nat) (data : List (Nat × Nat)) (s : State) : Host.Outcome State Fault Refusal :=
  s.act (fun t => t.memberCpl tag status (blkArgs data))

/-- DARNING_DECODE_DONE (R169): A darning engine finishes decoding missing blocks for a degraded read or a pass. -/
def execDarningDecodeDone (cmd blk : Nat) (s : State) : Host.Outcome State Fault Refusal :=
  s.act (fun t => t.decodeDone cmd blk)

/-- MIRROR_RESYNC_DONE (R139): The copy of DIRTY frames to a returned partner ends and the mirror state goes to 0. -/
def execMirrorResyncDone (s : State) : Host.Outcome State Fault Refusal :=
  s.act (fun t => t.resyncDone)

/-- MIRROR_REGION_SHRINK (R120): The partner shrinks its mirror region once the device's dirty bytes have fallen to a lowered
ceiling. -/
def execMirrorRegionShrink (s : State) : Host.Outcome State Fault Refusal :=
  s.act (fun t => t.regionShrink t.hoopDirty)

/-- JOURNAL_PAGE_TIMER (R141): bast.page_wait after its first record, a journal page is written to the journal members. -/
def execJournalPageTimer (s : State) : Host.Outcome State Fault Refusal :=
  s.act (fun t => t.writePage)

/-- JOURNAL_PAGE_WRITE_DONE (R141): A journal page write to a journal member completes. -/
def execJournalPageWriteDone (page copy : Nat) (ok : Bool) (s : State) : Host.Outcome State Fault Refusal :=
  s.act (fun t => t.pageDone page copy ok)

/-- JOURNAL_REHOME_DONE (R145): The working copy is written to the replacement journal member and the array header names the
new pair. -/
def execJournalRehomeDone (s : State) : Host.Outcome State Fault Refusal :=
  s.act (fun t => t.rehomeDone)

/-- BAST_JOURNAL_MOVE (R145): bast.journal_move moves the second journal copy to a named position. -/
def execBastJournalMove (h : Hdr) (pos : Nat) (s : State) : Host.Outcome State Fault Refusal :=
  s.act (fun t => t.actionReqS h Obj.bastJournalMove 0 pos (fun u => u.actJournalMove pos))

/-- RESYNC_STRIPE (R150): Resync recomputes and writes P and Q of the next SUSPECT stripe. -/
def execResyncStripe (cells : List Cell) (s : State) : Host.Outcome State Fault Refusal :=
  s.act (fun t => t.resyncStripe cells)

/-- PWRFAIL_FILTERED (R152): A filtered PWRFAIL_N assertion quiesces the device and starts the vault dump. -/
def execPwrfailFiltered (s : State) : Host.Outcome State Fault Refusal :=
  s.act (fun t => t.pwrfailOp)

/-- VAULT_CHUNK_WRITE_DONE (R153): A vault chunk write completes, or fails and is repeated at the next position. -/
def execVaultChunkWriteDone (ok : Bool) (s : State) : Host.Outcome State Fault Refusal :=
  s.act (fun t => t.chunkDone ok)

/-- VAULT_FLUSH_DONE (R153): The Flush to every written member completes and the COMPLETE header is written. -/
def execVaultFlushDone (held : Bool) (s : State) : Host.Outcome State Fault Refusal :=
  s.act (fun t => t.flushDone held)

/-- VAULT_TEST (R158): vault.test runs a complete dump without quiescing hosts and measures vault.rate. -/
def execVaultTest (h : Hdr) (s : State) : Host.Outcome State Fault Refusal :=
  s.act (fun t => t.actionReq h Obj.vaultTest 0 1 true State.vaultTestOp)

/-- RECONSTRUCT_STRIPE (R172): A normal pass reconstructs the failed position's stitch of the next stripe into its spare slot.
-/
def execReconstructStripe (pos : Nat) (cells : List Cell) (s : State) : Host.Outcome State Fault Refusal :=
  s.act (fun t => t.reconstructStripe pos cells)

/-- CRITICAL_STRIPE (R175): A critical pass decodes both missing stitches of the next stripe of the pair. -/
def execCriticalStripe (a b : Nat) (cells : List Cell) (s : State) : Host.Outcome State Fault Refusal :=
  s.act (fun t => t.criticalStripe a b cells)

/-- RATE_CONTROLLER_WINDOW (R179): Every rb.window the controller recomputes the ceiling, rb.rate and bg.rate. -/
def execRateControllerWindow (reads p99 : Nat) (s : State) : Host.Outcome State Fault Refusal :=
  s.act (fun t => (t.rateWindow reads p99).throttleRates)

/-- RELIST_STRIPE (R192): Relisting reads the next stripe of a LOST bolt and relists its poison blocks. -/
def execRelistStripe (cells : List Cell) (s : State) : Host.Outcome State Fault Refusal :=
  s.act (fun t => t.relistStripe cells)

/-- SCRUB_STRIPE (R199): Scrub reads and checks the next stripe and repairs mismatches. -/
def execScrubStripe (cells : List Cell) (s : State) : Host.Outcome State Fault Refusal :=
  s.act (fun t => t.scrubStripe cells)

/-- SCRUB_START (R200): scrub.start ends the current pass and starts a new one at entry 0. -/
def execScrubStart (h : Hdr) (s : State) : Host.Outcome State Fault Refusal :=
  s.act (fun t => t.actionReq h Obj.scrubStart 0 1 true State.scrubStartOp)

/-- PROACTIVE_COPY_START (R201): A waiting proactive copy takes a lane once one qualifies. -/
def execProactiveCopyStart (pos : Nat) (s : State) : Host.Outcome State Fault Refusal :=
  s.act (fun t => t.copyStart pos)

/-- PROACTIVE_COPY_STRIPE (R201): The proactive copy copies the FAILING member's stitch of the next stripe to the spare slot.
-/
def execProactiveCopyStripe (pos : Nat) (cells : List Cell) (s : State) : Host.Outcome State Fault Refusal :=
  s.act (fun t => t.copyStripe pos cells)

end Sys2Proof.Machine
end

