-- ==== Sys2Proof/Machine/Dispatch.lean ====
section
/-!
DEFINITION. Machine/Dispatch.lean: the meaning of every command, one arm each.
-/

namespace Sys2Proof.Machine

def exec (i : Instr) (s : State) : Host.Outcome State Fault Refusal :=
  match i with
  | .pdRequest h row value => Sys2Proof.Machine.execPdRequest h row value s
  | .domainReady row => Sys2Proof.Machine.execDomainReady row s
  | .domainDrainDone row => Sys2Proof.Machine.execDomainDrainDone row s
  | .domainDrainTimeout row => Sys2Proof.Machine.execDomainDrainTimeout row s
  | .ptpSync port domain transport offset => Sys2Proof.Machine.execPtpSync port domain transport offset s
  | .detection det stype scope detail => Sys2Proof.Machine.execDetection det stype scope detail s
  | .notifyTimerExpiry sub => Sys2Proof.Machine.execNotifyTimerExpiry sub s
  | .coalesceWindowExpiry det stype scope => Sys2Proof.Machine.execCoalesceWindowExpiry det stype scope s
  | .hello h slot level nonce => Sys2Proof.Machine.execHello h slot level nonce s
  | .openReq h => Sys2Proof.Machine.execOpenReq h s
  | .closeReq h => Sys2Proof.Machine.execCloseReq h s
  | .readReq h items => Sys2Proof.Machine.execReadReq h items s
  | .writeReq h items => Sys2Proof.Machine.execWriteReq h items s
  | .commitReq h => Sys2Proof.Machine.execCommitReq h s
  | .commitWriteDone ok => Sys2Proof.Machine.execCommitWriteDone ok s
  | .subscribe h groups scopes start => Sys2Proof.Machine.execSubscribe h groups scopes start s
  | .unsubscribe h sub => Sys2Proof.Machine.execUnsubscribe h sub s
  | .halfOpenExpiry id => Sys2Proof.Machine.execHalfOpenExpiry id s
  | .sessionIdleTimeout row => Sys2Proof.Machine.execSessionIdleTimeout row s
  | .dictRestoreDiscard h => Sys2Proof.Machine.execDictRestoreDiscard h s
  | .dictRestoreFactory h => Sys2Proof.Machine.execDictRestoreFactory h s
  | .dictRestoreSlot h => Sys2Proof.Machine.execDictRestoreSlot h s
  | .dictRestoreAll h => Sys2Proof.Machine.execDictRestoreAll h s
  | .sessClose h row => Sys2Proof.Machine.execSessClose h row s
  | .keyValueWrite h row value => Sys2Proof.Machine.execKeyValueWrite h row value s
  | .keyLevelWrite h row level => Sys2Proof.Machine.execKeyLevelWrite h row level s
  | .mailboxGo queued => Sys2Proof.Machine.execMailboxGo queued s
  | .registerWrite func off value => Sys2Proof.Machine.execRegisterWrite func off value s
  | .smbSelectObject idx sub flags row pecBad => Sys2Proof.Machine.execSmbSelectObject idx sub flags row pecBad s
  | .geoActivate h g => Sys2Proof.Machine.execGeoActivate h g s
  | .geoTablesGenerated g => Sys2Proof.Machine.execGeoTablesGenerated g s
  | .geoMapAck g ok => Sys2Proof.Machine.execGeoMapAck g ok s
  | .geoRetire h g => Sys2Proof.Machine.execGeoRetire h g s
  | .mapCopyAck blk => Sys2Proof.Machine.execMapCopyAck blk s
  | .nsSlotsFreed ns => Sys2Proof.Machine.execNsSlotsFreed ns s
  | .zeroInitDone entry => Sys2Proof.Machine.execZeroInitDone entry s
  | .boltMigrate h entry geo => Sys2Proof.Machine.execBoltMigrate h entry geo s
  | .migrationStart entry => Sys2Proof.Machine.execMigrationStart entry s
  | .migrationStripeCopy entry cells => Sys2Proof.Machine.execMigrationStripeCopy entry cells s
  | .migrationRecordRetire entry => Sys2Proof.Machine.execMigrationRecordRetire entry s
  | .migrationSourceFree entry => Sys2Proof.Machine.execMigrationSourceFree entry s
  | .copybackStripe pos cells => Sys2Proof.Machine.execCopybackStripe pos cells s
  | .frameReserve ns => Sys2Proof.Machine.execFrameReserve ns s
  | .fillReadDone cmd range row ok data pi => Sys2Proof.Machine.execFillReadDone cmd range row ok data pi s
  | .holdTimerExpiry entry sel stripe => Sys2Proof.Machine.execHoldTimerExpiry entry sel stripe s
  | .destageStart entry sel stripe => Sys2Proof.Machine.execDestageStart entry sel stripe s
  | .fillInDone entry sel stripe cells => Sys2Proof.Machine.execFillInDone entry sel stripe cells s
  | .bastingRecordPersisted jseq => Sys2Proof.Machine.execBastingRecordPersisted jseq s
  | .destageEncode entry sel stripe bad => Sys2Proof.Machine.execDestageEncode entry sel stripe bad s
  | .memberCompletion tag status data => Sys2Proof.Machine.execMemberCompletion tag status data s
  | .darningDecodeDone cmd blk => Sys2Proof.Machine.execDarningDecodeDone cmd blk s
  | .journalPageWriteDone page copy ok => Sys2Proof.Machine.execJournalPageWriteDone page copy ok s
  | .bastJournalMove h pos => Sys2Proof.Machine.execBastJournalMove h pos s
  | .vaultChunkWriteDone ok => Sys2Proof.Machine.execVaultChunkWriteDone ok s
  | .vaultFlushDone held => Sys2Proof.Machine.execVaultFlushDone held s
  | .vaultTest h => Sys2Proof.Machine.execVaultTest h s
  | .reconstructStripe pos cells => Sys2Proof.Machine.execReconstructStripe pos cells s
  | .rateControllerWindow reads p99 => Sys2Proof.Machine.execRateControllerWindow reads p99 s
  | .scrubStart h => Sys2Proof.Machine.execScrubStart h s
  | .proactiveCopyStart pos => Sys2Proof.Machine.execProactiveCopyStart pos s
  | .ethLinkUp port sub matched => Sys2Proof.Machine.execEthLinkUp port sub matched s
  | .ethLinkDown port sub => Sys2Proof.Machine.execEthLinkDown port sub s
  | .arpRequest k target => Sys2Proof.Machine.execArpRequest k target s
  | .neighborSolicitation k target => Sys2Proof.Machine.execNeighborSolicitation k target s
  | .pfcPause port prio quanta => Sys2Proof.Machine.execPfcPause port prio quanta s
  | .pauseQuantaExpiry port prio => Sys2Proof.Machine.execPauseQuantaExpiry port prio s
  | .pfcRepeatTimer port prio level => Sys2Proof.Machine.execPfcRepeatTimer port prio level s
  | .pfcWatchdogExpiry port prio => Sys2Proof.Machine.execPfcWatchdogExpiry port prio s
  | .cmReq k q => Sys2Proof.Machine.execCmReq k q s
  | .cmRtu k row => Sys2Proof.Machine.execCmRtu k row s
  | .cmRej k row => Sys2Proof.Machine.execCmRej k row s
  | .cmDreq k row => Sys2Proof.Machine.execCmDreq k row s
  | .connectingTimeout row => Sys2Proof.Machine.execConnectingTimeout row s
  | .ack k => Sys2Proof.Machine.execAck k s
  | .nakSequenceError k => Sys2Proof.Machine.execNakSequenceError k s
  | .rnrNak k => Sys2Proof.Machine.execRnrNak k s
  | .nakError k code => Sys2Proof.Machine.execNakError k code s
  | .rdmaReadResponse k len data => Sys2Proof.Machine.execRdmaReadResponse k len data s
  | .cnp k => Sys2Proof.Machine.execCnp k s
  | .invalidOpcodePacket k op => Sys2Proof.Machine.execInvalidOpcodePacket k op s
  | .ackTimeout row => Sys2Proof.Machine.execAckTimeout row s
  | .rnrWaitExpiry row => Sys2Proof.Machine.execRnrWaitExpiry row s
  | .ackCoalesceTimer row => Sys2Proof.Machine.execAckCoalesceTimer row s
  | .alphaTimer row => Sys2Proof.Machine.execAlphaTimer row s
  | .rpTimer row => Sys2Proof.Machine.execRpTimer row s
  | .contextFetchStart row => Sys2Proof.Machine.execContextFetchStart row s
  | .contextFetchDone row => Sys2Proof.Machine.execContextFetchDone row s
  | .qpDrainComplete row => Sys2Proof.Machine.execQpDrainComplete row s
  | .drainTimeout row => Sys2Proof.Machine.execDrainTimeout row s
  | .keepaliveExpiry ctrl => Sys2Proof.Machine.execKeepaliveExpiry ctrl s
  | .qpClose h row => Sys2Proof.Machine.execQpClose h row s
  | .qpPinWrite h row value => Sys2Proof.Machine.execQpPinWrite h row value s
  | .fabricsConnect k cid qid sqsize kato cntlid tbkas nqn subnqn hostId => Sys2Proof.Machine.execFabricsConnect k cid qid sqsize kato cntlid tbkas nqn subnqn hostId s
  | .propertyGet k cid off => Sys2Proof.Machine.execPropertyGet k cid off s
  | .propertySet k cid off value => Sys2Proof.Machine.execPropertySet k cid off value s
  | .disconnect k cid => Sys2Proof.Machine.execDisconnect k cid s
  | .identify k cid cns nsid sgl => Sys2Proof.Machine.execIdentify k cid cns nsid sgl s
  | .getLogPage k cid lid off rae sgl => Sys2Proof.Machine.execGetLogPage k cid lid off rae sgl s
  | .setFeatures k cid fid value => Sys2Proof.Machine.execSetFeatures k cid fid value s
  | .getFeatures k cid fid => Sys2Proof.Machine.execGetFeatures k cid fid s
  | .asynchronousEventRequest k cid => Sys2Proof.Machine.execAsynchronousEventRequest k cid s
  | .keepAlive k cid => Sys2Proof.Machine.execKeepAlive k cid s
  | .abort k cid => Sys2Proof.Machine.execAbort k cid s
  | .nvmeRead k cid nsid slba nlb pr sgl => Sys2Proof.Machine.execNvmeRead k cid nsid slba nlb pr sgl s
  | .nvmeWrite k cid nsid slba nlb pr sgl => Sys2Proof.Machine.execNvmeWrite k cid nsid slba nlb pr sgl s
  | .writeZeroes k cid nsid slba nlb => Sys2Proof.Machine.execWriteZeroes k cid nsid slba nlb s
  | .nvmeFlush k cid nsid => Sys2Proof.Machine.execNvmeFlush k cid nsid s
  | .rdmaWrite k first last key va len plen payload => Sys2Proof.Machine.execRdmaWrite k first last key va len plen payload s
  | .knotWrite k key va len payload => Sys2Proof.Machine.execKnotWrite k key va len payload s
  | .rdmaRead k key va len => Sys2Proof.Machine.execRdmaRead k key va len s
  | .eyeletFlush k => Sys2Proof.Machine.execEyeletFlush k s
  | .eyeletWritePlaced id => Sys2Proof.Machine.execEyeletWritePlaced id s
  | .chainArm k c => Sys2Proof.Machine.execChainArm k c s
  | .chainDisarm k c => Sys2Proof.Machine.execChainDisarm k c s
  | .sendWithImmediate k imm len payload => Sys2Proof.Machine.execSendWithImmediate k imm len payload s
  | .wrRead slot => Sys2Proof.Machine.execWrRead slot s
  | .wrWrite slot => Sys2Proof.Machine.execWrWrite slot s
  | .wrSend slot => Sys2Proof.Machine.execWrSend slot s
  | .wrLink slot => Sys2Proof.Machine.execWrLink slot s
  | .wrNop slot => Sys2Proof.Machine.execWrNop slot s
  | .workRequestComplete slot wr => Sys2Proof.Machine.execWorkRequestComplete slot wr s
  | .chainDisarmAction h slot => Sys2Proof.Machine.execChainDisarmAction h slot s
  | .eyeRegister h row => Sys2Proof.Machine.execEyeRegister h row s
  | .eyeRevoke h row => Sys2Proof.Machine.execEyeRevoke h row s
  | .eyeRevokeTimeout row => Sys2Proof.Machine.execEyeRevokeTimeout row s
  | .eyeCommit h row => Sys2Proof.Machine.execEyeCommit h row s
  | .keyCacheUpdateDone row => Sys2Proof.Machine.execKeyCacheUpdateDone row s
  | .eyeCommitTimeout row => Sys2Proof.Machine.execEyeCommitTimeout row s
  | .fenceRelease h row clear => Sys2Proof.Machine.execFenceRelease h row clear s
  | .fenceDrainDone row => Sys2Proof.Machine.execFenceDrainDone row s
  | .fenceDrainTimeout row => Sys2Proof.Machine.execFenceDrainTimeout row s
  | .fenceReleasedTimeout row => Sys2Proof.Machine.execFenceReleasedTimeout row s
  | .selEngage h => Sys2Proof.Machine.execSelEngage h s
  | .msqMismatch slices aFaulty bFaulty => Sys2Proof.Machine.execMsqMismatch slices aFaulty bFaulty s
  | .msqRepair h selfTest => Sys2Proof.Machine.execMsqRepair h selfTest s
  | .msqResyncDone equal => Sys2Proof.Machine.execMsqResyncDone equal s
  | .msqCmpTest h pass => Sys2Proof.Machine.execMsqCmpTest h pass s
  | .cmpTestPeriodExpiry pass => Sys2Proof.Machine.execCmpTestPeriodExpiry pass s
  | .msqSwitchTest h arg => Sys2Proof.Machine.execMsqSwitchTest h arg s
  | .cellArrival src dst cls seq plane crcOk => Sys2Proof.Machine.execCellArrival src dst cls seq plane crcOk s
  | .receiptCredit src dst cls seq => Sys2Proof.Machine.execReceiptCredit src dst cls seq s
  | .hemGapTimeout src dst cls => Sys2Proof.Machine.execHemGapTimeout src dst cls s
  | .frameAssembly port sub => Sys2Proof.Machine.execFrameAssembly port sub s
  | .holdExpiry port sub => Sys2Proof.Machine.execHoldExpiry port sub s
  | .planeTest h plane => Sys2Proof.Machine.execPlaneTest h plane s
  | .planeTestDone plane pass => Sys2Proof.Machine.execPlaneTestDone plane pass s
  | .frameTransmit port sub => Sys2Proof.Machine.execFrameTransmit port sub s
  | .calendarSlot port => Sys2Proof.Machine.execCalendarSlot port s
  | .bucketRefill port => Sys2Proof.Machine.execBucketRefill port s
  | .tensionModeSwitchBack port => Sys2Proof.Machine.execTensionModeSwitchBack port s
  | .policerModeWrite h row aware value => Sys2Proof.Machine.execPolicerModeWrite h row aware value s
  | .driveLinkDown bay => Sys2Proof.Machine.execDriveLinkDown bay s
  | .driveUncorrectableError bay => Sys2Proof.Machine.execDriveUncorrectableError bay s
  | .driveLinkRecovered bay speed width => Sys2Proof.Machine.execDriveLinkRecovered bay speed width s
  | .driveRecoverTimeout bay partnerPath => Sys2Proof.Machine.execDriveRecoverTimeout bay partnerPath s
  | .dlinkRetrain h bay => Sys2Proof.Machine.execDlinkRetrain h bay s
  | .perstDeassert bay => Sys2Proof.Machine.execPerstDeassert bay s
  | .driveLinkUp bay speed width => Sys2Proof.Machine.execDriveLinkUp bay speed width s
  | .probeDone bay fail serial model capacity queues volatile array gen => Sys2Proof.Machine.execProbeDone bay fail serial model capacity queues volatile array gen s
  | .commandTimeout tag => Sys2Proof.Machine.execCommandTimeout tag s
  | .abortTimeout tag => Sys2Proof.Machine.execAbortTimeout tag s
  | .controllerFatalStatus bay => Sys2Proof.Machine.execControllerFatalStatus bay s
  | .controllerResetDone bay ok => Sys2Proof.Machine.execControllerResetDone bay ok s
  | .healthPoll bay warn pct media => Sys2Proof.Machine.execHealthPoll bay warn pct media s
  | .memberAsyncEvent bay warn pct media => Sys2Proof.Machine.execMemberAsyncEvent bay warn pct media s
  | .memberTempPoll bay temp => Sys2Proof.Machine.execMemberTempPoll bay temp s
  | .absentGraceExpiry bay => Sys2Proof.Machine.execAbsentGraceExpiry bay s
  | .memAssign h bay arg => Sys2Proof.Machine.execMemAssign h bay arg s
  | .memRetire h bay => Sys2Proof.Machine.execMemRetire h bay s
  | .memClearFailing h bay => Sys2Proof.Machine.execMemClearFailing h bay s
  | .presenceChange bay aLow bLow => Sys2Proof.Machine.execPresenceChange bay aLow bLow s
  | .debounceComplete bay => Sys2Proof.Machine.execDebounceComplete bay s
  | .safetyPass sensors watts hot idle busyEngines busyGroups => Sys2Proof.Machine.execSafetyPass sensors watts hot idle busyEngines busyGroups s
  | .partnerRampTimeout bay => Sys2Proof.Machine.execPartnerRampTimeout bay s
  | .railOn bay rail33 => Sys2Proof.Machine.execRailOn bay rail33 s
  | .rampTimeout bay rail33 cur src => Sys2Proof.Machine.execRampTimeout bay rail33 cur src s
  | .currentLimitReached bay rail33 => Sys2Proof.Machine.execCurrentLimitReached bay rail33 s
  | .limitExit bay rail33 => Sys2Proof.Machine.execLimitExit bay rail33 s
  | .faultTimerExpiry bay rail33 cur src => Sys2Proof.Machine.execFaultTimerExpiry bay rail33 cur src s
  | .fastTrip bay rail33 cur src => Sys2Proof.Machine.execFastTrip bay rail33 cur src s
  | .srcDischarged bay both => Sys2Proof.Machine.execSrcDischarged bay both s
  | .retryTimerExpiry bay => Sys2Proof.Machine.execRetryTimerExpiry bay s
  | .goodTimeExpiry bay => Sys2Proof.Machine.execGoodTimeExpiry bay s
  | .passElementFault bay rail33 cur src => Sys2Proof.Machine.execPassElementFault bay rail33 cur src s
  | .oringReverse bay rail33 => Sys2Proof.Machine.execOringReverse bay rail33 s
  | .oringDropHigh bay rail33 cur src => Sys2Proof.Machine.execOringDropHigh bay rail33 cur src s
  | .bayEnableWrite h bay value => Sys2Proof.Machine.execBayEnableWrite h bay value s
  | .perstOffWaitExpiry bay => Sys2Proof.Machine.execPerstOffWaitExpiry bay s
  | .bayLimitWrite h bay sub value => Sys2Proof.Machine.execBayLimitWrite h bay sub value s
  | .bayClear h bay => Sys2Proof.Machine.execBayClear h bay s
  | .shuntCalibration h bay rail33 known => Sys2Proof.Machine.execShuntCalibration h bay rail33 known s
  | .shuntCalibrationDone bay rail33 measured varied => Sys2Proof.Machine.execShuntCalibrationDone bay rail33 measured varied s
  | .epPerst low => Sys2Proof.Machine.execEpPerst low s
  | .configRequest fn f w => Sys2Proof.Machine.execConfigRequest fn f w s
  | .functionLevelReset fn => Sys2Proof.Machine.execFunctionLevelReset fn s
  | .bmeClear fn => Sys2Proof.Machine.execBmeClear fn s
  | .d3hotEntry fn => Sys2Proof.Machine.execD3hotEntry fn s
  | .fnResume fn => Sys2Proof.Machine.execFnResume fn s
  | .containmentRelease h clear => Sys2Proof.Machine.execContainmentRelease h clear s
  | .msixUnmask fn vec => Sys2Proof.Machine.execMsixUnmask fn vec s
  | .peerWrite reqid off len data ro poison => Sys2Proof.Machine.execPeerWrite reqid off len data ro poison s
  | .peerRead reqid tag off len ro => Sys2Proof.Machine.execPeerRead reqid tag off len ro s
  | .windowCommit w => Sys2Proof.Machine.execWindowCommit w s
  | .pcieCompletion id fn status data => Sys2Proof.Machine.execPcieCompletion id fn status data s
  | .completionTimeout id => Sys2Proof.Machine.execCompletionTimeout id s
  | .ringDb fn loc => Sys2Proof.Machine.execRingDb fn loc s
  | .ringFetchDone id ents => Sys2Proof.Machine.execRingFetchDone id ents s
  | .nop r idx => Sys2Proof.Machine.execNop r idx s
  | .nsRead r idx => Sys2Proof.Machine.execNsRead r idx s
  | .nsWrite r idx => Sys2Proof.Machine.execNsWrite r idx s
  | .eyeRead r idx => Sys2Proof.Machine.execEyeRead r idx s
  | .eyeWrite r idx => Sys2Proof.Machine.execEyeWrite r idx s
  | .eyeFlush r idx => Sys2Proof.Machine.execEyeFlush r idx s
  | .ringJobComplete r idx => Sys2Proof.Machine.execRingJobComplete r idx s
  | .ringEnable fn loc value => Sys2Proof.Machine.execRingEnable fn loc value s
  | .ringDisable fn loc value => Sys2Proof.Machine.execRingDisable fn loc value s
  | .ringRestart fn loc value => Sys2Proof.Machine.execRingRestart fn loc value s
  | .irqHoldoffExpiry r => Sys2Proof.Machine.execIrqHoldoffExpiry r s
  | .shuttleEnqueue fn c value => Sys2Proof.Machine.execShuttleEnqueue fn c value s
  | .shuttleGo fn c => Sys2Proof.Machine.execShuttleGo fn c s
  | .shuttleStop fn c => Sys2Proof.Machine.execShuttleStop fn c s
  | .shuttleReset fn c => Sys2Proof.Machine.execShuttleReset fn c s
  | .shuttleCqHead fn c value => Sys2Proof.Machine.execShuttleCqHead fn c value s
  | .shuttleDescriptorFetched id word => Sys2Proof.Machine.execShuttleDescriptorFetched id word s
  | .shuttleDescriptorDone c => Sys2Proof.Machine.execShuttleDescriptorDone c s
  | .stageComplete fail f => Sys2Proof.Machine.execStageComplete fail f s
  | .bootResetCold h => Sys2Proof.Machine.execBootResetCold h s
  | .bootResetWarm h => Sys2Proof.Machine.execBootResetWarm h s
  | .bootDomainReset h row => Sys2Proof.Machine.execBootDomainReset h row s
  | .bootDepart h arg => Sys2Proof.Machine.execBootDepart h arg s
  | .fwuBegin h => Sys2Proof.Machine.execFwuBegin h s
  | .fwuData h value => Sys2Proof.Machine.execFwuData h value s
  | .fwuVerify h hashOk sigOk digestOk => Sys2Proof.Machine.execFwuVerify h hashOk sigOk digestOk s
  | .fwuActivate h => Sys2Proof.Machine.execFwuActivate h s
  | .fwuConfirm h => Sys2Proof.Machine.execFwuConfirm h s
  | .fwuRaiseSvn h cells => Sys2Proof.Machine.execFwuRaiseSvn h cells s
  | .watchdogExpiry core => Sys2Proof.Machine.execWatchdogExpiry core s
  | .telemetryPass loads lag flushP99 readP99 => Sys2Proof.Machine.execTelemetryPass loads lag flushP99 readP99 s
  | .injection h det row n => Sys2Proof.Machine.execInjection h det row n s
  | .injectionOccurrence det row => Sys2Proof.Machine.execInjectionOccurrence det row s
  | .pfcWatchdogRecovery port prio => Sys2Proof.Machine.execPfcWatchdogRecovery port prio s
  | .measurementSample bay i12 v12 i33 v33 src12 src33 => Sys2Proof.Machine.execMeasurementSample bay i12 v12 i33 v33 src12 src33 s
  | .endpointLinkUp speed width => Sys2Proof.Machine.execEndpointLinkUp speed width s
  | .mgmtLinkUp port => Sys2Proof.Machine.execMgmtLinkUp port s
  | .windowUpdatePoint w => Sys2Proof.Machine.execWindowUpdatePoint w s
  | .resyncStripe cells => Sys2Proof.Machine.execResyncStripe cells s
  | .criticalStripe a b cells => Sys2Proof.Machine.execCriticalStripe a b cells s
  | .relistStripe cells => Sys2Proof.Machine.execRelistStripe cells s
  | .scrubStripe cells => Sys2Proof.Machine.execScrubStripe cells s
  | .proactiveCopyStripe pos cells => Sys2Proof.Machine.execProactiveCopyStripe pos cells s
  | .heartbeat h stage flags owned dirver => Sys2Proof.Machine.execHeartbeat h stage flags owned dirver s
  | .viewExpiry row => Sys2Proof.Machine.execViewExpiry row s
  | .joinMsg h digest hosts => Sys2Proof.Machine.execJoinMsg h digest hosts s
  | .welcome h deputy version dir => Sys2Proof.Machine.execWelcome h deputy version dir s
  | .leaveMsg h => Sys2Proof.Machine.execLeaveMsg h s
  | .dirUpdate h version dir => Sys2Proof.Machine.execDirUpdate h version dir s
  | .dirAck h version => Sys2Proof.Machine.execDirAck h version s
  | .confirmQuery h row => Sys2Proof.Machine.execConfirmQuery h row s
  | .confirmReply h row missing ms taken => Sys2Proof.Machine.execConfirmReply h row missing ms taken s
  | .takeoverRequest h cause => Sys2Proof.Machine.execTakeoverRequest h cause s
  | .takeoverNotice h lost adopted => Sys2Proof.Machine.execTakeoverNotice h lost adopted s
  | .handover h nss step => Sys2Proof.Machine.execHandover h nss step s
  | .takeoverPreemptDone pos result solo recs => Sys2Proof.Machine.execTakeoverPreemptDone pos result solo recs s
  | .twinLinkUp lanes => Sys2Proof.Machine.execTwinLinkUp lanes s
  | .pair h dev side region ceiling => Sys2Proof.Machine.execPair h dev side region ceiling s
  | .twinIdle h => Sys2Proof.Machine.execTwinIdle h s
  | .twinNak h => Sys2Proof.Machine.execTwinNak h s
  | .mirrorWrite h k mseq blks => Sys2Proof.Machine.execMirrorWrite h k mseq blks s
  | .mirrorAck h seqs => Sys2Proof.Machine.execMirrorAck h seqs s
  | .mirrorRelease h keys => Sys2Proof.Machine.execMirrorRelease h keys s
  | .journalFrame h recs => Sys2Proof.Machine.execJournalFrame h recs s
  | .vaultNotice h => Sys2Proof.Machine.execVaultNotice h s
  | .keeperFrame h m => Sys2Proof.Machine.execKeeperFrame h m s
  | .proxyCmd h tag bay kind lba count data => Sys2Proof.Machine.execProxyCmd h tag bay kind lba count data s
  | .proxyCpl h tag status data => Sys2Proof.Machine.execProxyCpl h tag status data s
  | .ownMove h ns => Sys2Proof.Machine.execOwnMove h ns s
  | .ownMoveHome h => Sys2Proof.Machine.execOwnMoveHome h s
  | .sknLeave h => Sys2Proof.Machine.execSknLeave h s
  | .sknRejoin h => Sys2Proof.Machine.execSknRejoin h s
  | .ptpLockLost => Sys2Proof.Machine.execPtpLockLost s
  | .mailboxRspClear => Sys2Proof.Machine.execMailboxRspClear s
  | .mailboxNtfClear => Sys2Proof.Machine.execMailboxNtfClear s
  | .smbReadStage => Sys2Proof.Machine.execSmbReadStage s
  | .smbReadIdentity => Sys2Proof.Machine.execSmbReadIdentity s
  | .smbReadEvents => Sys2Proof.Machine.execSmbReadEvents s
  | .smbReadObject => Sys2Proof.Machine.execSmbReadObject s
  | .smbAlertResponse => Sys2Proof.Machine.execSmbAlertResponse s
  | .mapCopyDone => Sys2Proof.Machine.execMapCopyDone s
  | .zeroWalkStep => Sys2Proof.Machine.execZeroWalkStep s
  | .mirrorResyncDone => Sys2Proof.Machine.execMirrorResyncDone s
  | .mirrorRegionShrink => Sys2Proof.Machine.execMirrorRegionShrink s
  | .journalPageTimer => Sys2Proof.Machine.execJournalPageTimer s
  | .journalRehomeDone => Sys2Proof.Machine.execJournalRehomeDone s
  | .pwrfailFiltered => Sys2Proof.Machine.execPwrfailFiltered s
  | .cmReqAdmit => Sys2Proof.Machine.execCmReqAdmit s
  | .chainHeldTriggerStart => Sys2Proof.Machine.execChainHeldTriggerStart s
  | .vauxUndervoltage => Sys2Proof.Machine.execVauxUndervoltage s
  | .pollSilenceTimeout => Sys2Proof.Machine.execPollSilenceTimeout s
  | .hotReset => Sys2Proof.Machine.execHotReset s
  | .epLinkDown => Sys2Proof.Machine.execEpLinkDown s
  | .ringFetchTurn => Sys2Proof.Machine.execRingFetchTurn s
  | .heartbeatPeriod => Sys2Proof.Machine.execHeartbeatPeriod s
  | .guardExpiry => Sys2Proof.Machine.execGuardExpiry s
  | .twinLinkDown => Sys2Proof.Machine.execTwinLinkDown s
  | .twinIdleTimer => Sys2Proof.Machine.execTwinIdleTimer s
  | .twinAckTimeout => Sys2Proof.Machine.execTwinAckTimeout s
  | .moveDrainDone => Sys2Proof.Machine.execMoveDrainDone s
  | .moveTimeout => Sys2Proof.Machine.execMoveTimeout s
  | .vauxPowerOn => Sys2Proof.Machine.execVauxPowerOn s
  | .pwronRstAssert => Sys2Proof.Machine.execPwronRstAssert s
  | .pwronRstDeassert => Sys2Proof.Machine.execPwronRstDeassert s
  | .warmRstEdge => Sys2Proof.Machine.execWarmRstEdge s
  | .s6LimitExpiry => Sys2Proof.Machine.execS6LimitExpiry s
  | .preResetDrainDone => Sys2Proof.Machine.execPreResetDrainDone s
  | .departGraceExpiry => Sys2Proof.Machine.execDepartGraceExpiry s
  | .fwuEraseDone => Sys2Proof.Machine.execFwuEraseDone s
  | .fwuTrialConfirmExpiry => Sys2Proof.Machine.execFwuTrialConfirmExpiry s
  | .safetyDeadlineExpiry => Sys2Proof.Machine.execSafetyDeadlineExpiry s
  | .anattExpiry => Sys2Proof.Machine.execAnattExpiry s

end Sys2Proof.Machine
end

