-- ==== Sys2Proof/Safety.lean ====
section
/-!
DEFINITION. Safety.lean: the terms in which claims are stated: the end of a command, a state with nothing left to do, the level of
INTA, a request of a session that is accepted and its answer.
-/

namespace Sys2Proof.Machine

/-- What a command leaves once its own effect has made `t` of `s`: grants, consequences in other units, the queue as it was. -/
def Ends (s t : State) : State := { (s.railsMoved t).settle with pending := s.pending }

/-- Nothing is left for the end of a step: no consequence waits, no injection is under way, no host read waits to be issued, no
solo record, departure or reset waits, no vault generation is to retire, no TLP is held back, INTA has nothing to say. -/
def State.quiet (s : State) : Bool :=
  decide (s.todo = []) && decide (s.ev.force = none) && s.ep.reads.all (fun r => r.issued || r.dead || decide (r.fn = 0xFF))
    && decide (s.sk.solo = none) && decide (s.boot.depart = none) && decide (s.boot.wait = .none) && decide (s.ep.stalled = [])
    && decide (s.vault.restored = [])
    && (decide (s.ep.inta = s.intxLevel) || s.frozen || !s.epUp)

/-- INTA is as R406 has it, or the endpoint cannot say so: it is FROZEN or its link is down. -/
def State.intaRight (s : State) : Prop := s.ep.inta = s.intxLevel ∨ s.frozen = true ∨ s.epUp = false

/-- A posted memory write of the host is served at once: the endpoint serves memory TLPs, is not FROZEN, its peer write buffer has
room and nothing is held back before it (Table 15-4, R415, R420). -/
def State.barOpen (s : State) : Prop := s.epServes = true ∧ s.frozen = false ∧ s.peerFull = false ∧ s.ep.stalled = []

/-- A packet that passes its port, belongs to a resident QP `q` and is met there in state `u`: its source MAC and time are noted, a
CONNECTING QP is ACTIVE, a CE mark may have sent a CNP (R209 to R214, R218, R225, R233). -/
def State.meets (t : State) (q : Nat) (k : Pkt) (u : State) : Prop :=
  (t.qp q).resident = true ∧ u = (t.noted q k).ceMark q k

/-- The request packet `i` reaches the ACTIVE QP `q` in state `u` at the expected PSN, and nothing makes it wait: the frame is good,
the policer passes it, no knot holds the QP (R209 to R225, R237, R263, R341). -/
def State.reaches (s : State) (i : Instr) (k : Pkt) (q : Nat) (u : State) : Prop :=
  pktOf i = some (k, true) ∧ ∃ t p : State, s.frameIn k = (t, true) ∧ t.ownerQp k = some q ∧ t.police k (t.qp q).host = (p, true)
    ∧ p.meets q k u ∧ (p.noted q k).psnOrder q k.psn = 0 ∧ ((p.noted q k).qp q).st = .active ∧ (p.noted q k).mustHold q i = false

/-- The response, ACK, NAK or CNP `i` reaches the QP `q`, not in ERROR, in state `u`; a CNP is counted at its port (R219). -/
def State.responds (s : State) (i : Instr) (k : Pkt) (q : Nat) (u : State) : Prop :=
  pktOf i = some (k, false) ∧ ∃ t : State, s.frameIn k = (t, true) ∧ t.ownerQp k = some q
    ∧ (((t.countCnp k i).noted q k).qp q).st ≠ .error ∧ (t.countCnp k i).meets q k u

/-- A capsule is accepted on a queue of a controller: one SEND message, the submission queue head moved on (R237, R246, R247). -/
def State.taken (u : State) (q : Nat) (k : Pkt) : State := (u.acceptPsn q k.n k.ackReq true).cmdSeen q

/-- A sequenced frame of the twin link that is accepted: the link serves, the peer has paired, the CRCs pass and `SEQ` is the one
expected (R463). -/
def State.twHears (s : State) (h : TwHdr) : Prop :=
  2 ≤ s.sk.twin.st ∧ s.sk.twin.held = false ∧ h.crcOk = true ∧ s.sk.twin.paired = true ∧ h.seq = s.sk.twin.rx

/-- What an accepted frame does before its own effect: the next `SEQ` is expected, the peer's acknowledgment and credit count, and
the partner is heard (R460, R463). -/
def State.twHeard (s : State) (h : TwHdr) : State :=
  ((s.setTwin { s.sk.twin with rx := wrapAdd 32 s.sk.twin.rx 1, nakSent := false }).twinAcked h.ack h.credit).hearPartner

/-- A skein message that is accepted: from another row of the skein, over a path that carries it, authentic, from that row's device
and new (R457 to R459). -/
def State.skHears (s : State) (h : SkHdr) (b : SkBody) : Prop :=
  s.skn.row ≠ none ∧ s.inS7 = true ∧ s.skn.row ≠ some h.row ∧ s.skRows.contains h.row = true ∧ s.skCarried h = true
    ∧ h.auth = s.skAuth b h.row h.role h.term h.seq h.sender ∧ s.rw Obj.srowDeviceId h.row = h.sender
    ∧ (s.skRow h.row).accepts h.seq = true

/-- What an accepted message does before its own effect: the sender counts as heard with its role, a partner is present, a claim
to be manager counts, a row that came into the view is in the directory (R453, R454, R460). -/
def State.skHeard (s : State) (h : SkHdr) : State :=
  let t := s.updSkRow h.row (fun x => x.accept h.seq h.role s.clk.ns)
  let u := if t.skn.partner = some h.row then
      { t with skn := { t.skn with present := !(t.skRow h.row).left && !t.sk.tko.adopted }, sk := { t.sk with tko := { t.sk.tko with lost := false } } }
    else t
  let v := (u.hearClaim h.row h.role h.term).elect false
  if s.inView h.row then v else v.dirSet (v.rowEnts h.row)

/-- The message `b` with header `h` comes to the device and is acted on in state `u`: over a network path as it stands, over the
twin link after its frame. -/
def State.skGets (s : State) (h : SkHdr) (b : SkBody) (u : State) : Prop :=
  ∃ t : State, (h.path ≠ 0 ∧ t = s ∨ h.path = 0 ∧ ∃ w, h.tw = some w ∧ s.twHears w ∧ t = s.twHeard w)
    ∧ t.skHears h b ∧ u = t.skHeard h

/-- A request that Rendi accepts over a network carrier: it comes from the session `x` of row `r` (R56, R57, R61). -/
def State.takes (s : State) (h : Hdr) (op : Nat) (body : Bytes) (r : Nat) (x : Session) : Prop :=
  s.screen h op body = .go r x

/-- The answer to an ACTION of one item: the object's action state (Table 2-7). -/
def State.actAnswer (t : State) (h : Hdr) (x : Session) (code row arg : Nat) : State :=
  t.finish h 0x0B x (itemsReply [answer (itemFor code row (leBytes 4 arg)) { value := leBytes 4 (t.actAt code row) }])

/-- The answer to a WRITE of one item that succeeded. -/
def State.writeAnswer (t : State) (h : Hdr) (x : Session) (code row : Nat) (b : Bytes) : State :=
  t.finish h 0x09 x (itemsReply [answer (itemFor code row b) {}])

/-- Command `i` is an ACTION on a row of an object: where the request is accepted and passes the checks of R36 and R37, `f` acts
on the state and the answer carries the action state. -/
def ActionRuns (i : Instr) (h : Hdr) (code row arg : Nat) (ok : State → Prop) (f : State → State) : Prop :=
  ∀ (s : State) (r : Nat) (x : Session),
    s.takes h 0x0B (encItems [itemFor code row (leBytes 4 arg)]) r x →
    (s.accepted h r x).actionCheck x code row 4 = 0 → ok (s.accepted h r x) →
    exec i s = .next (Ends s ((f (s.accepted h r x)).actAnswer h x code row arg))

/-- Command `i` is a WRITE of a row of an object: where the request is accepted and the value `v` passes the checks of R34, R36 and
R37, `f` acts on the state and the answer is OK. -/
def WriteRuns (i : Instr) (h : Hdr) (code row : Nat) (b : Bytes) (v : Nat) (ok : State → Prop) (f : State → Session → State) : Prop :=
  ∀ (s : State) (r : Nat) (x : Session),
    s.takes h 0x09 (encItems [itemFor code row b]) r x →
    (s.accepted h r x).writeCheck x code row b = (0, v) → ok (s.accepted h r x) →
    exec i s = .next (Ends s ((f (s.accepted h r x) x).writeAnswer h x code row b))

end Sys2Proof.Machine
end

