-- ==== Sys2Proof/Certificates/Slice0/Obligations.lean ====
section
/-!
DEFINITION. Certificates/Slice0/Obligations.lean: the statements for the provers. `Ends s t` is what a command leaves once its own
effect has made `t` of `s`; a request of a session is named by `takes`, a packet by `reaches` and `responds`, a skein message by
`skGets`, a twin link frame by `twHears`.
-/

open Sys2Proof Sys2Proof.Machine

/-- R22: a write of `pd.request` drains a domain whose off condition holds and wakes one that is OFF; a WAKING domain that is ready
goes ON; a drained one goes OFF and says so; after 100 ms of draining with work in flight it stays ON and the request is refused. -/
def Obligations.PowerDomainCommands : Prop :=
  (∀ (h : Hdr) (row : Nat), WriteRuns (.pdRequest h row 0) h Obj.pdRequest row [0] 0
    (fun u => u.pdPresent row = true ∧ (row < 15 ∨ 28 ≤ row) ∧ (u.pdAt row).st = .on ∧ u.offCond row = true)
    (fun u _ => (((u.pdTo row .draining).updPd row (fun d => { d with byLoop := false, refused := false })).setRw
      Obj.pdRequest row 0).dropPend Obj.pdRequest row))
  ∧ (∀ (h : Hdr) (row : Nat), WriteRuns (.pdRequest h row 1) h Obj.pdRequest row [1] 1
    (fun u => u.pdPresent row = true ∧ (row < 15 ∨ 28 ≤ row) ∧ (u.pdAt row).st = .off ∧ (row < 40 ∨ u.isFenced 2 (row - 40) = false))
    (fun u _ => (((u.pdTo row .waking).updPd row (fun d => { d with owner := 0, refused := false, heldOff := false, byLoop := false })).setRw
      Obj.pdRequest row 1).dropPend Obj.pdRequest row))
  ∧ (∀ (s : State) (row : Nat), (s.pdAt row).st = .waking → row < 44 → (s.pdAt row).heldOff = false → row ∉ s.boot.domains →
    exec (.domainReady row) s = .next (Ends s
      (((s.pdTo row .on).updPd row (fun d => { d with heldOff := false, byLoop := false })).pdServe row)))
  ∧ (∀ (s : State) (row : Nat), (s.pdAt row).st = .draining → row ∉ s.boot.domains →
    (row < 40 ∨ ∀ c ∈ s.net.xbar.sent, 40 + c.plane ≠ row) →
    exec (.domainDrainDone row) s = .next (Ends s
      (((s.pdTo row .off).updPd row (fun d => { d with owner := b2n d.byLoop })).later (.detect 0x006 0 0 row))))
  ∧ ∀ (s : State) (row : Nat), (s.pdAt row).st = .draining → row ∉ s.boot.domains → (s.pdAt row).byLoop = false →
    exec (.domainDrainTimeout row) s = .next (Ends s
      ((((s.pdTo row .on).updPd row (fun d => { d with refused := true, byLoop := false })).setRw Obj.pdRequest row 1).later
        (.detect 0x006 0 0 (row + 256))))

/-- R16, R18, R519, R64, R522: a Sync exchange on the chosen port, domain and transport disciplines the timebase (how far, and
whether it steps, are free values of the model, log entry 2); loss of lock is declared once; a detector without a rule of its own
is counted, recorded and its fence engaged; the notification timer sends what is ready; a coalescing window ends with one record
with ACT 7 that reports its repeats. -/
def Obligations.TimebaseAndEventCommands : Prop :=
  (∀ (s : State) (port domain transport : Nat) (offset : Int), s.clk.running = true → s.rw Obj.timeSource 0 = 1 →
    port = s.rw Obj.timePtpPort 0 → domain = s.rw Obj.timePtpDomain 0 → transport = s.rw Obj.timePtpTransport 0 →
    ∃ (ns : Nat) (adj : Int), -(32768000 : Int) ≤ adj ∧ adj ≤ 32768000 ∧ (ns = s.clk.ns ∨ ns = ((s.clk.ns : Int) - offset).toNat) ∧
      exec (.ptpSync port domain transport offset) s = .next (Ends s { s.used.used with
        clk := { s.clk with ns := ns, freqAdj := adj, offset := offset, locked := true } }))
  ∧ (∀ s : State, s.clk.locked = true → exec .ptpLockLost s = .next (Ends s
      { s with clk := { s.clk with locked := false }, todo := s.todo ++ [.detect 0x003 0 0 0] }))
  ∧ (∀ (s : State) (det stype scope detail : Nat), s.detHere det stype scope = true →
    det ∈ [0x001, 0x002, 0x005, 0x101, 0x102, 0x103, 0x104, 0x201, 0x202, 0x204, 0x205, 0x301, 0x302, 0x304, 0x305, 0x401, 0x403, 0x404,
      0x405, 0x406, 0x501, 0x502, 0x503, 0x505, 0x601, 0x602, 0x801, 0x802, 0x808, 0x901, 0x902, 0x903, 0x904, 0xB01, 0xC01, 0xD02, 0xE01] →
    exec (.detection det stype scope detail) s = .next (Ends s (s.detect det stype scope detail)))
  ∧ (∀ (s : State) (b : Subn) (row : Nat) (x : Session), s.rendi.subs.find? (fun c => c.id = b.id) = some b →
    s.findSession b.session = some (row, x) → b.unsent ≠ [] → s.ntfReady x = true →
    exec (.notifyTimerExpiry b.id) s = .next (Ends s (State.deliverNtf
      { s with rendi := { s.rendi with
          sessions := Tbl.set none s.rendi.sessions row (some { x with ntfSeq := wrapAdd 32 x.ntfSeq 1 })
          subs := updWhere (fun c => c.id = b.id) (fun c => { c with unsent := c.unsent.drop 43, lost := 0 }) s.rendi.subs } }
      x (authed x.ks (hdrBytes 2 0x0C 0 (8 + 32 * min 43 b.unsent.length) x.id 0 0 x.ntfSeq 0 0)
        (leBytes 2 b.id ++ leBytes 2 (min 43 b.unsent.length) ++ leBytes 4 b.lost ++ ((b.unsent.take 43).map Rec.bytes).flatten)))))
  ∧ ∀ (s : State) (c : Coal), s.ev.coal.find? (fun d => d.det = c.det ∧ d.stype = c.stype ∧ d.scope = c.scope) = some c → c.supp ≠ 0 →
    exec (.coalesceWindowExpiry c.det c.stype c.scope) s = .next (Ends s (State.record
      { s with ev := { s.ev with
          coal := updWhere (fun d => d.det = c.det ∧ d.stype = c.stype ∧ d.scope = c.scope) (fun d => { d with supp := 0 }) s.ev.coal } }
      { time := c.time, det := c.det, stype := c.stype, act := 7, inj := c.inj, scope := c.scope, rep := min c.supp 65535
        detail := c.detail }))

/-- R55, R58, R59, R60: HELLO leaves a half-open session and answers a nonce and an identifier (free values of the model, log entry
2); OPEN turns it into a session; CLOSE, `sess.close` and a new key or key level close sessions; a half-open session and an idle
session end by time. -/
def Obligations.SessionCommands : Prop :=
  (∀ (s : State) (h : Hdr) (slot level : Nat) (nonce k : Bytes) (lv : Nat), s.admitHead h 0x01 20 = none →
    h.session = 0 → h.seq = 0 → h.auth = zeros 16 → nonce.length = 16 → 1 ≤ level → level ≤ 3 →
    s.helloKey h slot = some (k, lv) → s.rendi.half.length < 32 →
    exec (.hello h slot level nonce) s = .next (Ends s (State.respondBare
      { s.used.used with rendi := { s.rendi with half := s.rendi.half ++
        [⟨s.newId, level, slot, h.carrier, sessionKey k nonce (leBytes 16 s.used.fresh) s.newId⟩] } }
      h 0x01 0 0 (leBytes 16 s.used.fresh ++ leBytes 2 s.newId ++ [0, 0]))))
  ∧ (∀ (s v : State) (h : Hdr) (x : HalfOpen) (row : Nat) (y : Session), s.admitHead h 0x02 0 = none →
    s.rendi.half.find? (fun z => z.id = h.session) = some x → h.seq = 1 → s.grant x ≠ 0 → s.freeSession = some row →
    ((authed x.ks (hdrBytes 0 0x02 0 0 h.session 0 0 h.seq h.rtag (b2n h.pend)) []).drop 16).take 16 = h.auth →
    y = ⟨x.id, s.grant x, h.carrier, x.slot, x.ks, h.dport, h.src, 1, [1], [], 1, s.clk.ns⟩ →
    v = (State.putSession { s with rendi := { s.rendi with half := s.rendi.half.filter (fun z => z.id ≠ x.id) } } row
      (some y)).addCnt 64 Obj.rendiRxOk 0 1 →
    exec (.openReq h) s = .next (Ends s ((if x.slot < 8 then v.addCnt 32 Obj.keyUses x.slot 1 else v).finish
      h 0x02 y { body := [s.grant x, 0, 0, 0] })))
  ∧ (∀ (s : State) (h : Hdr) (row : Nat) (x : Session), s.takes h 0x03 [] row x →
    exec (.closeReq h) s = .next (Ends s (((s.accepted h row x).finish h 0x03 x {}).closeSession row)))
  ∧ (∀ (s : State) (id : Nat), exec (.halfOpenExpiry id) s = .next (Ends s
    { s with rendi := { s.rendi with half := s.rendi.half.filter (fun x => x.id ≠ id) } }))
  ∧ (∀ (s : State) (row : Nat) (x : Session), Tbl.get none s.rendi.sessions row = some x →
    x.since + s.rw Obj.rendiIdleTimeout 0 * 1000000000 ≤ s.clk.ns →
    exec (.sessionIdleTimeout row) s = .next (Ends s { s with rendi := { s.rendi with
      sessions := Tbl.set none s.rendi.sessions row none, subs := s.rendi.subs.filter (fun b => b.session ≠ x.id) } }))
  ∧ (∀ (h : Hdr) (row : Nat), ActionRuns (.sessClose h row) h Obj.sessClose row 1
    (fun u => (Tbl.get none u.rendi.sessions row).isSome = true) (fun u => (u.actDone Obj.sessClose row).closeSession row))
  ∧ (∀ (h : Hdr) (row : Nat), WriteRuns (.keyValueWrite h row []) h Obj.keyValue row [] 0 (fun _ => True)
    (fun u _ => (u.putRw Obj.keyValue row 0).closeSessions (fun y => y.kslot = row)))
  ∧ ∀ (h : Hdr) (row level : Nat), level < 256 → WriteRuns (.keyLevelWrite h row level) h Obj.keyLevel row [level] level (fun _ => True)
    (fun u _ => (u.putRw Obj.keyLevel row level).closeSessions (fun y => y.kslot = row))

/-- R53, R41, R42, R43, R63: READ answers every item; WRITE of an RWC object leaves a pending value; COMMIT checks, starts its image,
and once the image is in flash switches the slot, applies the values and answers; a flash that fails leaves everything pending;
SUBSCRIBE and UNSUBSCRIBE add and remove a subscription. -/
def Obligations.RequestCommands : Prop :=
  (∀ (s : State) (h : Hdr) (items : List Item) (r : Nat) (x : Session), s.takes h 0x08 (encItems items) r x → items.length ≤ 64 →
    exec (.readReq h items) s = .next (Ends s ((s.accepted h r x).finish h 0x08 x (itemsReply
      (fitItems (bodyMax h.carrier - 12 * items.length) (items.map (fun i => (i, (s.accepted h r x).readItem h.pend x i))))))))
  ∧ (∀ (s : State) (h : Hdr) (i : Item) (r : Nat) (x : Session) (code row v : Nat), s.takes h 0x09 (encItems [i]) r x →
    (s.accepted h r x).writeTarget x i = (0, code, row, v) → accOf code = .rwc →
    code ∉ [Obj.dlinkBond, Obj.bayShunt12, Obj.bayShunt33, Obj.fwuData] →
    exec (.writeReq h [i]) s = .next (Ends s (((s.accepted h r x).putPend code row v).finish h 0x09 x (itemsReply [answer i {}]))))
  ∧ (∀ (s : State) (h : Hdr) (r : Nat) (x : Session), s.takes h 0x0A [] r x → 2 ≤ x.level → s.dict.run = none →
    (s.accepted h r x).validate = [] →
    exec (.commitReq h) s = .next (Ends s (State.putOld { (s.accepted h r x).used with dict := { s.dict with
      commitState := 1
      run := some { image := (s.accepted h r x).used.imageVals, taken := s.dict.pend, hdr := h, session := x } } } {})))
  ∧ (∀ (s : State) (c : CommitRun), s.dict.run = some c →
    exec (.commitWriteDone false) s = .next (Ends s
      (State.finish { s with dict := { s.dict with run := none, commitState := 3 } } c.hdr 0x0A c.session { status := 0x09 })))
  ∧ (∀ (s v : State) (c : CommitRun), s.dict.run = some c →
    c.image.any (fun e => decide (e.1 / 4294967296 = Obj.keyLevel) && decide (e.2 = some 3)) = false →
    v = State.applyTaken { s with dict := { (s.putOld { valid := true, gen := s.image.gen + 1, schema := (s.fwSlot s.boot.running).schema
                                                        vals := c.image }).dict with
      active := 1 - s.dict.active, commitCount := satAdd 32 s.dict.commitCount 1, commitTime := s.clk.ns } } c →
    exec (.commitWriteDone true) s = .next (Ends s (State.finish { v with dict := { v.dict with
        run := none, commitState := 2
        pend := v.dict.pend.filter (fun e => !((c.taken.map (fun x => x.1)).contains e.1 && !c.kept.contains e.1)) } }
      c.hdr 0x0A c.session {})))
  ∧ (∀ (s : State) (h : Hdr) (groups scopes r : Nat) (x : Session), groups < 65536 → scopes < 65536 →
    s.takes h 0x0C (leBytes 2 groups ++ leBytes 2 scopes ++ [0, 0, 0, 0]) r x → x.kslot ≠ 0xFF →
    (s.rendi.subs.filter (fun b => b.session = x.id)).length < 4 → s.rendi.subs.length < 64 →
    exec (.subscribe h groups scopes 0) s = .next (Ends s (State.finish { s.accepted h r x with
      rendi := { (s.accepted h r x).rendi with subs := s.rendi.subs ++ [⟨s.newSub, x.id, groups, scopes, [], 0⟩] } }
      h 0x0C x { body := leBytes 2 s.newSub ++ [0, 0] })))
  ∧ ∀ (s : State) (h : Hdr) (sub r : Nat) (x : Session), sub < 65536 → s.takes h 0x0D (leBytes 2 sub ++ [0, 0]) r x → x.kslot ≠ 0xFF →
    exec (.unsubscribe h sub) s = .next (Ends s (State.finish { s.accepted h r x with
      rendi := { (s.accepted h r x).rendi with subs := s.rendi.subs.filter (fun b => ¬ (b.id = sub ∧ b.session = x.id)) } }
      h 0x0D x { body := leBytes 2 sub ++ [0, 0] }))

/-- R48: `dict.restore` and `dict.restore_all` drop every pending value; 2, 3 and `restore_all` then hold the values restored as
pending; 3 fails with detail 1 where the inactive slot holds no image of this schema. -/
def Obligations.RestoreCommands : Prop :=
  (∀ h : Hdr, ActionRuns (.dictRestoreDiscard h) h Obj.dictRestore 0 1 (fun _ => True)
    (fun u => State.actDone { u with dict := { u.dict with pend := [] } } Obj.dictRestore 0))
  ∧ (∀ h : Hdr, ActionRuns (.dictRestoreFactory h) h Obj.dictRestore 0 2 (fun u => u.dict.eff = [] ∧ u.lateVals = [])
    (fun u => State.actDone { u with dict := { u.dict with pend := [] } } Obj.dictRestore 0))
  ∧ (∀ (h : Hdr) (code row v : Nat), row < 4294967296 → code / 256 ≠ 0x1110 → (code / 256 < 0x1400 ∨ 0x14FF < code / 256) →
    persistObj code = true → v ≠ dfltOf code row →
    ActionRuns (.dictRestoreFactory h) h Obj.dictRestore 0 2 (fun u => u.dict.eff = [(okey code row, some v)] ∧ u.lateVals = [])
    (fun u => (State.putPend { u with dict := { u.dict with pend := [] } } code row (dfltOf code row)).actDone Obj.dictRestore 0))
  ∧ (∀ h : Hdr, ActionRuns (.dictRestoreSlot h) h Obj.dictRestore 0 3
    (fun u => u.oldImage.valid = true ∧ u.oldImage.schema / 65536 = (u.fwSlot u.boot.running).schema / 65536)
    (fun u => (u.restore (fun c => c / 256 ≠ 0x1110) u.oldImage.vals).actDone Obj.dictRestore 0))
  ∧ (∀ h : Hdr, ActionRuns (.dictRestoreSlot h) h Obj.dictRestore 0 3 (fun u => u.oldImage.valid = false)
    (fun u => u.actFail Obj.dictRestore 0 1))
  ∧ ∀ (h : Hdr) (code row v : Nat), row < 4294967296 → persistObj code = true → v ≠ dfltOf code row →
    ActionRuns (.dictRestoreAll h) h Obj.dictRestoreAll 0 1 (fun u => u.dict.eff = [(okey code row, some v)] ∧ u.lateVals = [])
    (fun u => (State.putPend { u with dict := { u.dict with pend := [] } } code row (dfltOf code row)).actDone Obj.dictRestoreAll 0)

/-- R68, R69: `GO` hands the request of the buffer to Rendi and clears; clearing `RSP_VALID` frees the buffer or brings the response
that waits; clearing `NTF_VALID` frees the buffer; the request's length and words are written into the block. -/
def Obligations.MailboxCommands : Prop :=
  (∀ (s : State) (queued : Nat) (b : Bytes) (w w1 : Nat), s.barOpen → s.mbx.go = false → s.mbx.waiting = [] →
    b = ramBytes s.mbx.req 0 (max 32 (min s.mbx.reqLen 4096)) → w = leNat (b.take 4) → w1 = leNat ((b.drop 4).take 4) →
    exec (.mailboxGo queued) s = .next (Ends s (s.message
      { carrier := .mailbox, src := 0, dport := 0, frag := false, queued := queued, ver := bits w 28 4, kind := bits w 26 2
        pend := bit w 19, len := w % 65536, session := w1 / 65536, seq := leNat ((b.drop 8).take 4), rtag := leNat ((b.drop 12).take 4)
        auth := (b.drop 16).take 16 } (bits w 20 6) (b.drop 32))))
  ∧ (∀ s : State, s.barOpen → s.mbx.waiting = [] → s.mbx.go = false →
    exec .mailboxRspClear s = .next (Ends s { s with mbx := { s.mbx with rspValid := false } }))
  ∧ (∀ (s : State) (m : Bytes) (r : List Bytes), s.barOpen → s.mbx.waiting = m :: r → s.mbx.go = false →
    exec .mailboxRspClear s = .next (Ends s { s with
      mbx := { s.mbx with rsp := m, rspLen := m.length, rspValid := true, waiting := r }, todo := s.todo ++ [.irq 0 0] }))
  ∧ (∀ s : State, s.barOpen → s.rendi.subs = [] →
    exec .mailboxNtfClear s = .next (Ends s { s with mbx := { s.mbx with ntfValid := false } }))
  ∧ (∀ (s : State) (v : BitVec 32), s.barOpen →
    exec (.registerWrite 0 0x4008 v) s = .next (Ends s { s with mbx := { s.mbx with reqLen := v.toNat % 8192 } }))
  ∧ ∀ (s : State) (k : Nat) (v : BitVec 32), s.barOpen → k < 1024 → s.mbx.go = false →
    exec (.registerWrite 0 (0x5000 + 4 * k) v) s = .next (Ends s { s with mbx := { s.mbx with
      req := [0, 1, 2, 3].foldl (fun m i => Tbl.set 0 m (4 * k + i) (v.toNat / 256 ^ i % 256)) s.mbx.req } })

/-- R70, R71: the SMBus target answers the stage byte while the Skamo die runs, and at S7 the identity, the event summary (the read
clears it) and the selected object with its status; a select with a good PEC is kept; the Alert Response Address is answered while
`ALERT_N` is asserted. -/
def Obligations.SmbusCommands : Prop :=
  (∀ s : State, s.boot.vaux = true → exec .smbReadStage s = .next (Ends s { s with outbox := (.smbus
      [s.cntAt Obj.bootStage 0 % 8 + 8 * (s.cntAt Obj.bootHalted 0 % 2) + 16 * b2n s.alert]) :: s.outbox }))
  ∧ (∀ s : State, s.inS7 = true → exec .smbReadIdentity s = .next (Ends s { s with outbox := (.smbus
      (padText 8 (s.roId 0x100002 0) ++ padText 2 (s.roId 0x100003 0) ++ leBytes 4 (s.roId 0x100006 0) ++ [0, 0])) :: s.outbox }))
  ∧ (∀ s : State, s.inS7 = true → exec .smbReadEvents s = .next (Ends s { s with
    outbox := .smbus (leBytes 2 s.smb.groups ++ leBytes 2 s.smb.count ++ leBytes 4 s.smb.last) :: s.outbox
    smb := { s.smb with groups := 0, count := 0, last := 0 } }))
  ∧ (∀ (s : State) (idx sub flags row : Nat), s.inS7 = true → idx < 65536 → sub < 256 → flags < 256 → row < 4294967296 →
    exec (.smbSelectObject idx sub flags row false) s = .next (Ends s
      { s with smb := { s.smb with sel := ⟨idx, sub, flags, row, 0, 0, []⟩ } }))
  ∧ (∀ (s : State) (r : ItemRes), s.inS7 = true →
    r = s.readItem (bit s.smb.sel.flags 1) observer { s.smb.sel with flags := s.smb.sel.flags % 2 } → r.stat = 0 → r.value.length ≤ 31 →
    exec .smbReadObject s = .next (Ends s { s with outbox := .smbus (0 :: r.value) :: s.outbox }))
  ∧ ∀ s : State, s.alert = true →
    exec .smbAlertResponse s = .next (Ends s { s with outbox := .smbus [2 * s.readRO Obj.smbAddr 0] :: s.outbox })

/-- R78, R80, R81, R84: `geo.activate` starts GENERATING a geometry that meets R81, or fails with detail 1; the tables are the first of
16 seeds that meet Table 3-4, or the activation fails with detail 2; the map copies' acknowledgment makes the geometry ACTIVE;
`geo.activate` = 2 frees one without slots; a map block acknowledged by the copies applies its update; a completed map copy is
valid. -/
def Obligations.GeometryCommands : Prop :=
  (∀ (h : Hdr) (g : Nat), ActionRuns (.geoActivate h g) h Obj.geoActivate g 1
    (fun u => (u.place.array = none ∨ 2 ≤ u.validMaps) ∧ (∀ e ∈ u.place.geos, e.2.st ≠ 1) ∧ (u.geo g).st = 0 ∧ u.r81 (u.geoWanted g) = true)
    (fun u => (u.createArray.putGeo g { u.geoWanted g with st := 1 }).actRun Obj.geoActivate g))
  ∧ (∀ (h : Hdr) (g : Nat), ActionRuns (.geoActivate h g) h Obj.geoActivate g 1
    (fun u => (u.place.array = none ∨ 2 ≤ u.validMaps) ∧ (∀ e ∈ u.place.geos, e.2.st ≠ 1) ∧ u.r81 (u.geoWanted g) = false)
    (fun u => u.actFail Obj.geoActivate g 1))
  ∧ (∀ (s : State) (g : Nat), (s.geo g).st = 1 → (s.geo g).writing = false →
    exec (.geoTablesGenerated g) s = .next (Ends s
      (match ((List.range 16).map (fun i => (s.rw Obj.geoSeed g + i) % 2 ^ 32)).find? (fun seed =>
          (s.geo g).patOk (Config.genTables (s.geo g).w (s.geo g).k (s.geo g).s seed).1
            && (s.geo g).spareOk (Config.genTables (s.geo g).w (s.geo g).k (s.geo g).s seed).1
                (Config.genTables (s.geo g).w (s.geo g).k (s.geo g).s seed).2) with
      | none => (s.putGeo g {}).actFail Obj.geoActivate g 2
      | some seed =>
        let t := Config.genTables (s.geo g).w (s.geo g).k (s.geo g).s seed
        let y : Geo := { s.geo g with pat := t.1, spare := t.2, seedUsed := seed, writing := true }
        s.place.maps.foldl (fun u c => if c.pos ≠ 0x3F then u.emit (.mapWrite c.pos (2 ^ 20 + g)) else u)
          (s.putGeo g { y with digest := leNat ((sha256 y.tableBytes).take 4) }))))
  ∧ (∀ (s : State) (g : Nat), (s.geo g).st = 1 → (s.geo g).writing = true →
    exec (.geoMapAck g true) s = .next (Ends s
      (((s.putGeo g { s.geo g with st := 2, writing := false }).actDone Obj.geoActivate g).note 0xC0A 0 0 5 g))
    ∧ exec (.geoMapAck g false) s = .next (Ends s ((s.putGeo g {}).actFail Obj.geoActivate g 3)))
  ∧ (∀ (h : Hdr) (g : Nat), ActionRuns (.geoRetire h g) h Obj.geoActivate g 2
    (fun u => (u.place.array = none ∨ 2 ≤ u.validMaps) ∧ (u.geo g).st = 2 ∧ u.geoBolts g = 0 ∧ (∀ m ∈ u.place.waiting ++ u.place.active, m.geo ≠ g))
    (fun u => u.place.maps.foldl (fun v c => if c.pos ≠ 0x3F then v.emit (.mapWrite c.pos (2 ^ 20 + g)) else v)
      ((u.putGeo g {}).actDone Obj.geoActivate g)))
  ∧ (∀ (s : State) (w : MapWrite), s.place.mapPend = [w] → s.place.active = [] → (∀ n, (s.nsp n).bolts = (s.nsp n).target) →
    exec (.mapCopyAck (mapBlock w.entry)) s = .next (Ends s { s with place := { s.place with
      mapPend := [], bolts := Tbl.set {} s.place.bolts w.entry w.bolt
      zeroing := if w.bolt.st ≠ .zero then s.place.zeroing.filter (fun e => e ≠ w.entry) else s.place.zeroing } }))
  ∧ ∀ (s : State) (r : Nat), s.place.rehome = some r →
    exec .mapCopyDone s = .next (Ends s (((State.headers { s with place := { s.place with
      rehome := none, maps := updAt r (fun c => { c with valid := true }) s.place.maps } }).note 0xC01 0 0 0 0).mapCheck))

/-- R95, R99, R111: slots of a namespace that only waited for its commands are freed; the background walk takes the next ZERO bolt;
its zero stripes written, the entry goes to MAPPED; the source slot of a migration is freed. -/
def Obligations.SlotCommands : Prop :=
  (∀ (s : State) (ns : Nat), (∀ c ∈ s.hoop.writes, c.ns ≠ ns) → (∀ c ∈ s.hoop.reads, c.ns ≠ ns) →
    exec (.nsSlotsFreed ns) s = .next (Ends s { s with place := { s.place with
      slots := s.place.slots.filter (fun p => !(p.ns = ns && p.freeing)) } }))
  ∧ (∀ (s : State) (e : Nat), e ∈ s.place.zeroing → (s.bolt e).st = .zero → (s.boltNext e).st = .zero →
    exec (.zeroInitDone e) s = .next (Ends s
      ((s.emit (.zeroSlot (s.bolt e).geo (s.bolt e).base)).mapUpdate e { s.bolt e with st := .mapped })))
  ∧ (∀ (s : State) (e : Nat),
    ((s.place.bolts.filter (fun x => x.2.st = .zero && !s.place.zeroing.contains x.1)).map (fun x => x.1)).find?
      (fun x => s.place.zeroNext ≤ x) = some e →
    exec .zeroWalkStep s = .next (Ends s { s with place := { s.place with zeroing := s.place.zeroing ++ [e], zeroNext := e + 1 } }))
  ∧ ∀ (s : State) (e : Nat), (∀ c ∈ s.hoop.writes, c.ns ≠ (s.bolt e).ns) → (∀ c ∈ s.hoop.reads, c.ns ≠ (s.bolt e).ns) →
    exec (.migrationSourceFree e) s = .next (Ends s { s with place := { s.place with
      slots := s.place.slots.filter (fun p => !(p.entry = e && p.freeing)) } })

/-- R107 to R114: `bolt.migrate` queues a migration; it starts in a target slot, as MIGRATING or, for a ZERO bolt, ZERO; a stripe is
copied under a record; its record retires and the cursor advances; copy-back writes a stripe's stitches to the member. -/
def Obligations.MigrationCommands : Prop :=
  (∀ (h : Hdr) (e g : Nat), ActionRuns (.boltMigrate h e g) h Obj.boltMigrate e g
    (fun u => g < 8 ∧ (u.place.array = none ∨ 2 ≤ u.validMaps) ∧ ((u.bolt e).st = .mapped ∨ (u.bolt e).st = .zero) ∧ (u.geo g).st = 2
      ∧ ∀ m ∈ u.place.waiting ++ u.place.active, m.entry ≠ e)
    (fun u => State.actRun { u with place := { u.place with waiting := u.place.waiting ++ [{ entry := e, geo := g }] } }
      Obj.boltMigrate e))
  ∧ (∀ (s t : State) (e base : Nat) (m : Mig), s.place.waiting.find? (fun m => m.entry = e) = some m →
    s.place.active.length < s.rw Obj.migrateActive 0 → 2 ≤ s.validMaps → ((s.bolt e).st = .mapped ∨ (s.bolt e).st = .zero) →
    (s.nsp (s.bolt e).ns).owner = s.skn.side → e ∉ s.place.zeroing → s.takeSlot m.geo e (s.bolt e).ns = (t, some base) →
    exec (.migrationStart e) s = .next (Ends s (State.mapUpdate { t with place := { t.place with
        waiting := t.place.waiting.filter (fun x => x.entry ≠ e), active := t.place.active ++ [{ m with noSlot := false }] } } e
      (if (s.bolt e).st = .zero then { s.bolt e with base := base, geo := m.geo }
       else { s.bolt e with st := .migrating, tbase := base, tgeo := m.geo, cursor := 0 }))))
  ∧ (∀ (s : State) (e : Nat) (cells : List Cell) (m : Mig) (b : Bolt) (gt : Geo) (j : State × Nat), s.mig e = some m →
    b = s.bolt e → gt = s.geo b.tgeo → b.st = .migrating → s.boltNext e = b → m.copied = false → b.cursor < gt.sb →
    s.stripeLive ⟨e, 1, b.cursor⟩ = false → (∀ x ∈ s.migSources e, s.stripeLive x = false) → s.engines ≠ [] →
    j = s.jAdd (s.stripeRec .migrate ⟨e, 1, b.cursor⟩ 0 (List.range (gt.k + 2))) →
    exec (.migrationStripeCopy e cells) s = .next (Ends s
      ((((List.range (gt.k + 2)).foldl (fun (u : State) c => match u.locate ⟨e, 1, b.cursor⟩ c with
          | some p => u.walkStitch p ((encodeStripe gt b.cursor (fun c r =>
              s.migBlk e (b.cursor * gt.ku + c * gt.uBytes + r * 4096)
                ((cells.find? (fun x => x.col = c && x.row = r && x.ok)).map (fun x => ⟨x.data, x.pi⟩)))).getD c [])
          | none => u) j.1).updMig e (fun m => { m with copied := true, jseq := j.2 })).addCnt 64 Obj.darnEncoded 0 gt.ku).pageIfFull))
  ∧ (∀ (s : State) (e : Nat) (m : Mig), s.mig e = some m → m.copied = true → (s.bolt e).st = .migrating → s.boltNext e = s.bolt e →
    (∀ c ∈ s.hoop.writes, ∀ r ∈ c.ranges, r.st ≠ 1 ∨ r.key ∉ s.migSources e) →
    exec (.migrationRecordRetire e) s = .next (Ends s
      (((s.jRetire m.jseq).migRehome e).mapUpdate e { s.bolt e with cursor := (s.bolt e).cursor + 1 })))
  ∧ (∀ (s t u : State) (a cur c i : Nat) (k : SKey) (g : Geo) (cells : List Cell), Tbl.get none s.place.copyback a = some cur →
    s.posState a = .rebuilding → s.nextEntry cur (fun w => a < w.g.w) = some (k, g) → s.stripeLive k = false → s.engines ≠ [] →
    findAt (fun (e : Nat × Nat) => e.1 = a) (g.patRow k.stripe) = some (c, (a, i)) → s.laneColsOn k a = [] →
    s.syncMore k cells = false → s.syncFirst k cells = (t, true) → t.moreToRead k cells [c] = false →
    Tbl.get 0 u.darn.cbSince a < 255 → u = t.cbWrite k cells [(c, a, g.homeOff (s.slotOf k).2 k.stripe i)] →
    exec (.copybackStripe a cells) s = .next (Ends s
      (let v : State := { u with
        place := { u.place with copyback := Tbl.set none u.place.copyback a (some (k.num + 1)) }
        darn := { u.darn with cbSince := Tbl.set 0 u.darn.cbSince a (Tbl.get 0 u.darn.cbSince a + 1)
                              skipped := u.darn.skipped.filter (fun e => !(e.1 = k && (g.colPos k.stripe [c]).contains e.2)) } }
       if (v.nextEntry (k.num + 1) (fun w => a < w.g.w)).isNone then v.copybackDone a else v)))
  ∧ ∀ (s : State) (a cur : Nat) (cells : List Cell), Tbl.get none s.place.copyback a = some cur → s.posState a = .rebuilding →
    s.nextEntry cur (fun w => a < w.g.w) = none →
    exec (.copybackStripe a cells) s = .next (Ends s (s.copybackDone a))

/-- R116, R121, R122, R126 to R129: a write that waits has its frame reserved and its data asked for; a fill read is merged into the
frame; the hold timer triggers the destage of its stripe; a triggered stripe without a live record starts fill-in. -/
def Obligations.HoopFillCommands : Prop :=
  (∀ (s : State) (c : WCmd) (r : Range), s.hoop.queue = [c.id] → s.hoop.writes = [c] → c.ranges = [r] → r.st = 0 →
    (s.stripe r.key).shadowed = false → Tbl.get none (s.stripe r.key).frames r.col = none →
    s.blockedBy c (s.slotOf r.key).1.uBytes = 0 →
    exec (.frameReserve c.ns) s = .next (Ends s { s with
      hoop := { s.hoop with
        queue := [], writes := [{ c with ranges := [{ r with st := 1, newFrame := true, shadow := false }] }]
        stripes := Tbl.set {} s.hoop.stripes r.key.num { s.stripe r.key with
          frames := Tbl.set none (s.stripe r.key).frames r.col (some { owner := c.id })
          st := if (s.stripe r.key).st = .clean then .filling else (s.stripe r.key).st } }
      todo := s.todo ++ [.fetch c.req c.id 0] }))
  ∧ (∀ (s t : State) (f : FillWait) (c : WCmd) (r : Range) (data pi : Nat),
    s.hoop.fills.find? (fun g => g.cmd = f.cmd && g.range = f.range && g.row = f.row) = some f → s.findWrite f.cmd = some c →
    c.ranges[f.range]? = some r → (s.stripe r.key).newest r.col f.row = none →
    t = { s with hoop := { s.hoop with fills := s.hoop.fills.filter (fun g => !(g.cmd = f.cmd && g.range = f.range && g.row = f.row)) } } →
    exec (.fillReadDone f.cmd f.range f.row true data pi) s = .next (Ends s
      ((t.putBlk r.key r.shadow r.col f.row
        (t.mergeBlk (s.bolt r.key.entry).ns (s.blkNo r.key r.col f.row) ⟨data, pi⟩ f.lo f.len f.data)).rangePlaced f.cmd f.range)))
  ∧ (∀ (s : State) (entry sel stripe tm : Nat), (s.stripe ⟨entry, sel, stripe⟩).timer = some tm →
    tm + (s.stripe ⟨entry, sel, stripe⟩).hold ≤ s.clk.ns → (s.stripe ⟨entry, sel, stripe⟩).st = .filling →
    exec (.holdTimerExpiry entry sel stripe) s = .next (Ends s
      (s.putStripe ⟨entry, sel, stripe⟩ { s.stripe ⟨entry, sel, stripe⟩ with trig := true })))
  ∧ ∀ (s : State) (entry sel stripe : Nat) (x : Stripe), x = s.stripe ⟨entry, sel, stripe⟩ → x.st = .filling → x.trig = true →
    x.fillIn = false → s.stripeLive ⟨entry, sel, stripe⟩ = false → s.vault.state ≠ 1 → s.migHeld ⟨entry, sel, stripe⟩ = false →
    (s.bolt entry).st ≠ .zero →
    exec (.destageStart entry sel stripe) s = .next (Ends s (s.putStripe ⟨entry, sel, stripe⟩ { x with fillIn := true }))

/-- R129 to R132, R140, R169, R356: the missing sectors come in and the DESTAGE record is submitted; persisted, it makes its stripe
BASTED; a BASTED stripe is encoded and its stitches go to the members; a member's completion ends what it was issued for; a decoded
block is served and, where its own stitch was at fault, repaired. -/
def Obligations.DestageCommands : Prop :=
  (∀ (s : State) (entry sel stripe : Nat) (k : SKey) (cells : List Cell) (t : State) (a : State × Nat), k = ⟨entry, sel, stripe⟩ →
    (s.stripe k).st = .filling → (s.stripe k).fillIn = true → (s.stripe k).live = none → (s.bolt entry).st ≠ .zero →
    s.missingSectors k = [] → s.fillsOn k = false → t = (s.toSuccessor k).addCnt 64 Obj.hoopFillReads 0 0 →
    a = t.jAdd (t.destageRec k (wrapAdd 32 (t.stripe k).gen 1)) →
    exec (.fillInDone entry sel stripe cells) s = .next (Ends s
      (a.1.putStripe k { t.stripe k with gen := wrapAdd 32 (t.stripe k).gen 1, live := some a.2 }).pageIfFull))
  ∧ (∀ (s u : State) (r : JRec), s.jrec r.jseq = some r → r.persisted = false → s.held r = true → s.mirrorExists = true →
    r.kind = .destage → (s.stripe r.key).live = some r.jseq → (s.stripe r.key).st = .filling →
    u = s.updRec r.jseq (fun r => { r with persisted := true, time := s.clk.ns }) →
    exec (.bastingRecordPersisted r.jseq) s = .next (Ends s (u.putStripe r.key { s.stripe r.key with
      st := .basted, trig := false, fillIn := false, timer := none })))
  ∧ (∀ (s t : State) (entry sel stripe : Nat) (k : SKey) (g : Geo), k = ⟨entry, sel, stripe⟩ → g = (s.slotOf k).1 → t = s.built k →
    (s.stripe k).st = .basted → s.engines ≠ [] → s.vault.state ≠ 1 →
    exec (.destageEncode entry sel stripe []) s = .next (Ends s
      (((List.range (g.k + 2)).filter (fun c => t.locate k c ≠ none)).foldl (fun u c => (u.destagePlaces k c).foldl (fun v p =>
        (v.issue p.1 .write (p.2 / 4096) g.rows ((encodeStripe g stripe (fun c r => s.gathered k c r)).getD c []) (.destage k c)).1) u)
        ((t.putStripe k { s.stripe k with
            st := .destaging
            left := (List.range (g.k + 2)).filter (fun c => t.locate k c ≠ none)
            omitted := (List.range (g.k + 2)).filter (fun c => t.locate k c = none) }).addCnt 64 Obj.darnEncoded 0
          (min g.ku (2 ^ 30 - stripe * g.ku))))))
  ∧ (∀ (s : State) (c : MCmd) (k : SKey) (col : Nat) (data : List (Nat × Nat)), s.findCmd c.tag = some c → c.held = false →
    c.owner = .destage k col → exec (.memberCompletion c.tag 0 data) s = .next (Ends s ((s.dropCmd c.tag).destageWritten k col true)))
  ∧ (∀ (s : State) (c : MCmd) (id i : Nat) (data : List (Nat × Nat)), s.findCmd c.tag = some c → c.held = false → c.owner = .read id i →
    exec (.memberCompletion c.tag 0 data) s = .next (Ends s
      ((s.dropCmd c.tag).readGot id i c.bay ((data.map (fun e => ({ data := e.1, pi := e.2 } : Blk))).head?) true)))
  ∧ ∀ (s : State) (id i : Nat) (r : RBlk) (c : RCmd) (d : List Nat), s.rblk id i = some r → s.findRead id = some c → r.st = .decode →
    (s.cells r.key r.row (fun col => if col = r.col then none else Tbl.get none r.surv col)).decode = some d →
    checkStored (s.fmtOf c.ns) c.ns r.nsBlk (blkOf (d.getD r.col 0)) false = 0 → r.own = false →
    exec (.darningDecodeDone id i) s = .next (Ends s
      (((s.updBlk id i (fun x => { x with st := .got, blk := blkOf (d.getD r.col 0), dec := true })).addCnt 64 Obj.darnDecoded 0
        4096).finishRead id))

/-- R120, R139 to R141, R145, R150: the mirror is whole again once every DIRTY frame is acknowledged; the region shrinks; a journal
page is written to both members and its completion marks its records; a re-homed copy ends; `bast.journal_move` starts one; a
stripe of a SUSPECT bolt gets its parity. -/
def Obligations.MirrorAndJournalCommands : Prop :=
  (∀ s : State, s.hoop.mirrorState = 2 → (∀ e ∈ s.hoop.stripes, ∀ f ∈ e.2.all, f.blks = [] ∨ f.acked = true) →
    (∀ c ∈ s.hoop.writes, ∀ r ∈ c.ranges, r.st ≠ 2) →
    exec .mirrorResyncDone s = .next (Ends s (State.writeSolo { s with hoop := { s.hoop with mirrorState := 0 } } none)))
  ∧ (∀ (s : State) (n : Nat), s.hoop.lowering = some n → s.hoopDirty ≤ n * 1048576 →
    exec .mirrorRegionShrink s = .next (Ends s { s with hoop := { s.hoop with lowering := none } }))
  ∧ (∀ (s t : State), s.jour.waiting ≠ [] → s.journalAt s.jour.pos0 = true → s.journalAt s.jour.pos1 = true →
    t = { s with
      jour := { s.jour with
        waiting := s.jour.waiting.drop 63, page := wrapAdd 64 s.jour.page 1
        pages := s.jour.pages ++ [⟨s.jour.page, s.jour.waiting.take 63, true, true⟩]
        recs := s.jour.recs.map (fun r => if (s.jour.waiting.take 63).contains r.jseq then { r with page := s.jour.page } else r) }
      outbox := .journalPage s.jour.pos1 s.jour.page :: .journalPage s.jour.pos0 s.jour.page :: s.outbox } →
    t.staleRecs = [] → exec .journalPageTimer s = .next (Ends s t))
  ∧ (∀ (s : State) (p : JPage), s.jour.pages.find? (fun q => q.seq = p.seq && q.out0) = some p →
    exec (.journalPageWriteDone p.seq 0 true) s = .next (Ends s { s with jour := { s.jour with
      pages := (updWhere (fun (q : JPage) => q.seq = p.seq) (fun q => { q with out0 := false }) s.jour.pages).filter (fun q => q.out0 || q.out1)
      recs := s.jour.recs.map (fun r => if p.recs.contains r.jseq then { r with on0 := true } else r) } }))
  ∧ (∀ (s u : State) (a : Nat), s.jour.rehome = some (1, a) →
    u = ((State.sendMapBlock { s with jour := { s.jour with
      rehome := none, recs := s.jour.recs.map (fun r => { r with on1 := true }) } } 0).note 0xC04 0 0 0 0).setCnt Obj.bastRehomeDone 0 100 →
    exec .journalRehomeDone s = .next (Ends s
      ((if u.actAt Obj.bastJournalMove 0 % 256 = 1 then u.actDone Obj.bastJournalMove 0 else u).journalCheck)))
  ∧ (∀ (h : Hdr) (a : Nat), ActionRuns (.bastJournalMove h a) h Obj.bastJournalMove 0 a
    (fun u => a < 48 ∧ u.jour.rehome = none ∧ a % 2 = u.skn.side ∧ u.inService a = true ∧ a ≠ u.jour.pos0)
    (fun u => (State.setCnt { u with jour := { u.jour with
        pos1 := a, rehome := some (1, a), recs := u.jour.recs.map (fun r => { r with on1 := false }) } }
      Obj.bastRehomeDone 0 0).actRun Obj.bastJournalMove 0))
  ∧ ∀ (s t : State) (k : SKey) (g : Geo) (cells : List Cell),
    s.nextEntry s.jour.resync (fun w => (s.bolt w.key.entry).suspect) = some (k, g) → s.stripeLive k = false → s.engines ≠ [] →
    s.syncMore k cells = false → s.syncFirst k cells = (t, true) → t.darn.rsSince < 255 → k.stripe + 1 ≠ g.sb →
    exec (.resyncStripe cells) s = .next (Ends s { t with
      jour := { t.jour with resync := k.num + 1 }, darn := { t.darn with rsSince := t.darn.rsSince + 1 } })

/-- R152, R153, R157, R158: a filtered power failure stops admission, abandons what is not complete, starts the dump and takes the
links down; without `vault.enable` it is an event; a chunk written is followed by the next; the flush ends the dump with COMPLETE
headers; `vault.test` runs one without stopping anything. -/
def Obligations.VaultCommands : Prop :=
  (∀ s : State, s.rw Obj.vaultEnable 0 ≠ 0 → s.inS7 = true → s.vault.state ≠ 1 →
    exec .pwrfailFiltered s = .next (Ends s ((State.startDump { s with
        hoop := { s.hoop with
          stopped := true, writes := [], queue := [], fills := []
          stripes := Tbl.mapRows {} (fun _ (x : Stripe) => { x with
            frames := x.frames.filter (fun e => match e.2 with | some f => f.owner = 0 | none => false)
            succ := x.succ.filter (fun e => match e.2 with | some f => f.owner = 0 | none => false)
            st := if x.st = .destaging then .basted else x.st, left := [], omitted := [] }) s.hoop.stripes }
        drv := { s.drv with cmds := s.drv.cmds.filter (fun c => match c.owner with | .destage _ _ => false | _ => true) }
        todo := s.todo ++ [.detect 0x004 0 0 0] ++ [.twin .vaultNotice] } 1).ethAllDown.epReset)))
  ∧ (∀ s : State, s.rw Obj.vaultEnable 0 = 0 → s.vault.state ≠ 1 →
    exec .pwrfailFiltered s = .next (Ends s { s with todo := s.todo ++ [.detect 0x004 0 0 0] }))
  ∧ (∀ (s : State) (c : Chunk), s.vault.cur = some c → exec (.vaultChunkWriteDone true) s = .next (Ends s
    (State.nextChunk { s with vault := { s.vault with done := s.vault.done + 1, cur := none } } (c.index + 1))))
  ∧ (∀ (s t : State), s.vault.state = 3 → s.vault.cur = none → s.vault.todo = [] → s.clk.ns = s.vault.start →
    t = (s.servicePos).foldl (fun u a => u.emit (.vaultHeader a s.vault.gen true)) s →
    exec (.vaultFlushDone false) s = .next (Ends s
      (State.actDone { t with vault := { t.vault with flushed := true, rate := s.vault.rate, state := 0 } } Obj.vaultTest 0)))
  ∧ ∀ h : Hdr, ActionRuns (.vaultTest h) h Obj.vaultTest 0 1
    (fun u => u.rw Obj.vaultEnable 0 ≠ 0 ∧ u.inS7 = true ∧ u.vault.state = 0) (fun u => (u.actRun Obj.vaultTest 0).startDump 3)

/-- R172 to R175, R179, R180, R192, R198 to R202: each walk reconstructs, copies, relists or scrubs its next stripe and moves its
cursor; the rate controller moves `bg.rate` by the latency of host reads; `scrub.start` begins a pass; a waiting copy takes a lane. -/
def Obligations.WalkCommands : Prop :=
  (∀ (s t : State) (a c off l : Nat) (k : SKey) (g : Geo) (place : Nat × Nat) (cells : List Cell), (s.pass a).st = 1 →
    s.rw Obj.rbPause 0 ≠ 1 → s.rank1 = false → s.nextPass a (s.pass a).cursor = some (k, c, off, g) → s.laneOf a = some l →
    s.stripeLive k = false → s.engines ≠ [] → s.reconstructed a k = false → s.syncMore k cells = false →
    s.syncFirst k cells = (t, true) → t.laneSlot k c l = some place → t.moreToRead k cells [c] = false →
    exec (.reconstructStripe a cells) s = .next (Ends s
      (((t.rebuildCols k cells [(c, place)]).passMoved a off g.uBytes).passEnd a)))
  ∧ (∀ (s t : State) (c : Crit) (k : SKey) (base la lb ca cb ia ib : Nat) (g : Geo) (pa pb : Nat × Nat) (cells : List Cell),
    s.darn.crits.find? (fun d => d.a = c.a && d.b = c.b) = some c → s.nextCrit c = some (k, base, g) → s.stripeLive k = false →
    s.engines ≠ [] → s.syncMore k cells = false → s.syncFirst k cells = (t, true) → t.moreToRead k cells [ca, cb] = false →
    findAt (fun (e : Nat × Nat) => e.1 = c.a) (g.patRow k.stripe) = some (ca, (c.a, ia)) → t.laneOf c.a = some la →
    t.laneSlot k ca la = some pa →
    findAt (fun (e : Nat × Nat) => e.1 = c.b) (g.patRow k.stripe) = some (cb, (c.b, ib)) → t.laneOf c.b = some lb →
    t.laneSlot k cb lb = some pb →
    exec (.criticalStripe c.a c.b cells) s = .next (Ends s
      (let u := t.rebuildCols k cells [(ca, pa), (cb, pb)]
       let l := updWhere (fun (d : Crit) => d.a = c.a && d.b = c.b) (fun d => { d with base := base, stripe := k.stripe + 1 }) u.darn.crits
       { u with darn := { u.darn with crits := l } })))
  ∧ (∀ (s : State) (reads p99 ceil r : Nat), s.rank1 = false → s.rank2 = false → s.passGeos = [] → s.level = 0 → ceil = 0 →
    r = (if reads < 1000 ∨ 10 * p99 ≤ 8 * s.rw Obj.rbLatTarget 0 then s.darn.bgRate
      else if s.rw Obj.rbLatTarget 0 < p99 then s.darn.bgRate * 7 / 10 else s.darn.bgRate) →
    exec (.rateControllerWindow reads p99) s = .next (Ends s
      ((State.scrubCheck { s with darn := { s.darn with
        ceiling := ceil, bgRate := min (max r (s.rw Obj.bgFloor 0)) (s.rw Obj.bgMax 0), p99 := p99 } }).throttleRates)))
  ∧ (∀ (s : State) (cells : List Cell), s.darn.relisting = true → s.nextEntry s.darn.relist (fun w => (s.bolt w.key.entry).lost) = none →
    exec (.relistStripe cells) s = .next (Ends s
      (State.setCnt { s with darn := { s.darn with relisting := false } } Obj.lblComplete 0 1)))
  ∧ (∀ (s : State) (cells : List Cell) (k : SKey) (g : Geo), s.darn.relisting = true →
    s.nextEntry s.darn.relist (fun w => (s.bolt w.key.entry).lost) = some (k, g) →
    s.allGiven k cells (List.range g.k) = true → s.poisons k cells = [] →
    exec (.relistStripe cells) s = .next (Ends s
      (let u : State := { s with darn := { s.darn with relist := k.num + 1 } }
       if (u.nextEntry (k.num + 1) (fun w => (u.bolt w.key.entry).lost)).isNone then
         State.setCnt { u with darn := { u.darn with relisting := false } } Obj.lblComplete 0 1
       else u)))
  ∧ (∀ (s u : State) (cells : List Cell) (k : SKey) (g : Geo), s.rw Obj.scrubEnable 0 ≠ 0 → s.rank1 = false → s.rank2 = false →
    s.rank3 = false → s.engines ≠ [] → s.nextEntry s.darn.scrub (fun _ => true) = some (k, g) → s.stripeLive k = false →
    s.suspect k = false → s.allGiven k cells (List.range (g.k + 2)) = true → u = s.scrubOutcome k cells →
    exec (.scrubStripe cells) s = .next (Ends s
      (State.scrubCheck (if k.stripe + 1 = g.sb then
          State.sendMapBlock { u with darn := { u.darn with scrub := (k.num / 65536 + 1) * 65536 } } 0
        else { u with darn := { u.darn with scrub := k.num + 1 } }))))
  ∧ (∀ h : Hdr, ActionRuns (.scrubStart h) h Obj.scrubStart 0 1 (fun _ => True)
    (fun u => (State.setCnt { u with darn := { u.darn with scrub := 0 } } Obj.scrubPassStart 0 u.clk.ns).actDone Obj.scrubStart 0))
  ∧ (∀ (s : State) (a l : Nat), (s.pass a).st = 5 → s.posState a = .failing → s.freeLane = some l →
    s.rw Obj.rbKeepLanes 0 + 1 ≤ s.freeLanes →
    exec (.proactiveCopyStart a) s = .next (Ends s (((s.jClear 1 a).putLane l ⟨a, 1⟩).putPass a { st := 3, total := s.passTotal a })))
  ∧ ∀ (s t : State) (a c off l : Nat) (k : SKey) (g : Geo) (place : Nat × Nat) (cells : List Cell), (s.pass a).st = 3 →
    s.rw Obj.rbPause 0 ≠ 1 → s.rank1 = false → s.rank2 = false → s.nextPass a (s.pass a).cursor = some (k, c, off, g) →
    s.laneOf a = some l → s.stripeLive k = false → s.engines ≠ [] → s.syncMore k cells = false → s.syncFirst k cells = (t, true) →
    t.laneSlot k c l = some place → t.moreToRead k cells [c] = false →
    exec (.proactiveCopyStripe a cells) s = .next (Ends s
      (((t.rebuildCols k cells [(c, place)]).passMoved a off g.uBytes).passEnd a))

/-- R207, R212, R213, R220, R221, R325: a matched link comes up, an unmatched one is counted; a link that goes down holds its queued
frames; an address resolution for an address of the device is answered; PAUSE stops and releases a priority; a priority over its
threshold is paused, under the lower one released; the watchdog ignores PAUSE until 1 s passes without one. -/
def Obligations.EthernetPortCommands : Prop :=
  (∀ (s : State) (n sub : Nat) (m : Bool), s.boot.svcOpen = true → n < s.ports → s.subRate n sub ≠ 0 → (Tbl.get {} s.pd n).st = .on →
    s.blocked 1 n = false → sub ∉ (s.port n).up →
    exec (.ethLinkUp n sub m) s = .next (Ends s (if m then ((s.updPort n (fun p => { p with
        up := p.up ++ [sub], holding := p.holding.filter (fun x => x ≠ sub), flushed := p.flushed.filter (fun x => x ≠ sub) })).linkBits n).fenServe 1 n
      else s.addCnt 32 Obj.ethAnFail n 1)))
  ∧ (∀ (s : State) (n sub : Nat), sub ∈ (s.port n).up → s.rw Obj.holdTime n ≠ 0 →
    exec (.ethLinkDown n sub) s = .next (Ends s (((s.updPort n (fun p => { p with
        up := p.up.filter (fun x => x ≠ sub), paused := []
        holding := (p.holding.filter (fun x => x ≠ sub)) ++ [sub]
        queues := Tbl.mapRows [] (fun k l => if k / 8 = sub then l.map (fun f => { f with held := true }) else l) p.queues })).linkBits n).later
      (.detect 0x402 1 n 0))))
  ∧ (∀ (s : State) (k : Pkt) (target g : Nat), k.port < s.ports → s.linkUp k.port k.sub = true → k.fecBad = false →
    (s.gidOf { k with dst := target, v6 := false } = some g →
      exec (.arpRequest k target) s = .next (Ends s ((s.addCnt 64 Obj.ethRxFrames k.port 1).sendFrame
        { port := k.port, sub := k.sub, cls := 0, len := 64, data := false, ect := false, body := .arp target })))
    ∧ (s.gidOf { k with dst := target, v6 := true } = some g →
      exec (.neighborSolicitation k target) s = .next (Ends s ((s.addCnt 64 Obj.ethRxFrames k.port 1).sendFrame
        { port := k.port, sub := k.sub, cls := 0, len := 90, data := false, ect := false, body := .neighbor target }))))
  ∧ (∀ (s : State) (n prio quanta : Nat), n < s.ports → prio < 8 → (s.port n).up ≠ [] → bit (s.rw Obj.ethPfcEnable n) prio = true →
    prio ∉ (s.port n).ignored →
    exec (.pfcPause n prio quanta) s = .next (Ends s ((s.addCnt 64 Obj.ethPfcRx n 1).updPort n (fun p => { p with
      paused := Tbl.set none p.paused prio (if quanta = 0 then none
        else some ((Tbl.get none p.paused prio).getD (s.clk.ns, s.rw Obj.ethPfcWd n))) }))))
  ∧ (∀ (s : State) (n prio : Nat), exec (.pauseQuantaExpiry n prio) s = .next (Ends s
    (s.updPort n (fun p => { p with paused := Tbl.drop p.paused prio }))))
  ∧ (∀ (s : State) (n prio level : Nat), bit (s.rw Obj.ethPfcEnable n) prio = true → (s.port n).up ≠ [] →
    (s.rw Obj.ethPfcXoff n < level → exec (.pfcRepeatTimer n prio level) s = .next (Ends s ((s.sendPause n prio 0xFFFF).updPort n
      (fun p => { p with pausing := (p.pausing.filter (fun x => x ≠ prio)) ++ [prio] }))))
    ∧ (level ≤ s.rw Obj.ethPfcXoff n → level < s.rw Obj.ethPfcXon n → prio ∈ (s.port n).pausing →
      exec (.pfcRepeatTimer n prio level) s = .next (Ends s ((s.sendPause n prio 0).updPort n
        (fun p => { p with pausing := p.pausing.filter (fun x => x ≠ prio) })))))
  ∧ (∀ (s : State) (n prio a wd : Nat), Tbl.get none (s.port n).paused prio = some (a, wd) → wd ≠ 0 → a + wd * 1000000 ≤ s.clk.ns →
    exec (.pfcWatchdogExpiry n prio) s = .next (Ends s (((s.updPort n (fun p => { p with
      paused := Tbl.drop p.paused prio, ignored := (p.ignored.filter (fun x => x ≠ prio)) ++ [prio] })).addCnt 32
      Obj.ethPfcWdTrips n 1).later (.detect 0x403 1 n 0))))
  ∧ ∀ (s : State) (n prio : Nat), exec (.pfcWatchdogRecovery n prio) s = .next (Ends s
    (s.updPort n (fun p => { p with ignored := p.ignored.filter (fun x => x ≠ prio) })))

/-- R226 to R228, Table 6-3: a REQ waits for admission; the oldest is admitted with a row in CONNECTING and a REP (its first PSN a
free value of the model, log entry 2), or refused with a REJ; an RTU makes the QP ACTIVE; a REJ, or no RTU in time, frees it; a DREQ
drains an ACTIVE QP. -/
def Obligations.ConnectionCommands : Prop :=
  (∀ (s t : State) (k : Pkt) (q : CmReq), s.frameIn k = (t, true) →
    (∀ w ∈ t.net.reqs, w.q.comm ≠ q.comm) → (∀ e ∈ t.net.answered, e.1.q.comm ≠ q.comm) → t.net.reqs.length < 1024 →
    exec (.cmReq k q) s = .next (Ends s { t with net := { t.net with reqs := t.net.reqs ++ [⟨k, q⟩] } }))
  ∧ (∀ (s t : State) (w : ReqWait) (rest : List ReqWait) (st : Nat), s.net.reqs = w :: rest →
    (s.net.admits.filter (fun a => s.clk.ns < a + 1000000000)).length < 50000 → s.reqCheck w.k w.q = .error st →
    t = { s with net := { s.net with reqs := rest } } →
    exec .cmReqAdmit s = .next (Ends s ((t.sendCm
      { port := w.k.port, sub := w.k.sub, mac := w.k.smac, ip := w.k.src, vlan := w.k.vlan, gid := (s.gidOf w.k).getD 0
        comm := w.q.comm, qpn := w.q.qpn, dscp := w.q.dscp, mtu := 1024 } (.rej w.q.comm 28 st)).addCnt 64 Obj.tpAdmitRejects 0 1)))
  ∧ (∀ (s t y : State) (w : ReqWait) (rest : List ReqWait) (h row : Nat) (x : Qp), s.net.reqs = w :: rest →
    (s.net.admits.filter (fun a => s.clk.ns < a + 1000000000)).length < 50000 → s.reqCheck w.k w.q = .ok h → s.freeQpRow = some row →
    t = { s with net := { s.net with
      reqs := rest, admits := s.net.admits.filter (fun a => s.clk.ns < a + 1000000000) ++ [s.clk.ns] } } →
    x = { port := w.k.port, sub := w.k.sub, mac := w.k.smac, ip := w.k.src, vlan := w.k.vlan, gid := (s.gidOf w.k).getD 0
          comm := w.q.comm, qpn := w.q.qpn, dscp := if s.rw Obj.dscpTc (w.k.port * 64 + w.q.dscp) = 7 then 0 else w.q.dscp
          st := .connecting, host := h, mtu := s.pathMtu w.k.port w.q.mtu
          psn := t.fresh % 16777216, una := t.fresh % 16777216, epsn := w.q.psn
          ackTimeout := s.rw Obj.tpAckTimeout 0, retryCnt := s.rw Obj.tpRetryCnt 0, rnrRetry := s.rw Obj.tpRnrRetry 0
          retries := s.rw Obj.tpRetryCnt 0, rnrLeft := s.rw Obj.tpRnrRetry 0, maxReads := w.q.resources
          rc := s.subRate w.k.port w.k.sub, rt := s.subRate w.k.port w.k.sub, used := s.clk.ns, qid := w.q.qid
          depth := w.q.hsq + 1, leftAt := s.clk.ns, rp := s.rw Obj.tpRpEnable 0 = 1 } →
    t.used.makeRoom (fun _ => false) = some y →
    exec .cmReqAdmit s = .next (Ends s (((y.updQp row (fun _ => { x with resident := true })).fenServe 6 row).answerReq w x
      (.rep w.q.comm (65536 + row) (t.fresh % 16777216) 16 x.mtu x.ackTimeout x.retryCnt x.rnrRetry))))
  ∧ (∀ (s t : State) (k : Pkt) (q : Nat), s.frameIn k = (t, true) → (t.qp q).ip = k.src →
    ((t.qp q).st = .connecting →
      exec (.cmRtu k q) s = .next (Ends s (t.updQp q (fun x => { x with st := .active })))
      ∧ exec (.cmRej k q) s = .next (Ends s (t.freeQp q)) ∧ exec (.cmDreq k q) s = .next (Ends s (t.freeQp q)))
    ∧ ((t.qp q).st = .active →
      exec (.cmDreq k q) s = .next (Ends s ((t.updQp q (fun x => { x with dreq := true })).drainQp q))))
  ∧ ∀ (s : State) (q : Nat), (s.qp q).st = .connecting → exec (.connectingTimeout q) s = .next (Ends s (s.freeQp q))

/-- R219, R224, R229, R238, R239, R246: what an ACK, a NAK, a READ response, a CNP and a packet with an unsupported opcode do at
their QP: packets acknowledged leave the send list and the retry count is restored; a sequence NAK or an RNR NAK takes a retry or
starts the wait, or without one left the QP is in ERROR; a rate falls by alpha / 2 and alpha rises. -/
def Obligations.ResponseCommands : Prop :=
  (∀ (s u : State) (k : Pkt) (q : Nat), s.responds (.ack k) k q u → (u.qp q).tx ≠ [] →
    psnDist (u.qp q).una k.psn < psnDist (u.qp q).una (u.qp q).psn →
    exec (.ack k) s = .next (Ends s ((u.updQp q (fun x => { x with
      una := psnAdd k.psn 1, retries := x.retryCnt, rnrLeft := x.rnrRetry, used := u.clk.ns
      tx := (u.qp q).tx.filter (fun m => match m.kind with
        | .read _ _ => true
        | _ => decide (psnDist (u.qp q).una k.psn < psnDist (u.qp q).una (psnAdd m.psn (m.n - 1)))) })).issueTx q)))
  ∧ (∀ (s u v : State) (k : Pkt) (q : Nat), s.responds (.nakSequenceError k) k q u → v = u.ackTx q (psnAdd k.psn 16777215) →
    (v.qp q).tx ≠ [] → (v.qp q).st = .active →
    exec (.nakSequenceError k) s = .next (Ends s (if (v.qp q).retries = 0 then v.errQp q 5
      else (v.updQp q (fun x => { x with retries := x.retries - 1 })).resendFrom q k.psn)))
  ∧ (∀ (s u v : State) (k : Pkt) (q : Nat), s.responds (.rnrNak k) k q u → v = u.ackTx q (psnAdd k.psn 16777215) →
    (v.qp q).tx ≠ [] →
    exec (.rnrNak k) s = .next (Ends s (if (v.qp q).rnrRetry ≠ 7 ∧ (v.qp q).rnrLeft ≤ 1 then v.errQp q 5
      else v.updQp q (fun x => { x with rnrWait := some k.psn, rnrLeft := x.rnrLeft - 1 }))))
  ∧ (∀ (s u v : State) (k : Pkt) (q code : Nat), s.responds (.nakError k code) k q u → v = u.ackTx q (psnAdd k.psn 16777215) →
    (v.qp q).st = .active →
    exec (.nakError k code) s = .next (Ends s ((v.later (.detect 0x809 6 q 0)).errQp q 4)))
  ∧ (∀ (s u : State) (k : Pkt) (q len data : Nat) (m m1 : TxMsg), s.responds (.rdmaReadResponse k len data) k q u →
    (u.qp q).tx.find? (fun m => match m.kind with | .read _ _ => true | _ => false) = some m →
    k.psn = psnAdd m.psn (m.got / (u.qp q).mtu) → m.got + len < m.len →
    m1 = { m with got := m.got + len, data := m.data + (data % 2 ^ (8 * len)) * 2 ^ (8 * m.got) } →
    exec (.rdmaReadResponse k len data) s = .next (Ends s ((u.ackTx q (psnAdd m.psn 16777215)).updQp q (fun x => { x with
      tx := x.tx.map (fun y => if y = m then m1 else y)
      una := if psnDist x.una k.psn < psnDist x.una x.psn then psnAdd k.psn 1 else x.una
      retries := x.retryCnt, rnrLeft := x.rnrRetry, used := u.clk.ns }))))
  ∧ (∀ (s u : State) (k : Pkt) (q len data cmd idx : Nat) (m : TxMsg), s.responds (.rdmaReadResponse k len data) k q u →
    (u.qp q).tx.find? (fun m => match m.kind with | .read _ _ => true | _ => false) = some m →
    k.psn = psnAdd m.psn (m.got / (u.qp q).mtu) → m.len ≤ m.got + len → m.for_ = .fetch cmd idx →
    exec (.rdmaReadResponse k len data) s = .next (Ends s ((((u.ackTx q (psnAdd m.psn 16777215)).updQp q (fun x => { x with
      tx := x.tx.filter (fun y => y ≠ m)
      una := if psnDist x.una k.psn < psnDist x.una x.psn then psnAdd k.psn 1 else x.una
      retries := x.retryCnt, rnrLeft := x.rnrRetry, used := u.clk.ns })).deliverTo q cmd idx
        (m.data + (data % 2 ^ (8 * len)) * 2 ^ (8 * m.got))).issueTx q)))
  ∧ (∀ (s u : State) (k : Pkt) (q : Nat), s.responds (.cnp k) k q u →
    (u.rw Obj.tpRpEnable 0 = 1 → (u.qp q).st = .active → (u.qp q).cutAt = none →
      ∃ v : State, exec (.cnp k) s = .next (Ends s v) ∧ v = u.updQp q (fun x => { x with
        cnpA := true, cnpR := true, rp := true, rt := x.rc, rc := max (x.rc - x.rc * x.alpha / 8589934592) (u.rw Obj.tpRpMinRate 0)
        alpha := x.alpha * 255 / 256 + 16777216, steps := 0, cutAt := some u.clk.ns }))
    ∧ (u.rw Obj.tpRpEnable 0 = 0 → exec (.cnp k) s = .next (Ends s (u.updQp q (fun x => { x with cnpA := true, cnpR := true, rp := false })))))
  ∧ ∀ (s u : State) (k : Pkt) (q op : Nat), s.reaches (.invalidOpcodePacket k op) k q u →
    exec (.invalidOpcodePacket k op) s = .next (Ends s ((u.sendNak q 0x61 k.psn).errQp q 3))

/-- R219, R229, R231, R233, R235 to R239, R247: the timers and the life of a QP: a timeout takes a retry and sends again from the
oldest PSN not acknowledged, the RNR wait ends in sending again, the coalescing timer sends the ACK of what
may be acknowledged and stays due while not all received may be, alpha decays and the
rate recovers, a context is fetched and its waiting packets run, a QP that has drained or waited too long is freed, a controller
without a keep-alive is deleted, `qp.close` drains and `qp.pin` pins at most 1,024 contexts. -/
def Obligations.QpTimerCommands : Prop :=
  (∀ (s : State) (q : Nat), (s.qp q).tx ≠ [] → (s.qp q).st = .active → exec (.ackTimeout q) s = .next (Ends s
      (if (s.qp q).retries = 0 then s.errQp q 5
       else (s.updQp q (fun x => { x with retries := x.retries - 1 })).resendFrom q (s.qp q).una)))
  ∧ (∀ (s t : State) (q p : Nat), (s.qp q).rnrWait = some p → t = s.updQp q (fun x => { x with rnrWait := none }) →
    (t.qp q).st = .active → exec (.rnrWaitExpiry q) s = .next (Ends s ((t.resendFrom q p).issueTx q)))
  ∧ (∀ (s : State) (q : Nat), 0 < (s.qp q).since → exec (.ackCoalesceTimer q) s = .next (Ends s
      ((s.qpSend q (.ack (s.qp q).qpn (s.ackable q) 0 (s.qp q).msn) 4 none none).updQp q (fun x =>
      { x with since := if s.ackable q = psnAdd (s.qp q).epsn 16777215 then 0 else max 1 (s.qp q).since }))))
  ∧ (∀ (s : State) (q : Nat), (s.qp q).st = .active → (s.qp q).rp = true →
    exec (.alphaTimer q) s = .next (Ends s (s.updQp q (fun x =>
      if x.cnpA then { x with cnpA := false } else { x with alpha := x.alpha * 255 / 256 }))))
  ∧ (∀ (s : State) (q : Nat), (s.qp q).st = .active → (s.qp q).rp = true → (s.qp q).cnpR = false →
    exec (.rpTimer q) s = .next (Ends s (s.updQp q (fun x => { x with
      steps := x.steps + 1
      rt := if 5 < x.steps + 1 then min (x.rt + s.rw Obj.tpRpAi 0) (s.subRate x.port x.sub) else x.rt
      rc := ((if 5 < x.steps + 1 then min (x.rt + s.rw Obj.tpRpAi 0) (s.subRate x.port x.sub) else x.rt) + x.rc) / 2 }))))
  ∧ (∀ (s : State) (q : Nat), (s.qp q).st ≠ .idle → (s.qp q).resident = false → (s.qp q).fetching = false → s.queuedQp q = true →
    (∀ t, s.makeRoom s.queuedQp = some t →
      exec (.contextFetchStart q) s = .next (Ends s ((t.updQp q (fun x => { x with fetching := true, fetchWait := false })).addCnt 64 Obj.tpMissFetches 0 1)))
    ∧ (s.makeRoom s.queuedQp = none → (s.qp q).fetchWait = false → exec (.contextFetchStart q) s = .next (Ends s
      ((s.updQp q (fun x => { x with fetchWait := true })).addCnt 64 Obj.tpFetchWaits 0 1))))
  ∧ (∀ (s : State) (q : Nat), (s.qp q).fetching = true → exec (.contextFetchDone q) s = .next (Ends s
      ((((s.updQp q (fun x => { x with fetching := false, resident := true })).updPort (s.qp q).port (fun p =>
        { p with miss := p.miss.filter (fun i => !isOf q i) })).rerun q ((s.port (s.qp q).port).miss.filter (isOf q))).issueTx q)))
  ∧ (∀ (s : State) (q : Nat), (s.qp q).st = .draining ∨ (s.qp q).st = .error → s.qpBusy q = false →
    exec (.qpDrainComplete q) s = .next (Ends s ((s.sendCm (s.qp q)
      (if (s.qp q).dreq then .drep (s.qp q).comm (s.qp q).qpn else .dreq (s.qp q).comm (s.qp q).qpn)).freeQp q)))
  ∧ (∀ (s : State) (q : Nat), (s.qp q).st = .draining ∨ (s.qp q).st = .error →
    (s.qp q).leftAt + (s.qp q).drainMs * 1000000 ≤ s.clk.ns →
    exec (.drainTimeout q) s = .next (Ends s ((((((s.net.accs.filter (fun a => a.who = .qp q)).filterMap (fun a => a.cmd)).foldl
      (fun t id => t.abandonWrite id) s).abandonWrites (ofQp q) false).abandonReads (ofQp q)).endQp q)))
  ∧ (∀ (s t : State) (c : Nat) (x : Ctrl), s.ctrl c = some x → x.kaAt + x.kato * 1000000000 ≤ s.clk.ns →
    t = (s.ctrlQps c).foldl (fun u q => (u.drainQp q).updQp q (fun x => { x with ctrl := none })) s →
    exec (.keepaliveExpiry c) s = .next (Ends s { t with net := { t.net with ctrls := Tbl.drop t.net.ctrls c } }))
  ∧ (∀ (h : Hdr) (q : Nat), ActionRuns (.qpClose h q) h Obj.qpClose q 1 (fun u => (u.qp q).st = .active)
      (fun u => (u.leaveActive q .draining).actDone Obj.qpClose q))
  ∧ ∀ (h : Hdr) (q v : Nat), v < 256 → WriteRuns (.qpPinWrite h q v) h Obj.qpPin q [v] v (fun u => v = 0 ∨ u.pins < 1024)
      (fun u _ => u.putRw Obj.qpPin q v)

/-- R241, R243, R244, R246 to R248, R250: Connect and the admin commands of a controller: the controller is created or joined,
properties, features, Identify data and log pages are answered, an Asynchronous Event Request waits (at most four), Keep Alive
restarts the interval, an Abort is answered as not aborted. -/
def Obligations.AdminCommands : Prop :=
  (∀ (s u v w : State) (k : Pkt) (q cid sq kato hostId c : Nat) (tb : Bool) (nqn sub : Nat) (y : Ctrl),
    s.reaches (.fabricsConnect k cid 0 sq kato 0xFFFF tb nqn sub hostId) k q u → v = u.taken q k →
    (v.qp q).ctrl = none → (v.qp q).qid = 0 → sub = v.subsysNqn ∨ sub = discNqn → nqn = v.rw Obj.hostNqn (v.qp q).host →
    1 ≤ kato → kato ≤ 3600000 → c = v.freeCtrl →
    y = { host := (v.qp q).host, admin := q, kato := (kato + 999) / 1000, tbkas := tb, kaAt := v.clk.ns, hostId := hostId
          disc := sub = discNqn } →
    w = { v with net := { v.net with ctrls := Tbl.set none v.net.ctrls c (some y) } } →
    exec (.fabricsConnect k cid 0 sq kato 0xFFFF tb nqn sub hostId) s = .next (Ends s
      ((w.updQp q (fun x => { x with ctrl := some c })).sendCpl q cid c 0 none)))
  ∧ (∀ (s u v : State) (k : Pkt) (q cid qid sq kato cntlid hostId : Nat) (tb : Bool) (nqn sub : Nat) (y : Ctrl),
    s.reaches (.fabricsConnect k cid qid sq kato cntlid tb nqn sub hostId) k q u → v = u.taken q k →
    (v.qp q).ctrl = none → qid ≠ 0 → (v.qp q).qid = qid → sub = v.subsysNqn → sub ≠ discNqn →
    v.ctrl cntlid = some y → y.host = (v.qp q).host → y.disc = false →
    exec (.fabricsConnect k cid qid sq kato cntlid tb nqn sub hostId) s = .next (Ends s
      ((v.updQp q (fun x => { x with ctrl := some cntlid })).sendCpl q cid cntlid 0 none)))
  ∧ (∀ (s u v : State) (k : Pkt) (q cid off c : Nat) (x : Ctrl), s.reaches (.propertyGet k cid off) k q u →
    (u.qp q).ctrl = some c → v = u.taken q k → v.ctrl c = some x →
    exec (.propertyGet k cid off) s = .next (Ends s (if off = 0x00 then v.sendCpl q cid Config.nvmeCap 0 none
      else if off = 0x08 then v.sendCpl q cid Config.nvmeVs 0 none else if off = 0x14 then v.sendCpl q cid x.cc 0 none
      else if off = 0x1C then v.sendCpl q cid x.csts 0 none else v.sendCpl q cid 0 0x002 none)))
  ∧ (∀ (s u v : State) (k : Pkt) (q cid value c : Nat), s.reaches (.propertySet k cid 0x14 value) k q u →
    (u.qp q).ctrl = some c → v = u.taken q k → value % 2 = 1 →
    exec (.propertySet k cid 0x14 value) s = .next (Ends s ((v.updCtrl c (fun x => { x with
      cc := value, csts := 1 + (if value / 16384 % 4 = 0 then 0 else 8) })).sendCpl q cid 0 0 none)))
  ∧ (∀ (s u v : State) (k : Pkt) (q cid c : Nat), s.reaches (.disconnect k cid) k q u → (u.qp q).ctrl = some c → v = u.taken q k →
    exec (.disconnect k cid) s = .next (Ends s ((v.sendCpl q cid 0 0 none).drainQp q)))
  ∧ (∀ (s u v : State) (k : Pkt) (q cid cns nsid c : Nat) (g : Sgl), s.reaches (.identify k cid cns nsid g) k q u →
    (u.qp q).ctrl = some c → (u.qp q).qid = 0 → v = u.taken q k →
    (cns ∉ [0, 1, 2, 3, 6] → exec (.identify k cid cns nsid g) s = .next (Ends s (v.sendCpl q cid 0 0x002 (sglInv g))))
    ∧ (∀ b, cns ∈ [0, 1, 2, 3, 6] → v.identData (v.qp q).host c cns (if cns = 2 then nsid else nsid - 1) = some b →
      exec (.identify k cid cns nsid g) s = .next (Ends s (v.sendData q cid g (min g.len 4096) (leNat (b.take g.len)) 0)))
    ∧ (cns ∈ [0, 1, 2, 3, 6] → v.identData (v.qp q).host c cns (if cns = 2 then nsid else nsid - 1) = none →
      exec (.identify k cid cns nsid g) s = .next (Ends s (v.sendCpl q cid 0 0x00B (sglInv g)))))
  ∧ (∀ (s u v : State) (k : Pkt) (q cid lid off c : Nat) (rae : Bool) (g : Sgl) (x : Ctrl), s.reaches (.getLogPage k cid lid off rae g) k q u →
    (u.qp q).ctrl = some c → (u.qp q).qid = 0 → v = u.taken q k → v.ctrl c = some x →
    (lid = 4 → exec (.getLogPage k cid lid off rae g) s = .next (Ends s
      ((if rae then v else v.updCtrl c (fun x => { x with changed := [] })).sendData q cid g g.len
        (leNat (((((x.changed.take 1024).flatMap (fun n => leBytes 4 n)).drop off) ++ zeros g.len).take g.len)) 0)))
    ∧ (lid = 0xC → exec (.getLogPage k cid lid off rae g) s = .next (Ends s (v.sendData q cid g g.len
        (leNat ((((v.anaLog (v.qp q).host).drop off) ++ zeros g.len).take g.len)) 0)))
    ∧ (lid ∉ [1, 2, 4, 0xC, 0x70] → exec (.getLogPage k cid lid off rae g) s = .next (Ends s (v.sendCpl q cid 0 0x109 (sglInv g)))))
  ∧ (∀ (s u v : State) (k : Pkt) (q cid fid value c : Nat), s.reaches (.setFeatures k cid fid value) k q u →
    (u.qp q).ctrl = some c → (u.qp q).qid = 0 → v = u.taken q k →
    exec (.setFeatures k cid fid value) s = .next (Ends s
      (if fid = 0x07 then v.sendCpl q cid (min (value % 65536) 127 + min (value / 65536) 127 * 65536) 0 none
       else if fid = 0x0B then (v.updCtrl c (fun x => { x with aecfg := value })).sendCpl q cid 0 0 none
       else if fid = 0x0F then (if value = 0 ∨ 3600000 < value then v.sendCpl q cid 0 0x002 none
         else (v.updCtrl c (fun x => { x with kato := (value + 999) / 1000, kaAt := v.clk.ns })).sendCpl q cid 0 0 none)
       else if fid = 0x81 then (v.updCtrl c (fun x => { x with hostId := value })).sendCpl q cid 0 0 none
       else v.sendCpl q cid 0 0x002 none)))
  ∧ (∀ (s u v : State) (k : Pkt) (q cid fid c : Nat) (x : Ctrl), s.reaches (.getFeatures k cid fid) k q u →
    (u.qp q).ctrl = some c → (u.qp q).qid = 0 → v = u.taken q k → v.ctrl c = some x →
    exec (.getFeatures k cid fid) s = .next (Ends s
      (if fid = 0x07 then v.sendCpl q cid (127 + 127 * 65536) 0 none else if fid = 0x0B then v.sendCpl q cid x.aecfg 0 none
       else if fid = 0x0F then v.sendCpl q cid (x.kato * 1000) 0 none else if fid = 0x81 then v.sendCpl q cid x.hostId 0 none
       else v.sendCpl q cid 0 0x002 none)))
  ∧ (∀ (s u v : State) (k : Pkt) (q cid c : Nat) (x : Ctrl), s.reaches (.asynchronousEventRequest k cid) k q u →
    (u.qp q).ctrl = some c → (u.qp q).qid = 0 → v = u.taken q k → v.ctrl c = some x →
    exec (.asynchronousEventRequest k cid) s = .next (Ends s (if 4 ≤ x.aers.length then v.sendCpl q cid 0 0x105 none
      else State.pumpAev 1 c (v.updCtrl c (fun x => { x with aers := x.aers ++ [cid] })))))
  ∧ (∀ (s u v : State) (k : Pkt) (q cid c : Nat), s.reaches (.keepAlive k cid) k q u →
    (u.qp q).ctrl = some c → (u.qp q).qid = 0 → v = u.taken q k →
    exec (.keepAlive k cid) s = .next (Ends s ((v.updCtrl c (fun x => { x with kaAt := u.clk.ns })).sendCpl q cid 0 0 none)))
  ∧ ∀ (s u v : State) (k : Pkt) (q cid c : Nat), s.reaches (.abort k cid) k q u →
    (u.qp q).ctrl = some c → (u.qp q).qid = 0 → v = u.taken q k →
    exec (.abort k cid) s = .next (Ends s (v.sendCpl q cid 1 0 none))

/-- R243, R246, R250, R251: the block commands of an I/O queue: a check that fails is answered with its status and nothing else;
a read is planned, a write or Write Zeroes admitted, in the blocks of its namespace's LBA size, and a Flush is answered at once. -/
def Obligations.BlockCommands : Prop :=
  (∀ (s u v : State) (k : Pkt) (q cid nsid slba nlb c : Nat) (pr : PrInfo) (g : Sgl), s.reaches (.nvmeRead k cid nsid slba nlb pr g) k q u →
    (u.qp q).ctrl = some c → (u.qp q).qid ≠ 0 → v = u.taken q k →
    (v.blockCheck (v.qp q).host nsid slba nlb pr.pract ≠ 0 → exec (.nvmeRead k cid nsid slba nlb pr g) s = .next (Ends s
      (v.sendCpl q cid 0 (v.blockCheck (v.qp q).host nsid slba nlb pr.pract) (sglInv g))))
    ∧ (v.blockCheck (v.qp q).host nsid slba nlb pr.pract = 0 → g.inCapsule = true →
      exec (.nvmeRead k cid nsid slba nlb pr g) s = .next (Ends s (v.sendCpl q cid 0 0x002 none)))
    ∧ (v.blockCheck (v.qp q).host nsid slba nlb pr.pract = 0 → g.inCapsule = false →
      exec (.nvmeRead k cid nsid slba nlb pr g) s = .next (Ends s
        ((v.updQp q (fun x => { x with cmds := x.cmds ++ [⟨cid, 2, nsid - 1, slba, nlb, g, pr⟩] })).startRead (.nvme q cid) (nsid - 1)
          (slba * v.rw Obj.nsLbaSize (nsid - 1)) (nlb * v.rw Obj.nsLbaSize (nsid - 1))))))
  ∧ (∀ (s u v : State) (k : Pkt) (q cid nsid slba nlb c : Nat) (pr : PrInfo) (g : Sgl), s.reaches (.nvmeWrite k cid nsid slba nlb pr g) k q u →
    (u.qp q).ctrl = some c → (u.qp q).qid ≠ 0 → v = u.taken q k → v.blockCheck (v.qp q).host nsid slba nlb pr.pract = 0 →
    (g.inCapsule = true → 8192 < g.len → exec (.nvmeWrite k cid nsid slba nlb pr g) s = .next (Ends s (v.sendCpl q cid 0 0x002 none)))
    ∧ (g.inCapsule = false ∨ g.len ≤ 8192 → exec (.nvmeWrite k cid nsid slba nlb pr g) s = .next (Ends s
        ((v.updQp q (fun x => { x with cmds := x.cmds ++ [⟨cid, 1, nsid - 1, slba, nlb, g, pr⟩] })).admitWrite (.nvme q cid) (nsid - 1)
          (slba * v.rw Obj.nsLbaSize (nsid - 1)) (nlb * v.rw Obj.nsLbaSize (nsid - 1))))))
  ∧ (∀ (s u v : State) (k : Pkt) (q cid nsid slba nlb c : Nat), s.reaches (.writeZeroes k cid nsid slba nlb) k q u →
    (u.qp q).ctrl = some c → (u.qp q).qid ≠ 0 → v = u.taken q k → v.blockCheck (v.qp q).host nsid slba nlb false = 0 →
    exec (.writeZeroes k cid nsid slba nlb) s = .next (Ends s ((v.updQp q (fun x => { x with
      cmds := x.cmds ++ [⟨cid, 8, nsid - 1, slba, nlb, ⟨0, 0, 0, false, false, 0⟩, ⟨false, 0, 0, 0, 0⟩⟩] })).admitWrite (.nvme q cid)
        (nsid - 1) (slba * v.rw Obj.nsLbaSize (nsid - 1)) (nlb * v.rw Obj.nsLbaSize (nsid - 1)))))
  ∧ ∀ (s u v : State) (k : Pkt) (q cid nsid c : Nat), s.reaches (.nvmeFlush k cid nsid) k q u →
    (u.qp q).ctrl = some c → (u.qp q).qid ≠ 0 → v = u.taken q k →
    exec (.nvmeFlush k cid nsid) s = .next (Ends s (v.sendCpl q cid 0 (v.blockCheck (v.qp q).host nsid 0 0 false) none))

/-- R237, R260 to R266, R268, R276: accesses of a window by a QP: an access that fails a check of Table 7-3 is reported with its cause
and nothing is placed; a write or knot that passes is admitted under the present translation, takes its frames (RNR NAK without
them) and its bytes; later packets add theirs; a READ and a FLUSH are admitted with a response to come; a SEND with Immediate is a
trigger; a write in its place is placed. -/
def Obligations.EyeletAccessCommands : Prop :=
  (∀ (s u : State) (k : Pkt) (q key va len plen payload : Nat) (last : Bool), s.reaches (.rdmaWrite k true last key va len plen payload) k q u →
    (u.eyeCheck key (u.qp q).host 0 va len true ≠ 0 →
      exec (.rdmaWrite k true last key va len plen payload) s = .next (Ends s ((u.nakViolation q k.psn (key % 16384)
        (u.eyeCheck key (u.qp q).host 0 va len true) 0x0A va).moveAccs (.qp q))))
    ∧ (u.eyeCheck key (u.qp q).host 0 va len true = 0 →
      ∀ (v : State) (id : Nat), u.admitAcc (.qp q) .write (key % 16384) va len k.psn 1 = (v, id) →
      (v.takeFrames id = none → exec (.rdmaWrite k true last key va len plen payload) s = .next (Ends s ((u.sendRnr q k.psn).moveAccs (.qp q))))
      ∧ ∀ (t : State), v.takeFrames id = some t →
        exec (.rdmaWrite k true last key va len plen payload) s = .next (Ends s (((((((t.updAcc id (fun a => { a with issued := true })).addCnt
          64 Obj.ordKnotWaits 0 0).updQp q (fun x => { x with
            writes := x.writes + 1, scratch := x.scratch || decide ((u.eye (key % 16384)).kind ≠ 0) })).accData id plen payload).acceptPsn
          q 1 k.ackReq (decide (len ≤ plen))).moveAccs (.qp q))))))
  ∧ (∀ (s u : State) (k : Pkt) (q key va len plen payload : Nat) (last : Bool) (a : EyeAcc) (c : WCmd),
    s.reaches (.rdmaWrite k false last key va len plen payload) k q u →
    u.net.accs.find? (fun a => a.who = .qp q && a.kind = .write && decide (a.got < a.len)) = some a → a.cmd.bind u.findWrite = some c →
    (∀ r ∈ c.ranges, 1 ≤ r.st) →
    exec (.rdmaWrite k false last key va len plen payload) s = .next (Ends s
      (((u.accData a.id plen payload).acceptPsn q 1 k.ackReq (decide (a.len ≤ a.got + plen))).moveAccs (.qp q))))
  ∧ (∀ (s u v t : State) (k : Pkt) (q key va len payload id : Nat), s.reaches (.knotWrite k key va len payload) k q u →
    len ≤ (u.qp q).mtu → len ≤ 4096 → u.eyeCheck key (u.qp q).host 0 va len true = 0 →
    u.admitAcc (.qp q) .knot (key % 16384) va len k.psn 1 = (v, id) → v.takeFrames id = some t →
    exec (.knotWrite k key va len payload) s = .next (Ends s (((((((t.updAcc id (fun a => { a with issued := false })).addCnt 64 Obj.ordKnotWaits 0
      (b2n (u.net.accs.any (fun b => b.who = .qp q && b.isRdma && !b.placed)))).updQp q (fun x => { x with
        writes := x.writes + 1, scratch := x.scratch || decide ((u.eye (key % 16384)).kind ≠ 0) })).accData id len payload).acceptPsn
      q 1 k.ackReq true).moveAccs (.qp q)))))
  ∧ (∀ (s u : State) (k : Pkt) (q key va len payload : Nat), s.reaches (.knotWrite k key va len payload) k q u →
    (u.qp q).mtu < len ∨ 4096 < len →
    exec (.knotWrite k key va len payload) s = .next (Ends s ((u.sendNak q 0x61 k.psn).errQp q 3)))
  ∧ (∀ (s u : State) (k : Pkt) (q key va len n : Nat), s.reaches (.rdmaRead k key va len) k q u → u.rspFull q = false →
    u.eyeCheck key (u.qp q).host 1 va len false = 0 → n = max 1 ((len + (u.qp q).mtu - 1) / (u.qp q).mtu) →
    exec (.rdmaRead k key va len) s = .next (Ends s
      (((((u.addRsp q { psn := k.psn, n := n, kind := .read, key := key, off := va, len := len }).admitAcc (.qp q) .read (key % 16384)
        va len k.psn n).1).updQp q (fun x => { x with
          epsn := psnAdd x.epsn n, nak := false, msn := psnAdd x.msn 1, used := u.clk.ns })).moveAccs (.qp q))))
  ∧ (∀ (s u : State) (k : Pkt) (q : Nat), s.reaches (.eyeletFlush k) k q u → u.rspFull q = false →
    exec (.eyeletFlush k) s = .next (Ends s
      (((((u.addRsp q { psn := k.psn, n := 1, kind := .flush, off := (u.qp q).writes, len := b2n (u.qp q).scratch }).admitAcc (.qp q) .flush 0
          (u.qp q).writes (b2n (u.qp q).scratch) k.psn 1).1).updQp q (fun x => { x with
          epsn := psnAdd x.epsn 1, nak := false, msn := psnAdd x.msn 1, used := u.clk.ns, writes := 0, scratch := false })).moveAccs (.qp q))))
  ∧ (∀ (s u v : State) (k : Pkt) (q imm payload slot id : Nat), s.reaches (.sendWithImmediate k imm 0 payload) k q u →
    slot = imm / 2 ^ 20 % 4096 → (u.chain slot).st ≠ .empty → imm % 2 ^ 20 = (u.chain slot).tagchk → (u.qp q).host = (u.chain slot).host →
    u.admitAcc (.qp q) .trigger 16384 0 0 k.psn k.n = (v, id) →
    exec (.sendWithImmediate k imm 0 payload) s = .next (Ends s (((v.updAcc id (fun a => { a with
      slot := slot, host := (u.qp q).host })).acceptPsn q k.n k.ackReq true).moveAccs (.qp q))))
  ∧ ∀ (s : State) (id : Nat) (a : EyeAcc), s.acc id = some a → a.isWrite = true → a.placed = false → s.inPlace a = true →
    exec (.eyeletWritePlaced id) s = .next (Ends s (((s.placeAcc a).trigger_ a).moveAccs a.who))

/-- R274 to R280, Tables 7-6 to 7-8: arming and disarming a chain, and its work requests: an ARM that passes arms the slot and is
answered with status 0; a DISARM empties a chain that does not run; a held trigger starts when a slot of the 512 is free; a work request
issues when the ones before it allow, moves or sends its bytes, links or does nothing, and its STATUS and TIME are written when it is
over; the last one ends the chain, a failed one fails it. -/
def Obligations.ChainCommands : Prop :=
  (∀ (s u : State) (k : Pkt) (q slot : Nat) (c : Ceth), s.reaches (.chainArm k c) k q u → u.ceCheck (u.qp q).host c = 0 →
    u.rspFull q = false → slot = (u.eye (c.ckey % 16384)).base + c.slot →
    (u.chain slot).st = .empty ∨ (u.chain slot).st = .done ∨ (u.chain slot).st = .failed →
    ((∀ i, i < c.count → (u.wrAt slot i).bad = false) → c.landKey = 0 ∨ u.eyeCheck c.landKey (u.qp q).host 0 c.landOff c.landLen true = 0 →
      exec (.chainArm k c) s = .next (Ends s (((u.takeRsp q k .arm).updChain slot (fun _ => {
        st := .armed, eye := c.ckey % 16384, host := (u.qp q).host, count := c.count, rearm := c.rearm, scope := c.scope
        tagchk := c.tagchk, landKey := c.landKey, landOff := c.landOff, landLen := c.landLen })).chainResp q k.psn (slot * 65536))))
    ∧ (∀ i, i < c.count → (u.wrAt slot i).bad = true → (∀ j, j < i → (u.wrAt slot j).bad = false) →
      exec (.chainArm k c) s = .next (Ends s ((u.takeRsp q k .arm).chainResp q k.psn (3 + i * 256 + slot * 65536)))))
  ∧ (∀ (s u : State) (k : Pkt) (q slot : Nat) (c : Ceth), s.reaches (.chainDisarm k c) k q u → u.ceCheck (u.qp q).host c = 0 →
    u.rspFull q = false → slot = (u.eye (c.ckey % 16384)).base + c.slot →
    ((u.chain slot).st = .empty → exec (.chainDisarm k c) s = .next (Ends s ((u.takeRsp q k .disarm).chainResp q k.psn (slot * 65536))))
    ∧ ((u.chain slot).st ≠ .empty → exec (.chainDisarm k c) s = .next (Ends s (State.disarm slot
      ((u.takeRsp q k .disarm).updChain slot (fun c => { c with waiting := c.waiting ++ [(q, k.psn)] }))))))
  ∧ (∀ (s : State) (n slot : Nat) (rest : List (Nat × Nat)), s.running < 512 →
    sortBy (fun a b => a.1 ≤ b.1) (s.net.chains.filterMap (fun e => e.2.held.map (fun n => (n, e.1)))) = (n, slot) :: rest →
    exec .chainHeldTriggerStart s = .next (Ends s (s.startChain slot)))
  ∧ (∀ (s t : State) (slot : Nat) (c : Chain) (w : Wr) (a b : EyeAcc), c = s.chain slot → w = s.wrAt slot c.next → s.mayIssue slot [1] = true →
    (s.eyeCheck w.target c.host 2 w.roff w.len false ≠ 0 → exec (.wrRead slot) s = .next (Ends s
      (s.wrViolation slot (w.target % 16384) (s.eyeCheck w.target c.host 2 w.roff w.len false) w.roff)))
    ∧ (s.eyeCheck w.target c.host 2 w.roff w.len false = 0 → s.eyeCheck w.lkey c.host 3 w.loff w.len true = 0 →
      w.target % 16384 ≠ w.lkey % 16384 →
      t = (((s.admitAcc (.chain slot c.next) .read (w.target % 16384) w.roff w.len 0 0).1.admitAcc (.chain slot c.next) .write
        (w.lkey % 16384) w.loff w.len 0 0).1).issueWr slot false 1 →
      t.acc s.net.nextAcc = some a → t.acc (s.net.nextAcc + 1) = some b →
      exec (.wrRead slot) s = .next (Ends s (if a.ekind = 0 then t.chainRead slot c.next a 0
        else (t.ramWrite b.addr b.len (memRead t.net.ram a.addr a.len)).updChain slot (fun x => x.ended c.next 1)))))
  ∧ (∀ (s t : State) (slot : Nat) (c : Chain) (w : Wr) (a : EyeAcc), c = s.chain slot → w = s.wrAt slot c.next →
    s.eyeCheck w.lkey c.host 2 w.loff w.len false = 0 → (s.qp (w.target % 65536)).st = .active →
    s.sameGroup (s.qp (w.target % 65536)).host c.host = true →
    t = (s.admitAcc (.chain slot c.next) .read (w.lkey % 16384) w.loff w.len 0 0).1.issueWr slot false 1 →
    t.acc s.net.nextAcc = some a →
    (s.mayIssue slot [2, 3] = true → exec (.wrWrite slot) s = .next (Ends s (if a.ekind = 0 then t.chainRead slot c.next a 0
        else t.wrPost slot c.next w (memRead t.net.ram a.addr a.len))))
    ∧ (s.mayIssue slot [4, 5] = true → exec (.wrSend slot) s = .next (Ends s (if a.ekind = 0 then t.chainRead slot c.next a 0
        else t.wrPost slot c.next w (memRead t.net.ram a.addr a.len)))))
  ∧ (∀ (s : State) (slot n : Nat), s.mayIssue slot [6] = true → n = (s.wrAt slot (s.chain slot).next).target % 4096 →
    exec (.wrLink slot) s = .next (Ends s (if (s.chain n).st = .armed then
      (s.issueWr slot false 1).trigChain n (some (slot, (s.chain slot).next)) else s.issueWr slot true 7)))
  ∧ (∀ (s : State) (slot : Nat), s.mayIssue slot [0] = true → exec (.wrNop slot) s = .next (Ends s (s.issueWr slot true 1)))
  ∧ (∀ (s t : State) (slot wr : Nat) (c : Chain) (f : WrRun), c = s.chain slot → c.st = .running →
    c.flight.find? (fun f => f.idx = wr && f.ended) = some f →
    t = ((s.setWr slot wr f.status s.clk.ns).endWrAccs slot wr).updChain slot (fun c => { c with
      flight := c.flight.filter (fun f => f.idx ≠ wr) }) →
    (f.status = 1 → (t.chain slot).flight = [] → c.count ≤ c.next → exec (.workRequestComplete slot wr) s = .next (Ends s
      (t.updChain slot (fun c => { c with st := if c.rearm then .armed else .done, next := 0 }))))
    ∧ (f.status = 1 → (t.chain slot).flight ≠ [] ∨ c.next < c.count → exec (.workRequestComplete slot wr) s = .next (Ends s t))
    ∧ (f.status ≠ 1 → exec (.workRequestComplete slot wr) s = .next (Ends s
      ((((t.unissued slot c.next c.count).updChain slot (fun c => { c with st := .failed })).ownerNotice (s.eye c.eye).owner 0xE1
        c.eye 0).later (.detect 0x805 7 c.eye 0)))))
  ∧ ∀ (h : Hdr) (slot : Nat), ActionRuns (.chainDisarmAction h slot) h Obj.chainDisarm slot 1 (fun _ => True) (fun u =>
      if ((State.disarm slot (u.actRun Obj.chainDisarm slot)).chain slot).st = .empty then
        (State.disarm slot (u.actRun Obj.chainDisarm slot)).actDone Obj.chainDisarm slot
      else State.disarm slot (u.actRun Obj.chainDisarm slot))

/-- R255 to R259, R271 to R273, Table 7-2: registering an eyelet whose fields pass writes its row LIVE with the next generation of
its key and a check value (a free value of the model, log entry 2); revoking stops it at once and ends when nothing is admitted, or
by force after 64 us with cause 12; a commit takes the staged window, and ends when no older access is left, or by force with cause 13. -/
def Obligations.EyeletCommands : Prop :=
  (∀ (h : Hdr) (row : Nat), ActionRuns (.eyeRegister h row) h Obj.eyeRegister row 1
    (fun u => ((u.eye row).st = 0 ∨ (u.eye row).st = 3) ∧ u.rw Obj.eyeOwner row < 2048 ∧ u.rw Obj.hostEnable (u.rw Obj.eyeOwner row) = 1
      ∧ u.windowDetail row (u.rw Obj.eyeKind row) (u.rw Obj.eyeOwner row) (u.rw Obj.eyeNs row) (u.rw Obj.eyeBase row)
        (u.rw Obj.eyeLen row) (u.rw Obj.eyePerm row) = 0 ∧ (u.eye row).kgen ≠ 0)
    (fun u => ((((u.used.updEye row (fun x => { x with
      st := 1, kind := u.rw Obj.eyeKind row, perm := u.rw Obj.eyePerm row, kgen := (u.eye row).kgen % 255 + 1
      owner := u.rw Obj.eyeOwner row, access := u.rw Obj.eyeAccess row, ns := if u.rw Obj.eyeKind row = 0 then u.rw Obj.eyeNs row else 0
      check := u.fresh % 1024, base := u.rw Obj.eyeBase row, len := u.rw Obj.eyeLen row, wgen := 0, svalid := false })).actDone Obj.eyeRegister row).fenLet 7 row)).fenServe 7 row))
  ∧ (∀ (h : Hdr) (row : Nat), ActionRuns (.eyeRegister h row) h Obj.eyeRegister row 1
    (fun u => (u.eye row).st = 1 ∨ (u.eye row).st = 2) (fun u => u.actFail Obj.eyeRegister row 1))
  ∧ (∀ (h : Hdr) (row : Nat), ActionRuns (.eyeRevoke h row) h Obj.eyeRevoke row 1 (fun u => (u.eye row).st = 1)
    (fun u => (((u.actRun Obj.eyeRevoke row).updEye row (fun x => { x with
      st := 2, since := u.clk.ns })).chainsOff State.disarm row).rowSettle row))
  ∧ (∀ (s : State) (row : Nat), (s.eye row).st = 2 → (s.eye row).since + 64000 ≤ s.clk.ns → s.admitted row ≠ [] →
    exec (.eyeRevokeTimeout row) s = .next (Ends s ((((((s.admitted row).foldl (fun u a => u.abortAcc 12 a) s).updEye row
      (fun x => { x with st := 3 })).setAct Obj.eyeRevoke row 2 1).ownerNotice (s.eye row).owner 0xE3 row 0).later
      (.detect 0x804 7 row 0) |>.commitSettle row)))
  ∧ (∀ (h : Hdr) (row : Nat), ActionRuns (.eyeCommit h row) h Obj.eyeCommit row 1
    (fun u => (u.eye row).st = 1 ∧ (u.eye row).svalid = true ∧ (u.eye row).committing = false
      ∧ u.windowDetail row (u.eye row).kind (u.eye row).owner (u.eye row).ns (u.rw Obj.eyeSbase row) (u.rw Obj.eyeSlen row)
        (u.rw Obj.eyeSperm row) = 0)
    (fun u => (u.updEye row (fun x => { x with
      base := u.rw Obj.eyeSbase row, len := u.rw Obj.eyeSlen row, perm := u.rw Obj.eyeSperm row, access := u.rw Obj.eyeSaccess row
      wgen := wrapAdd 16 x.wgen 1, svalid := false, updating := true, committing := true, commitAt := u.clk.ns })).actRun
      Obj.eyeCommit row))
  ∧ (∀ (s t : State) (row : Nat), (s.eye row).updating = true →
    t = (s.updEye row (fun x => { x with updating := false })).rowSettle row →
    exec (.keyCacheUpdateDone row) s = .next (Ends s (t.heldQps.foldl (fun u q => u.later (.rxMore q)) t)))
  ∧ ∀ (s : State) (row : Nat), (s.eye row).committing = true → (s.eye row).commitAt + 64000 ≤ s.clk.ns →
    exec (.eyeCommitTimeout row) s = .next (Ends s ((((((s.admitted row).filter (fun a => a.wgen ≠ (s.eye row).wgen)).foldl
      (fun u a => u.abortAcc 13 a) s).updEye row (fun x => { x with committing := false })).setAct Obj.eyeCommit row 2 1).rowSettle row))

/-- R294 to R299, Table 8-3: a fence is released through DRAINING, and at once when nothing of its scope is in flight; a drain that
lasts too long leaves it FENCED with detail 4; a RELEASED row is UNUSED in time; `sel.engage` fences the scope its objects name and
refuses one that does not exist. -/
def Obligations.FenceCommands : Prop :=
  (∀ (h : Hdr) (row : Nat) (clear : Bool), ActionRuns (.fenceRelease h row clear) h Obj.fenRelease row 1
    (fun u => (Tbl.get {} u.fen.rows row).st = .fenced ∧ (Tbl.get {} u.fen.rows row).scope = 4 ∧ clear = true)
    (fun u => if ((u.putFen row { Tbl.get {} u.fen.rows row with st := .draining }).actRun Obj.fenRelease row).scopeBusy 4
        (Tbl.get {} u.fen.rows row).id
      then (u.putFen row { Tbl.get {} u.fen.rows row with st := .draining }).actRun Obj.fenRelease row
      else ((u.putFen row { Tbl.get {} u.fen.rows row with st := .draining }).actRun Obj.fenRelease row).fenReleased row))
  ∧ (∀ (h : Hdr) (row : Nat) (clear : Bool), ActionRuns (.fenceRelease h row clear) h Obj.fenRelease row 1
    (fun u => (Tbl.get {} u.fen.rows row).st ≠ .fenced ∧ (Tbl.get {} u.fen.rows row).scope ≠ 1) (fun u => u.actFail Obj.fenRelease row 1))
  ∧ (∀ (s t : State) (row : Nat) (f : Fen), f = Tbl.get {} s.fen.rows row → f.st = .draining → s.scopeBusy f.scope f.id = false →
    t = ((s.putFen row { f with st := .released }).actDone Obj.fenRelease row).clearUnit f.scope f.id →
    exec (.fenceDrainDone row) s = .next (Ends s (t.note 0xE0A f.scope f.id 5 0)))
  ∧ (∀ (s : State) (row : Nat) (f : Fen), f = Tbl.get {} s.fen.rows row → f.st = .draining →
    exec (.fenceDrainTimeout row) s = .next (Ends s
      (((s.putFen row { f with st := .fenced }).actFail Obj.fenRelease row 4).note 0xE0B f.scope f.id 5 0)))
  ∧ (∀ (s : State) (row : Nat), (Tbl.get {} s.fen.rows row).st = .released →
    exec (.fenceReleasedTimeout row) s = .next (Ends s (s.putFen row {})))
  ∧ (∀ (h : Hdr), ActionRuns (.selEngage h) h Obj.selEngage 0 1
    (fun u => u.scopePresent (u.rw Obj.selEngageType 0) (u.rw Obj.selEngageId 0) = true ∧ u.rw Obj.selEngageType 0 ≠ 10)
    (fun u => ((u.engage (u.rw Obj.selEngageType 0) (u.rw Obj.selEngageId 0) 0xFFFF).note 0xE09 (u.rw Obj.selEngageType 0)
      (u.rw Obj.selEngageId 0) 5 0xFFFF).actDone Obj.selEngage 0))
  ∧ ∀ (h : Hdr), ActionRuns (.selEngage h) h Obj.selEngage 0 1
    (fun u => u.scopePresent (u.rw Obj.selEngageType 0) (u.rw Obj.selEngageId 0) = false) (fun u => u.actFail Obj.selEngage 0 1)

/-- R302 to R311, Tables 8-4 to 8-6: the MSQ pair: a mismatch latches its time, its slices and its cause, and the copy that faulted is
fenced while the other goes on alone, or the pair halts when neither or both can be blamed; a repair goes through RESYNC back to
PAIRED; the slice and switch-over tests run while PAIRED only. The gap is a free value of at most 48 cycles (log entry 2). -/
def Obligations.MsqCommands : Prop :=
  (∀ (s t v : State) (slices : Nat), s.msq.st = .paired → slices < 2 ^ 64 → slices ≠ 0 →
    t = ({ s with msq := { s.msq with lastMismatch := s.clk.ns, lastSlices := slices, lastCause := 1 } } : State).addCnt 32
      Obj.msqSwitchovers 0 1 →
    v = State.engageList engageBound [⟨10, 68, 0xFFFF, 0x701, false⟩] ((t.msqTo .singleB).noteInj false 0x701 10 68 1 0) →
    exec (.msqMismatch slices true false) s = .next (Ends s ({ v with msq := { v.msq with lastGap := v.fresh % 49 } } : State).used))
  ∧ (∀ (s t v : State) (slices : Nat), s.msq.st = .paired → slices < 2 ^ 64 → slices ≠ 0 →
    t = ({ s with msq := { s.msq with lastMismatch := s.clk.ns, lastSlices := slices, lastCause := 2 } } : State).addCnt 32
      Obj.msqSwitchovers 0 1 →
    v = State.engageList engageBound [⟨10, 69, 0xFFFF, 0x701, false⟩] ((t.msqTo .singleA).noteInj false 0x701 10 69 1 0) →
    exec (.msqMismatch slices false true) s = .next (Ends s ({ v with msq := { v.msq with lastGap := v.fresh % 49 } } : State).used))
  ∧ (∀ (s : State) (slices : Nat) (both : Bool), s.msq.st = .paired → slices < 2 ^ 64 → slices ≠ 0 →
    exec (.msqMismatch slices both both) s = .next (Ends s (((({ s with msq := { s.msq with
      lastMismatch := s.clk.ns, lastSlices := slices, lastCause := if both then 4 else 3 } } : State).addCnt 32
      Obj.msqSwitchovers 0 1).msqTo .halted).detectInj false 0x701 0 0 0)))
  ∧ (∀ (h : Hdr) (ok : Bool), ActionRuns (.msqRepair h ok) h Obj.msqRepair 0 1
    (fun u => u.msq.st = .singleA ∨ u.msq.st = .singleB) (fun u => if ok then
      (({ u with msq := { u.msq with before := u.msq.st } }).msqTo .resync).actRun Obj.msqRepair 0 else u.actFail Obj.msqRepair 0 2))
  ∧ (∀ (s : State), s.msq.st = .resync →
    exec (.msqResyncDone true) s = .next (Ends s (((((s.fenOwner 10 s.msq.fencedCopy).fenServe 10 s.msq.fencedCopy).msqTo .paired).actDone
      Obj.msqRepair 0).note 0x706 0 0 5 0))
    ∧ exec (.msqResyncDone false) s = .next (Ends s ((((s.msqTo s.msq.before).actFail Obj.msqRepair 0 3).noteInj false 0x704 10
      s.msq.fencedCopy 2 0).engage 10 s.msq.fencedCopy 0x704)))
  ∧ (∀ (h : Hdr) (pass : Bool), ActionRuns (.msqCmpTest h pass) h Obj.msqCmpTest 0 1 (fun u => u.msq.st = .paired)
    (fun u => if pass then ({ u with msq := { u.msq with cmpOk := true, testArmed := true } } : State).actDone Obj.msqCmpTest 0
      else (({ u with msq := { u.msq with cmpOk := false, testArmed := true } } : State).note 0x703 0 0 0 0).actFail Obj.msqCmpTest 0 2))
  ∧ (∀ (s : State), s.msq.st = .paired → s.rw Obj.msqCmpTestPeriod 0 ≠ 0 →
    exec (.cmpTestPeriodExpiry true) s = .next (Ends s { s with msq := { s.msq with cmpOk := true, testArmed := true } })
    ∧ exec (.cmpTestPeriodExpiry false) s = .next (Ends s
      (({ s with msq := { s.msq with cmpOk := false, testArmed := true } } : State).note 0x703 0 0 0 0)))
  ∧ ∀ (h : Hdr) (arg : Nat), arg = 1 ∨ arg = 2 → ActionRuns (.msqSwitchTest h arg) h Obj.msqSwitchTest 0 arg (fun u => u.msq.st ≠ .paired)
    (fun u => u.actFail Obj.msqSwitchTest 0 1)

/-- R316 to R320, R324, R327, R332: cells at the hem: a good cell in order is linked and the ones stored behind it with it, a bad one
is counted against its plane, a copy is dropped; a receipt frees the replay store; a gap is replayed on another plane, or its flow's
transfers fail; a frame is assembled, marked or dropped by depth; a hold that expires flushes; a plane is tested and its result noted. -/
def Obligations.FabricCommands : Prop :=
  (∀ (s t : State) (src dst cls seq plane : Nat), plane < 4 → s.isFenced 2 plane = false → (Tbl.get {} s.pd (40 + plane)).st ≠ .off →
    t = s.addCnt 64 Obj.planeCells plane 1 →
    exec (.cellArrival src dst cls seq plane false) s = .next (Ends s ((t.addCnt 64 Obj.planeCrcErrors plane 1).planeErr plane))
    ∧ (32768 ≤ (seq + 65536 - Tbl.get 0 t.net.xbar.rxSeq (flowKey src dst cls)) % 65536 →
      exec (.cellArrival src dst cls seq plane true) s = .next (Ends s t))
    ∧ (∀ (c : SentCell) (u : State), (seq + 65536 - Tbl.get 0 t.net.xbar.rxSeq (flowKey src dst cls)) % 65536 < 32768 →
      (∀ h ∈ t.net.xbar.hem, ¬ (h.flow = flowKey src dst cls ∧ h.seq = seq)) →
      t.net.xbar.sent.find? (fun c => c.src = src && c.dst = dst && c.cls = cls && c.seq = seq) = some c →
      u = t.setX { t.net.xbar with hem := t.net.xbar.hem ++ [⟨flowKey src dst cls, seq, c.tag, c.eop⟩] } →
      exec (.cellArrival src dst cls seq plane true) s = .next (Ends s
        ((State.linkRun (t.net.xbar.hem.length + 1) dst (flowKey src dst cls) u).gapSeen (flowKey src dst cls)
          (Tbl.get 0 t.net.xbar.rxSeq (flowKey src dst cls))))))
  ∧ (∀ (s : State) (src dst cls seq : Nat), 32768 ≤ (seq + 65536 - Tbl.get 0 s.net.xbar.rxSeq (flowKey src dst cls)) % 65536 →
    exec (.receiptCredit src dst cls seq) s = .next (Ends s ((s.setX { s.net.xbar with
      sent := s.net.xbar.sent.filter (fun c => !(c.src = src && c.dst = dst && c.cls = cls && c.seq = seq)) }).pumpIn src)))
  ∧ (∀ (s t : State) (src dst cls n : Nat) (c : SentCell), Tbl.get none s.net.xbar.gapMax (flowKey src dst cls) = some n → (∃ h ∈ s.net.xbar.hem, h.flow = flowKey src dst cls) →
    (Tbl.get 0 s.net.xbar.retries (flowKey src dst cls) < n →
      t = (s.setX { s.net.xbar with retries := Tbl.upd 0 s.net.xbar.retries (flowKey src dst cls) (· + 1) }).addCnt 64
        Obj.fportGapTimeouts dst 1 →
      s.net.xbar.sent.find? (fun c => c.src = src && c.dst = dst && c.cls = cls
        && c.seq = Tbl.get 0 s.net.xbar.rxSeq (flowKey src dst cls)) = some c →
      exec (.hemGapTimeout src dst cls) s = .next (Ends s ((t.resend c).planeErr c.plane)))
    ∧ (n ≤ Tbl.get 0 s.net.xbar.retries (flowKey src dst cls) →
      exec (.hemGapTimeout src dst cls) s = .next (Ends s (s.gapLost src dst cls))))
  ∧ (∀ (s t : State) (n sub : Nat) (f : EFrame) (r : List EFrame), Tbl.get [] (s.port n).asm sub = f :: r →
    t = s.updPort n (fun p => { p with asm := Tbl.set [] p.asm sub r }) → (t.port n).flushed.contains sub = false →
    (f.data = false ∨ s.depthOf n sub f.cls ≤ s.rw Obj.eclEcnThresh (n * 8 + f.cls) * 1024 →
      exec (.frameAssembly n sub) s = .next (Ends s (t.enqueue f)))
    ∧ (f.data = true → s.rw Obj.eclEcnThresh (n * 8 + f.cls) * 1024 < s.depthOf n sub f.cls →
      exec (.frameAssembly n sub) s = .next (Ends s (if f.ect then (t.enqueue { f with ce := true }).addCnt 64 Obj.eclMarked (n * 8 + f.cls) 1
        else (t.freeSpace f).addCnt 64 Obj.eclThreshDrops (n * 8 + f.cls) 1))))
  ∧ (∀ (s : State) (n sub : Nat), (s.port n).holding.contains sub = true →
    exec (.holdExpiry n sub) s = .next (Ends s (s.flushFrames n sub Obj.holdFlushed)))
  ∧ (∀ (h : Hdr) (p : Nat), ActionRuns (.planeTest h p) h Obj.planeTest p 1 (fun u => (Tbl.get {} u.pd (40 + p)).st ≠ .on)
    (fun u => ({ u with net := { u.net with plane := u.net.plane ++ [p] } } : State).actRun Obj.planeTest p))
  ∧ (∀ (h : Hdr) (p : Nat), ActionRuns (.planeTest h p) h Obj.planeTest p 1 (fun u => (Tbl.get {} u.pd (40 + p)).st = .on)
    (fun u => u.actFail Obj.planeTest p 1))
  ∧ ∀ (s t : State) (p : Nat), s.net.plane.contains p = true →
    t = { s with net := { s.net with plane := s.net.plane.filter (fun q => q ≠ p) } } →
    exec (.planeTestDone p true) s = .next (Ends s ((t.setCnt Obj.planeTestOk p 1).actDone Obj.planeTest p))
    ∧ exec (.planeTestDone p false) s = .next (Ends s (((t.setCnt Obj.planeTestOk p 0).actFail Obj.planeTest p 2).later
      (.detect 0x504 2 p 0)))

/-- R333, R336 to R339, R341, R345: a sub-port whose link is up sends the frame that the class scheduler picks, its shapers are debited and
its space is freed; a calendar slot and a bucket refill bring shapers to their present rate; a port below 960 flows for 10 ms goes back
to the calendar; a write of a policer's mode or awareness refills its buckets. -/
def Obligations.TensionCommands : Prop :=
  (∀ (s t u v : State) (n sub cur slot idx q : Nat) (f : EFrame) (deficit : Tbl Nat), s.linkUp n sub = true →
    s.pick n sub = some (f, deficit, cur) →
    t = s.updPort n (fun p => { p.take f with
      deficit := deficit, last := Tbl.set 0 (Tbl.set 0 p.last sub cur) (64 + sub * 8 + f.cls) (f.flow + 1) }) →
    u = (s.path f).foldl (fun v k => v.debit n k (s.counted f)) t →
    v = ((u.emit (.frame f)).addCnt 64 Obj.ethTxFrames n 1).addCnt 64 Obj.eclFrames (n * 8 + f.cls) 1 →
    (f.held = false → f.qp = none → (∀ x, f.body ≠ .cnp x) → f.wr = none →
      exec (.frameTransmit n sub) s = .next (Ends s (v.freeSpace f)))
    ∧ (f.held = true → f.qp = some q → (∀ x, f.body ≠ .cnp x) → f.wr = none →
      exec (.frameTransmit n sub) s = .next (Ends s
        (((v.addCnt 64 Obj.holdSent n 1).addCnt 64 Obj.tflowBytes q (s.counted f)).freeSpace f)))
    ∧ (f.held = false → f.qp = some q → (∀ x, f.body ≠ .cnp x) → f.wr = some (slot, idx) →
      exec (.frameTransmit n sub) s = .next (Ends s
        (((v.addCnt 64 Obj.tflowBytes q (s.counted f)).wrLeft slot idx).freeSpace f))))
  ∧ (∀ (s : State) (n : Nat), (s.port n).bucket = false → s.slotNow % 4096 ≠ 0 →
    exec (.calendarSlot n) s = .next (Ends s ((((s.port n).shapers.filter (fun e => match e.2 with
      | some x => decide (x.next / 256 % 4096 = s.slotNow % 4096) && decide (s.slotNow < x.next / 256)
      | none => false)).map (fun e => e.1)).foldl (fun u k => u.refreshShaper n k) s)))
  ∧ (∀ (s t : State) (n : Nat), (s.port n).bucket = true →
    t = ((s.port n).shapers.map (fun e => e.1)).foldl (fun u k => u.refreshShaper n k) s →
    exec (.bucketRefill n) s = .next (Ends s (t.updPort n (fun p => { p with
      overhead := s.rw Obj.tnsOverhead n
      shapers := Tbl.mapRows none (fun _ o => o.map (fun x => { x with
        tokens := min (x.tokens + refill256 x.rate) (depth256 x.rate x.burst) })) p.shapers }))))
  ∧ (∀ (s : State) (n a : Nat), (s.port n).lowSince = some a → (s.port n).bucket = true → a + 10000000 ≤ s.clk.ns →
    exec (.tensionModeSwitchBack n) s = .next (Ends s ((((s.updPort n (fun p => { p with
      bucket := false, overhead := s.rw Obj.tnsOverhead n, switching := false, shapers := Tbl.mapRows none (fun _ o => o.map (fun x => { x with
        next := (s.slotNow - min (beta x.rate x.burst) (x.tokens * 125 / (256 * max x.rate 1))) * 256 })) p.shapers })).setCnt
      Obj.tnsMode n 0).addCnt 32 Obj.tnsSwitches n 1))))
  ∧ ∀ (h : Hdr) (row v : Nat), v < 256 →
    WriteRuns (.policerModeWrite h row false v) h Obj.polMode row [v] v (fun _ => True) (fun u _ =>
      ({ u.putRw Obj.polMode row v with net := { (u.putRw Obj.polMode row v).net with
        policers := (u.putRw Obj.polMode row v).net.policers.filter (fun e => e.1 / 8 ≠ row) } }))
    ∧ WriteRuns (.policerModeWrite h row true v) h Obj.polAware row [v] v (fun _ => True) (fun u _ =>
      ({ u.putRw Obj.polAware row v with net := { (u.putRw Obj.polAware row v).net with
        policers := (u.putRw Obj.polAware row v).net.policers.filter (fun e => e.1 / 8 ≠ row) } }))

/-- R351, R353 to R355, R357 to R359, R364, R482, R557: drive links: a link that goes down or has an uncorrectable error puts its port in
containment, where its reads fail at once and its writes are held; a recovery reissues them, a recovery in vain goes through the partner or
fails the member; the link trains once both rails are ON, and a probe that ends is acted on, or kept for S5's end. -/
def Obligations.DriveLinkCommands : Prop :=
  (∀ (s t : State) (n : Nat), n < s.bays → (s.link n).st ≠ 3 →
    t = ((s.putLink n { s.link n with st := 3, recovering := true }).addCnt 32 Obj.dlinkUncorrectable n 1).note 0xB0A 3 n 0 0 →
    exec (.driveLinkDown n) s = .next (Ends s (({ t with drv := { t.drv with
      cmds := updWhere (fun c => c.bay = n && c.kind = .write) (fun c => { c with held := true }) t.drv.cmds } } : State).containReads n))
    ∧ exec (.driveUncorrectableError n) s = .next (Ends s (({ t with drv := { t.drv with
      cmds := updWhere (fun c => c.bay = n && c.kind = .write) (fun c => { c with held := true }) t.drv.cmds } } : State).containReads n)))
  ∧ (∀ (s : State) (n speed width : Nat), (s.link n).st = 3 → exec (.driveLinkRecovered n speed width) s = .next (Ends s
      ((s.putLink n { s.link n with st := 2, recovering := false, path := 0, speed := speed, width := width }).reissue n)))
  ∧ (∀ (s : State) (n : Nat), (s.link n).st = 3 → (s.link n).recovering = true →
    (s.skn.present = true → exec (.driveRecoverTimeout n true) s = .next (Ends s
      (((s.putLink n { s.link n with recovering := false, path := 1 }).note 0xB08 3 n 0 0).reissue n)))
    ∧ (exec (.driveRecoverTimeout n false) s = .next (Ends s
      ((s.putLink n { s.link n with recovering := false, path := 2 }).memFail n 14))))
  ∧ (∀ (h : Hdr) (n : Nat), ActionRuns (.dlinkRetrain h n) h Obj.dlinkRetrain n 1 (fun u => u.bothOn n = false)
      (fun u => u.actFail Obj.dlinkRetrain n 1)
    ∧ ActionRuns (.dlinkRetrain h n) h Obj.dlinkRetrain n 1 (fun u => u.bothOn n = true ∧ (u.link n).st = 3)
      (fun u => ((u.addCnt 32 Obj.dlinkRetrains n 1).putLink n { u.link n with recovering := true, path := 0 }).actDone Obj.dlinkRetrain n)
    ∧ ActionRuns (.dlinkRetrain h n) h Obj.dlinkRetrain n 1
      (fun u => u.bothOn n = true ∧ (u.link n).st ≠ 3 ∧ ((u.mem n).st = .absent ∨ (u.mem n).st = .retired))
      (fun u => (((u.addCnt 32 Obj.dlinkRetrains n 1).putLink n { u.link n with st := 1, tries := 0 }).memProbe n).actDone Obj.dlinkRetrain n))
  ∧ (∀ (s : State) (n : Nat), s.bothOn n = true → (s.link n).perst = false → s.cntAt Obj.bootStage 0 = 7 → (s.bay n).offing = 0 →
    exec (.perstDeassert n) s = .next (Ends s
      ((s.putLink n { s.link n with perst := true, st := if (s.link n).st = 3 then 3 else 1, tries := 0 }).memProbe n)))
  ∧ (∀ (s : State) (n speed width : Nat), (s.link n).perst = true → (s.link n).st = 1 →
    (s.rw Obj.dlinkMinSpeed n ≤ speed → width = (if s.rw Obj.dlinkBond n = 1 ∧ n % 2 = 0 then 4 else 2) →
      exec (.driveLinkUp n speed width) s = .next (Ends s
        (s.putLink n { s.link n with st := 2, speed := speed, width := width, tries := 0, path := 0 })))
    ∧ (speed < s.rw Obj.dlinkMinSpeed n → (s.link n).tries < 3 → exec (.driveLinkUp n speed width) s = .next (Ends s
        ((s.putLink n { s.link n with st := 1, tries := (s.link n).tries + 1 }).addCnt 32 Obj.dlinkRetrains n 1)))
    ∧ (speed < s.rw Obj.dlinkMinSpeed n → 3 ≤ (s.link n).tries → exec (.driveLinkUp n speed width) s = .next (Ends s
        ((s.putLink n { s.link n with st := 0, tries := 0 }).probeFail n 1))))
  ∧ ∀ (s : State) (n fail serial model cap qs array gen : Nat) (vol : Bool), s.cntAt Obj.bootStage 0 = 7 → (s.mem n).st = .probing →
    (1 ≤ fail → fail ≤ 4 → exec (.probeDone n fail serial model cap qs vol array gen) s = .next (Ends s (s.probeFail n fail)))
    ∧ (qs < 16 → exec (.probeDone n 0 serial model cap qs vol array gen) s = .next (Ends s (s.probeFail n 2)))
    ∧ (16 ≤ qs → s.dataSpace + zoneBytes ≤ cap → exec (.probeDone n 0 serial model cap qs vol array gen) s = .next (Ends s
      (s.probePass n ⟨serial, model, cap, qs, vol, array, gen⟩)))

/-- R359 to R361, R511, Tables 10-3 and 10-4: a command that times out is aborted, a read of it served by decode and a write reissued once,
and a second one within 60 s, or an Abort without an answer, resets the controller; CSTS.CFS does the same; a reset too many or in vain
fails the member; a health reading with critical warning bit 3 fails it and one with a failing criterion starts its copy; an absent member
is given up after the grace. -/
def Obligations.MemberCommands : Prop :=
  (∀ (s t : State) (c : MCmd), s.findCmd c.tag = some c → (s.mem c.bay).timeouts.filter (fun t => s.clk.ns < t + 60000000000) = [] →
    t = (((s.putMem c.bay { s.mem c.bay with timeouts := [s.clk.ns] }).addCnt 32 Obj.memTimeouts c.bay 1).note 0xB09 3 c.bay 0 0).emit
      (.memAbort c.bay c.tag) →
    (c.kind = .read → exec (.commandTimeout c.tag) s = .next (Ends s { t.cmdAbandoned c with
      drv := { (t.cmdAbandoned c).drv with aborts := (t.cmdAbandoned c).drv.aborts ++ [(c.tag, c.bay)] } }))
    ∧ (∀ v, c.kind = .write → c.reissued = false →
      v = (t.updCmd c.tag (fun x => { x with reissued := true })).sendCmd { c with reissued := true } →
      exec (.commandTimeout c.tag) s = .next (Ends s { v with drv := { v.drv with aborts := v.drv.aborts ++ [(c.tag, c.bay)] } })))
  ∧ (∀ (s t : State) (c : MCmd) (a : Nat) (l : List Nat), s.findCmd c.tag = some c → c.kind = .read →
    (s.mem c.bay).timeouts.filter (fun t => s.clk.ns < t + 60000000000) = a :: l →
    t = (((s.putMem c.bay { s.mem c.bay with timeouts := a :: l ++ [s.clk.ns] }).addCnt 32 Obj.memTimeouts c.bay 1).note 0xB09 3 c.bay 0 0).emit
      (.memAbort c.bay c.tag) →
    exec (.commandTimeout c.tag) s = .next (Ends s ((t.cmdAbandoned c).ctrlReset c.bay)))
  ∧ (∀ (s : State) (tag b : Nat), s.drv.aborts.find? (fun a => a.1 = tag) = some (tag, b) →
    exec (.abortTimeout tag) s = .next (Ends s
      (({ s with drv := { s.drv with aborts := s.drv.aborts.filter (fun a => a.1 ≠ tag) } } : State).ctrlReset b)))
  ∧ (∀ (s t : State) (b : Nat) (rs : List Nat), rs = (s.mem b).resets.filter (fun t => s.clk.ns < t + 3600000000000) ++ [s.clk.ns] →
    t = (s.putMem b { s.mem b with resets := rs, resetting := true }).addCnt 32 Obj.memResets b 1 →
    (rs.length ≤ s.rw Obj.arrResetLimit 0 → exec (.controllerFatalStatus b) s = .next (Ends s { t.emit (.memReset b) with
      drv := { t.drv with cmds := updWhere (fun c => c.bay = b && c.kind ≠ .read) (fun c => { c with held := true }) t.drv.cmds
                          aborts := t.drv.aborts.filter (fun a => a.2 ≠ b) } }))
    ∧ (s.rw Obj.arrResetLimit 0 < rs.length → exec (.controllerFatalStatus b) s = .next (Ends s
      ((t.putMem b { t.mem b with resetting := false }).memFail b 5))))
  ∧ (∀ (s : State) (b : Nat), (s.mem b).resetting = true →
    exec (.controllerResetDone b true) s = .next (Ends s ((s.putMem b { s.mem b with resetting := false }).reissue b))
    ∧ exec (.controllerResetDone b false) s = .next (Ends s ((s.putMem b { s.mem b with resetting := false }).memFail b 5)))
  ∧ (∀ (s t : State) (b warn pct media : Nat), t = s.putMem b { s.mem b with
      warn := warn, pctUsed := min 255 pct, mediaErrors := media
      media := (s.mem b).media.filter (fun e => s.clk.ns < e.1 + 86400000000000) ++ [(s.clk.ns, media)] } →
    (bit warn 3 = true → exec (.healthPoll b warn pct media) s = .next (Ends s (t.memFail b 7))
      ∧ exec (.memberAsyncEvent b warn pct media) s = .next (Ends s (t.memFail b 7)))
    ∧ (bit warn 3 = false → t.failingNow b ≠ 0 → exec (.healthPoll b warn pct media) s = .next (Ends s (t.memFailing b (t.failingNow b)))
      ∧ exec (.memberAsyncEvent b warn pct media) s = .next (Ends s (t.memFailing b (t.failingNow b))))
    ∧ (bit warn 3 = false → t.failingNow b = 0 → exec (.healthPoll b warn pct media) s = .next (Ends s t)
      ∧ exec (.memberAsyncEvent b warn pct media) s = .next (Ends s t)))
  ∧ (∀ (s : State) (b temp : Nat), exec (.memberTempPoll b temp) s = .next (Ends s
      (if s.rw Obj.thermMemberLimit 0 < temp
       then (s.putMem b { s.mem b with temp := temp }).later (.detect 0x104 3 b 0) else s.putMem b { s.mem b with temp := temp })))
  ∧ ∀ (s : State) (b : Nat), (s.mem b).st = .absent → (s.mem b).pos ≠ 0xFF → (s.mem b).grace = true →
    exec (.absentGraceExpiry b) s = .next (Ends s
      ((((s.putMem b { s.mem b with grace := false, reason := 8 }).unbind b).unboundPos (s.mem b).pos b false).autoReplace (s.mem b).pos))

/-- R371 to R373, Tables 10-3 and 10-6: assigning, retiring and clearing a member; the presence pins of a bay and their debounce; a bay
granted by the keeper ramps after 500 ms at the latest. -/
def Obligations.MemberActionAndPresenceCommands : Prop :=
  (∀ (h : Hdr) (b a : Nat), a < 64 → ActionRuns (.memAssign h b a) h Obj.memAssign b a
    (fun u => a < u.bays ∧ u.spareDetail b false = 0 ∧ u.posState a = .failed)
    (fun u => (u.replace b a).actDone Obj.memAssign b))
  ∧ (∀ (h : Hdr) (b a : Nat), a < 64 → ActionRuns (.memAssign h b a) h Obj.memAssign b a
    (fun u => a < u.bays ∧ (u.mem b).st ≠ .spare) (fun u => u.actFail Obj.memAssign b 1))
  ∧ (∀ (h : Hdr) (b : Nat), ActionRuns (.memRetire h b) h Obj.memRetire b 1 (fun u => (u.mem b).st = .inService ∧ (u.mem b).pos ≠ 0xFF)
    (fun u => (u.memFailing b 10).actDone Obj.memRetire b))
  ∧ (∀ (h : Hdr) (b : Nat), ActionRuns (.memRetire h b) h Obj.memRetire b 1 (fun u => (u.mem b).st = .spare ∧ (u.mem b).pos = 0xFF)
    (fun u => ((u.memTo b .retired 10).later (.memDown b)).actDone Obj.memRetire b))
  ∧ (∀ (h : Hdr) (b : Nat), ActionRuns (.memClearFailing h b) h Obj.memClearFailing b 1
      (fun u => (u.mem b).st = .failing ∧ u.failingNow b = 0)
      (fun u => (((u.memTo b .inService 0).stopCopy (u.mem b).pos).laneFreed).actDone Obj.memClearFailing b)
    ∧ ActionRuns (.memClearFailing h b) h Obj.memClearFailing b 1 (fun u => (u.mem b).st ≠ .failing)
      (fun u => u.actFail Obj.memClearFailing b 2))
  ∧ (∀ (s t : State) (n : Nat), s.boot.vaux = true → n < s.bays → s.bonded n = false → t = s.updBay n (fun x => { x with a := true, b := true }) →
    (s.bay n).a = false → exec (.presenceChange n true true) s = .next (Ends s
      (if (s.bay n).r12.st = .lockedOut then (t.updBay n (fun x => { x with deb := false, debAt := some (s.clk.sk + s.rw Obj.bayDebounce n * 1000000) })).bayEvent n 6 false 0 (s.bay n).r12.src
       else (t.updBay n (fun x => { x with deb := false, debAt := some (s.clk.sk + s.rw Obj.bayDebounce n * 1000000) })).seat n)))
  ∧ (∀ (s : State) (n : Nat) (a b : Bool), s.boot.vaux = false → n < s.bays →
    exec (.presenceChange n a b) s = .next (Ends s (s.updBay n (fun x => { x with a := a, b := b }))))
  ∧ (∀ (s : State) (n t : Nat), (s.bay n).debAt = some t → (s.bay n).a = true → (s.bay n).b = true →
    t ≤ s.clk.sk →
    exec (.debounceComplete n) s = .next (Ends s ((s.updBay n (fun x => { x with deb := true, debAt := none })).grants)))
  ∧ ∀ (s : State) (n t : Nat), (s.bay n).granted = some t → t + 500000000 ≤ s.clk.sk → (s.bay n).r12.st = .seating → (s.bay n).deb = true →
    s.mayGrant = true → exec (.partnerRampTimeout n) s = .next (Ends s (s.rampStart n))

/-- R374 to R383: the rails of a bay: the 3.3 V rail's ON starts the 12 V ramp, both ON run the drive's clock; limiting and its end; a ramp
that lasts too long, a fault timer, a fast trip all trip both rails with their cause; the discharge after a trip leads to a retry, or to
lockout past the retries; a pass element fault locks the bay out; ORing is noted. -/
def Obligations.RailCommands : Prop :=
  (∀ (s t : State) (n : Nat), (s.bay n).r33.st = .ramping → (s.bay n).r33.ramp ≠ none →
    t = s.updBay n (fun x => { x with r33 := { (s.bay n).r33 with st := .on, wasOn := true }, r12 := { x.r12 with
      ramp := some (s.clk.sk + (2 * 12000 * 1000000 / s.rw Obj.baySlew12 n + 10000000)) } }) →
    (t.bay n).r12.st ≠ .on → exec (.railOn n true) s = .next (Ends s t))
  ∧ (∀ (s t u : State) (n : Nat), (s.bay n).r12.st = .ramping → (s.bay n).r12.ramp ≠ none → s.skn.present = false →
    t = s.updBay n (fun x => { x with r12 := { (s.bay n).r12 with st := .on, wasOn := true } }) →
    (t.bay n).r12.st = .on → (t.bay n).r33.st = .on → u = t.updBay n (fun x => { x with goodAt := some (s.clk.sk + s.rw Obj.bayGoodTime n * 1000000000) }) →
    exec (.railOn n false) s = .next (Ends s (u.putLink n { s.link n with
      refclk := s.rw Obj.dlinkClocking n = 0, st := if (s.link n).st = 3 then 3 else 0 })))
  ∧ (∀ (s : State) (n : Nat) (r : Bool), ((s.bay n).rail r).st = .on → ((s.bay n).rail r).ramp ≠ none →
    exec (.currentLimitReached n r) s = .next (Ends s (s.updBay n (fun x => x.setRail r
      { (s.ftNow ((s.bay n).rail r)).calLost with st := .limiting }))))
  ∧ (∀ (s : State) (n : Nat) (r : Bool), ((s.bay n).rail r).st = .limiting →
    exec (.limitExit n r) s = .next (Ends s (s.updBay n (fun x => x.setRail r { (s.bay n).rail r with
      st := if ((s.bay n).rail r).wasOn then .on else .ramping
      ftimer := ((s.bay n).rail r).ftimer + (s.clk.sk - ((s.bay n).rail r).ftAt) / 1000, ftAt := s.clk.sk }))))
  ∧ (∀ (s t : State) (n cause cur src d : Nat) (r : Bool),
    t = ((s.updBay n (fun x => { x.both (fun r => r.to .tripped) with
      count := satAdd 8 x.count 1, last := cause + b2n r * 256, retries := s.rw Obj.bayRetries n, goodAt := none, offing := 0 })).addCnt 32 Obj.bayTrips n 1).bayDark n →
    (cause = 4 → ((s.bay n).rail r).st = .ramping → ((s.bay n).rail r).wasOn = false → ((s.bay n).rail r).ramp = some d → d ≤ s.clk.sk →
      exec (.rampTimeout n r cur src) s = .next (Ends s (t.bayEvent n 4 r cur src)))
    ∧ (cause = 1 → ((s.bay n).rail r).st = .limiting → exec (.faultTimerExpiry n r cur src) s = .next (Ends s (t.bayEvent n 1 r cur src)))
    ∧ (cause = 2 → ((s.bay n).rail r).driven = true → exec (.fastTrip n r cur src) s = .next (Ends s (t.bayEvent n 2 r cur src))))
  ∧ (∀ (s t : State) (n : Nat), (s.bay n).r12.st = .tripped → (s.bay n).offing ≠ 2 → t = s.used.updBay n (fun x =>
      { x with r12 := { x.r12 with src := s.fresh % 800 }, r33 := { x.r33 with src := s.fresh / 800 % 800 } }) →
    ((s.bay n).count ≤ (s.bay n).retries ∨ (s.bay n).retries = 255 → t.rw Obj.bayEnable n = 1 →
      exec (.srcDischarged n true) s = .next (Ends s (t.updBay n (fun x => { x.both (fun r => r.to .retryWait) with retryAt := t.clk.sk + t.rw Obj.bayRetryTime n * 1000000 }))))
    ∧ ((s.bay n).retries < (s.bay n).count → (s.bay n).retries ≠ 255 → exec (.srcDischarged n true) s = .next (Ends s
      ((t.updBay n (fun x => x.both (fun r => r.to .lockedOut))).bayEvent n 5 (bit (s.bay n).last 8) 0 ((t.bay n).rail (bit (s.bay n).last 8)).src))))
  ∧ (∀ (s : State) (n : Nat), (s.bay n).r12.st = .retryWait → (s.bay n).retryAt ≤ s.clk.sk →
    ((s.bay n).deb = true → s.rw Obj.bayEnable n = 1 → exec (.retryTimerExpiry n) s = .next (Ends s (s.rampStart n)))
    ∧ ((s.bay n).deb = false → (s.bay n).debAt.isSome = true → exec (.retryTimerExpiry n) s = .next (Ends s
      (s.updBay n (fun x => x.both (fun r => r.to .seating))))))
  ∧ (∀ (s : State) (n t : Nat), (s.bay n).goodAt = some t → t ≤ s.clk.sk →
    exec (.goodTimeExpiry n) s = .next (Ends s (s.updBay n (fun x => { x with count := 0 }))))
  ∧ (∀ (s : State) (n cur src : Nat) (r : Bool), ((s.bay n).rail r).st = .off → exec (.passElementFault n r cur src) s = .next (Ends s
      ((s.updBay n (fun x => { (x.both (fun r => r.to .lockedOut)).setRail r { (x.both (fun r => r.to .lockedOut)).rail r with src := src } with
        last := 3 + b2n r * 256, goodAt := none, offing := 0, granted := none })).bayEvent n 3 r cur src)))
  ∧ (∀ (s : State) (n cur src : Nat) (r : Bool), ((s.bay n).rail r).driven = true →
    exec (.oringReverse n r) s = .next (Ends s (s.updBay n (fun x => x.setRail r { (s.bay n).rail r with or_ := 2 })))
    ∧ exec (.oringDropHigh n r cur src) s = .next (Ends s (s.bayEvent n 7 r cur src)))

/-- R369, R379, R382, R384, R389, R392, R396: operator control and measurement of a bay: `bay.enable` takes its value and the bay follows,
the 12 V rail goes OFF after t_perl, a limit that breaks R369 is refused, `bay.clear` ends a lockout once the source is down, a
calibration within 2 percent sets the gain, a sample adds to its window. -/
def Obligations.BayControlCommands : Prop :=
  (∀ (h : Hdr) (n v : Nat), v < 256 → WriteRuns (.bayEnableWrite h n v) h Obj.bayEnable n [v] v (fun _ => True) (fun u _ =>
      ((u.putRw Obj.bayEnable n v).enableBay n v).grants))
  ∧ (∀ (s : State) (n : Nat), (s.bay n).offing = 1 → exec (.perstOffWaitExpiry n) s = .next (Ends s
      ((s.updBay n (fun x => { x with r12 := x.r12.to .off, offing := 2, goodAt := none })).bayDark n)))
  ∧ (∀ (h : Hdr) (n v : Nat),
    WriteRuns (.bayLimitWrite h n 6 v) h 0x300006 n (leBytes 2 v) v (fun u => u.limitOk n 6 v = true) (fun u _ => u.putRw 0x300006 n v)
    ∧ WriteRuns (.bayLimitWrite h n 7 v) h 0x300007 n (leBytes 2 v) v (fun u => u.limitOk n 7 v = true) (fun u _ => u.putRw 0x300007 n v)
    ∧ WriteRuns (.bayLimitWrite h n 8 v) h 0x300008 n (leBytes 1 v) v (fun u => u.limitOk n 8 v = true) (fun u _ => u.putRw 0x300008 n v))
  ∧ (∀ (h : Hdr) (n : Nat),
    ActionRuns (.bayClear h n) h Obj.bayClear n 1
      (fun u => (u.bay n).r12.st = .lockedOut ∧ (u.bay n).r12.src ≤ 800 ∧ (u.bay n).r33.src ≤ 800)
      (fun u => (((u.updBay n (fun x => { x.both (fun r => r.to .off) with count := 0 })).seat n)).actDone Obj.bayClear n)
    ∧ ActionRuns (.bayClear h n) h Obj.bayClear n 1
      (fun u => (u.bay n).r12.st = .lockedOut ∧ (800 < (u.bay n).r12.src ∨ 800 < (u.bay n).r33.src)) (fun u => u.actFail Obj.bayClear n 1)
    ∧ ActionRuns (.bayClear h n) h Obj.bayClear n 1 (fun u => (u.bay n).r12.st ≠ .lockedOut)
      (fun u => (u.updBay n (fun x => { x with count := 0 })).actDone Obj.bayClear n))
  ∧ (∀ (h : Hdr) (n known : Nat),
    (1000 ≤ known → known ≤ 6000 → ActionRuns (.shuntCalibration h n false known) h Obj.bayCal12 n known (fun u => (u.bay n).r12.st = .on)
      (fun u => (u.updBay n (fun x => { x with r12 := { (u.bay n).r12 with cal := some (known, true) } })).actRun Obj.bayCal12 n))
    ∧ (200 ≤ known → known ≤ 1500 → ActionRuns (.shuntCalibration h n true known) h Obj.bayCal33 n known (fun u => (u.bay n).r33.st = .on)
      (fun u => (u.updBay n (fun x => { x with r33 := { (u.bay n).r33 with cal := some (known, true) } })).actRun Obj.bayCal33 n)))
  ∧ (∀ (s : State) (n known measured : Nat), (s.bay n).r12.cal = some (known, true) → (s.bay n).r12.st = .on →
    known * 100000 ≤ measured * 102 → measured * 98 ≤ known * 100000 →
    exec (.shuntCalibrationDone n false measured false) s = .next (Ends s
      ((((s.updBay n (fun x => { x with r12 := { (s.bay n).r12 with cal := none } })).setRw Obj.bayGain12 n
        (known * 1000 * 65536 / max 1 measured)).actDone Obj.bayCal12 n).bayEvent n 9 false (measured / 10000) (s.bay n).r12.src)))
  ∧ (∀ (s : State) (n v12 v33 src12 src33 : Nat) (i12 i33 : Int), ((s.bay n).n + 1) % 16 ≠ 0 →
    exec (.measurementSample n i12 v12 i33 v33 src12 src33) s = .next (Ends s (s.updBay n (fun x => { x with
      r12 := x.r12.sample (s.rw Obj.bayGain12 n) i12 v12 src12, r33 := x.r33.sample (s.rw Obj.bayGain33 n) i33 v33 src33, n := x.n + 1 }))))

/-- R397, R399, R405, R416, R417, R420, R422, R485, R492, Tables 12-8 and 12-10: the endpoint's resets and functions: a PERST, hot reset or link
down leaves every function as after an FLR and ends a freeze; a link trains from S3 on; configuration is answered, with Retry Status before
S7; a function's reset, bus-master clear and D3hot stop what it started; `RESUME` goes on; a vector unmasked is sent. -/
def Obligations.EndpointResetCommands : Prop :=
  (∀ (s t v : State), v = s.fnList.foldl (fun u g => u.flrOne g) { s with ep := { s.ep with
      wins := Tbl.mapRows {} (fun _ x => { x with stalled := [] }) s.ep.wins } } →
    t = { v with ep := { v.ep with fns := [], vfEnable := false, numVfs := 0, stalled := [], inta := false } } →
    exec .hotReset s = .next (Ends s (if s.frozen then ((t.setCnt Obj.epLinkSpeed 0 0).setCnt Obj.epLinkWidth 0 0).fenLet 1 9
      else (t.setCnt Obj.epLinkSpeed 0 0).setCnt Obj.epLinkWidth 0 0))
    ∧ exec .epLinkDown s = exec .hotReset s)
  ∧ (∀ (s : State), exec (.epPerst true) s = .next (Ends s { s.epReset with ep := { s.epReset.ep with perst := true } })
    ∧ exec (.epPerst false) s = .next (Ends s { s with ep := { s.ep with perst := false } }))
  ∧ (∀ (s : State) (speed width : Nat), 3 ≤ s.cntAt Obj.bootStage 0 → (Tbl.get {} s.pd 15).st = .on → s.ep.perst = false →
    1 ≤ speed → speed ≤ 6 → width ∈ [1, 2, 4, 8, 16] →
    exec (.endpointLinkUp speed width) s = .next (Ends s ((s.setCnt Obj.epLinkSpeed 0 speed).setCnt Obj.epLinkWidth 0 width)))
  ∧ (∀ (s : State) (f : Nat) (c : CfgField), s.epUp = true →
    (s.inS7 = false → ∀ w, exec (.configRequest f c w) s = .next (Ends s (s.emit (.pcie (.cfg f 2 0)))))
    ∧ (s.inS7 = true → s.fnThere f = false → ∀ w, exec (.configRequest f c w) s = .next (Ends s (s.emit (.pcie (.cfg f 1 0)))))
    ∧ (s.inS7 = true → s.fnThere f = true → exec (.configRequest f c none) s = .next (Ends s
        (s.emit (.pcie (.cfg f 0 ((s.cfgRead f c).getD 0)))))
      ∧ ∀ v, exec (.configRequest f c (some v)) s = .next (Ends s ((s.cfgWrite f c v).emit (.pcie (.cfg f 0 0))))))
  ∧ (∀ (s : State) (f : Nat), s.epUp = true → s.inS7 = true → s.fnThere f = true →
    (f ≠ 0 → exec (.functionLevelReset f) s = .next (Ends s (s.flrOne f)))
    ∧ ((s.fn f).master = true → exec (.bmeClear f) s = .next (Ends s ((s.masterStop f).updFn f (fun x => { x with bme := false })))
      ∧ exec (.d3hotEntry f) s = .next (Ends s ((s.masterStop f).updFn f (fun x => { x with d3 := true }))))
    ∧ ((s.fn f).master = false → exec (.bmeClear f) s = .next (Ends s (s.updFn f (fun x => { x with bme := false })))
      ∧ exec (.d3hotEntry f) s = .next (Ends s (s.updFn f (fun x => { x with d3 := true })))))
  ∧ (∀ (s : State) (f : Nat), s.barOpen → s.fnThere f = true → (s.fn f).master = true →
    exec (.fnResume f) s = .next (Ends s ((s.fnChans f).foldl (fun u c => u.shResume c)
      ((s.fnRings f).foldl (fun u r => u.ringResume r) (s.updFn f (fun x => { x with bmeStop := false }))))))
  ∧ (∀ (s : State) (f v : Nat), s.barOpen → s.fnThere f = true → v < vecsOf f →
    exec (.msixUnmask f v) s = .next (Ends s ((s.updVec f v (fun e => { e with masked := false })).sendPba f)))
  ∧ ∀ (s : State) (clear : Bool) (row : Nat), s.epServes = true → s.frozen = true → s.fenRowOf 1 9 = some row →
    exec (.containmentRelease none clear) s = .next (Ends s (s.releaseRow row clear))

/-- R408 to R415, R418, R419: peer windows and completions: a write or read of an enabled window is translated and checked, admitted or
failed with its cause; a window's commit is checked and taken at its update point; a completion is delivered to what asked for it, one
nobody waits for is counted, a timeout fails the request. -/
def Obligations.PeerCommands : Prop :=
  (∀ (s : State) (rq off len data w o : Nat) (ro poison : Bool) (r : WinRegs), s.barOpen → w = off / 2 ^ s.slotBits % 64 → o = off % 2 ^ s.slotBits →
    (s.win w).busy = false → r = (s.win w).act →
    (r.check rq o true ≠ 0 → exec (.peerWrite rq off len data ro poison) s = .next (Ends s (s.winFail w (r.check rq o true) rq o r.key none true)))
    ∧ (∀ (v : State) (id : Nat), r.check rq o true = 0 → s.fnCheck r.func r.key 0 (r.eoff * 4096 + o) len true = 0 → poison = false →
      s.admitAcc (.peer rq) (if ro then .write else .knot) (r.key % 16384) (r.eoff * 4096 + o) len 0 0 = (v, id) →
      exec (.peerWrite rq off len data ro poison) s = .next (Ends s ((((v.updAcc id (fun x => { x with
        slot := w, host := (s.win w).gen, issued := ro, got := len, psn := o, data := data % 2 ^ (8 * len) })).askFrames id).accDeliver id).moveAccs
        (.peer rq)))))
  ∧ (∀ (s : State) (rq tag off len w o : Nat) (ro : Bool) (r : WinRegs), s.barOpen → w = off / 2 ^ s.slotBits % 64 → o = off % 2 ^ s.slotBits →
    (s.win w).busy = false → r = (s.win w).act →
    (r.check rq o false ≠ 0 → exec (.peerRead rq tag off len ro) s = .next (Ends s
      (s.winFail w (r.check rq o false) rq o r.key (some (tag, len, ro)) false)))
    ∧ (∀ (v : State) (id : Nat), r.check rq o false = 0 → s.fnCheck r.func r.key 1 (r.eoff * 4096 + o) len false = 0 →
      s.admitAcc (.peer rq) .read (r.key % 16384) (r.eoff * 4096 + o) len tag (b2n ro) = (v, id) →
      exec (.peerRead rq tag off len ro) s = .next (Ends s ((v.updAcc id (fun x => { x with
        slot := w, host := (s.win w).gen, got := o })).moveAccs (.peer rq)))))
  ∧ (∀ (s : State) (w : Nat), s.barOpen → w < 64 → exec (.windowCommit w) s = .next (Ends s
      (if (s.win w).busy ∨ s.winOld w then s.updWin w (fun x => { x with result := 5 })
       else if (s.win w).sh.en ∧ (s.eye ((s.win w).sh.key % 16384)).st ≠ 1 then s.updWin w (fun x => { x with result := 1 })
       else if (s.win w).sh.en ∧ s.fnThere (s.win w).sh.func = false then s.updWin w (fun x => { x with result := 2 })
       else if (s.win w).sh.en ∧ 2 ^ s.slotBits < (s.win w).sh.size * 4096 then s.updWin w (fun x => { x with result := 3 })
       else if (s.win w).sh.reserved then s.updWin w (fun x => { x with result := 4 })
       else s.updWin w (fun x => { x with busy := true, take_ := (s.win w).sh }))))
  ∧ (∀ (s : State) (w : Nat), (s.win w).busy = true → exec (.windowUpdatePoint w) s = .next (Ends s ((s.win w).stalled.foldl
      (fun u i => u.bar2 i) (s.updWin w (fun x => { x with
        act := x.take_, take_ := {}, gen := wrapAdd 16 x.gen 1, busy := false, result := 0, stalled := [] })))))
  ∧ (∀ (s : State) (id f st data : Nat),
    (s.issuedRead id = none → exec (.pcieCompletion id f st data) s = .next (Ends s
      (((s.addCnt 64 Obj.epUnexpCpl 0 1).fnStatus f 3).epErr f 7)))
    ∧ ∀ r, s.issuedRead id = some r → r.dead = false →
      exec (.pcieCompletion id f st data) s = .next (Ends s (if st = 0 then (s.endRead id).deliverRead r data else (s.endRead id).failRead r st)))
  ∧ ∀ (s t : State) (id c : Nat) (r : PRead), s.issuedRead id = some r → r.dead = false → r.fn ≠ 0xFF → (s.fn r.fn).ctoDis = false →
    r.who = .data c → t = ((s.endRead id).addCnt 64 Obj.epCto 0 1).updFn r.fn (fun x => { x with
      ctoSrc := 0x800 + c, ctoCount := satAdd 16 x.ctoCount 1 }) →
    exec (.completionTimeout id) s = .next (Ends s (((t.fnStatus r.fn 2).epErr r.fn 6).shHostFail c 1))

/-- R425, R426, R428 to R438: rings: a doorbell makes a running ring active, the arbiter takes a ring's turn, entries that come are taken in
order, a NOP, a read or write of a namespace or an eyelet and a flush run, a finished job lands its completion; a ring is enabled
after its checks, disabled, and restarted at the entry latched. -/
def Obligations.RingCommands : Prop :=
  (∀ (s : State) (f i r : Nat), s.barOpen → s.ringAt f i = some r →
    ((s.ring r).st = .running → exec (.ringDb f i) s = .next (Ends s (s.updRing r (fun x =>
      if x.active || x.reads ≠ [] then { x with db := true } else { x with active := true }))))
    ∧ ((s.ring r).st = .stoppedErr → exec (.ringDb f i) s = .next (Ends s (s.updRing r (fun x => { x with db := true })))))
  ∧ (∀ (s : State) (r : Nat), s.nextTurn = some r → exec .ringFetchTurn s = .next (Ends s (s.fetchTurnOf r)))
  ∧ (∀ (s : State) (id r : Nat) (ents : List Nat) (p : PRead), s.issuedRead id = some p → p.dead = false → p.who = .fetch r →
    exec (.ringFetchDone id ents) s = .next (Ends s ((s.endRead id).fetchedEnts r id
      ((List.range (p.len / 64)).map (fun i => ents.getD i 0 % 2 ^ 512)))))
  ∧ (∀ (s t : State) (r idx : Nat) (j : RJob), (s.ring r).st ≠ .stoppedBme → s.devFenced = false → s.ringMaster r = true →
    t = s.updJob r j.id (fun j => { j with st := 1 }) →
    ((s.ring r).jobs.find? (fun j => j.idx = idx && j.st = 0 && j.op = 0) = some j →
      exec (.nop r idx) s = .next (Ends s (t.jobOver r j.id 1 0 0)))
    ∧ ((s.ring r).jobs.find? (fun j => j.idx = idx && j.st = 0 && j.op = 1) = some j → exec (.nsRead r idx) s = .next (Ends s
      (if t.nsJobCheck r j ≠ 0 then t.jobStatus r j.id (t.nsJobCheck r j)
       else t.startRead (.ring r j.id) j.target (j.toff * t.rw Obj.nsLbaSize j.target)
         (j.bytes / max 1 (t.wireBlk j.target) * t.rw Obj.nsLbaSize j.target))))
    ∧ ((s.ring r).jobs.find? (fun j => j.idx = idx && j.st = 0 && j.op = 2) = some j → exec (.nsWrite r idx) s = .next (Ends s
      (if t.nsJobCheck r j ≠ 0 then t.jobStatus r j.id (t.nsJobCheck r j)
       else t.admitWrite (.ring r j.id) j.target (j.toff * t.rw Obj.nsLbaSize j.target)
         (j.bytes / max 1 (t.wireBlk j.target) * t.rw Obj.nsLbaSize j.target))))
    ∧ (∀ v id, (s.ring r).jobs.find? (fun j => j.idx = idx && j.st = 0 && j.op = 3) = some j → t.ringEyeCheck r j 1 false = 0 →
      t.admitAcc (.ring r j.id) .read (j.target % 16384) j.toff j.bytes 0 0 = (v, id) → exec (.eyeRead r idx) s = .next (Ends s
        ((v.updJob r j.id (fun j => { j with acc := some id })).moveAccs (.ring r j.id))))
    ∧ ((s.ring r).jobs.find? (fun j => j.idx = idx && j.st = 0 && j.op = 4) = some j → t.ringEyeCheck r j 0 true ≠ 0 →
      exec (.eyeWrite r idx) s = .next (Ends s (t.jobEyeFail r j (t.ringEyeCheck r j 0 true) 0x04)))
    ∧ (∀ v u id, (s.ring r).jobs.find? (fun j => j.idx = idx && j.st = 0 && j.op = 4) = some j → t.ringEyeCheck r j 0 true = 0 →
      t.admitAcc (.ring r j.id) .write (j.target % 16384) j.toff j.bytes 0 0 = (v, id) →
      u = ((v.updAcc id (fun x => { x with issued := true })).askFrames id).updJob r j.id (fun j => { j with acc := some id }) →
      exec (.eyeWrite r idx) s = .next (Ends s ((segSpans j.segs 0 0 j.bytes).foldl (fun v p =>
        v.askRead (s.ringNo r) p.1 p.2.1 j.roh (.job r j.id) p.2.2) u)))
    ∧ ((s.ring r).jobs.find? (fun j => j.idx = idx && j.st = 0 && j.op = 5) = some j →
      exec (.eyeFlush r idx) s = .next (Ends s (t.ringFlushes r))))
  ∧ (∀ (s : State) (r idx : Nat) (j : RJob), (s.ring r).jobs.find? (fun j => j.idx = idx && j.st = 2) = some j → s.mayLand r j = true →
    exec (.ringJobComplete r idx) s = .next (Ends s (s.land r j)))
  ∧ (∀ (s t : State) (f i v r : Nat), s.barOpen → s.ringAt f i = some r →
    (∀ w, w = clearBit (orBit v 0) 2 → bit w 0 = true → (s.ring r).st = .disabled →
      t = s.updRing r (fun x => { x with strict := if x.st = .disabled then bit w 1 else x.strict, weight := bits w 8 8, burst := bits w 16 7 }) →
      exec (.ringEnable f i v) s = .next (Ends s (t.ringEnable f r)))
    ∧ (∀ w, w = clearBit (clearBit v 0) 2 → bit w 0 = false →
      t = s.updRing r (fun x => { x with strict := if x.st = .disabled then bit w 1 else x.strict, weight := bits w 8 8, burst := bits w 16 7 }) →
      exec (.ringDisable f i v) s = .next (Ends s (t.ringDisable r)))
    ∧ (∀ w, w = orBit (orBit v 0) 2 → bit w 0 = true → bit w 2 = true → (s.ring r).st = .stoppedErr →
      t = s.updRing r (fun x => { x with strict := if x.st = .disabled then bit w 1 else x.strict, weight := bits w 8 8, burst := bits w 16 7 }) →
      exec (.ringRestart f i v) s = .next (Ends s (t.ringRestart r))))
  ∧ (∀ (s : State) (f r : Nat), (s.ring r).st = .disabled → (s.ring r).base % 64 = 0 → 4 ≤ (s.ring r).log2 → (s.ring r).log2 ≤ 16 →
    2048 ≤ r ∨ vecOk f (s.ring r).vec = true → s.ringEnable f r = (s.updRing r (fun x => { x with
      st := if s.ringMaster r then .running else .stoppedBme, fetch := 0, lap := true, strictOn := x.strict, active := false, db := false
      inRound := false, part := [], reads := [], errIdx := 0, errCause := 0, errOfs := 0 })).fenServe 8 r)
  ∧ ∀ (s : State) (r q : Nat), (s.ring r).quiet = some q → q ≤ s.clk.ns → (s.ring r).sigWait = true → (s.ring r).pend = true →
    exec (.irqHoldoffExpiry r) s = .next (Ends s ((s.updRing r (fun x => { x with quiet := none })).ringSignal r))

/-- R439, R440, R442, R444, R445, R448: a Shuttle channel: a list is enqueued, or dropped into a full FIFO; GO, STOP and RESET act in
the states of Table 13-11; a descriptor read comes and is started, or is malformed; a complete descriptor ends with its record;
and a held record is written once the completion queue's head advances. -/
def Obligations.ShuttleCommands : Prop :=
  (∀ (s : State) (f c v : Nat), s.barOpen → s.chanFn c = some f →
    (16 ≤ (s.chan c).fifo.length → exec (.shuttleEnqueue f c v) s = .next (Ends s (s.updChan c (fun x => { x with enqOvf := true }))))
    ∧ (∀ t, (s.chan c).fifo.length < 16 →
      t = s.updChan c (fun x => { x with fifo := x.fifo ++ [(s.chan c).enqLo + v % 2 ^ 32 * 2 ^ 32] }) →
      exec (.shuttleEnqueue f c v) s = .next (Ends s
        (if (s.chan c).st = .idle ∧ s.chanReady c ∧ s.chanFree c then t.chanNext c else t))))
  ∧ (∀ (s : State) (f c : Nat), s.barOpen → s.chanFn c = some f →
    ((s.chan c).st = .stopped → (s.chan c).bme = false → s.chanFree c = true → exec (.shuttleGo f c) s = .next (Ends s (s.chanNext c)))
    ∧ ((s.chan c).st ≠ .stopped → exec (.shuttleGo f c) s = .next (Ends s s))
    ∧ ((s.chan c).run ≠ none → exec (.shuttleStop f c) s = .next (Ends s (s.updChan c (fun x =>
      if x.st = .running then { x with st := .stopping } else if x.st = .cqBlocked then { x with stop := true } else x))))
    ∧ ((s.chan c).st = .stopped ∨ (s.chan c).st = .error → (s.chan c).held = none → exec (.shuttleReset f c) s = .next (Ends s
      ((((s.killReads (fun q => decide (q.chan = some c)) none).updChan c (fun x => { x with
        st := .idle, fifo := [], held := none, cqBp := false, next := 0, run := none, asked := false, stop := false, bme := false
        ranges := [] })).fenLet 9 c).fenServe 9 c)))
    ∧ (∀ r, (s.chan c).st = .stopped ∨ (s.chan c).st = .error → (s.chan c).held = some r → exec (.shuttleReset f c) s = .next (Ends s
      (((((s.addCnt 32 Obj.shDiscarded c 1).killReads (fun q => decide (q.chan = some c)) none).updChan c (fun x => { x with
        st := .idle, fifo := [], held := none, cqBp := false, next := 0, run := none, asked := false, stop := false, bme := false
        ranges := [] })).fenLet 9 c).fenServe 9 c))))
  ∧ (∀ (s t u : State) (f c v : Nat) (r : CqRec), s.barOpen → s.chanFn c = some f →
    t = s.updChan c (fun x => { x with cqHead := v % 65536 }) → u = (t.putRec c r).updChan c (fun x => { x with held := none, cqBp := false }) →
    ((t.chan c).held = none → exec (.shuttleCqHead f c v) s = .next (Ends s t))
    ∧ ((t.chan c).held = some r → (t.chan c).full = true → exec (.shuttleCqHead f c v) s = .next (Ends s t))
    ∧ ((t.chan c).held = some r → (t.chan c).full = false → s.chanMaster c = true → (t.chan c).bme = false → (t.chan c).st = .cqBlocked →
      exec (.shuttleCqHead f c v) s = .next (Ends s (u.chanGoOn c (t.chan c).after))))
  ∧ (∀ (s : State) (id w c : Nat) (p : PRead), s.issuedRead id = some p → p.who = .desc c → p.dead = false →
    ((s.endRead id).chan c).asked = true → ((s.endRead id).chan c).st = .running →
    exec (.shuttleDescriptorFetched id w) s = .next (Ends s ((s.endRead id).shStart c (w % 2 ^ 256))))
  ∧ (∀ (s t : State) (c w : Nat), t = s.updChan c (fun x => { x with
      cur := x.next, asked := false, run := some { addr := x.next, word := w }, next := desNext w }) →
    (desBad c w ≠ 0 → s.shStart c w = t.shFail c 4 (desBad c w))
    ∧ (desBad c w = 0 → desSrcT w = 0 → desDstT w = 0 → desLen w ≠ 0 →
      s.shStart c w = t.askRead ((s.chanFn c).getD 0) (desSrc w) (desLen w) (desRoh w) (.data c) 0)
    ∧ (desBad c w = 0 → desSrcT w = 5 → desDstT w = 0 → desLen w ≠ 0 → s.shStart c w = t.shFeed c 0 (desLen w) 0))
  ∧ (∀ (s t : State) (c : Nat) (d : ShRun), (s.chan c).run = some d → s.shComplete c d = true → (s.chan c).st = .running →
    t = (s.addCnt 64 Obj.shDescs c 1).updChan c (fun x => { x with
        run := none, ranges := if shBarrier c d.word then [] else x.ranges, stop := x.stop || x.st = .stopping }) →
    (desCmp d.word = true → exec (.shuttleDescriptorDone c) s = .next (Ends s
      (t.record_ c ⟨1, 0, desLen d.word, d.addr, desIrq d.word⟩ .running)))
    ∧ (desCmp d.word = false → (t.chan c).bme = false → desIrq d.word = false →
      exec (.shuttleDescriptorDone c) s = .next (Ends s (t.chanGoOn c .running))))
  ∧ ∀ (s : State) (c : Nat) (r : CqRec) (a : ChanSt), s.chanMaster c = true → s.frozen = false →
    ((s.chan c).full = true → s.record_ c r a = ((s.updChan c (fun x => { x with
      held := some r, after := a, st := .cqBlocked, cqBp := true })).addCnt 32 Obj.shCqBlocks c 1).chanSignal c)
    ∧ ((s.chan c).full = false → s.record_ c r a = (s.putRec c r).chanGoOn c a)

/-- R453 to R456, R460, R467, R469, R473, R475: the messages of the skein, each after its sender counts as heard: a heartbeat says
whether the partner is solo or halted, JOIN is answered by WELCOME or refused, WELCOME brings the directory, LEAVE takes the row out
of the view, a directory update is merged or taken and acknowledged, a query about a row is answered, a reply decides, a takeover is
asked for or told, and HANDOVER moves a move on. -/
def Obligations.SkeinMessageCommands : Prop :=
  (∀ (s u : State) (h : SkHdr) (stage flags owned dirver : Nat), s.skGets h (.heartbeat stage flags owned dirver) u →
    exec (.heartbeat h stage flags owned dirver) s = .next (Ends s
      (if u.skn.partner = some h.row then
        if bit flags 2 then State.partnerLost { u with sk := { u.sk with peerSolo := bit flags 0 } } true
        else { u with sk := { u.sk with peerSolo := bit flags 0 } }
       else u)))
  ∧ (∀ (s u v : State) (h : SkHdr) (digest hosts : Nat), s.skGets h (.join digest hosts) u → u.skn.partner ≠ some h.row →
    v = u.updSkRow h.row (fun x => { x with left := false }) →
    (digest = v.rowDigest → u.sk.role = 0 → exec (.joinMsg h digest hosts) s = .next (Ends s
      (((v.nameDeputy).dirSet (v.rowEnts h.row)).skSend allPaths h.row (.welcome ((v.nameDeputy).dirSet (v.rowEnts h.row)).sk.deputy
        ((v.nameDeputy).dirSet (v.rowEnts h.row)).sk.dir.version ((v.nameDeputy).dirSet (v.rowEnts h.row)).sk.dir.ents))))
    ∧ (digest = v.rowDigest → u.sk.role ≠ 0 → exec (.joinMsg h digest hosts) s = .next (Ends s v))
    ∧ (digest ≠ v.rowDigest → u.sk.role ≠ 0 → h.role = 0 → exec (.joinMsg h digest hosts) s = .next (Ends s
      ((v.setRole 3).note 0xD05 0 0 0 0))))
  ∧ (∀ (s u t v : State) (h : SkHdr) (deputy version : Nat) (dir : List DirEnt), s.skGets h (.welcome deputy version dir) u →
    u.sk.role ≠ 0 → u.sk.mgr = h.row → t = u.takeDir version dir true →
    v = { t with sk := { t.sk with deputy := deputy } } →
    exec (.welcome h deputy version dir) s = .next (Ends s
      (if v.skn.row = some deputy ∧ v.sk.role = 2 then (v.setRole 1).dirReport (v.setRole 1).shelfEnts else v.dirReport v.shelfEnts)))
  ∧ (∀ (s u t : State) (h : SkHdr), s.skGets h .leave u → u.skn.partner ≠ some h.row →
    t = u.updSkRow h.row (fun x => { x with inView := false, left := true }) → (t.sk.deputy ≠ h.row ∨ t.sk.role ≠ 0) →
    exec (.leaveMsg h) s = .next (Ends s ((t.elect true).dirSet ((t.elect true).rowEnts h.row))))
  ∧ (∀ (s u : State) (h : SkHdr) (version : Nat) (dir : List DirEnt), s.skGets h (.dirUpdate version dir) u →
    (u.sk.role = 0 → exec (.dirUpdate h version dir) s = .next (Ends s (u.dirSet dir)))
    ∧ (u.sk.role ≠ 0 → u.sk.mgr = h.row → exec (.dirUpdate h version dir) s = .next (Ends s
      ((u.takeDir version dir false).skSend allPaths h.row (.dirAck version)))))
  ∧ (∀ (s u t : State) (h : SkHdr) (version : Nat), s.skGets h (.dirAck version) u →
    u.sk.role = 0 → u.sk.deputy = h.row → version = u.sk.dir.version → u.sk.dir.waiting ≠ [] →
    t = { u with sk := { u.sk with dir := { u.sk.dir with waiting := [] } } } →
    exec (.dirAck h version) s = .next (Ends s ((t.skRows.filter (fun r => t.skn.row ≠ some r && r ≠ h.row)).foldl
      (fun v r => v.skSend allPaths r (.dirUpdate version u.sk.dir.waiting)) t)))
  ∧ (∀ (s u : State) (h : SkHdr) (row : Nat), s.skGets h (.confirmQuery row) u → u.sk.role = 0 ∨ u.sk.role = 1 →
    (∀ n, (u.skRow row).heard = some n → exec (.confirmQuery h row) s = .next (Ends s
      (u.skSend allPaths h.row (.confirmReply row (!u.inView row) (min ((u.clk.ns - n) / 1000000) 0xFFFFFFFF)))))
    ∧ ((u.skRow row).heard = none → exec (.confirmQuery h row) s = .next (Ends s
      (u.skSend allPaths h.row (.confirmReply row (!u.inView row) 0xFFFFFFFF)))))
  ∧ (∀ (s u : State) (h : SkHdr) (row ms : Nat) (missing : Bool) (taken : List Nat), s.skGets h (.confirmReply row missing ms) u →
    u.skn.partner = some row → h.row = u.sk.mgr ∨ h.row = u.sk.deputy →
    (u.sk.tko.st = 1 → u.sk.tko.decided = none → exec (.confirmReply h row missing ms taken) s = .next (Ends s (u.confirmed missing)))
    ∧ (u.sk.tko.st = 4 → exec (.confirmReply h row missing ms taken) s = .next (Ends s
      ((((taken.foldl (fun v n => v.loseNs n) u).updTko (fun k => { k with st := 1 })).ownNss.foldl (fun v n => v.later (.ana n))
        ((taken.foldl (fun v n => v.loseNs n) u).updTko (fun k => { k with st := 1 }))).confirmed missing))))
  ∧ (∀ (s u : State) (h : SkHdr) (cause : Nat), s.skGets h (.takeoverRequest cause) u →
    exec (.takeoverRequest h cause) s = .next (Ends s (if u.skn.partner = some h.row then u.partnerLost true else u)))
  ∧ (∀ (s u : State) (h : SkHdr) (lost adopted : Nat), s.skGets h (.takeoverNotice lost adopted) u → u.sk.role = 0 →
    u.rw Obj.srowShelf lost = u.rw Obj.srowShelf h.row →
    exec (.takeoverNotice h lost adopted) s = .next (Ends s (u.dirSet (
      ((u.sk.dir.nss.filter (fun e => e.1 / 4096 = u.rw Obj.srowShelf h.row && e.2 = 2 - (if h.row < lost then 0 else 1))).map
        (fun e => DirEnt.ns (u.rw Obj.srowShelf h.row) (e.1 % 4096) (if h.row < lost then 0 else 1))) ++ u.rowEnts lost))))
  ∧ ∀ (s u : State) (h : SkHdr) (nss : List Nat), u.skn.partner = some h.row →
    (s.skGets h (.handover nss 1) u → u.sk.move = none → exec (.handover h nss 1) s = .next (Ends s
      (u.moveStart { nss := nss, since := u.clk.ns, mine := nss.all (fun n => (u.nsp n).owner ≠ u.skn.side)
                     theirs := nss.all (fun n => (u.nsp n).owner = u.skn.side) })))
    ∧ (∀ m, s.skGets h (.handover nss 2) u → u.sk.move = some m → exec (.handover h nss 2) s = .next (Ends s
      (State.moveReady { u with sk := { u.sk with move := some { m with theirs := true } } })))
    ∧ (∀ m, s.skGets h (.handover nss 3) u → u.sk.move = some m → u.keeper = false →
      exec (.handover h nss 3) s = .next (Ends s u.moveSwitch))
    ∧ (∀ m, s.skGets h (.handover nss 0) u → u.sk.move = some m → exec (.handover h nss 0) s = .next (Ends s (u.moveUndo 2)))

/-- R453, R456, R460, R467 to R469, R473, R474: the skein's clock and the ownership of namespaces: heartbeats are sent, a silent row
leaves the view, the guard starts the contest, a preempt is decided, a contest is lost or won, a move is asked for, drained or
undone, the device leaves and rejoins, an abandoned contest reports its namespaces inaccessible. -/
def Obligations.TakeoverCommands : Prop :=
  (∀ (s : State), (s.skn.row = none → exec .heartbeatPeriod s = .next (Ends s s))
    ∧ (∀ p r t u rs, s.skn.row = some r → s.inS7 = true → s.skn.partner = some p → t = s.skSend allPaths p s.beat →
      rs = (if t.sk.role = 0 then t.skRows.filter (fun r => t.skn.row ≠ some r && t.skn.partner ≠ some r)
        else ([t.sk.mgr, t.sk.deputy].filter (fun r => r ≠ 0xFF && t.skn.row ≠ some r && t.skn.partner ≠ some r)).eraseDups) →
      u = rs.foldl (fun v r => v.skSend [1, 2] r s.beat) t → u.sk.tko.st ≠ 4 → u.sk.tko.st ≠ 2 →
      exec .heartbeatPeriod s = .next (Ends s u)))
  ∧ (∀ (s t : State) (r : Nat), s.inS7 = true → s.skn.row ≠ none → s.skn.row ≠ some r → s.skRows.contains r = true →
    s.skn.partner ≠ some r → t = (s.updSkRow r (fun x => { x with inView := false })).elect true →
    s.sk.deputy ≠ r ∨ s.sk.role ≠ 0 → t.skn.partner ≠ some r →
    ((s.skRow r).inView = true → (t.dirSet (t.rowEnts r)).skn.partner ≠ some r →
      exec (.viewExpiry r) s = .next (Ends s (t.dirSet (t.rowEnts r))))
    ∧ ((s.skRow r).inView = false → exec (.viewExpiry r) s = .next (Ends s t)))
  ∧ (∀ (s : State), s.sk.tko.st = 1 → (∀ d, s.sk.tko.decided = some d → exec .guardExpiry s = .next (Ends s s.contest))
    ∧ (s.sk.tko.decided = none → s.multiShelf = true → exec .guardExpiry s = .next (Ends s
      (((s.setRole 3).updTko (fun k => { k with st := 4 })).ownNss.foldl (fun u n => u.later (.ana n))
        ((s.setRole 3).updTko (fun k => { k with st := 4 }))))))
  ∧ (∀ (s t : State) (pos solo : Nat) (recs : List JArg), s.sk.tko.st = 2 → s.sk.tko.asked.contains pos = true →
    t = s.updTko (fun k => { k with asked := k.asked.erase pos, ok := k.ok + 1 }) →
    exec (.takeoverPreemptDone pos 1 solo recs) s = .next (Ends s s.contestLost)
    ∧ (s.sk.tko.rest ≠ [] → exec (.takeoverPreemptDone pos 0 solo recs) s = .next (Ends s
      (s.sk.tko.rest.foldl (fun u a => u.emit (.preempt a s.partnerKey))
        (t.updTko (fun k => { k with rest := [], asked := k.asked ++ k.rest })))))
    ∧ (s.sk.tko.rest = [] → s.sk.tko.asked.erase pos = [] →
      exec (.takeoverPreemptDone pos 0 solo recs) s = .next (Ends s (t.contestEnd solo recs))))
  ∧ (∀ (s : State), s.contestLost = ((((s.setRole 3).updTko (fun k => { k with
      st := 5, decided := none, rest := [], asked := [], again := false })).theirNss.foldl (fun u n => u.setAna 3 n)
      ((s.setRole 3).updTko (fun k => { k with st := 5, decided := none, rest := [], asked := [], again := false }))).later
        (.detect 0xD07 0 0 0)))
  ∧ (∀ (s : State) (a : Nat) (l : List Nat), s.contestPos = a :: l → s.contest = (s.updTko (fun k => { k with
      st := 2, again := false, rest := l, asked := [a], ok := 0, none_ := 0, failed := 0 })).emit (.preempt a s.partnerKey))
  ∧ (∀ (h : Hdr) (ns : Nat), ActionRuns (.ownMove h ns) h Obj.ownMove ns 1 (fun u => u.moveOk = true ∧ (u.nsp ns).bolts ≠ 0)
      (fun u => (u.actRun Obj.ownMove ns).moveAsk [ns] (some (Obj.ownMove, ns)) 0))
  ∧ (∀ (h : Hdr) (l : List Nat), ActionRuns (.ownMoveHome h) h Obj.ownMoveHome 0 1 (fun u => u.moveOk = true
      ∧ l = (u.place.nss.filter (fun e => e.2.bolts ≠ 0 && e.2.owner ≠ u.rw Obj.ownHome e.1)).map (fun e => e.1))
      (fun u => if l = [] then u.actDone Obj.ownMoveHome 0
        else (u.actRun Obj.ownMoveHome 0).moveAsk l (some (Obj.ownMoveHome, 0)) 0))
  ∧ (∀ (s t : State) (m : Move), s.sk.move = some m → m.mine = false → s.moveDrained m = true →
    t = { s with sk := { s.sk with move := some { m with mine := true } } } →
    exec .moveDrainDone s = .next (Ends s (if t.keeper then t.moveReady else t.handover m.nss 2)))
  ∧ (∀ (s : State) (m : Move), s.sk.move = some m → exec .moveTimeout s = .next (Ends s ((s.moveUndo 2).handover m.nss 0)))
  ∧ (∀ (h : Hdr), ActionRuns (.sknLeave h) h Obj.sknLeave 0 1 (fun u => u.skn.row ≠ none ∧ (u.skn.present = false ∨ u.ownNss = []))
      (fun u => (u.actDone Obj.sknLeave 0).sendLeave))
  ∧ (∀ (h : Hdr), ActionRuns (.sknLeave h) h Obj.sknLeave 0 1
      (fun u => u.skn.row ≠ none ∧ u.skn.present = true ∧ u.ownNss ≠ [] ∧ u.moveOk = true)
      (fun u => (u.actRun Obj.sknLeave 0).moveAsk u.ownNss (some (Obj.sknLeave, 0)) 1))
  ∧ (∀ (h : Hdr), ActionRuns (.sknRejoin h) h Obj.sknLeave 0 2 (fun u => u.skn.row ≠ none)
      (fun u => ((State.joinSkein { u with sk := { u.sk with left := false } }).ownNss.foldl (fun v n => v.later (.ana n))
        (State.joinSkein { u with sk := { u.sk with left := false } })).actDone Obj.sknLeave 0))
  ∧ ∀ (s : State), (∀ d, s.sk.tko.st = 2 → s.sk.tko.again = true → s.sk.tko.decided = some d →
      exec .anattExpiry s = .next (Ends s (s.theirNss.foldl (fun t n => t.setAna 3 n) s)))
    ∧ (s.sk.tko.st ≠ 2 → exec .anattExpiry s = .next (Ends s s))

/-- R461 to R466: the twin link: it comes up with eight lanes, or four with an event, each device sends PAIR; it goes down into solo
mode; PAIR of the configured partner starts the frames, of any other device leaves the link held; IDLE and NAK carry acknowledgment
and credit, a NAK and the acknowledgment timeout resend, the sixteenth resend takes the link down; a frame out of sequence is
answered by one NAK and has no other effect. -/
def Obligations.TwinLinkCommands : Prop :=
  (∀ (s : State), s.inS7 = true → s.boot.hold = false → (Tbl.get {} s.pd 8).st = .on → s.isFenced 1 8 = false → s.sk.twin.st < 2 →
    exec (.twinLinkUp 8) s = .next (Ends s (s.setTwin { s.sk.twin with st := 2, held := false }).sendPair)
    ∧ exec (.twinLinkUp 4) s = .next (Ends s ((s.setTwin { s.sk.twin with st := 3, held := false }).note 0xD02 1 8 0 0).sendPair))
  ∧ (∀ (s : State), (2 ≤ s.sk.twin.st → exec .twinLinkDown s = .next (Ends s ((((s.setTwin { s.sk.twin with
        st := 1, paired := false, replay := [], queue := [], resends := [], nakSent := false }).addCnt 32 Obj.twinDowns 0 1).note
          0xD01 1 8 0 0).toSolo)))
    ∧ (s.sk.twin.st < 2 → exec .twinLinkDown s = .next (Ends s s)))
  ∧ (∀ (s : State) (h : TwHdr) (dev side ceiling : Nat) (region : Bool), 2 ≤ s.sk.twin.st → s.sk.twin.held = false →
    s.sk.twin.paired = false →
    (h.crcOk = false → exec (.pair h dev side region ceiling) s = .next (Ends s (s.addCnt 64 Obj.twinCrcErrors 0 1).twinNakOnce))
    ∧ (∀ p, h.crcOk = true → h.seq = 0 → s.skn.partner = some p → s.rw Obj.srowDeviceId p ≠ dev →
      exec (.pair h dev side region ceiling) s = .next (Ends s
        ((s.setTwin { s.sk.twin with st := 0, held := true, replay := [], queue := [] }).note 0xD03 1 8 0 0)))
    ∧ (∀ p t u, h.crcOk = true → h.seq = 0 → s.skn.partner = some p → s.rw Obj.srowDeviceId p = dev →
      s.sk.twin.lastEpoch = some h.epoch → s.sk.twin.ownEpoch = some (s.cntAt Obj.bootEpoch 0) →
      t = ((((s.setTwin { s.sk.twin with
            paired := true, rx := 1, nakSent := false, lastEpoch := some h.epoch
            ownEpoch := some (s.cntAt Obj.bootEpoch 0) }).setCnt Obj.twinPartnerId 0 dev).setCnt Obj.twinPartnerEpoch 0 h.epoch).twinAcked
              h.ack h.credit).hearPartner →
      u = { t with
            sk := { t.sk with ceiling := ceiling }, hoop := { t.hoop with regionBytes := ceiling * mib, region := [] }
            jour := { t.jour with partner := [] } } →
      exec (.pair h dev side region ceiling) s = .next (Ends s
        (if region = false then u.giveUpFrames.startResync else u.framesBack.startResync))))
  ∧ (∀ (s : State) (h : TwHdr), 2 ≤ s.sk.twin.st → s.sk.twin.held = false →
    (h.crcOk = true → exec (.twinIdle h) s = .next (Ends s (s.twinAcked h.ack h.credit).hearPartner))
    ∧ (h.crcOk = false → exec (.twinIdle h) s = .next (Ends s (s.addCnt 64 Obj.twinCrcErrors 0 1)))
    ∧ (h.crcOk = true → exec (.twinNak h) s = .next (Ends s ((s.twinAcked h.ack h.credit).hearPartner).twinResend))
    ∧ exec .twinIdleTimer s = .next (Ends s (s.emit (.twinIdle s.sk.twin.rx))))
  ∧ (∀ (s v : State), s.sk.twin.replay ≠ [] → 2 ≤ s.sk.twin.st →
    v = s.sk.twin.replay.foldl (fun v e => v.emit (.twin e.1 s.sk.twin.rx (s.cntAt Obj.bootEpoch 0) e.2))
      ((s.setTwin { s.sk.twin with resends := s.sk.twin.resent }).addCnt 64 Obj.twinReplays 0 s.sk.twin.replay.length) →
    (s.sk.twin.resent.any (fun e => decide (16 ≤ e.2)) = false → exec .twinAckTimeout s = .next (Ends s v))
    ∧ (s.sk.twin.resent.any (fun e => decide (16 ≤ e.2)) = true → exec .twinAckTimeout s = .next (Ends s v.twinDown)))
  ∧ (∀ (s : State), s.sk.twin.replay = [] → exec .twinAckTimeout s = .next (Ends s s))
  ∧ ∀ (s : State) (h : TwHdr) (i : Instr), (∃ l, i = .mirrorAck h l) ∨ (∃ l, i = .mirrorRelease h l) ∨ (∃ l, i = .journalFrame h l)
      ∨ i = .vaultNotice h ∨ (∃ m, i = .keeperFrame h m) ∨ (∃ t st d, i = .proxyCpl h t st d) →
    2 ≤ s.sk.twin.st → s.sk.twin.held = false → h.crcOk = true → s.sk.twin.paired = true → h.seq ≠ s.sk.twin.rx →
    (s.sk.twin.nakSent = false → exec i s = .next (Ends s ((s.setTwin { s.sk.twin with nakSent := true }).emit (.twinNak s.sk.twin.rx))))
    ∧ (s.sk.twin.nakSent = true → exec i s = .next (Ends s s))

/-- R133, R136, R137, R140, R156, R363, R364, R373: what accepted twin link frames carry: a mirror write goes into the partner's
region and is acknowledged, or brings back an own frame; acknowledgments reach the writes that wait for them; a release takes frames
out of the region; journal records join the mirror; the keeper's messages act in the array; a proxied command runs on this device's
path or fails, and its answer completes the command. -/
def Obligations.TwinFrameCommands : Prop :=
  (∀ (s u : State) (h : TwHdr) (k : FKey) (mseq : Nat) (blks : List Cell) (f : MirrorFrame), s.twHears h → u = s.twHeard h →
    f = ⟨k.ns, ⟨k.entry, k.sel, k.stripe⟩, k.col, k.gen, mseq, h.epoch, cellBlks blks⟩ →
    ((u.nsp k.ns).owner ≠ u.skn.side → exec (.mirrorWrite h k mseq blks) s = .next (Ends s
      (State.twinSend { u with hoop := { u.hoop with region := regionWrite u.hoop.region f } } (.mirrorAck [mseq]))))
    ∧ ((u.nsp k.ns).owner = u.skn.side → exec (.mirrorWrite h k mseq blks) s = .next (Ends s (u.takeBack f))))
  ∧ (∀ (l : List MirrorFrame) (f : MirrorFrame), ((∀ x ∈ l, x.fkey ≠ f.fkey) → regionWrite l f = l ++ [f])
    ∧ (∀ x, l.find? (fun x => x.fkey = f.fkey) = some x → x.epoch = f.epoch → f.seq < x.seq → regionWrite l f = l))
  ∧ (∀ (s u t : State) (h : TwHdr) (seqs : List Nat), s.twHears h → u = s.twHeard h →
    t = { u with
      hoop := { u.hoop with
       stripes := Tbl.mapRows {} (fun _ (x : Stripe) => { x with
        frames := Tbl.mapRows none (fun _ o => o.map (fun (f : Frame) => if seqs.contains f.mseq then { f with acked := true } else f))
          x.frames
        succ := Tbl.mapRows none (fun _ o => o.map (fun (f : Frame) => if seqs.contains f.mseq then { f with acked := true } else f))
          x.succ }) u.hoop.stripes } } →
    (t.writeThrough = true → exec (.mirrorAck h seqs) s = .next (Ends s t))
    ∧ (∀ v, t.writeThrough = false → v = t.ackWhere (fun _ r => r.st = 2 && seqs.contains r.mseq) →
      exec (.mirrorAck h seqs) s = .next (Ends s ((v.hoop.stripes.filter (fun e => e.2.st = .filling && !e.2.trig)).foldl
        (fun v e => if v.allDirty (skeyOf e.1) then v.trigger (skeyOf e.1) else v) v))))
  ∧ (∀ (s u t : State) (h : TwHdr) (keys : List FKey), s.twHears h → u = s.twHeard h →
    t = { u with hoop := { u.hoop with region := u.hoop.region.filter (fun f =>
        !keys.any (fun k => f.fkey = (k.ns, ⟨k.entry, k.sel, k.stripe⟩, k.col, k.gen))) } } →
    exec (.mirrorRelease h keys) s = .next (Ends s (if u.hoop.mirrorState = 1 then t.framesBack.startResync else t)))
  ∧ (∀ (s u : State) (h : TwHdr) (recs : List JArg), s.twHears h → u = s.twHeard h →
    exec (.journalFrame h recs) s = .next (Ends s { u with jour := { u.jour with
      partner := (recs.map JArg.toRec).foldl mirrorRec u.jour.partner } }))
  ∧ (∀ (s : State) (h : TwHdr), s.twHears h → exec (.vaultNotice h) s = .next (Ends s (s.twHeard h)))
  ∧ (∀ (s u : State) (h : TwHdr) (b : Nat), s.twHears h → u = s.twHeard h →
    (∀ r, u.keeper = true → r ∉ [7, 11, 12, 13] → exec (.keeperFrame h (.criterion b r)) s = .next (Ends s (u.memFail b r)))
    ∧ (∀ r, u.keeper = true → r ∈ [7, 11, 12, 13] → exec (.keeperFrame h (.criterion b r)) s = .next (Ends s (u.memFailing b r)))
    ∧ (∀ st pos reason, u.keeper = false → exec (.keeperFrame h (.member b st pos reason)) s = .next (Ends s (u.memberIn b st pos reason)))
    ∧ (∀ base tbase st geo tgeo su lo cur ns, u.keeper = true →
      exec (.keeperFrame h (.mapUpd b base tbase st geo tgeo su lo cur ns)) s = .next (Ends s (u.mapUpdate b
        { base := base, tbase := tbase, st := boltStOf st, geo := geo, tgeo := tgeo, suspect := su, lost := lo, cursor := cur, ns := ns })))
    ∧ (u.keeper = true → exec (.keeperFrame h (.rampAsk b)) s = .next (Ends s (u.rampAsked b)))
    ∧ (u.keeper = false → exec (.keeperFrame h (.rampGrant b)) s = .next (Ends s (u.rampGranted b)))
    ∧ (u.keeper = false → exec (.keeperFrame h (.rampEnd b)) s = .next (Ends s (u.partnerRamp b)))
    ∧ (∀ w, exec (.keeperFrame h (.power b w)) s = .next (Ends s (u.updBay b (fun x => { x with partnerP := w })))))
  ∧ (∀ (s u : State) (h : TwHdr) (tag bay kind lba count : Nat) (data : List (Nat × Nat)), s.twHears h → u = s.twHeard h →
    ((u.link bay).st ≠ 2 → exec (.proxyCmd h tag bay kind lba count data) s = .next (Ends s (u.twinSend (.proxyCpl tag 2 []))))
    ∧ (∀ c : MCmd, (u.link bay).st = 2 → (u.link bay).path = 0 →
      c = { tag := u.drv.tag, bay := bay, kind := mkindOf kind, lba := lba, count := count, data := data.map (fun d => ⟨d.1, d.2⟩)
            owner := .proxy tag } →
      exec (.proxyCmd h tag bay kind lba count data) s = .next (Ends s
        (State.sendCmd { u with drv := { u.drv with cmds := u.drv.cmds ++ [c], tag := u.drv.tag + 1 } } c))))
  ∧ ∀ (s u : State) (h : TwHdr) (tag : Nat) (c : MCmd), s.twHears h → u = s.twHeard h → u.findCmd tag = some c → c.held = false →
    (∀ k col data, c.owner = .destage k col → exec (.proxyCpl h tag 0 data) s = .next (Ends s ((u.dropCmd tag).destageWritten k col true)))
    ∧ (∀ id i data, c.owner = .read id i → exec (.proxyCpl h tag 0 data) s = .next (Ends s
      ((u.dropCmd tag).readGot id i c.bay (blkArgs data).head? true)))
    ∧ (∀ id i data, c.owner = .read id i → c.kind = .read → exec (.proxyCpl h tag 1 data) s = .next (Ends s
      ((u.dropCmd tag).readGot id i c.bay none true)))

/-- R72, R481 to R485, R487, R488, R492: bring-up: VAUX power and `PWRON_RST_N` decide between S0 and S1, each stage ends in the next
one or halts with its cause, S6 ends when every bay has settled or at its limit, S5 opens service, and a management port comes up
from S3 on. -/
def Obligations.BringUpCommands : Prop :=
  (∀ (s t : State), s.boot.vaux = false → t = State.mainReset { s with boot := { s.boot with vaux := true } } 0 false →
    exec .vauxPowerOn s = .next (Ends s ((List.range t.bays).foldl (fun v n => v.seat n) t)))
  ∧ (∀ (s : State), s.boot.pwron = true →
    (s.boot.vaux = true → exec .pwronRstDeassert s = .next (Ends s (State.enter { s with boot := { s.boot with pwron := false } } 1)))
    ∧ (s.boot.vaux = false → exec .pwronRstDeassert s = .next (Ends s { s with boot := { s.boot with pwron := false } })))
  ∧ (∀ (s : State) (fail : Nat) (f : StageArg), s.cntAt Obj.bootHalted 0 = 0 → s.boot.vaux = true → s.boot.pwron = false →
    (s.cntAt Obj.bootStage 0 = 1 → fail ≠ 1 → fail ≠ 2 → exec (.stageComplete fail f) s = .next (Ends s
      (State.enter { s with clk := { s.clk with ns := 0, frac := 0, running := true } } 2)))
    ∧ (s.cntAt Obj.bootStage 0 = 1 → fail = 1 ∨ fail = 2 → exec (.stageComplete fail f) s = .next (Ends s (s.halt fail)))
    ∧ (s.cntAt Obj.bootStage 0 = 2 → fail = 3 → exec (.stageComplete fail f) s = .next (Ends s (s.halt 3)))
    ∧ (∀ t, s.cntAt Obj.bootStage 0 = 2 → fail ≠ 3 → f.msqA = false → f.msqB = false →
      t = { s with msq := { s.msq with st := .halted } } → exec (.stageComplete fail f) s = .next (Ends s (t.halt 5)))
    ∧ (∀ t slot fell, s.cntAt Obj.bootStage 0 = 2 → fail ≠ 3 → f.msqA = true → f.msqB = true →
      t = (State.updFw (State.updFw { s with msq := { s.msq with st := .paired } } 0
          (fun x => { x with fail := State.fwCheck { s with msq := { s.msq with st := .paired } } 0 f.fwA })) 1
          (fun x => { x with fail := State.fwCheck { s with msq := { s.msq with st := .paired } } 1 f.fwB })) →
      t.boot.choose (fun i => (if i = 0 then State.fwCheck { s with msq := { s.msq with st := .paired } } 0 f.fwA
        else State.fwCheck { s with msq := { s.msq with st := .paired } } 1 f.fwB) = 0) = some (slot, false, fell) →
      exec (.stageComplete fail f) s = .next (Ends s (State.enter
        (if fell then State.note (State.setCnt { t with boot := { t.boot with running := slot, isTrial := false, trial := none } }
            Obj.fwuFallback 0 1) 0xE02 0 0 0 0
         else { t with boot := { t.boot with running := slot, isTrial := false, trial := none } }) 3)))
    ∧ (∀ t v : State, s.cntAt Obj.bootStage 0 = 3 → t = s.setCnt Obj.bootEpoch 0 (wrapAdd 32 (s.cntAt Obj.bootEpoch 0) 1) →
      v = { State.bayLoad t t.dictLoad with skn := (State.bayLoad t t.dictLoad).placeInSkein } →
      exec (.stageComplete fail f) s = .next (Ends s ((v.pdPower ((List.range 44).filter (fun r =>
        !(16 ≤ r && r < 28) && (r ≠ 15 || v.rw Obj.epEnable 0 = 1)))).enter 4)))
    ∧ (s.cntAt Obj.bootStage 0 = 4 → fail = 7 → exec (.stageComplete fail f) s = .next (Ends s (s.halt 7)))
    ∧ (s.cntAt Obj.bootStage 0 = 4 → fail ≠ 7 → dimmsOk f.dimms = false → exec (.stageComplete fail f) s = .next (Ends s (s.halt 6)))
    ∧ (s.cntAt Obj.bootStage 0 = 4 → fail ≠ 7 → dimmsOk f.dimms = true → exec (.stageComplete fail f) s = .next (Ends s (s.stage4 f)))
    ∧ (s.cntAt Obj.bootStage 0 = 6 → exec (.stageComplete fail f) s = .next (Ends s (if s.allSettled then s.enter 5 else s)))
    ∧ (s.cntAt Obj.bootStage 0 = 5 → exec (.stageComplete fail f) s = .next (Ends s (s.stage5 f))))
  ∧ (∀ (s : State), s.cntAt Obj.bootStage 0 = 6 → s.cntAt Obj.bootHalted 0 = 0 → exec .s6LimitExpiry s = .next (Ends s (s.enter 5)))
  ∧ ∀ (s : State) (n : Nat), n < 2 → 3 ≤ s.cntAt Obj.bootStage 0 → s.rw Obj.mportMode n ≠ 0 →
    exec (.mgmtLinkUp n) s = .next (Ends s (s.setCnt Obj.mportLink n 1))

/-- R8, R159, R385, R488 to R491, R499: resets: VAUX undervoltage resets the Skamo die (its channels and trip counts) and the main die, `PWRON_RST_N` low resets at
once, the other causes drain first and then reset cold or warm, a domain reset drains its row alone, and a departure ends with the
Ethernet links down and `SVC_OPEN` low. -/
def Obligations.ResetCommands : Prop :=
  (∀ (s t : State), t = { s with
      bayCh := Tbl.mapRows {} (fun _ (x : Bay) => { a := x.a, b := x.b }) s.bayCh
      cnt := s.cnt.filter (fun e => e.1 / 4294967296 ≠ Obj.bayTrips) } →
    (s.boot.vaux = true → exec .vauxUndervoltage s = .next (Ends s
      (State.mainReset { t with boot := { t.boot with vaux := false }, clk := { t.clk with sk := 0 } } 0 false)))
    ∧ (s.boot.vaux = false → exec .vauxUndervoltage s = .next (Ends s s)))
  ∧ (∀ (s : State), s.boot.pwron = false →
    exec .pwronRstAssert s = .next (Ends s (State.mainReset { s with boot := { s.boot with pwron := true } } 1 false)))
  ∧ (∀ (s : State), s.boot.pwron = false → s.boot.vaux = true → s.cntAt Obj.bootStage 0 ≠ 0 →
    exec .warmRstEdge s = .next (Ends s (s.drainFor 3 false)))
  ∧ (∀ (h : Hdr), ActionRuns (.bootResetCold h) h Obj.bootReset 0 1 (fun u => u.boot.depart = none)
      (fun u => (u.actRun Obj.bootReset 0).drainFor 2 true))
  ∧ (∀ (h : Hdr), ActionRuns (.bootResetWarm h) h Obj.bootReset 0 2 (fun u => u.boot.depart = none)
      (fun u => (u.actRun Obj.bootReset 0).drainFor 4 false))
  ∧ (∀ (h : Hdr) (d : Depart), ActionRuns (.bootResetCold h) h Obj.bootReset 0 1 (fun u => u.boot.depart = some d)
      (fun u => u.actFail Obj.bootReset 0 1))
  ∧ (∀ (s : State) (code : Nat) (cold : Bool), s.boot.wait = .none →
    (s.inS7 = true → s.cntAt Obj.bootHalted 0 ≠ 1 → s.msq.st ≠ .halted →
      s.drainFor code cold = { s.triggerAll with boot := { s.boot with wait := .drain code cold } })
    ∧ (s.inS7 = false → s.drainFor code true = s.mainReset code false))
  ∧ (∀ (s : State) (code : Nat), (s.boot.wait = .drain code false → exec .preResetDrainDone s = .next (Ends s
      (s.quiesce.retain.warmReset code)))
    ∧ (s.boot.wait = .drain code true → s.rw Obj.vaultEnable 0 = 0 → exec .preResetDrainDone s = .next (Ends s
      (s.quiesce.mainReset code false)))
    ∧ (s.boot.wait = .none → exec .preResetDrainDone s = .next (Ends s s)))
  ∧ (∀ (h : Hdr) (row : Nat) (t : State → State), (∀ u, t u = { u with boot := { u.boot with domains := [row] } }) →
    ActionRuns (.bootDomainReset h row) h Obj.bootDomainReset 0 row (fun u => u.pdPresent row = true ∧ row < 15
      ∧ (u.pdAt row).st = .on ∧ u.boot.domains = [])
      (fun u => (((t u).pdTo row .draining).actRun Obj.bootDomainReset 0).domainStop row))
  ∧ (∀ (h : Hdr) (row : Nat), ActionRuns (.bootDomainReset h row) h Obj.bootDomainReset 0 row
      (fun u => u.pdPresent row = true ∧ (15 ≤ row ∧ row < 28 ∨ 40 ≤ row)) (fun u => u.actFail Obj.bootDomainReset 0 1))
  ∧ (∀ (h : Hdr) (arg : Nat), 1 ≤ arg → arg ≤ 3 → ActionRuns (.bootDepart h arg) h Obj.bootDepart 0 arg (fun u =>
      u.boot.depart = none ∧ u.boot.wait = .none ∧ u.boot.hold = false ∧ u.skn.present = false)
      (fun u => u.ownNss.foldl (fun v n => v.later (.ana n))
        ((State.actRun { u with boot := { u.boot with depart := some { arg := arg } } } Obj.bootDepart 0).triggerAll)))
  ∧ ∀ (s t : State) (d : Depart), s.boot.depart = some d → d.grace = true →
    t = State.actDone { s.ethAllDown with boot := { s.ethAllDown.boot with svcOpen := false, depart := none, hold := true } } Obj.bootDepart 0 →
    exec .departGraceExpiry s = .next (Ends s
      (if d.arg = 1 then t.drainFor 7 true else if d.arg = 2 then t.drainFor 7 false else t))

/-- R493 to R497, R503: the firmware slots: begin erases the inactive slot, the erase ends, data is stored at the offset (or waits for
the erase), verify judges the slot, activate makes it the trial slot, confirm and the trial time make the running slot the active
one, and raise_svn burns the rollback number. -/
def Obligations.FirmwareCommands : Prop :=
  (∀ (h : Hdr), ActionRuns (.fwuBegin h) h Obj.fwuBegin 0 1 (fun u => u.boot.isTrial = false)
      (fun u => ((u.updFw (1 - u.boot.running) (fun _ => {})).setCnt Obj.fwuState 0 1).actRun Obj.fwuBegin 0))
  ∧ (∀ (h : Hdr), ActionRuns (.fwuBegin h) h Obj.fwuBegin 0 1 (fun u => u.boot.isTrial = true) (fun u => u.actFail Obj.fwuBegin 0 1))
  ∧ (∀ (s : State), s.boot.fwWait = [] → s.cntAt Obj.fwuState 0 = 1 →
    exec .fwuEraseDone s = .next (Ends s ((s.setCnt Obj.fwuState 0 2).actDone Obj.fwuBegin 0)))
  ∧ (∀ (s : State) (h : Hdr) (value : Bytes) (r v : Nat) (x : Session) (u : State), s.takes h 0x09 (encItems [itemFor Obj.fwuData 0 value]) r x →
    u = s.accepted h r x → u.writeTarget x (itemFor Obj.fwuData 0 value) = (0, Obj.fwuData, 0, v) →
    (∀ b o, u.cntAt Obj.fwuState 0 = 2 → hexBytes (decStr v) = some b → b ≠ [] → o = u.rw Obj.fwuOffset 0 → o + b.length ≤ fwSlotBytes →
      exec (.fwuData h value) s = .next (Ends s (State.finish
        ((u.updFw (1 - u.boot.running) (fun x => { x with factory := false, image := storeBytes x.image o b })).setRw Obj.fwuOffset 0
          (o + b.length)) h 0x09 x (itemsReply [answer (itemFor Obj.fwuData 0 value) {}]))))
    ∧ (u.cntAt Obj.fwuState 0 = 1 → exec (.fwuData h value) s = .next (Ends s
      { u with boot := { u.boot with fwWait := u.boot.fwWait ++ [{ hdr := h, session := x, done := [], rest := [itemFor Obj.fwuData 0 value] }] } })))
  ∧ (∀ (h : Hdr) (a b c : Bool) (e : Nat), e = (if a = false then 3 else if b = false then 4 else if c = false then 5 else 0) →
    ActionRuns (.fwuVerify h a b c) h Obj.fwuVerify 0 1 (fun u => u.fwCheck (1 - u.boot.running) e = 0)
      (fun u => ((u.updFw (1 - u.boot.running) (fun x => { x with fail := 0 })).setCnt Obj.fwuState 0 4).actDone Obj.fwuVerify 0))
  ∧ (∀ (h : Hdr) (a b c : Bool) (e f : Nat), e = (if a = false then 3 else if b = false then 4 else if c = false then 5 else 0) →
    f ≠ 0 → ActionRuns (.fwuVerify h a b c) h Obj.fwuVerify 0 1 (fun u => u.fwCheck (1 - u.boot.running) e = f)
      (fun u => ((u.updFw (1 - u.boot.running) (fun x => { x with fail := f })).setCnt Obj.fwuState 0 6).actFail Obj.fwuVerify 0 f))
  ∧ (∀ (h : Hdr), ActionRuns (.fwuActivate h) h Obj.fwuActivate 0 1 (fun u => u.cntAt Obj.fwuState 0 = 4)
      (fun u => (State.setCnt { u with boot := { u.boot with trial := some (1 - u.boot.running, false) } } Obj.fwuState 0 5).actDone
        Obj.fwuActivate 0))
  ∧ (∀ (h : Hdr), ActionRuns (.fwuConfirm h) h Obj.fwuConfirm 0 1 (fun u => u.boot.isTrial = true)
      (fun u => State.actDone { u with boot := { u.boot with active := u.boot.running, trial := none, isTrial := false } } Obj.fwuConfirm 0))
  ∧ (∀ (h : Hdr), ActionRuns (.fwuConfirm h) h Obj.fwuConfirm 0 1 (fun u => u.boot.isTrial = false) (fun u => u.actFail Obj.fwuConfirm 0 1))
  ∧ (∀ (s : State), s.boot.isTrial = true → s.inS7 = true → s.rw Obj.fwuTrialConfirm 0 ≠ 0 → s.boot.wdSeen = false →
    exec .fwuTrialConfirmExpiry s = .next (Ends s
      { s with boot := { s.boot with active := s.boot.running, trial := none, isTrial := false } }))
  ∧ (∀ (h : Hdr), ActionRuns (.fwuRaiseSvn h true) h Obj.fwuRaiseSvn 0 1 (fun u => u.boot.isTrial = false)
      (fun u => State.actDone { u with boot := { u.boot with otpSvn := (u.fwSlot u.boot.running).svn } } Obj.fwuRaiseSvn 0))
  ∧ ∀ (h : Hdr), ActionRuns (.fwuRaiseSvn h false) h Obj.fwuRaiseSvn 0 1 (fun u => u.boot.isTrial = false)
      (fun u => u.actFail Obj.fwuRaiseSvn 0 2)

/-- R504, R505, R507 to R511, R515 to R517, R527, R528: self-management: a safety pass judges the sensors, moves both throttle levels,
raises its events and gives grants; a silence of the Skamo die is noted; a watchdog resets a core, then the device; a missed deadline
forces level 8; a telemetry pass publishes the loads; an injection fires its detector now and at its later occurrences. -/
def Obligations.SelfManagementCommands : Prop :=
  (∀ (s : State), s.boot.silentAt = none →
    exec .pollSilenceTimeout s = .next (Ends s { s with boot := { s.boot with silentAt := some (s.clk.sk - 100000000) } }))
  ∧ (∀ (s a b c d : State) (sensors : List Int) (watts : Nat) (hot busyE busyG : Bool) (idle : List Nat) (tj : Option Int),
    3 ≤ s.cntAt Obj.bootStage 0 → s.cntAt Obj.bootHalted 0 = 0 → a = s.pollBack.throttleNoted →
    b = (List.range (sensors.filter (fun t => !sensorOk sensors t)).length).foldl (fun t _ => t.later (.detect 0x103 0 0 0)) a →
    tj = maxInt (sensors.filter (sensorOk sensors)) →
    c = { b with boot := { b.boot with
      tj := tj, watts := watts, therm := b.thermLoop tj, power := b.powerLoop watts, forced := false, wdOnce := [] } } →
    d = (c.setCnt Obj.thermSensors 0 (sensors.zipIdx.foldl (fun m e => if sensorOk sensors e.1 then orBit m e.2 else m) 0)).levelMoved
      s.level →
    (hot = false → exec (.safetyPass sensors watts hot idle busyE busyG) s = .next (Ends s (d.shedStep idle busyE busyG).grants))
    ∧ (∀ t, hot = true → tj = some t → 123 ≤ t → exec (.safetyPass sensors watts hot idle busyE busyG) s = .next (Ends s
      ((d.later (.detect 0x102 0 0 0)).shedStep idle busyE busyG).grants)))
  ∧ (∀ (s : State) (i : Nat), s.cntAt Obj.bootStage 0 < 3 → exec (.watchdogExpiry i) s = .next (Ends s s))
  ∧ (∀ (s t : State) (core : Nat), core < 4 → 3 ≤ s.cntAt Obj.bootStage 0 →
    t = { s.addCnt 32 Obj.wdExpiries 0 1 with boot := { s.boot with wdSeen := true } } →
    (s.boot.wdOnce.contains core = false → exec (.watchdogExpiry core) s = .next (Ends s
      (State.later { t with boot := { t.boot with wdOnce := t.boot.wdOnce ++ [core] } } (.detect 0xE03 0 0 core))))
    ∧ (s.boot.wdOnce.contains core = true → exec (.watchdogExpiry core) s = .next (Ends s (t.drainFor 5 false))))
  ∧ (∀ (s t : State), t = { s.throttleNoted with boot := { s.throttleNoted.boot with forced := true } } →
    exec .safetyDeadlineExpiry s = .next (Ends s ((t.later (.detect 0xE07 0 0 0)).levelMoved s.level))
    ∧ t.level = 8)
  ∧ (∀ (s t : State) (loads : List Nat) (lag f99 r99 : Nat),
    t = (((List.range 6).foldl (fun u r => u.setCnt Obj.thmLoad r (min 100 (loads.getD r 0))) s).setCnt Obj.thmTelemetryLag 0
      (lag % 2 ^ 32)).setCnt Obj.ordFlushP99 0 (f99 % 2 ^ 32) →
    exec (.telemetryPass loads lag f99 r99) s = .next (Ends s { t with darn := { t.darn with p99 := r99 } }))
  ∧ (∀ (h : Hdr) (det row n : Nat), 1 < n → n ≤ 255 → ActionRuns (.injection h det row n) h (injCode det) row n
      (fun u => u.injDetail det row = 0 ∧ u.ev.inj.any (fun i => i.det = det && i.row = row) = false)
      (fun u => (State.actRun { u with ev := { u.ev with inj := u.ev.inj ++ [({ det := det, row := row, left := n - 1 } : InjRun)] } }
        (injCode det) row).injFire det row))
  ∧ (∀ (h : Hdr) (det row : Nat), ActionRuns (.injection h det row 1) h (injCode det) row 1
      (fun u => u.injDetail det row = 0 ∧ u.ev.inj.any (fun i => i.det = det && i.row = row) = false)
      (fun u => (u.actDone (injCode det) row).injFire det row))
  ∧ (∀ (h : Hdr) (det row n d : Nat), 1 ≤ n → n ≤ 255 → d ≠ 0 → ActionRuns (.injection h det row n) h (injCode det) row n
      (fun u => u.injDetail det row = d) (fun u => u.actFail (injCode det) row d))
  ∧ (∀ (s : State) (det row : Nat), s.rw Obj.injEnable 0 = 0 → s.injDetail det row = 1)
  ∧ ∀ (s : State) (det row : Nat) (i : InjRun), s.ev.inj.find? (fun i => i.det = det && i.row = row) = some i →
    (s.injDetail det row = 0 → i.left ≤ 1 → exec (.injectionOccurrence det row) s = .next (Ends s ((State.actDone
      { s with ev := { s.ev with inj := s.ev.inj.filter (fun j => !(j.det = det && j.row = row)) } } (injCode det) row).injFire det row)))
    ∧ (s.injDetail det row = 0 → 1 < i.left → exec (.injectionOccurrence det row) s = .next (Ends s (State.injFire
      { s with ev := { s.ev with inj := s.ev.inj.filter (fun j => !(j.det = det && j.row = row))
          ++ [({ det := det, row := row, left := i.left - 1 } : InjRun)] } } det row)))
    ∧ (s.injDetail det row ≠ 0 → exec (.injectionOccurrence det row) s = .next (Ends s (State.actFail
      { s with ev := { s.ev with inj := s.ev.inj.filter (fun j => !(j.det = det && j.row = row)) } } (injCode det) row
        (s.injDetail det row))))

/-- The queue (log entry 1): a step runs the command at the front of the queue on the state with the rest of it; on an empty queue one core
cycle passes and changes the clocks alone. -/
def Obligations.StepRunsTheFront : Prop :=
  (∀ (c : Instr) (q : List Instr) (s : State), step { s with pending := c :: q } = exec c { s with pending := q })
  ∧ (∀ (s : State), s.pending = [] → step s = .next s.tick)
  ∧ ∀ (s : State), s.tick = { s with clk := s.tick.clk }

/-- Every command of the table answers a next state in every state, and leaves the commands that wait as they were. -/
def Obligations.EveryCommandAnswers : Prop :=
  ∀ (c : Instr) (s : State), ∃ t : State, exec c s = .next t ∧ t.pending = s.pending

/-- R22, R41, R59, R227, R255, R361, R480, R481: the state after reset: stage S0, no domain, bay rail, ring, session, key or fence is
in use, every object reads its default, the reset value Tables 16-5 and 5-9 give stand, nothing waits. -/
def Obligations.ResetLeaves : Prop :=
  State.reset.pending = [] ∧ State.reset.outbox = [] ∧ State.reset.todo = []
  ∧ State.reset.cntAt Obj.bootStage 0 = 0 ∧ State.reset.cntAt Obj.bootHalted 0 = 0 ∧ State.reset.inS7 = false
  ∧ State.reset.cntAt Obj.thermSensors 0 = 0xFFFF ∧ State.reset.cntAt Obj.lblComplete 0 = 1
  ∧ State.reset.boot.vaux = false ∧ State.reset.boot.pwron = true ∧ State.reset.boot.svcOpen = false
  ∧ (∀ code row, State.reset.rw code row = dfltOf code row)
  ∧ (∀ r, (Tbl.get {} State.reset.pd r).st = .off)
  ∧ (∀ n, (State.reset.bay n).r12.st = .off ∧ (State.reset.bay n).r33.st = .off)
  ∧ (∀ n, (State.reset.mem n).st = .absent ∧ (State.reset.mem n).pos = 0xFF)
  ∧ (∀ t n, State.reset.isFenced t n = false)
  ∧ (∀ q, (State.reset.qp q).st = .idle)
  ∧ (∀ e, (State.reset.eye e).st = 0)
  ∧ (∀ r, (State.reset.ring r).st = .disabled ∧ (State.reset.ring r).weight = 1 ∧ (State.reset.ring r).burst = 8)
  ∧ (∀ c, (State.reset.chan c).st = .idle)
  ∧ ∀ i, State.reset.findSession i = none

/-- The state after reset meets the invariant of INTA: no level is asserted, and none is due (R406). -/
def Obligations.ResetIntaRight : Prop :=
  State.reset.intaRight ∧ State.reset.ep.inta = false

/-- R406: INTA. After every step of a state whose INTA is right, INTA is right: the PF's level follows the MBX, EVT, RING and SHTL
causes while MSI-X is off, unless the endpoint is FROZEN or its link is down. -/
def Obligations.IntaFollowsItsCauses : Prop :=
  ∀ (s t : State), s.intaRight → step s = .next t → t.intaRight

/-- A command whose own effect leaves nothing for the end of the step, and moves no rail, changes nothing beyond that effect. -/
def Obligations.QuietEffectIsAll : Prop :=
  ∀ (s t : State), t.quiet = true → s.railStates = t.railStates → Ends s t = { t with pending := s.pending }

/-- What the shared operations may change: each changes the one part of the state it is named for, and nothing else. -/
def Obligations.SharedOperationFrames : Prop :=
  ∀ (s : State) (a b c v : Nat),
    (∀ e, s.emit e = { s with outbox := e :: s.outbox }) ∧ (∀ t, s.later t = { s with todo := s.todo ++ [t] })
    ∧ s.setCnt a b v = { s with cnt := (s.setCnt a b v).cnt } ∧ s.addCnt c a b v = { s with cnt := (s.addCnt c a b v).cnt }
    ∧ s.setAct a b c v = { s with dict := { s.dict with act := (s.setAct a b c v).dict.act } }
    ∧ (∀ f, s.updBay a f = { s with bayCh := (s.updBay a f).bayCh }) ∧ (∀ m, s.putMem a m = { s with drv := { s.drv with mems := (s.putMem a m).drv.mems } })
    ∧ (∀ f, s.updQp a f = { s with net := { s.net with qps := (s.updQp a f).net.qps } })
    ∧ (∀ f, s.updRing a f = { s with ep := { s.ep with rings := (s.updRing a f).ep.rings } })
    ∧ (∀ f, s.updChan a f = { s with ep := { s.ep with chans := (s.updChan a f).ep.chans } })
    ∧ (∀ f, s.updEye a f = { s with net := { s.net with eyes := (s.updEye a f).net.eyes } })
    ∧ (∀ f, s.putFen a f = { s with fen := { s.fen with rows := (s.putFen a f).fen.rows } })
    ∧ (∀ x, s.putSession a x = { s with rendi := { s.rendi with sessions := (s.putSession a x).rendi.sessions } })
    ∧ (∀ t, s.setTwin t = { s with sk := { s.sk with twin := t } })
    ∧ ∀ det stype scope act detail, s.note det stype scope act detail = { s with
        ev := (s.note det stype scope act detail).ev, cnt := (s.note det stype scope act detail).cnt
        smb := (s.note det stype scope act detail).smb, rendi := (s.note det stype scope act detail).rendi
        mbx := (s.note det stype scope act detail).mbx, outbox := (s.note det stype scope act detail).outbox
        todo := (s.note det stype scope act detail).todo }

/-- R8. The Skamo die runs only from VAUX: its time advances only with VAUX, and without VAUX every bay channel is as at power-on but
for the pins; every reset of the main die, cold or warm, leaves the bay channels as they are. -/
def Obligations.SkamoKeepsItsChannels : Prop :=
  (∀ (s : State) (code : Nat) (warm : Bool), (s.mainReset code warm).bayCh = s.bayCh ∧ (s.mainReset code warm).clk.sk = s.clk.sk)
  ∧ (∀ (s : State) (code : Nat), (s.warmReset code).bayCh = s.bayCh ∧ (s.warmReset code).clk.sk = s.clk.sk)
  ∧ (∀ s : State, s.tick.clk.sk = (if s.boot.vaux then s.clk.sk + 1 else s.clk.sk))
  ∧ ∀ s : State, s.boot.vaux = true → s.vauxLow.clk.sk = 0 ∧ s.vauxLow.boot.vaux = false
      ∧ s.vauxLow.bayCh = Tbl.mapRows {} (fun _ (x : Bay) => { a := x.a, b := x.b }) s.bayCh

/-- R125, R259, R274: the device RAM that scratch eyelets and chains address: a byte reads as last written, every byte outside the bytes
written reads as before, and the write changes nothing else of the state. -/
def Obligations.RamReadsWhatWasWritten : Prop :=
  (∀ (s : State) (a n v b : Nat), Memory.wf s.net.ram = true →
    memRead (s.ramWrite a n v).net.ram b 1 =
      if a ≤ b ∧ b < a + n then v / 256 ^ (b - a) % 256 else memRead s.net.ram b 1)
  ∧ (∀ (s : State) (a n v : Nat), Memory.wf s.net.ram = true → memRead (s.ramWrite a n v).net.ram a n = v % 256 ^ n)
  ∧ ∀ (s : State) (a n v : Nat), s.ramWrite a n v = { s with net := { s.net with ram := (s.ramWrite a n v).net.ram } }

/-- R51: the body of a request or a response is the list of its items and nothing more: what is sent for a list of items reads back
as that list, every field at every value its width admits. -/
def Obligations.ItemsReadBack : Prop :=
  ∀ (l : List Item) (n : Nat), l.length ≤ n →
    (∀ i ∈ l, i.idx < 2 ^ 16 ∧ i.sub < 2 ^ 8 ∧ i.flags < 2 ^ 8 ∧ i.row < 2 ^ 32 ∧ i.stat < 2 ^ 8 ∧ i.len = i.value.length ∧ i.len < 2 ^ 16) →
    decItems n (encItems l) = some l

/-- R163, R169: a row with P over its data: complete data is read as it is, any one data block that lacks is restored from P and the others, and
with three data blocks lacking nothing can be restored. -/
def Obligations.ParityRestoresOneBlock : Prop :=
  (∀ (d : List Nat) (p q : Option Nat), Cells.decode ⟨d.map some, p, q⟩ = some d)
  ∧ (∀ (d : List Nat) (x : Nat) (q : Option Nat), x < d.length →
    Cells.decode ⟨(d.map some).set x none, some (parityP d), q⟩ = some d)
  ∧ ∀ (c : Cells), 3 ≤ c.missing.length → c.decode = none

/-- R57: a request number that a session has accepted is never accepted again, whatever it accepts after it. -/
def Obligations.SeqAcceptedOnce : Prop :=
  ∀ (x : Session) (seq now : Nat) (l : List (Nat × Nat)),
    (l.foldl (fun y e => y.accept e.1 e.2) (x.accept seq now)).accepts seq = false

/-- R372: grants. After the waiting bays have been given their grants the power counted is within `bpw.budget`, or no more than it was
before (powered bays are never turned off); a bay that does not wait for a grant is as it was. -/
def Obligations.GrantsKeepTheBudget : Prop :=
  ∀ (s : State), Tbl.wf {} s.bayCh = true →
    s.grants.allocated ≤ max s.allocated s.budget ∧ s.grants.budget = s.budget
    ∧ ∀ n, s.waitsGrant n = false → s.grants.bay n = s.bay n

/-- R35. Over the whole object dictionary an object has access ACT exactly when its type is ACTION. -/
def Obligations.ActionAccessIsActionType : Prop :=
  ∀ (code : Nat) (d : Desc), findDesc code = some d → (d.acc = .act ↔ d.ty = .action)

/-- R503. A string of `fwu.data` that spells bytes, written while `fwu.state` is neither 1 nor 2 or past the slot's end, returns CONDITION (0x07) and
stores nothing; a write while erasing (state 1) is not processed: it waits, and it is processed when the erase finishes. -/
def Obligations.FirmwareDataConditions : Prop :=
  (∀ (s : State) (x : Session) (v : Nat) (b : Bytes), hexBytes (decStr v) = some b → b ≠ [] →
    (s.cntAt Obj.fwuState 0 ≠ 1 → s.cntAt Obj.fwuState 0 ≠ 2 → s.writeValue x Obj.fwuData 0 v = some (s, 0x07))
    ∧ (s.cntAt Obj.fwuState 0 = 2 → fwSlotBytes < s.rw Obj.fwuOffset 0 + b.length → s.writeValue x Obj.fwuData 0 v = some (s, 0x07))
    ∧ (s.cntAt Obj.fwuState 0 = 1 → s.writeValue x Obj.fwuData 0 v = none))
  ∧ (∀ (s u : State) (h : Hdr) (value : Bytes) (r v : Nat) (x : Session), s.takes h 0x09 (encItems [itemFor Obj.fwuData 0 value]) r x →
    u = s.accepted h r x → u.writeTarget x (itemFor Obj.fwuData 0 value) = (0, Obj.fwuData, 0, v) → u.cntAt Obj.fwuState 0 = 1 →
    exec (.fwuData h value) s = .next (Ends s { u with boot := { u.boot with
      fwWait := u.boot.fwWait ++ [{ hdr := h, session := x, done := [], rest := [itemFor Obj.fwuData 0 value] }] } }))
  ∧ ∀ (s t : State) (w : FwWait) (l : List FwWait), s.cntAt Obj.fwuState 0 = 1 → s.boot.fwWait = w :: l →
    t = (s.setCnt Obj.fwuState 0 2).actDone Obj.fwuBegin 0 →
    exec .fwuEraseDone s = .next (Ends s (State.fwResume (w :: l) { t with boot := { t.boot with fwWait := [] } }))
end

