-- ==== Sys2Proof/Laws/Exec.lean ====
section
/-!
SUPPORT. Laws/Exec.lean: each command's own effect, as the step ends it.
-/

namespace Sys2Proof.Machine

theorem exec_pdRequest (h : Hdr) (row value : Nat) (s : State) : exec (.pdRequest h row value) s = s.act (fun t => t.writeReq h Obj.pdRequest row [value % 256] (fun u _ v => u.pdSet row v)) := rfl
theorem exec_domainReady (row : Nat) (s : State) : exec (.domainReady row) s = s.act (fun t => t.domainReady row) := rfl
theorem exec_domainDrainDone (row : Nat) (s : State) : exec (.domainDrainDone row) s = s.act (fun t => t.domainDrained row) := rfl
theorem exec_domainDrainTimeout (row : Nat) (s : State) : exec (.domainDrainTimeout row) s = s.act (fun t => t.domainStuck row) := rfl
theorem exec_ptpSync (port domain transport : Nat) (offset : Int) (s : State) : exec (.ptpSync port domain transport offset) s = s.act (fun t => t.ptpSync port domain transport offset) := rfl
theorem exec_ptpLockLost (s : State) : exec (.ptpLockLost) s = s.act (fun t => t.ptpLost) := rfl
theorem exec_detection (det stype scope detail : Nat) (s : State) : exec (.detection det stype scope detail) s = s.act (fun t => t.detection det stype scope detail) := rfl
theorem exec_notifyTimerExpiry (sub : Nat) (s : State) : exec (.notifyTimerExpiry sub) s = s.act (fun t => t.sendNtf sub) := rfl
theorem exec_coalesceWindowExpiry (det stype scope : Nat) (s : State) : exec (.coalesceWindowExpiry det stype scope) s = s.act (fun t => t.coalesceEnd det stype scope) := rfl
theorem exec_hello (h : Hdr) (slot level : Nat) (nonce : Bytes) (s : State) : exec (.hello h slot level nonce) s = s.act (fun t => t.helloOp h slot level nonce) := rfl
theorem exec_openReq (h : Hdr) (s : State) : exec (.openReq h) s = s.act (fun t => t.openOp h) := rfl
theorem exec_closeReq (h : Hdr) (s : State) : exec (.closeReq h) s = s.act (fun t => t.closeMsg h) := rfl
theorem exec_readReq (h : Hdr) (items : List Item) (s : State) : exec (.readReq h items) s = s.act (fun t => t.readMsg h items) := rfl
theorem exec_writeReq (h : Hdr) (items : List Item) (s : State) : exec (.writeReq h items) s = s.act (fun t => t.writeMsg h items) := rfl
theorem exec_commitReq (h : Hdr) (s : State) : exec (.commitReq h) s = s.act (fun t => t.commitMsg h) := rfl
theorem exec_commitWriteDone (ok : Bool) (s : State) : exec (.commitWriteDone ok) s = s.act (fun t => t.commitDone ok) := rfl
theorem exec_subscribe (h : Hdr) (groups scopes start : Nat) (s : State) : exec (.subscribe h groups scopes start) s = s.act (fun t => t.subscribeMsg h groups scopes start) := rfl
theorem exec_unsubscribe (h : Hdr) (sub : Nat) (s : State) : exec (.unsubscribe h sub) s = s.act (fun t => t.unsubscribeMsg h sub) := rfl
theorem exec_halfOpenExpiry (id : Nat) (s : State) : exec (.halfOpenExpiry id) s = s.act (fun t => t.halfOpenEnd id) := rfl
theorem exec_sessionIdleTimeout (row : Nat) (s : State) : exec (.sessionIdleTimeout row) s = s.act (fun t => t.idleEnd row) := rfl
theorem exec_dictRestoreDiscard (h : Hdr) (s : State) : exec (.dictRestoreDiscard h) s = s.act (fun t => t.actionReq h Obj.dictRestore 0 1 true State.restoreDiscard) := rfl
theorem exec_dictRestoreFactory (h : Hdr) (s : State) : exec (.dictRestoreFactory h) s = s.act (fun t => t.actionReq h Obj.dictRestore 0 2 true State.restoreFactory) := rfl
theorem exec_dictRestoreSlot (h : Hdr) (s : State) : exec (.dictRestoreSlot h) s = s.act (fun t => t.actionReq h Obj.dictRestore 0 3 true State.restoreSlot) := rfl
theorem exec_dictRestoreAll (h : Hdr) (s : State) : exec (.dictRestoreAll h) s = s.act (fun t => t.actionReq h Obj.dictRestoreAll 0 1 true State.restoreAll) := rfl
theorem exec_sessClose (h : Hdr) (row : Nat) (s : State) : exec (.sessClose h row) s = s.act (fun t => t.actionReq h Obj.sessClose row 1 true (fun u => u.sessCloseOp row)) := rfl
theorem exec_keyValueWrite (h : Hdr) (row : Nat) (value : Bytes) (s : State) : exec (.keyValueWrite h row value) s = s.act (fun t => t.writeReq h Obj.keyValue row value (fun u x v => u.keySet x row v)) := rfl
theorem exec_keyLevelWrite (h : Hdr) (row level : Nat) (s : State) : exec (.keyLevelWrite h row level) s = s.act (fun t => t.writeReq h Obj.keyLevel row [level % 256] (fun u _ v => u.keyLevelSet row v)) := rfl
theorem exec_mailboxGo (queued : Nat) (s : State) : exec (.mailboxGo queued) s = s.act (fun t => t.posted (.mailboxGo queued)) := rfl
theorem exec_mailboxRspClear (s : State) : exec (.mailboxRspClear) s = s.act (fun t => t.posted .mailboxRspClear) := rfl
theorem exec_mailboxNtfClear (s : State) : exec (.mailboxNtfClear) s = s.act (fun t => t.posted .mailboxNtfClear) := rfl
theorem exec_registerWrite (func off : Nat) (value : BitVec 32) (s : State) : exec (.registerWrite func off value) s = s.act (fun t => t.posted (.registerWrite func off value)) := rfl
theorem exec_smbReadStage (s : State) : exec (.smbReadStage) s = s.act (fun t => if t.boot.vaux then t.smbStage else t) := rfl
theorem exec_smbReadIdentity (s : State) : exec (.smbReadIdentity) s = s.act (fun t => t.smbIdentity) := rfl
theorem exec_smbReadEvents (s : State) : exec (.smbReadEvents) s = s.act (fun t => t.smbEvents) := rfl
theorem exec_smbSelectObject (idx sub flags row : Nat) (pecBad : Bool) (s : State) : exec (.smbSelectObject idx sub flags row pecBad) s = s.act (fun t => t.smbSelect idx sub flags row pecBad) := rfl
theorem exec_smbReadObject (s : State) : exec (.smbReadObject) s = s.act (fun t => t.smbObject) := rfl
theorem exec_smbAlertResponse (s : State) : exec (.smbAlertResponse) s = s.act (fun t => t.smbAlert) := rfl
theorem exec_geoActivate (h : Hdr) (g : Nat) (s : State) : exec (.geoActivate h g) s = s.act (fun t => t.actionReqS h Obj.geoActivate g 1 (fun u => u.geoActivateOp g)) := rfl
theorem exec_geoTablesGenerated (g : Nat) (s : State) : exec (.geoTablesGenerated g) s = s.act (fun t => t.geoGenerated g) := rfl
theorem exec_geoMapAck (g : Nat) (ok : Bool) (s : State) : exec (.geoMapAck g ok) s = s.act (fun t => t.geoAck g ok) := rfl
theorem exec_geoRetire (h : Hdr) (g : Nat) (s : State) : exec (.geoRetire h g) s = s.act (fun t => t.actionReqS h Obj.geoActivate g 2 (fun u => u.geoRetireOp g)) := rfl
theorem exec_mapCopyAck (blk : Nat) (s : State) : exec (.mapCopyAck blk) s = s.act (fun t => t.mapAck blk) := rfl
theorem exec_mapCopyDone (s : State) : exec (.mapCopyDone) s = s.act (fun t => t.mapCopyDone) := rfl
theorem exec_nsSlotsFreed (ns : Nat) (s : State) : exec (.nsSlotsFreed ns) s = s.act (fun t => t.slotsFreed ns) := rfl
theorem exec_zeroInitDone (entry : Nat) (s : State) : exec (.zeroInitDone entry) s = s.act (fun t => t.zeroDone entry) := rfl
theorem exec_zeroWalkStep (s : State) : exec (.zeroWalkStep) s = s.act (fun t => t.zeroWalk) := rfl
theorem exec_boltMigrate (h : Hdr) (entry geo : Nat) (s : State) : exec (.boltMigrate h entry geo) s = s.act (fun t => t.actionReqS h Obj.boltMigrate entry geo (fun u => u.actMigrate entry geo)) := rfl
theorem exec_migrationStart (entry : Nat) (s : State) : exec (.migrationStart entry) s = s.act (fun t => t.migStart entry) := rfl
theorem exec_migrationStripeCopy (entry : Nat) (cells : List Cell) (s : State) : exec (.migrationStripeCopy entry cells) s = s.act (fun t => t.migCopy entry cells) := rfl
theorem exec_migrationRecordRetire (entry : Nat) (s : State) : exec (.migrationRecordRetire entry) s = s.act (fun t => t.migRetire entry) := rfl
theorem exec_migrationSourceFree (entry : Nat) (s : State) : exec (.migrationSourceFree entry) s = s.act (fun t => t.migSourceFree entry) := rfl
theorem exec_copybackStripe (pos : Nat) (cells : List Cell) (s : State) : exec (.copybackStripe pos cells) s = s.act (fun t => t.copybackStripe pos cells) := rfl
theorem exec_frameReserve (ns : Nat) (s : State) : exec (.frameReserve ns) s = s.act (fun t => t.serveFrames ns) := rfl
theorem exec_fillReadDone (cmd range row : Nat) (ok : Bool) (data pi : Nat) (s : State) : exec (.fillReadDone cmd range row ok data pi) s = s.act (fun t => t.fillReadDone cmd range row (if ok then some ⟨data, pi⟩ else none)) := rfl
theorem exec_holdTimerExpiry (entry sel stripe : Nat) (s : State) : exec (.holdTimerExpiry entry sel stripe) s = s.act (fun t => t.holdOver ⟨entry, sel, stripe⟩) := rfl
theorem exec_destageStart (entry sel stripe : Nat) (s : State) : exec (.destageStart entry sel stripe) s = s.act (fun t => t.destageStart ⟨entry, sel, stripe⟩) := rfl
theorem exec_fillInDone (entry sel stripe : Nat) (cells : List Cell) (s : State) : exec (.fillInDone entry sel stripe cells) s = s.act (fun t => t.fillInDone ⟨entry, sel, stripe⟩ cells) := rfl
theorem exec_bastingRecordPersisted (jseq : Nat) (s : State) : exec (.bastingRecordPersisted jseq) s = s.act (fun t => t.recPersisted jseq) := rfl
theorem exec_destageEncode (entry sel stripe : Nat) (bad : List Cell) (s : State) : exec (.destageEncode entry sel stripe bad) s = s.act (fun t => t.destageEncode ⟨entry, sel, stripe⟩ (cellArgs bad)) := rfl
theorem exec_memberCompletion (tag status : Nat) (data : List (Nat × Nat)) (s : State) : exec (.memberCompletion tag status data) s = s.act (fun t => t.memberCpl tag status (blkArgs data)) := rfl
theorem exec_darningDecodeDone (cmd blk : Nat) (s : State) : exec (.darningDecodeDone cmd blk) s = s.act (fun t => t.decodeDone cmd blk) := rfl
theorem exec_mirrorResyncDone (s : State) : exec (.mirrorResyncDone) s = s.act (fun t => t.resyncDone) := rfl
theorem exec_mirrorRegionShrink (s : State) : exec (.mirrorRegionShrink) s = s.act (fun t => t.regionShrink t.hoopDirty) := rfl
theorem exec_journalPageTimer (s : State) : exec (.journalPageTimer) s = s.act (fun t => t.writePage) := rfl
theorem exec_journalPageWriteDone (page copy : Nat) (ok : Bool) (s : State) : exec (.journalPageWriteDone page copy ok) s = s.act (fun t => t.pageDone page copy ok) := rfl
theorem exec_journalRehomeDone (s : State) : exec (.journalRehomeDone) s = s.act (fun t => t.rehomeDone) := rfl
theorem exec_bastJournalMove (h : Hdr) (pos : Nat) (s : State) : exec (.bastJournalMove h pos) s = s.act (fun t => t.actionReqS h Obj.bastJournalMove 0 pos (fun u => u.actJournalMove pos)) := rfl
theorem exec_resyncStripe (cells : List Cell) (s : State) : exec (.resyncStripe cells) s = s.act (fun t => t.resyncStripe cells) := rfl
theorem exec_pwrfailFiltered (s : State) : exec (.pwrfailFiltered) s = s.act (fun t => t.pwrfailOp) := rfl
theorem exec_vaultChunkWriteDone (ok : Bool) (s : State) : exec (.vaultChunkWriteDone ok) s = s.act (fun t => t.chunkDone ok) := rfl
theorem exec_vaultFlushDone (held : Bool) (s : State) : exec (.vaultFlushDone held) s = s.act (fun t => t.flushDone held) := rfl
theorem exec_vaultTest (h : Hdr) (s : State) : exec (.vaultTest h) s = s.act (fun t => t.actionReq h Obj.vaultTest 0 1 true State.vaultTestOp) := rfl
theorem exec_reconstructStripe (pos : Nat) (cells : List Cell) (s : State) : exec (.reconstructStripe pos cells) s = s.act (fun t => t.reconstructStripe pos cells) := rfl
theorem exec_criticalStripe (a b : Nat) (cells : List Cell) (s : State) : exec (.criticalStripe a b cells) s = s.act (fun t => t.criticalStripe a b cells) := rfl
theorem exec_rateControllerWindow (reads p99 : Nat) (s : State) : exec (.rateControllerWindow reads p99) s = s.act (fun t => (t.rateWindow reads p99).throttleRates) := rfl
theorem exec_relistStripe (cells : List Cell) (s : State) : exec (.relistStripe cells) s = s.act (fun t => t.relistStripe cells) := rfl
theorem exec_scrubStripe (cells : List Cell) (s : State) : exec (.scrubStripe cells) s = s.act (fun t => t.scrubStripe cells) := rfl
theorem exec_scrubStart (h : Hdr) (s : State) : exec (.scrubStart h) s = s.act (fun t => t.actionReq h Obj.scrubStart 0 1 true State.scrubStartOp) := rfl
theorem exec_proactiveCopyStart (pos : Nat) (s : State) : exec (.proactiveCopyStart pos) s = s.act (fun t => t.copyStart pos) := rfl
theorem exec_proactiveCopyStripe (pos : Nat) (cells : List Cell) (s : State) : exec (.proactiveCopyStripe pos cells) s = s.act (fun t => t.copyStripe pos cells) := rfl
theorem exec_ethLinkUp (port sub : Nat) (matched : Bool) (s : State) : exec (.ethLinkUp port sub matched) s = s.act (fun t => t.ethUp port sub matched) := rfl
theorem exec_ethLinkDown (port sub : Nat) (s : State) : exec (.ethLinkDown port sub) s = s.act (fun t => t.ethDown port sub) := rfl
theorem exec_arpRequest (k : Pkt) (target : Nat) (s : State) : exec (.arpRequest k target) s = s.act (fun t => t.resolveAddr k target false) := rfl
theorem exec_neighborSolicitation (k : Pkt) (target : Nat) (s : State) : exec (.neighborSolicitation k target) s = s.act (fun t => t.resolveAddr k target true) := rfl
theorem exec_pfcPause (port prio quanta : Nat) (s : State) : exec (.pfcPause port prio quanta) s = s.act (fun t => t.pfcPause port prio quanta) := rfl
theorem exec_pauseQuantaExpiry (port prio : Nat) (s : State) : exec (.pauseQuantaExpiry port prio) s = s.act (fun t => t.pauseOver port prio) := rfl
theorem exec_pfcRepeatTimer (port prio level : Nat) (s : State) : exec (.pfcRepeatTimer port prio level) s = s.act (fun t => t.pfcRepeat port prio level) := rfl
theorem exec_pfcWatchdogExpiry (port prio : Nat) (s : State) : exec (.pfcWatchdogExpiry port prio) s = s.act (fun t => t.pfcTrip port prio) := rfl
theorem exec_pfcWatchdogRecovery (port prio : Nat) (s : State) : exec (.pfcWatchdogRecovery port prio) s = s.act (fun t => t.pfcRecover port prio) := rfl
theorem exec_cmReq (k : Pkt) (q : CmReq) (s : State) : exec (.cmReq k q) s = s.act (fun t => t.cmReqIn k q) := rfl
theorem exec_cmReqAdmit (s : State) : exec (.cmReqAdmit) s = s.act (fun t => t.cmAdmit) := rfl
theorem exec_cmRtu (k : Pkt) (row : Nat) (s : State) : exec (.cmRtu k row) s = s.act (fun t => t.cmIn k row (fun u => u.toActive row)) := rfl
theorem exec_cmRej (k : Pkt) (row : Nat) (s : State) : exec (.cmRej k row) s = s.act (fun t => t.cmIn k row (fun u => u.rejIn row)) := rfl
theorem exec_cmDreq (k : Pkt) (row : Nat) (s : State) : exec (.cmDreq k row) s = s.act (fun t => t.cmIn k row (fun u => u.dreqIn row)) := rfl
theorem exec_connectingTimeout (row : Nat) (s : State) : exec (.connectingTimeout row) s = s.act (fun t => t.rejIn row) := rfl
theorem exec_ack (k : Pkt) (s : State) : exec (.ack k) s = s.act (fun t => t.receive (.ack k)) := rfl
theorem exec_nakSequenceError (k : Pkt) (s : State) : exec (.nakSequenceError k) s = s.act (fun t => t.receive (.nakSequenceError k)) := rfl
theorem exec_rnrNak (k : Pkt) (s : State) : exec (.rnrNak k) s = s.act (fun t => t.receive (.rnrNak k)) := rfl
theorem exec_nakError (k : Pkt) (code : Nat) (s : State) : exec (.nakError k code) s = s.act (fun t => t.receive (.nakError k code)) := rfl
theorem exec_rdmaReadResponse (k : Pkt) (len data : Nat) (s : State) : exec (.rdmaReadResponse k len data) s = s.act (fun t => t.receive (.rdmaReadResponse k len data)) := rfl
theorem exec_cnp (k : Pkt) (s : State) : exec (.cnp k) s = s.act (fun t => t.receive (.cnp k)) := rfl
theorem exec_invalidOpcodePacket (k : Pkt) (op : Nat) (s : State) : exec (.invalidOpcodePacket k op) s = s.act (fun t => t.receive (.invalidOpcodePacket k op)) := rfl
theorem exec_ackTimeout (row : Nat) (s : State) : exec (.ackTimeout row) s = s.act (fun t => t.retryFrom row (t.qp row).una) := rfl
theorem exec_rnrWaitExpiry (row : Nat) (s : State) : exec (.rnrWaitExpiry row) s = s.act (fun t => t.rnrOver row) := rfl
theorem exec_ackCoalesceTimer (row : Nat) (s : State) : exec (.ackCoalesceTimer row) s = s.act (fun t => if 0 < (t.qp row).since then t.sendAck row else t) := rfl
theorem exec_alphaTimer (row : Nat) (s : State) : exec (.alphaTimer row) s = s.act (fun t => t.alphaTimer row) := rfl
theorem exec_rpTimer (row : Nat) (s : State) : exec (.rpTimer row) s = s.act (fun t => t.rpTimer row) := rfl
theorem exec_contextFetchStart (row : Nat) (s : State) : exec (.contextFetchStart row) s = s.act (fun t => t.fetchStart row) := rfl
theorem exec_contextFetchDone (row : Nat) (s : State) : exec (.contextFetchDone row) s = s.act (fun t => t.fetchDone row) := rfl
theorem exec_qpDrainComplete (row : Nat) (s : State) : exec (.qpDrainComplete row) s = s.act (fun t => t.drainDone row) := rfl
theorem exec_drainTimeout (row : Nat) (s : State) : exec (.drainTimeout row) s = s.act (fun t => t.drainTimeout row) := rfl
theorem exec_keepaliveExpiry (ctrl : Nat) (s : State) : exec (.keepaliveExpiry ctrl) s = s.act (fun t => t.kaExpired ctrl) := rfl
theorem exec_qpClose (h : Hdr) (row : Nat) (s : State) : exec (.qpClose h row) s = s.act (fun t => t.actionReq h Obj.qpClose row 1 true (fun u => u.qpCloseOp row)) := rfl
theorem exec_qpPinWrite (h : Hdr) (row value : Nat) (s : State) : exec (.qpPinWrite h row value) s = s.act (fun t => t.writeReq h Obj.qpPin row [value % 256] (fun u _ v => u.pinSet row v)) := rfl
theorem exec_fabricsConnect (k : Pkt) (cid qid sqsize kato cntlid : Nat) (tbkas : Bool) (nqn subnqn hostId : Nat) (s : State) : exec (.fabricsConnect k cid qid sqsize kato cntlid tbkas nqn subnqn hostId) s = s.act (fun t => t.receive (.fabricsConnect k cid qid sqsize kato cntlid tbkas nqn subnqn hostId)) := rfl
theorem exec_propertyGet (k : Pkt) (cid off : Nat) (s : State) : exec (.propertyGet k cid off) s = s.act (fun t => t.receive (.propertyGet k cid off)) := rfl
theorem exec_propertySet (k : Pkt) (cid off value : Nat) (s : State) : exec (.propertySet k cid off value) s = s.act (fun t => t.receive (.propertySet k cid off value)) := rfl
theorem exec_disconnect (k : Pkt) (cid : Nat) (s : State) : exec (.disconnect k cid) s = s.act (fun t => t.receive (.disconnect k cid)) := rfl
theorem exec_identify (k : Pkt) (cid cns nsid : Nat) (sgl : Sgl) (s : State) : exec (.identify k cid cns nsid sgl) s = s.act (fun t => t.receive (.identify k cid cns nsid sgl)) := rfl
theorem exec_getLogPage (k : Pkt) (cid lid off : Nat) (rae : Bool) (sgl : Sgl) (s : State) : exec (.getLogPage k cid lid off rae sgl) s = s.act (fun t => t.receive (.getLogPage k cid lid off rae sgl)) := rfl
theorem exec_setFeatures (k : Pkt) (cid fid value : Nat) (s : State) : exec (.setFeatures k cid fid value) s = s.act (fun t => t.receive (.setFeatures k cid fid value)) := rfl
theorem exec_getFeatures (k : Pkt) (cid fid : Nat) (s : State) : exec (.getFeatures k cid fid) s = s.act (fun t => t.receive (.getFeatures k cid fid)) := rfl
theorem exec_asynchronousEventRequest (k : Pkt) (cid : Nat) (s : State) : exec (.asynchronousEventRequest k cid) s = s.act (fun t => t.receive (.asynchronousEventRequest k cid)) := rfl
theorem exec_keepAlive (k : Pkt) (cid : Nat) (s : State) : exec (.keepAlive k cid) s = s.act (fun t => t.receive (.keepAlive k cid)) := rfl
theorem exec_abort (k : Pkt) (cid : Nat) (s : State) : exec (.abort k cid) s = s.act (fun t => t.receive (.abort k cid)) := rfl
theorem exec_nvmeRead (k : Pkt) (cid nsid slba nlb : Nat) (pr : PrInfo) (sgl : Sgl) (s : State) : exec (.nvmeRead k cid nsid slba nlb pr sgl) s = s.act (fun t => t.receive (.nvmeRead k cid nsid slba nlb pr sgl)) := rfl
theorem exec_nvmeWrite (k : Pkt) (cid nsid slba nlb : Nat) (pr : PrInfo) (sgl : Sgl) (s : State) : exec (.nvmeWrite k cid nsid slba nlb pr sgl) s = s.act (fun t => t.receive (.nvmeWrite k cid nsid slba nlb pr sgl)) := rfl
theorem exec_writeZeroes (k : Pkt) (cid nsid slba nlb : Nat) (s : State) : exec (.writeZeroes k cid nsid slba nlb) s = s.act (fun t => t.receive (.writeZeroes k cid nsid slba nlb)) := rfl
theorem exec_nvmeFlush (k : Pkt) (cid nsid : Nat) (s : State) : exec (.nvmeFlush k cid nsid) s = s.act (fun t => t.receive (.nvmeFlush k cid nsid)) := rfl
theorem exec_rdmaWrite (k : Pkt) (first last : Bool) (key va len plen payload : Nat) (s : State) : exec (.rdmaWrite k first last key va len plen payload) s = s.act (fun t => t.receive (.rdmaWrite k first last key va len plen payload)) := rfl
theorem exec_knotWrite (k : Pkt) (key va len payload : Nat) (s : State) : exec (.knotWrite k key va len payload) s = s.act (fun t => t.receive (.knotWrite k key va len payload)) := rfl
theorem exec_rdmaRead (k : Pkt) (key va len : Nat) (s : State) : exec (.rdmaRead k key va len) s = s.act (fun t => t.receive (.rdmaRead k key va len)) := rfl
theorem exec_eyeletFlush (k : Pkt) (s : State) : exec (.eyeletFlush k) s = s.act (fun t => t.receive (.eyeletFlush k)) := rfl
theorem exec_eyeletWritePlaced (id : Nat) (s : State) : exec (.eyeletWritePlaced id) s = s.act (fun t => t.writePlaced id) := rfl
theorem exec_chainArm (k : Pkt) (c : Ceth) (s : State) : exec (.chainArm k c) s = s.act (fun t => t.receive (.chainArm k c)) := rfl
theorem exec_chainDisarm (k : Pkt) (c : Ceth) (s : State) : exec (.chainDisarm k c) s = s.act (fun t => t.receive (.chainDisarm k c)) := rfl
theorem exec_sendWithImmediate (k : Pkt) (imm len payload : Nat) (s : State) : exec (.sendWithImmediate k imm len payload) s = s.act (fun t => t.receive (.sendWithImmediate k imm len payload)) := rfl
theorem exec_chainHeldTriggerStart (s : State) : exec (.chainHeldTriggerStart) s = s.act (fun t => t.startHeld) := rfl
theorem exec_wrRead (slot : Nat) (s : State) : exec (.wrRead slot) s = s.act (fun t => t.wrRead slot) := rfl
theorem exec_wrWrite (slot : Nat) (s : State) : exec (.wrWrite slot) s = s.act (fun t => t.wrOut slot [2, 3]) := rfl
theorem exec_wrSend (slot : Nat) (s : State) : exec (.wrSend slot) s = s.act (fun t => t.wrOut slot [4, 5]) := rfl
theorem exec_wrLink (slot : Nat) (s : State) : exec (.wrLink slot) s = s.act (fun t => t.wrLink slot) := rfl
theorem exec_wrNop (slot : Nat) (s : State) : exec (.wrNop slot) s = s.act (fun t => t.wrNop slot) := rfl
theorem exec_workRequestComplete (slot wr : Nat) (s : State) : exec (.workRequestComplete slot wr) s = s.act (fun t => t.wrComplete slot wr) := rfl
theorem exec_chainDisarmAction (h : Hdr) (slot : Nat) (s : State) : exec (.chainDisarmAction h slot) s = s.act (fun t => t.actionReq h Obj.chainDisarm slot 1 true (fun u => u.chainDisarmAct slot)) := rfl
theorem exec_eyeRegister (h : Hdr) (row : Nat) (s : State) : exec (.eyeRegister h row) s = s.act (fun t => t.actionReq h Obj.eyeRegister row 1 true (fun u => u.eyeRegister row)) := rfl
theorem exec_eyeRevoke (h : Hdr) (row : Nat) (s : State) : exec (.eyeRevoke h row) s = s.act (fun t => t.actionReq h Obj.eyeRevoke row 1 true (fun u => u.eyeRevokeOp State.disarm row)) := rfl
theorem exec_eyeRevokeTimeout (row : Nat) (s : State) : exec (.eyeRevokeTimeout row) s = s.act (fun t => t.revokeTimeout row) := rfl
theorem exec_eyeCommit (h : Hdr) (row : Nat) (s : State) : exec (.eyeCommit h row) s = s.act (fun t => t.actionReq h Obj.eyeCommit row 1 true (fun u => u.eyeCommitOp row)) := rfl
theorem exec_keyCacheUpdateDone (row : Nat) (s : State) : exec (.keyCacheUpdateDone row) s = s.act (fun t => t.cacheDone row) := rfl
theorem exec_eyeCommitTimeout (row : Nat) (s : State) : exec (.eyeCommitTimeout row) s = s.act (fun t => t.commitTimeout row) := rfl
theorem exec_fenceRelease (h : Hdr) (row : Nat) (clear : Bool) (s : State) : exec (.fenceRelease h row clear) s = s.act (fun t => t.actionReq h Obj.fenRelease row 1 true (fun u => u.releaseRow row clear)) := rfl
theorem exec_fenceDrainDone (row : Nat) (s : State) : exec (.fenceDrainDone row) s = s.act (fun t => t.fenDrainOver row) := rfl
theorem exec_fenceDrainTimeout (row : Nat) (s : State) : exec (.fenceDrainTimeout row) s = s.act (fun t => t.fenDrainTimeout row) := rfl
theorem exec_fenceReleasedTimeout (row : Nat) (s : State) : exec (.fenceReleasedTimeout row) s = s.act (fun t => t.fenForget row) := rfl
theorem exec_selEngage (h : Hdr) (s : State) : exec (.selEngage h) s = s.act (fun t => t.actionReq h Obj.selEngage 0 1 true State.selEngageOp) := rfl
theorem exec_msqMismatch (slices : Nat) (aFaulty bFaulty : Bool) (s : State) : exec (.msqMismatch slices aFaulty bFaulty) s = s.act (fun t => t.msqFault false (slices % 18446744073709551616) aFaulty bFaulty) := rfl
theorem exec_msqRepair (h : Hdr) (selfTest : Bool) (s : State) : exec (.msqRepair h selfTest) s = s.act (fun t => t.actionReq h Obj.msqRepair 0 1 true (fun u => u.msqRepairOp selfTest)) := rfl
theorem exec_msqResyncDone (equal : Bool) (s : State) : exec (.msqResyncDone equal) s = s.act (fun t => t.msqResyncDone false equal) := rfl
theorem exec_msqCmpTest (h : Hdr) (pass : Bool) (s : State) : exec (.msqCmpTest h pass) s = s.act (fun t => t.actionReq h Obj.msqCmpTest 0 1 true (fun u => u.cmpTestOp pass)) := rfl
theorem exec_cmpTestPeriodExpiry (pass : Bool) (s : State) : exec (.cmpTestPeriodExpiry pass) s = s.act (fun t => if t.msq.st = .paired ∧ t.rw Obj.msqCmpTestPeriod 0 ≠ 0 then t.sliceTest pass else t) := rfl
theorem exec_msqSwitchTest (h : Hdr) (arg : Nat) (s : State) : exec (.msqSwitchTest h arg) s = s.act (fun t => t.actionReqS h Obj.msqSwitchTest 0 arg (fun u => u.actSwitchTest arg)) := rfl
theorem exec_cellArrival (src dst cls seq plane : Nat) (crcOk : Bool) (s : State) : exec (.cellArrival src dst cls seq plane crcOk) s = s.act (fun t => t.cellArrival src dst cls seq plane crcOk) := rfl
theorem exec_receiptCredit (src dst cls seq : Nat) (s : State) : exec (.receiptCredit src dst cls seq) s = s.act (fun t => t.receipt src dst cls seq) := rfl
theorem exec_hemGapTimeout (src dst cls : Nat) (s : State) : exec (.hemGapTimeout src dst cls) s = s.act (fun t => t.gapTimeout src dst cls) := rfl
theorem exec_frameAssembly (port sub : Nat) (s : State) : exec (.frameAssembly port sub) s = s.act (fun t => t.assemble port sub) := rfl
theorem exec_holdExpiry (port sub : Nat) (s : State) : exec (.holdExpiry port sub) s = s.act (fun t => t.holdExpiry port sub) := rfl
theorem exec_planeTest (h : Hdr) (plane : Nat) (s : State) : exec (.planeTest h plane) s = s.act (fun t => t.actionReq h Obj.planeTest plane 1 true (fun u => u.planeTestOp plane)) := rfl
theorem exec_planeTestDone (plane : Nat) (pass : Bool) (s : State) : exec (.planeTestDone plane pass) s = s.act (fun t => t.planeTestDone plane pass) := rfl
theorem exec_frameTransmit (port sub : Nat) (s : State) : exec (.frameTransmit port sub) s = s.act (fun t => t.transmit port sub) := rfl
theorem exec_calendarSlot (port : Nat) (s : State) : exec (.calendarSlot port) s = s.act (fun t => t.calendarSlot port) := rfl
theorem exec_bucketRefill (port : Nat) (s : State) : exec (.bucketRefill port) s = s.act (fun t => t.bucketRefill port) := rfl
theorem exec_tensionModeSwitchBack (port : Nat) (s : State) : exec (.tensionModeSwitchBack port) s = s.act (fun t => t.switchBack port) := rfl
theorem exec_policerModeWrite (h : Hdr) (row : Nat) (aware : Bool) (value : Nat) (s : State) : exec (.policerModeWrite h row aware value) s = s.act (fun t => t.writeReq h (if aware then Obj.polAware else Obj.polMode) row [value % 256] (fun u _ v => u.polSet (if aware then Obj.polAware else Obj.polMode) row v)) := rfl
theorem exec_driveLinkDown (bay : Nat) (s : State) : exec (.driveLinkDown bay) s = s.act (fun t => t.linkFail bay) := rfl
theorem exec_driveUncorrectableError (bay : Nat) (s : State) : exec (.driveUncorrectableError bay) s = s.act (fun t => t.linkFail bay) := rfl
theorem exec_driveLinkRecovered (bay speed width : Nat) (s : State) : exec (.driveLinkRecovered bay speed width) s = s.act (fun t => t.linkBack bay speed width) := rfl
theorem exec_driveRecoverTimeout (bay : Nat) (partnerPath : Bool) (s : State) : exec (.driveRecoverTimeout bay partnerPath) s = s.act (fun t => t.recoverTimeout bay partnerPath) := rfl
theorem exec_dlinkRetrain (h : Hdr) (bay : Nat) (s : State) : exec (.dlinkRetrain h bay) s = s.act (fun t => t.actionReq h Obj.dlinkRetrain bay 1 true (fun u => u.retrainOp bay)) := rfl
theorem exec_perstDeassert (bay : Nat) (s : State) : exec (.perstDeassert bay) s = s.act (fun t => t.perstUp bay) := rfl
theorem exec_driveLinkUp (bay speed width : Nat) (s : State) : exec (.driveLinkUp bay speed width) s = s.act (fun t => t.driveUp bay speed width) := rfl
theorem exec_probeDone (bay fail serial model capacity queues : Nat) (volatile : Bool) (array gen : Nat) (s : State) : exec (.probeDone bay fail serial model capacity queues volatile array gen) s = s.act (fun t => t.probeIn ⟨bay, fail, serial, model, capacity, queues, volatile, array, gen⟩) := rfl
theorem exec_commandTimeout (tag : Nat) (s : State) : exec (.commandTimeout tag) s = s.act (fun t => t.cmdTimeout tag) := rfl
theorem exec_abortTimeout (tag : Nat) (s : State) : exec (.abortTimeout tag) s = s.act (fun t => t.abortTimeout tag) := rfl
theorem exec_controllerFatalStatus (bay : Nat) (s : State) : exec (.controllerFatalStatus bay) s = s.act (fun t => t.ctrlReset bay) := rfl
theorem exec_controllerResetDone (bay : Nat) (ok : Bool) (s : State) : exec (.controllerResetDone bay ok) s = s.act (fun t => t.resetDone bay ok) := rfl
theorem exec_healthPoll (bay warn pct media : Nat) (s : State) : exec (.healthPoll bay warn pct media) s = s.act (fun t => t.health bay warn pct media) := rfl
theorem exec_memberAsyncEvent (bay warn pct media : Nat) (s : State) : exec (.memberAsyncEvent bay warn pct media) s = s.act (fun t => t.health bay warn pct media) := rfl
theorem exec_memberTempPoll (bay temp : Nat) (s : State) : exec (.memberTempPoll bay temp) s = s.act (fun t => t.memTemp bay temp) := rfl
theorem exec_absentGraceExpiry (bay : Nat) (s : State) : exec (.absentGraceExpiry bay) s = s.act (fun t => t.graceExpired bay) := rfl
theorem exec_memAssign (h : Hdr) (bay arg : Nat) (s : State) : exec (.memAssign h bay arg) s = s.act (fun t => t.actionReqS h Obj.memAssign bay arg (fun u => u.actAssign bay arg)) := rfl
theorem exec_memRetire (h : Hdr) (bay : Nat) (s : State) : exec (.memRetire h bay) s = s.act (fun t => t.actionReq h Obj.memRetire bay 1 true (fun u => u.retire bay)) := rfl
theorem exec_memClearFailing (h : Hdr) (bay : Nat) (s : State) : exec (.memClearFailing h bay) s = s.act (fun t => t.actionReq h Obj.memClearFailing bay 1 true (fun u => u.clearFailing bay)) := rfl
theorem exec_presenceChange (bay : Nat) (aLow bLow : Bool) (s : State) : exec (.presenceChange bay aLow bLow) s = s.act (fun t => t.presenceIn bay aLow bLow) := rfl
theorem exec_debounceComplete (bay : Nat) (s : State) : exec (.debounceComplete bay) s = s.act (fun t => t.debounced bay) := rfl
theorem exec_partnerRampTimeout (bay : Nat) (s : State) : exec (.partnerRampTimeout bay) s = s.act (fun t => t.partnerRampTimeout bay) := rfl
theorem exec_railOn (bay : Nat) (rail33 : Bool) (s : State) : exec (.railOn bay rail33) s = s.act (fun t => t.railOn bay rail33) := rfl
theorem exec_rampTimeout (bay : Nat) (rail33 : Bool) (cur src : Nat) (s : State) : exec (.rampTimeout bay rail33 cur src) s = s.act (fun t => t.rampTimeout bay rail33 cur src) := rfl
theorem exec_currentLimitReached (bay : Nat) (rail33 : Bool) (s : State) : exec (.currentLimitReached bay rail33) s = s.act (fun t => t.limitReached bay rail33) := rfl
theorem exec_limitExit (bay : Nat) (rail33 : Bool) (s : State) : exec (.limitExit bay rail33) s = s.act (fun t => t.limitExit bay rail33) := rfl
theorem exec_faultTimerExpiry (bay : Nat) (rail33 : Bool) (cur src : Nat) (s : State) : exec (.faultTimerExpiry bay rail33 cur src) s = s.act (fun t => t.faultTimer bay rail33 cur src) := rfl
theorem exec_fastTrip (bay : Nat) (rail33 : Bool) (cur src : Nat) (s : State) : exec (.fastTrip bay rail33 cur src) s = s.act (fun t => t.fastTrip bay rail33 cur src) := rfl
theorem exec_srcDischarged (bay : Nat) (both : Bool) (s : State) : exec (.srcDischarged bay both) s = s.act (fun t => t.srcDown bay both) := rfl
theorem exec_retryTimerExpiry (bay : Nat) (s : State) : exec (.retryTimerExpiry bay) s = s.act (fun t => t.retryExpired bay) := rfl
theorem exec_goodTimeExpiry (bay : Nat) (s : State) : exec (.goodTimeExpiry bay) s = s.act (fun t => t.goodTime bay) := rfl
theorem exec_passElementFault (bay : Nat) (rail33 : Bool) (cur src : Nat) (s : State) : exec (.passElementFault bay rail33 cur src) s = s.act (fun t => t.passFault bay rail33 cur src) := rfl
theorem exec_oringReverse (bay : Nat) (rail33 : Bool) (s : State) : exec (.oringReverse bay rail33) s = s.act (fun t => t.orReverse bay rail33) := rfl
theorem exec_oringDropHigh (bay : Nat) (rail33 : Bool) (cur src : Nat) (s : State) : exec (.oringDropHigh bay rail33 cur src) s = s.act (fun t => t.orDrop bay rail33 cur src) := rfl
theorem exec_bayEnableWrite (h : Hdr) (bay value : Nat) (s : State) : exec (.bayEnableWrite h bay value) s = s.act (fun t => t.writeReq h Obj.bayEnable bay [value % 256] (fun u _ v => u.bayEnableSet bay v)) := rfl
theorem exec_perstOffWaitExpiry (bay : Nat) (s : State) : exec (.perstOffWaitExpiry bay) s = s.act (fun t => t.offWait bay) := rfl
theorem exec_bayLimitWrite (h : Hdr) (bay sub value : Nat) (s : State) : exec (.bayLimitWrite h bay sub value) s = s.act (fun t => t.limitWrite h bay sub value) := rfl
theorem exec_bayClear (h : Hdr) (bay : Nat) (s : State) : exec (.bayClear h bay) s = s.act (fun t => t.actionReq h Obj.bayClear bay 1 true (fun u => u.bayClearOp bay)) := rfl
theorem exec_shuntCalibration (h : Hdr) (bay : Nat) (rail33 : Bool) (known : Nat) (s : State) : exec (.shuntCalibration h bay rail33 known) s = s.act (fun t => t.actionReqS h (if rail33 then Obj.bayCal33 else Obj.bayCal12) bay known (fun u => u.actCal bay known rail33)) := rfl
theorem exec_shuntCalibrationDone (bay : Nat) (rail33 : Bool) (measured : Nat) (varied : Bool) (s : State) : exec (.shuntCalibrationDone bay rail33 measured varied) s = s.act (fun t => t.calDone bay rail33 measured varied) := rfl
theorem exec_measurementSample (bay : Nat) (i12 : Int) (v12 : Nat) (i33 : Int) (v33 src12 src33 : Nat) (s : State) : exec (.measurementSample bay i12 v12 i33 v33 src12 src33) s = s.act (fun t => t.measure bay i12 v12 i33 v33 src12 src33) := rfl
theorem exec_epPerst (low : Bool) (s : State) : exec (.epPerst low) s = s.act (fun t => t.perstIn low) := rfl
theorem exec_hotReset (s : State) : exec (.hotReset) s = s.act (fun t => t.epReset) := rfl
theorem exec_epLinkDown (s : State) : exec (.epLinkDown) s = s.act (fun t => t.epReset) := rfl
theorem exec_endpointLinkUp (speed width : Nat) (s : State) : exec (.endpointLinkUp speed width) s = s.act (fun t => t.epLink speed width) := rfl
theorem exec_configRequest (fn : Nat) (f : CfgField) (w : Option Nat) (s : State) : exec (.configRequest fn f w) s = s.act (fun t => t.cfgRequest fn f w) := rfl
theorem exec_functionLevelReset (fn : Nat) (s : State) : exec (.functionLevelReset fn) s = s.act (fun t => t.ifCfg fn (fun u => u.flr fn)) := rfl
theorem exec_bmeClear (fn : Nat) (s : State) : exec (.bmeClear fn) s = s.act (fun t => t.ifCfg fn (fun u => u.bmeClear fn)) := rfl
theorem exec_d3hotEntry (fn : Nat) (s : State) : exec (.d3hotEntry fn) s = s.act (fun t => t.ifCfg fn (fun u => u.d3Entry fn)) := rfl
theorem exec_fnResume (fn : Nat) (s : State) : exec (.fnResume fn) s = s.act (fun t => t.posted (.fnResume fn)) := rfl
theorem exec_containmentRelease (h : Option Hdr) (clear : Bool) (s : State) : exec (.containmentRelease h clear) s = s.act (fun t => t.releaseIn_ h clear) := rfl
theorem exec_msixUnmask (fn vec : Nat) (s : State) : exec (.msixUnmask fn vec) s = s.act (fun t => t.posted (.msixUnmask fn vec)) := rfl
theorem exec_peerWrite (reqid off len data : Nat) (ro poison : Bool) (s : State) : exec (.peerWrite reqid off len data ro poison) s = s.act (fun t => t.posted (.peerWrite reqid off len data ro poison)) := rfl
theorem exec_peerRead (reqid tag off len : Nat) (ro : Bool) (s : State) : exec (.peerRead reqid tag off len ro) s = s.act (fun t => t.nonPosted (.peerRead reqid tag off len ro) reqid tag len ro) := rfl
theorem exec_windowCommit (w : Nat) (s : State) : exec (.windowCommit w) s = s.act (fun t => t.posted (.windowCommit w)) := rfl
theorem exec_windowUpdatePoint (w : Nat) (s : State) : exec (.windowUpdatePoint w) s = s.act (fun t => t.winUpdate w) := rfl
theorem exec_pcieCompletion (id fn status data : Nat) (s : State) : exec (.pcieCompletion id fn status data) s = s.act (fun t => t.completion id fn status data) := rfl
theorem exec_completionTimeout (id : Nat) (s : State) : exec (.completionTimeout id) s = s.act (fun t => t.readTimeout id) := rfl
theorem exec_ringDb (fn loc : Nat) (s : State) : exec (.ringDb fn loc) s = s.act (fun t => t.posted (.ringDb fn loc)) := rfl
theorem exec_ringFetchTurn (s : State) : exec (.ringFetchTurn) s = s.act (fun t => t.fetchTurn) := rfl
theorem exec_ringFetchDone (id : Nat) (ents : List Nat) (s : State) : exec (.ringFetchDone id ents) s = s.act (fun t => t.fetchIn id ents) := rfl
theorem exec_nop (r idx : Nat) (s : State) : exec (.nop r idx) s = s.act (fun t => t.ringNop r idx) := rfl
theorem exec_nsRead (r idx : Nat) (s : State) : exec (.nsRead r idx) s = s.act (fun t => t.ringNsRead r idx) := rfl
theorem exec_nsWrite (r idx : Nat) (s : State) : exec (.nsWrite r idx) s = s.act (fun t => t.ringNsWrite r idx) := rfl
theorem exec_eyeRead (r idx : Nat) (s : State) : exec (.eyeRead r idx) s = s.act (fun t => t.ringEyeRead r idx) := rfl
theorem exec_eyeWrite (r idx : Nat) (s : State) : exec (.eyeWrite r idx) s = s.act (fun t => t.ringEyeWrite r idx) := rfl
theorem exec_eyeFlush (r idx : Nat) (s : State) : exec (.eyeFlush r idx) s = s.act (fun t => t.ringFlush r idx) := rfl
theorem exec_ringJobComplete (r idx : Nat) (s : State) : exec (.ringJobComplete r idx) s = s.act (fun t => t.jobComplete r idx) := rfl
theorem exec_ringEnable (fn loc value : Nat) (s : State) : exec (.ringEnable fn loc value) s = s.act (fun t => t.posted (.ringEnable fn loc value)) := rfl
theorem exec_ringDisable (fn loc value : Nat) (s : State) : exec (.ringDisable fn loc value) s = s.act (fun t => t.posted (.ringDisable fn loc value)) := rfl
theorem exec_ringRestart (fn loc value : Nat) (s : State) : exec (.ringRestart fn loc value) s = s.act (fun t => t.posted (.ringRestart fn loc value)) := rfl
theorem exec_irqHoldoffExpiry (r : Nat) (s : State) : exec (.irqHoldoffExpiry r) s = s.act (fun t => t.holdoffOver r) := rfl
theorem exec_shuttleEnqueue (fn c value : Nat) (s : State) : exec (.shuttleEnqueue fn c value) s = s.act (fun t => t.posted (.shuttleEnqueue fn c value)) := rfl
theorem exec_shuttleGo (fn c : Nat) (s : State) : exec (.shuttleGo fn c) s = s.act (fun t => t.posted (.shuttleGo fn c)) := rfl
theorem exec_shuttleStop (fn c : Nat) (s : State) : exec (.shuttleStop fn c) s = s.act (fun t => t.posted (.shuttleStop fn c)) := rfl
theorem exec_shuttleReset (fn c : Nat) (s : State) : exec (.shuttleReset fn c) s = s.act (fun t => t.posted (.shuttleReset fn c)) := rfl
theorem exec_shuttleCqHead (fn c value : Nat) (s : State) : exec (.shuttleCqHead fn c value) s = s.act (fun t => t.posted (.shuttleCqHead fn c value)) := rfl
theorem exec_shuttleDescriptorFetched (id word : Nat) (s : State) : exec (.shuttleDescriptorFetched id word) s = s.act (fun t => t.descIn id word) := rfl
theorem exec_shuttleDescriptorDone (c : Nat) (s : State) : exec (.shuttleDescriptorDone c) s = s.act (fun t => t.shDone c) := rfl
theorem exec_heartbeat (h : SkHdr) (stage flags owned dirver : Nat) (s : State) : exec (.heartbeat h stage flags owned dirver) s = s.act (fun t => t.skIn h (.heartbeat stage flags owned dirver) (fun u => u.beatIn h.row flags)) := rfl
theorem exec_heartbeatPeriod (s : State) : exec (.heartbeatPeriod) s = s.act (fun t => t.beatOut) := rfl
theorem exec_viewExpiry (row : Nat) (s : State) : exec (.viewExpiry row) s = s.act (fun t => t.viewExpiry row) := rfl
theorem exec_joinMsg (h : SkHdr) (digest hosts : Nat) (s : State) : exec (.joinMsg h digest hosts) s = s.act (fun t => t.skIn h (.join digest hosts) (fun u => u.joinIn h.row h.role digest hosts)) := rfl
theorem exec_welcome (h : SkHdr) (deputy version : Nat) (dir : List DirEnt) (s : State) : exec (.welcome h deputy version dir) s = s.act (fun t => t.skIn h (.welcome deputy version dir) (fun u => u.welcomeIn h.row deputy version dir)) := rfl
theorem exec_leaveMsg (h : SkHdr) (s : State) : exec (.leaveMsg h) s = s.act (fun t => t.skIn h .leave (fun u => u.leaveIn h.row)) := rfl
theorem exec_dirUpdate (h : SkHdr) (version : Nat) (dir : List DirEnt) (s : State) : exec (.dirUpdate h version dir) s = s.act (fun t => t.skIn h (.dirUpdate version dir) (fun u => u.dirUpdateIn h.row version dir)) := rfl
theorem exec_dirAck (h : SkHdr) (version : Nat) (s : State) : exec (.dirAck h version) s = s.act (fun t => t.skIn h (.dirAck version) (fun u => u.dirAckIn h.row version)) := rfl
theorem exec_confirmQuery (h : SkHdr) (row : Nat) (s : State) : exec (.confirmQuery h row) s = s.act (fun t => t.skIn h (.confirmQuery row) (fun u => u.confirmQueryIn h.row row)) := rfl
theorem exec_confirmReply (h : SkHdr) (row : Nat) (missing : Bool) (ms : Nat) (taken : List Nat) (s : State) : exec (.confirmReply h row missing ms taken) s = s.act (fun t => t.skIn h (.confirmReply row missing ms) (fun u => u.confirmReplyIn h.row row missing taken)) := rfl
theorem exec_takeoverRequest (h : SkHdr) (cause : Nat) (s : State) : exec (.takeoverRequest h cause) s = s.act (fun t => t.skIn h (.takeoverRequest cause) (fun u => if u.skn.partner = some h.row then u.partnerLost true else u)) := rfl
theorem exec_takeoverNotice (h : SkHdr) (lost adopted : Nat) (s : State) : exec (.takeoverNotice h lost adopted) s = s.act (fun t => t.skIn h (.takeoverNotice lost adopted) (fun u => u.noticeIn h.row lost)) := rfl
theorem exec_handover (h : SkHdr) (nss : List Nat) (step : Nat) (s : State) : exec (.handover h nss step) s = s.act (fun t => t.skIn h (.handover nss step) (fun u => if u.skn.partner = some h.row then u.handoverIn nss step else u)) := rfl
theorem exec_guardExpiry (s : State) : exec (.guardExpiry) s = s.act (fun t => t.guardExpiry) := rfl
theorem exec_takeoverPreemptDone (pos result solo : Nat) (recs : List JArg) (s : State) : exec (.takeoverPreemptDone pos result solo recs) s = s.act (fun t => t.preemptDone pos result solo recs) := rfl
theorem exec_twinLinkUp (lanes : Nat) (s : State) : exec (.twinLinkUp lanes) s = s.act (fun t => t.twinLinkUp lanes) := rfl
theorem exec_twinLinkDown (s : State) : exec (.twinLinkDown) s = s.act (fun t => t.twinDown) := rfl
theorem exec_pair (h : TwHdr) (dev side : Nat) (region : Bool) (ceiling : Nat) (s : State) : exec (.pair h dev side region ceiling) s = s.act (fun t => t.pairIn h dev side region ceiling) := rfl
theorem exec_twinIdle (h : TwHdr) (s : State) : exec (.twinIdle h) s = s.act (fun t => t.twinIdleIn h) := rfl
theorem exec_twinNak (h : TwHdr) (s : State) : exec (.twinNak h) s = s.act (fun t => t.twinNakIn h) := rfl
theorem exec_twinIdleTimer (s : State) : exec (.twinIdleTimer) s = s.act (fun t => t.twinIdleTimer) := rfl
theorem exec_twinAckTimeout (s : State) : exec (.twinAckTimeout) s = s.act (fun t => t.twinResend) := rfl
theorem exec_mirrorWrite (h : TwHdr) (k : FKey) (mseq : Nat) (blks : List Cell) (s : State) : exec (.mirrorWrite h k mseq blks) s = s.act (fun t => t.twinIn h (fun u => u.mirrorWriteIn h.epoch k mseq blks)) := rfl
theorem exec_mirrorAck (h : TwHdr) (seqs : List Nat) (s : State) : exec (.mirrorAck h seqs) s = s.act (fun t => t.twinIn h (fun u => u.mirrorAcked seqs)) := rfl
theorem exec_mirrorRelease (h : TwHdr) (keys : List FKey) (s : State) : exec (.mirrorRelease h keys) s = s.act (fun t => t.twinIn h (fun u => u.releaseIn keys)) := rfl
theorem exec_journalFrame (h : TwHdr) (recs : List JArg) (s : State) : exec (.journalFrame h recs) s = s.act (fun t => t.twinIn h (fun u => u.journalIn recs)) := rfl
theorem exec_vaultNotice (h : TwHdr) (s : State) : exec (.vaultNotice h) s = s.act (fun t => t.twinIn h (fun u => u)) := rfl
theorem exec_keeperFrame (h : TwHdr) (m : KMsg) (s : State) : exec (.keeperFrame h m) s = s.act (fun t => t.twinIn h (fun u => u.keeperIn m)) := rfl
theorem exec_proxyCmd (h : TwHdr) (tag bay kind lba count : Nat) (data : List (Nat × Nat)) (s : State) : exec (.proxyCmd h tag bay kind lba count data) s = s.act (fun t => t.twinIn h (fun u => u.proxyCmdIn tag bay kind lba count data)) := rfl
theorem exec_proxyCpl (h : TwHdr) (tag status : Nat) (data : List (Nat × Nat)) (s : State) : exec (.proxyCpl h tag status data) s = s.act (fun t => t.twinIn h (fun u => u.memberCpl tag status (blkArgs data))) := rfl
theorem exec_ownMove (h : Hdr) (ns : Nat) (s : State) : exec (.ownMove h ns) s = s.act (fun t => t.actionReq h Obj.ownMove ns 1 true (fun u => u.ownMoveOp ns)) := rfl
theorem exec_ownMoveHome (h : Hdr) (s : State) : exec (.ownMoveHome h) s = s.act (fun t => t.actionReq h Obj.ownMoveHome 0 1 true State.moveHomeOp) := rfl
theorem exec_moveDrainDone (s : State) : exec (.moveDrainDone) s = s.act (fun t => t.moveDrainDone) := rfl
theorem exec_moveTimeout (s : State) : exec (.moveTimeout) s = s.act (fun t => t.moveTimeout) := rfl
theorem exec_sknLeave (h : Hdr) (s : State) : exec (.sknLeave h) s = s.act (fun t => t.actionReq h Obj.sknLeave 0 1 true State.leaveOp) := rfl
theorem exec_sknRejoin (h : Hdr) (s : State) : exec (.sknRejoin h) s = s.act (fun t => t.actionReq h Obj.sknLeave 0 2 true State.rejoinOp) := rfl
theorem exec_anattExpiry (s : State) : exec (.anattExpiry) s = s.act (fun t => t.anattExpiry) := rfl
theorem exec_vauxUndervoltage (s : State) : exec (.vauxUndervoltage) s = s.act (fun t => t.vauxLow) := rfl
theorem exec_pollSilenceTimeout (s : State) : exec (.pollSilenceTimeout) s = s.act (fun t => t.pollSilent) := rfl
theorem exec_safetyPass (sensors : List Int) (watts : Nat) (hot : Bool) (idle : List Nat) (busyEngines busyGroups : Bool) (s : State) : exec (.safetyPass sensors watts hot idle busyEngines busyGroups) s = s.act (fun t => t.safetyPass sensors watts hot idle busyEngines busyGroups) := rfl
theorem exec_vauxPowerOn (s : State) : exec (.vauxPowerOn) s = s.act (fun t => t.vauxOn) := rfl
theorem exec_pwronRstAssert (s : State) : exec (.pwronRstAssert) s = s.act (fun t => t.pwronLow) := rfl
theorem exec_pwronRstDeassert (s : State) : exec (.pwronRstDeassert) s = s.act (fun t => t.pwronHigh) := rfl
theorem exec_warmRstEdge (s : State) : exec (.warmRstEdge) s = s.act (fun t => t.warmEdge) := rfl
theorem exec_stageComplete (fail : Nat) (f : StageArg) (s : State) : exec (.stageComplete fail f) s = s.act (fun t => t.stageDone fail f) := rfl
theorem exec_s6LimitExpiry (s : State) : exec (.s6LimitExpiry) s = s.act (fun t => t.s6Limit) := rfl
theorem exec_mgmtLinkUp (port : Nat) (s : State) : exec (.mgmtLinkUp port) s = s.act (fun t => t.mgmtUp port) := rfl
theorem exec_bootResetCold (h : Hdr) (s : State) : exec (.bootResetCold h) s = s.act (fun t => t.actionReq h Obj.bootReset 0 1 true (fun u => u.bootReset true)) := rfl
theorem exec_bootResetWarm (h : Hdr) (s : State) : exec (.bootResetWarm h) s = s.act (fun t => t.actionReq h Obj.bootReset 0 2 true (fun u => u.bootReset false)) := rfl
theorem exec_preResetDrainDone (s : State) : exec (.preResetDrainDone) s = s.act (fun t => t.drainOver) := rfl
theorem exec_bootDomainReset (h : Hdr) (row : Nat) (s : State) : exec (.bootDomainReset h row) s = s.act (fun t => t.actionReqS h Obj.bootDomainReset 0 row (fun u => u.domainReset row)) := rfl
theorem exec_bootDepart (h : Hdr) (arg : Nat) (s : State) : exec (.bootDepart h arg) s = s.act (fun t => t.actionReqS h Obj.bootDepart 0 arg (fun u => u.actDepart arg)) := rfl
theorem exec_departGraceExpiry (s : State) : exec (.departGraceExpiry) s = s.act (fun t => t.departEnd) := rfl
theorem exec_fwuBegin (h : Hdr) (s : State) : exec (.fwuBegin h) s = s.act (fun t => t.actionReq h Obj.fwuBegin 0 1 true State.fwuBegin) := rfl
theorem exec_fwuEraseDone (s : State) : exec (.fwuEraseDone) s = s.act (fun t => t.eraseDone) := rfl
theorem exec_fwuData (h : Hdr) (value : Bytes) (s : State) : exec (.fwuData h value) s = s.act (fun t => t.writeMsg h [itemFor Obj.fwuData 0 value]) := rfl
theorem exec_fwuVerify (h : Hdr) (hashOk sigOk digestOk : Bool) (s : State) : exec (.fwuVerify h hashOk sigOk digestOk) s = s.act (fun t => t.actionReq h Obj.fwuVerify 0 1 true (fun u => u.fwuVerify hashOk sigOk digestOk)) := rfl
theorem exec_fwuActivate (h : Hdr) (s : State) : exec (.fwuActivate h) s = s.act (fun t => t.actionReq h Obj.fwuActivate 0 1 true State.fwuActivate) := rfl
theorem exec_fwuConfirm (h : Hdr) (s : State) : exec (.fwuConfirm h) s = s.act (fun t => t.actionReq h Obj.fwuConfirm 0 1 true State.fwuConfirm) := rfl
theorem exec_fwuTrialConfirmExpiry (s : State) : exec (.fwuTrialConfirmExpiry) s = s.act (fun t => t.fwuTrialOver) := rfl
theorem exec_fwuRaiseSvn (h : Hdr) (cells : Bool) (s : State) : exec (.fwuRaiseSvn h cells) s = s.act (fun t => t.actionReq h Obj.fwuRaiseSvn 0 1 true (fun u => u.fwuRaise cells)) := rfl
theorem exec_watchdogExpiry (core : Nat) (s : State) : exec (.watchdogExpiry core) s = s.act (fun t => t.watchdog core) := rfl
theorem exec_safetyDeadlineExpiry (s : State) : exec (.safetyDeadlineExpiry) s = s.act (fun t => t.deadline) := rfl
theorem exec_telemetryPass (loads : List Nat) (lag : Nat) (flushP99 readP99 : Nat) (s : State) : exec (.telemetryPass loads lag flushP99 readP99) s = s.act (fun t => t.telemetry loads lag flushP99 readP99) := rfl
theorem exec_injection (h : Hdr) (det row n : Nat) (s : State) : exec (.injection h det row n) s = s.act (fun t => t.actionReqS h (injCode det) row n (fun u => u.actInject det row n)) := rfl
theorem exec_injectionOccurrence (det row : Nat) (s : State) : exec (.injectionOccurrence det row) s = s.act (fun t => t.injNext det row) := rfl

end Sys2Proof.Machine
end

