-- ==== Sys2Proof/Laws/Table.lean ====
section
/-!
SUPPORT. Laws/Table.lean: reading a table after a write, and the canonical form that every write keeps.
-/

namespace Sys2Proof.Machine

variable {α : Type}

@[simp] theorem Tbl.get_nil (d : α) (i : Nat) : Tbl.get d [] i = d := rfl

theorem Tbl.get_drop_of_ne (d : α) (t : Tbl α) {i j : Nat} (h : j ≠ i) : Tbl.get d (Tbl.drop t i) j = Tbl.get d t j := by
  induction t with
  | nil => rfl
  | cons e t ih =>
    obtain ⟨k, v⟩ := e
    simp only [Tbl.drop]
    split
    · rename_i hk
      simp only [Tbl.get]
      rw [if_neg (by omega)]
    · simp only [Tbl.get, ih]

theorem Tbl.get_put (d : α) (t : Tbl α) (i j : Nat) (x : α) :
    Tbl.get d (Tbl.put t i x) j = if j = i then x else Tbl.get d t j := by
  induction t with
  | nil => simp only [Tbl.put, Tbl.get]
  | cons e t ih =>
    obtain ⟨k, v⟩ := e
    simp only [Tbl.put]
    split
    · simp only [Tbl.get]
    · split
      · rename_i h1 h2
        subst h2
        simp only [Tbl.get]
        split <;> rfl
      · rename_i h1 h2
        simp only [Tbl.get, ih]
        by_cases hk : j = k
        · subst hk
          rw [if_pos rfl, if_neg (by omega), if_pos rfl]
        · rw [if_neg hk, if_neg hk]

/-- Below its keys, and at any key it does not list, a table reads as the default. -/
theorem Tbl.get_below [DecidableEq α] (d : α) (t : Tbl α) {lo i : Nat} (h : Tbl.wfFrom d lo t = true) (hi : i < lo) :
    Tbl.get d t i = d := by
  induction t generalizing lo with
  | nil => rfl
  | cons e t ih =>
    obtain ⟨k, v⟩ := e
    simp only [Tbl.wfFrom, Bool.and_eq_true, decide_eq_true_eq] at h
    simp only [Tbl.get]
    rw [if_neg (by omega)]
    exact ih h.2 (by omega)

theorem Tbl.wfFrom_mono [DecidableEq α] (d : α) (t : Tbl α) {a b : Nat} (h : Tbl.wfFrom d b t = true) (hab : a ≤ b) :
    Tbl.wfFrom d a t = true := by
  cases t with
  | nil => rfl
  | cons e t =>
    obtain ⟨k, v⟩ := e
    simp only [Tbl.wfFrom, Bool.and_eq_true, decide_eq_true_eq] at h ⊢
    exact ⟨⟨by omega, h.1.2⟩, h.2⟩

theorem Tbl.wfFrom_drop [DecidableEq α] (d : α) (t : Tbl α) (i : Nat) {lo : Nat} (h : Tbl.wfFrom d lo t = true) :
    Tbl.wfFrom d lo (Tbl.drop t i) = true := by
  induction t generalizing lo with
  | nil => rfl
  | cons e t ih =>
    obtain ⟨k, v⟩ := e
    simp only [Tbl.wfFrom, Bool.and_eq_true, decide_eq_true_eq] at h
    simp only [Tbl.drop]
    split
    · exact Tbl.wfFrom_mono d t h.2 (by omega)
    · simp only [Tbl.wfFrom, Bool.and_eq_true, decide_eq_true_eq]
      exact ⟨h.1, ih h.2⟩

theorem Tbl.wfFrom_put [DecidableEq α] (d : α) (t : Tbl α) {i : Nat} {x : α} (hx : x ≠ d) {lo : Nat} (hi : lo ≤ i)
    (h : Tbl.wfFrom d lo t = true) : Tbl.wfFrom d lo (Tbl.put t i x) = true := by
  induction t generalizing lo with
  | nil => simp [Tbl.put, Tbl.wfFrom, hi, hx]
  | cons e t ih =>
    obtain ⟨k, v⟩ := e
    simp only [Tbl.wfFrom, Bool.and_eq_true, decide_eq_true_eq] at h
    simp only [Tbl.put]
    split
    · simp only [Tbl.wfFrom, Bool.and_eq_true, decide_eq_true_eq]
      exact ⟨⟨hi, hx⟩, ⟨by omega, h.1.2⟩, h.2⟩
    · split
      · rename_i h1 h2
        subst h2
        simp only [Tbl.wfFrom, Bool.and_eq_true, decide_eq_true_eq]
        exact ⟨⟨hi, hx⟩, h.2⟩
      · simp only [Tbl.wfFrom, Bool.and_eq_true, decide_eq_true_eq]
        exact ⟨h.1, ih (by omega) h.2⟩

/-- A write keeps the canonical form. -/
theorem Tbl.wf_set [DecidableEq α] (d : α) (t : Tbl α) (i : Nat) (x : α) (h : Tbl.wf d t = true) :
    Tbl.wf d (Tbl.set d t i x) = true := by
  unfold Tbl.set
  split
  · exact Tbl.wfFrom_drop d t i h
  · rename_i hx
    exact Tbl.wfFrom_put d t hx (Nat.zero_le i) h

theorem Tbl.get_drop_self [DecidableEq α] (d : α) (t : Tbl α) (i : Nat) {lo : Nat} (h : Tbl.wfFrom d lo t = true) :
    Tbl.get d (Tbl.drop t i) i = d := by
  induction t generalizing lo with
  | nil => rfl
  | cons e t ih =>
    obtain ⟨k, v⟩ := e
    simp only [Tbl.wfFrom, Bool.and_eq_true, decide_eq_true_eq] at h
    simp only [Tbl.drop]
    split
    · exact Tbl.get_below d t h.2 (by omega)
    · rename_i hk
      simp only [Tbl.get]
      rw [if_neg (fun e => hk e)]
      exact ih h.2

/-- A key reads as what was last written there. -/
theorem Tbl.get_set_self [DecidableEq α] (d : α) (t : Tbl α) (i : Nat) (x : α) (h : Tbl.wf d t = true) :
    Tbl.get d (Tbl.set d t i x) i = x := by
  unfold Tbl.set
  split
  · rename_i hx
    rw [hx]
    exact Tbl.get_drop_self d t i h
  · rw [Tbl.get_put, if_pos rfl]

/-- A write leaves every other key alone. -/
theorem Tbl.get_set_of_ne [DecidableEq α] (d : α) (t : Tbl α) {i j : Nat} (x : α) (h : j ≠ i) :
    Tbl.get d (Tbl.set d t i x) j = Tbl.get d t j := by
  unfold Tbl.set
  split
  · exact Tbl.get_drop_of_ne d t h
  · rw [Tbl.get_put, if_neg h]

theorem Tbl.get_upd_of_ne [DecidableEq α] (d : α) (t : Tbl α) {i j : Nat} (f : α → α) (h : j ≠ i) :
    Tbl.get d (Tbl.upd d t i f) j = Tbl.get d t j := Tbl.get_set_of_ne d t _ h

theorem Tbl.get_upd_self [DecidableEq α] (d : α) (t : Tbl α) (i : Nat) (f : α → α) (h : Tbl.wf d t = true) :
    Tbl.get d (Tbl.upd d t i f) i = f (Tbl.get d t i) := Tbl.get_set_self d t i _ h

theorem Tbl.wf_upd [DecidableEq α] (d : α) (t : Tbl α) (i : Nat) (f : α → α) (h : Tbl.wf d t = true) :
    Tbl.wf d (Tbl.upd d t i f) = true := Tbl.wf_set d t i _ h

end Sys2Proof.Machine
end

