-- ==== Sys2Proof/Laws/Memory.lean ====
section
/-!
SUPPORT. Laws/Memory.lean: the device RAM that eyelets address keeps its canonical form at every write.
-/

namespace Sys2Proof.Machine

theorem Memory.wf_memWrite (n : Nat) : ∀ (m : Tbl Nat) (a v : Nat), Memory.wf m = true → Memory.wf (memWrite m a n v) = true := by
  induction n with
  | zero => intro m a v h; exact h
  | succ n ih => intro m a v h; exact ih _ _ _ (Tbl.wf_set 0 m a _ h)

theorem State.wf_ramWrite (s : State) (a n v : Nat) (h : Memory.wf s.net.ram = true) :
    Memory.wf (s.ramWrite a n v).net.ram = true := Memory.wf_memWrite n _ _ _ h

theorem State.wf_reset_ram : Memory.wf State.reset.net.ram = true := rfl

end Sys2Proof.Machine
end

