-- ==== Sys2Proof/Laws/Settle.lean ====
section
/-!
SUPPORT. Laws/Settle.lean: how a command ends: its own effect, then the consequences; a state with nothing left to do stays as
it is.
-/

namespace Sys2Proof.Machine

/-- A command whose effect on `s` makes `t` ends in `Ends s t`. -/
theorem State.act_eq (s t : State) (f : State → State) (h : f s = t) : s.act f = .next (Ends s t) := by subst h; rfl

theorem State.settleTodo_nil (n : Nat) (s : State) (h : s.todo = []) : State.settleTodo n s = s := by
  cases n with
  | zero => rfl
  | succ n => simp only [State.settleTodo, h]

/-- A posted write that is served at once does what its TLP does. -/
theorem State.posted_open (s : State) (i : Instr) (h : s.barOpen) : s.posted i = s.tlp i := by
  obtain ⟨h1, h2, h3, h4⟩ := h
  unfold State.posted
  split
  · rfl
  · rw [if_neg (by simp [h1, h2]), if_neg (by simp [h3, h4])]

theorem Ends_pending (s t : State) : (Ends s t).pending = s.pending := rfl

theorem Ends_todo (s t : State) : (Ends s t).todo = [] := rfl

theorem Ends_force (s t : State) : (Ends s t).ev.force = none := rfl

end Sys2Proof.Machine
end

