-- ==== Sys2Proof/Laws/Packets.lean ====
section
/-!
SUPPORT. Laws/Packets.lean: what a packet that reaches its QP does.
-/

namespace Sys2Proof.Machine

/-- Only a CNP is counted. -/
theorem State.countCnp_request {i : Instr} {k : Pkt} (t : State) (j : Pkt) (h : pktOf i = some (k, true)) : t.countCnp j i = t := by
  unfold State.countCnp
  split
  · simp [pktOf] at h
  · rfl

/-- A request that reaches its QP has its own meaning there, and only that. -/
theorem State.receive_request {s u : State} {i : Instr} {k : Pkt} {q : Nat} (h : s.reaches i k q u) :
    s.receive i = u.rxRequest q i := by
  obtain ⟨h1, t, p, h2, h3, h4, ⟨h5, h6⟩, h7, h8, h9⟩ := h
  unfold State.receive
  simp only [h1, h2, h3, State.countCnp_request t k h1, if_true, h4, h5]
  unfold State.atQp
  simp only [Bool.true_eq_false, if_false]
  simp only [h7, h8, ne_eq, not_true_eq_false, if_false, h9, Bool.false_eq_true, ← h6]
  rfl

/-- A response, ACK, NAK or CNP that reaches its QP has its own meaning there, and only that. -/
theorem State.receive_response {s u : State} {i : Instr} {k : Pkt} {q : Nat} (h : s.responds i k q u) :
    s.receive i = u.response q i := by
  obtain ⟨h1, t, h2, h3, h0, h5, h6⟩ := h
  unfold State.receive
  simp only [h1, h2, h3, Bool.false_eq_true, if_false, h5, if_true]
  unfold State.atQp
  simp only [if_true, if_neg h0, ← h6]

/-- Changing a QP's row rests on that row alone. -/
theorem State.updQp_congr {s : State} {q : Nat} {f g : Qp → Qp} (h : f (s.qp q) = g (s.qp q)) : s.updQp q f = s.updQp q g := by
  have e : Tbl.upd {} s.net.qps q f = Tbl.upd {} s.net.qps q g := by
    unfold Tbl.upd; exact congrArg (Tbl.set {} s.net.qps q) h
  simp only [State.updQp, e]

theorem exec_request {s u : State} {i : Instr} {k : Pkt} {q : Nat} (hi : exec i s = s.act (fun t => t.receive i))
    (h : s.reaches i k q u) : exec i s = .next (Ends s (u.rxRequest q i)) := by
  rw [hi]; exact State.act_eq _ _ _ (State.receive_request h)

theorem exec_response {s u : State} {i : Instr} {k : Pkt} {q : Nat} (hi : exec i s = s.act (fun t => t.receive i))
    (h : s.responds i k q u) : exec i s = .next (Ends s (u.response q i)) := by
  rw [hi]; exact State.act_eq _ _ _ (State.receive_response h)

/-- A capsule of a queue with a controller runs its command with that controller. -/
theorem State.capsule_admin {u : State} {q c : Nat} {k : Pkt} (cid : Nat) (go : Nat → State → State) (h1 : (u.qp q).ctrl = some c)
    (h2 : (u.qp q).qid = 0) : u.capsule q k cid (some true) go = go c (u.taken q k) := by
  unfold State.capsule
  simp only [h1, h2, decide_true, if_true]
  rfl

theorem State.capsule_io {u : State} {q c : Nat} {k : Pkt} (cid : Nat) (go : Nat → State → State) (h1 : (u.qp q).ctrl = some c)
    (h2 : (u.qp q).qid ≠ 0) : u.capsule q k cid (some false) go = go c (u.taken q k) := by
  unfold State.capsule
  simp only [h1, h2, decide_false, if_true]
  rfl

theorem State.capsule_any {u : State} {q c : Nat} {k : Pkt} (cid : Nat) (go : Nat → State → State) (h1 : (u.qp q).ctrl = some c) :
    u.capsule q k cid none go = go c (u.taken q k) := by
  unfold State.capsule
  simp only [h1]
  rfl

end Sys2Proof.Machine
end

