-- ==== Sys2Proof/Laws/Rendi.lean ====
section
/-!
SUPPORT. Laws/Rendi.lean: what an ACTION and a WRITE of one item do once they are accepted and pass their checks.
-/

namespace Sys2Proof.Machine

theorem ActionRuns.of {i : Instr} {h : Hdr} {code row arg : Nat} {ok : State → Prop} {f : State → State}
    (op : State → State × Nat) (hi : ∀ s, exec i s = s.act (fun t => t.actionReqS h code row arg op))
    (hop : ∀ u, ok u → op u = (f u, 0)) : ActionRuns i h code row arg ok f := by
  intro s r x hs hc hok
  rw [hi]
  apply State.act_eq
  unfold State.takes at hs
  simp only [State.actionReqS, State.request, hs, hc, hop _ hok, if_true, ne_eq, not_true_eq_false, if_false,
    State.actAnswer]

theorem WriteRuns.of {i : Instr} {h : Hdr} {code row v : Nat} {b : Bytes} {ok : State → Prop} {f : State → Session → State}
    (op : State → Session → Nat → State × Nat) (hi : ∀ s, exec i s = s.act (fun t => t.writeReq h code row b op))
    (hop : ∀ u x, ok u → op u x v = (f u x, 0)) : WriteRuns i h code row b v ok f := by
  intro s r x hs hc hok
  rw [hi]
  apply State.act_eq
  unfold State.takes at hs
  simp only [State.writeReq, State.request, hs, hc, hop _ _ hok, ne_eq, not_true_eq_false, if_false, State.writeAnswer]

end Sys2Proof.Machine
end

