-- ==== Sys2Proof/Laws/Skein.lean ====
section
/-!
SUPPORT. Laws/Skein.lean: what a twin link frame and a skein message that are accepted do.
-/

namespace Sys2Proof.Machine

/-- An accepted frame has its own effect after what every accepted frame does. -/
theorem State.twinIn_heard {s : State} {h : TwHdr} (f : State → State) (a : s.twHears h) : s.twinIn h f = f (s.twHeard h) := by
  obtain ⟨h1, h2, h3, h4, h5⟩ := a
  unfold State.twinIn
  rw [if_neg (by simp [h2]; omega), if_neg (by simp [h3]), if_neg (by simp [h4, h5])]
  rfl

/-- An accepted message has its own effect after what every accepted message does. -/
theorem State.skTake_heard {s : State} {h : SkHdr} {b : SkBody} (f : State → State) (a : s.skHears h b) :
    s.skTake h b f = f (s.skHeard h) := by
  obtain ⟨h1, h2, h3, h4, h5, h6, h7, h8⟩ := a
  unfold State.skTake
  rw [if_neg (by rintro (a | a | a | a | a); exact h1 a; all_goals simp_all),
    if_neg (by simp [h6]), if_neg (by simp [h7, h8])]
  rfl

/-- A message that comes to the device is acted on. -/
theorem State.skIn_gets {s u : State} {h : SkHdr} {b : SkBody} (f : State → State) (a : s.skGets h b u) : s.skIn h b f = f u := by
  obtain ⟨t, ⟨h1, h2⟩ | ⟨h1, w, h2, h3, h4⟩, h5, h6⟩ := a
  · subst h2
    unfold State.skIn
    rw [if_neg h1, State.skTake_heard f h5, h6]
  · unfold State.skIn
    simp only [h1, if_true, h2, State.twinIn_heard _ h3]
    rw [← h4, State.skTake_heard f h5, h6]

/-- A command that is a frame. -/
theorem exec_twin {i : Instr} {s : State} {h : TwHdr} {f : State → State} (e : exec i s = s.act (fun t => t.twinIn h f))
    (a : s.twHears h) : exec i s = .next (Ends s (f (s.twHeard h))) := by
  rw [e]; exact State.act_eq _ _ _ (State.twinIn_heard f a)

/-- A command that is a skein message. -/
theorem exec_skein {i : Instr} {s u : State} {h : SkHdr} {b : SkBody} {f : State → State}
    (e : exec i s = s.act (fun t => t.skIn h b f)) (a : s.skGets h b u) : exec i s = .next (Ends s (f u)) := by
  rw [e]; exact State.act_eq _ _ _ (State.skIn_gets f a)

end Sys2Proof.Machine
end

