-- ==== Sys2Proof/Laws/State.lean ====
section
/-!
SUPPORT. Laws/State.lean: for each named update of the state, the fields it leaves and the one it changes.
-/

namespace Sys2Proof.Machine

variable (s : State)

@[simp] theorem State.setCnt_outbox (c r v : Nat) : (s.setCnt c r v).outbox = s.outbox := rfl
@[simp] theorem State.setCnt_free (c r v : Nat) : (s.setCnt c r v).free = s.free := rfl
@[simp] theorem State.setCnt_part (c r v : Nat) : (s.setCnt c r v).part = s.part := rfl
@[simp] theorem State.setCnt_clk (c r v : Nat) : (s.setCnt c r v).clk = s.clk := rfl
@[simp] theorem State.setCnt_pd (c r v : Nat) : (s.setCnt c r v).pd = s.pd := rfl
@[simp] theorem State.setCnt_dict (c r v : Nat) : (s.setCnt c r v).dict = s.dict := rfl
@[simp] theorem State.setCnt_rendi (c r v : Nat) : (s.setCnt c r v).rendi = s.rendi := rfl
@[simp] theorem State.setCnt_mbx (c r v : Nat) : (s.setCnt c r v).mbx = s.mbx := rfl
@[simp] theorem State.setCnt_smb (c r v : Nat) : (s.setCnt c r v).smb = s.smb := rfl
@[simp] theorem State.setCnt_ev (c r v : Nat) : (s.setCnt c r v).ev = s.ev := rfl
@[simp] theorem State.setCnt_fen (c r v : Nat) : (s.setCnt c r v).fen = s.fen := rfl
@[simp] theorem State.setCnt_msq (c r v : Nat) : (s.setCnt c r v).msq = s.msq := rfl
@[simp] theorem State.setCnt_todo (c r v : Nat) : (s.setCnt c r v).todo = s.todo := rfl
@[simp] theorem State.setCnt_place (c r v : Nat) : (s.setCnt c r v).place = s.place := rfl
@[simp] theorem State.setCnt_hoop (c r v : Nat) : (s.setCnt c r v).hoop = s.hoop := rfl
@[simp] theorem State.setCnt_jour (c r v : Nat) : (s.setCnt c r v).jour = s.jour := rfl
@[simp] theorem State.setCnt_vault (c r v : Nat) : (s.setCnt c r v).vault = s.vault := rfl
@[simp] theorem State.setCnt_darn (c r v : Nat) : (s.setCnt c r v).darn = s.darn := rfl
@[simp] theorem State.setCnt_drv (c r v : Nat) : (s.setCnt c r v).drv = s.drv := rfl
@[simp] theorem State.setCnt_skn (c r v : Nat) : (s.setCnt c r v).skn = s.skn := rfl
@[simp] theorem State.setCnt_sk (c r v : Nat) : (s.setCnt c r v).sk = s.sk := rfl
@[simp] theorem State.setCnt_net (c r v : Nat) : (s.setCnt c r v).net = s.net := rfl
@[simp] theorem State.setCnt_bayCh (c r v : Nat) : (s.setCnt c r v).bayCh = s.bayCh := rfl
@[simp] theorem State.setCnt_ep (c r v : Nat) : (s.setCnt c r v).ep = s.ep := rfl
@[simp] theorem State.setCnt_boot (c r v : Nat) : (s.setCnt c r v).boot = s.boot := rfl
@[simp] theorem State.setCnt_pending (c r v : Nat) : (s.setCnt c r v).pending = s.pending := rfl
@[simp] theorem State.setCnt_cnt (c r v : Nat) : (s.setCnt c r v).cnt = Tbl.set 0 s.cnt (okey c r) v := rfl

@[simp] theorem State.addCnt_outbox (w c r d : Nat) : (s.addCnt w c r d).outbox = s.outbox := rfl
@[simp] theorem State.addCnt_free (w c r d : Nat) : (s.addCnt w c r d).free = s.free := rfl
@[simp] theorem State.addCnt_part (w c r d : Nat) : (s.addCnt w c r d).part = s.part := rfl
@[simp] theorem State.addCnt_clk (w c r d : Nat) : (s.addCnt w c r d).clk = s.clk := rfl
@[simp] theorem State.addCnt_pd (w c r d : Nat) : (s.addCnt w c r d).pd = s.pd := rfl
@[simp] theorem State.addCnt_dict (w c r d : Nat) : (s.addCnt w c r d).dict = s.dict := rfl
@[simp] theorem State.addCnt_rendi (w c r d : Nat) : (s.addCnt w c r d).rendi = s.rendi := rfl
@[simp] theorem State.addCnt_mbx (w c r d : Nat) : (s.addCnt w c r d).mbx = s.mbx := rfl
@[simp] theorem State.addCnt_smb (w c r d : Nat) : (s.addCnt w c r d).smb = s.smb := rfl
@[simp] theorem State.addCnt_ev (w c r d : Nat) : (s.addCnt w c r d).ev = s.ev := rfl
@[simp] theorem State.addCnt_fen (w c r d : Nat) : (s.addCnt w c r d).fen = s.fen := rfl
@[simp] theorem State.addCnt_msq (w c r d : Nat) : (s.addCnt w c r d).msq = s.msq := rfl
@[simp] theorem State.addCnt_todo (w c r d : Nat) : (s.addCnt w c r d).todo = s.todo := rfl
@[simp] theorem State.addCnt_place (w c r d : Nat) : (s.addCnt w c r d).place = s.place := rfl
@[simp] theorem State.addCnt_hoop (w c r d : Nat) : (s.addCnt w c r d).hoop = s.hoop := rfl
@[simp] theorem State.addCnt_jour (w c r d : Nat) : (s.addCnt w c r d).jour = s.jour := rfl
@[simp] theorem State.addCnt_vault (w c r d : Nat) : (s.addCnt w c r d).vault = s.vault := rfl
@[simp] theorem State.addCnt_darn (w c r d : Nat) : (s.addCnt w c r d).darn = s.darn := rfl
@[simp] theorem State.addCnt_drv (w c r d : Nat) : (s.addCnt w c r d).drv = s.drv := rfl
@[simp] theorem State.addCnt_skn (w c r d : Nat) : (s.addCnt w c r d).skn = s.skn := rfl
@[simp] theorem State.addCnt_sk (w c r d : Nat) : (s.addCnt w c r d).sk = s.sk := rfl
@[simp] theorem State.addCnt_net (w c r d : Nat) : (s.addCnt w c r d).net = s.net := rfl
@[simp] theorem State.addCnt_bayCh (w c r d : Nat) : (s.addCnt w c r d).bayCh = s.bayCh := rfl
@[simp] theorem State.addCnt_ep (w c r d : Nat) : (s.addCnt w c r d).ep = s.ep := rfl
@[simp] theorem State.addCnt_boot (w c r d : Nat) : (s.addCnt w c r d).boot = s.boot := rfl
@[simp] theorem State.addCnt_pending (w c r d : Nat) : (s.addCnt w c r d).pending = s.pending := rfl
@[simp] theorem State.addCnt_cnt (w c r d : Nat) : (s.addCnt w c r d).cnt = Tbl.upd 0 s.cnt (okey c r) (fun x => satAdd w x d) := rfl

@[simp] theorem State.maxCnt_outbox (c r v : Nat) : (s.maxCnt c r v).outbox = s.outbox := rfl
@[simp] theorem State.maxCnt_free (c r v : Nat) : (s.maxCnt c r v).free = s.free := rfl
@[simp] theorem State.maxCnt_part (c r v : Nat) : (s.maxCnt c r v).part = s.part := rfl
@[simp] theorem State.maxCnt_clk (c r v : Nat) : (s.maxCnt c r v).clk = s.clk := rfl
@[simp] theorem State.maxCnt_pd (c r v : Nat) : (s.maxCnt c r v).pd = s.pd := rfl
@[simp] theorem State.maxCnt_dict (c r v : Nat) : (s.maxCnt c r v).dict = s.dict := rfl
@[simp] theorem State.maxCnt_rendi (c r v : Nat) : (s.maxCnt c r v).rendi = s.rendi := rfl
@[simp] theorem State.maxCnt_mbx (c r v : Nat) : (s.maxCnt c r v).mbx = s.mbx := rfl
@[simp] theorem State.maxCnt_smb (c r v : Nat) : (s.maxCnt c r v).smb = s.smb := rfl
@[simp] theorem State.maxCnt_ev (c r v : Nat) : (s.maxCnt c r v).ev = s.ev := rfl
@[simp] theorem State.maxCnt_fen (c r v : Nat) : (s.maxCnt c r v).fen = s.fen := rfl
@[simp] theorem State.maxCnt_msq (c r v : Nat) : (s.maxCnt c r v).msq = s.msq := rfl
@[simp] theorem State.maxCnt_todo (c r v : Nat) : (s.maxCnt c r v).todo = s.todo := rfl
@[simp] theorem State.maxCnt_place (c r v : Nat) : (s.maxCnt c r v).place = s.place := rfl
@[simp] theorem State.maxCnt_hoop (c r v : Nat) : (s.maxCnt c r v).hoop = s.hoop := rfl
@[simp] theorem State.maxCnt_jour (c r v : Nat) : (s.maxCnt c r v).jour = s.jour := rfl
@[simp] theorem State.maxCnt_vault (c r v : Nat) : (s.maxCnt c r v).vault = s.vault := rfl
@[simp] theorem State.maxCnt_darn (c r v : Nat) : (s.maxCnt c r v).darn = s.darn := rfl
@[simp] theorem State.maxCnt_drv (c r v : Nat) : (s.maxCnt c r v).drv = s.drv := rfl
@[simp] theorem State.maxCnt_skn (c r v : Nat) : (s.maxCnt c r v).skn = s.skn := rfl
@[simp] theorem State.maxCnt_sk (c r v : Nat) : (s.maxCnt c r v).sk = s.sk := rfl
@[simp] theorem State.maxCnt_net (c r v : Nat) : (s.maxCnt c r v).net = s.net := rfl
@[simp] theorem State.maxCnt_bayCh (c r v : Nat) : (s.maxCnt c r v).bayCh = s.bayCh := rfl
@[simp] theorem State.maxCnt_ep (c r v : Nat) : (s.maxCnt c r v).ep = s.ep := rfl
@[simp] theorem State.maxCnt_boot (c r v : Nat) : (s.maxCnt c r v).boot = s.boot := rfl
@[simp] theorem State.maxCnt_pending (c r v : Nat) : (s.maxCnt c r v).pending = s.pending := rfl

@[simp] theorem State.emit_free (e : Emit) : (s.emit e).free = s.free := rfl
@[simp] theorem State.emit_part (e : Emit) : (s.emit e).part = s.part := rfl
@[simp] theorem State.emit_cnt (e : Emit) : (s.emit e).cnt = s.cnt := rfl
@[simp] theorem State.emit_clk (e : Emit) : (s.emit e).clk = s.clk := rfl
@[simp] theorem State.emit_pd (e : Emit) : (s.emit e).pd = s.pd := rfl
@[simp] theorem State.emit_dict (e : Emit) : (s.emit e).dict = s.dict := rfl
@[simp] theorem State.emit_rendi (e : Emit) : (s.emit e).rendi = s.rendi := rfl
@[simp] theorem State.emit_mbx (e : Emit) : (s.emit e).mbx = s.mbx := rfl
@[simp] theorem State.emit_smb (e : Emit) : (s.emit e).smb = s.smb := rfl
@[simp] theorem State.emit_ev (e : Emit) : (s.emit e).ev = s.ev := rfl
@[simp] theorem State.emit_fen (e : Emit) : (s.emit e).fen = s.fen := rfl
@[simp] theorem State.emit_msq (e : Emit) : (s.emit e).msq = s.msq := rfl
@[simp] theorem State.emit_todo (e : Emit) : (s.emit e).todo = s.todo := rfl
@[simp] theorem State.emit_place (e : Emit) : (s.emit e).place = s.place := rfl
@[simp] theorem State.emit_hoop (e : Emit) : (s.emit e).hoop = s.hoop := rfl
@[simp] theorem State.emit_jour (e : Emit) : (s.emit e).jour = s.jour := rfl
@[simp] theorem State.emit_vault (e : Emit) : (s.emit e).vault = s.vault := rfl
@[simp] theorem State.emit_darn (e : Emit) : (s.emit e).darn = s.darn := rfl
@[simp] theorem State.emit_drv (e : Emit) : (s.emit e).drv = s.drv := rfl
@[simp] theorem State.emit_skn (e : Emit) : (s.emit e).skn = s.skn := rfl
@[simp] theorem State.emit_sk (e : Emit) : (s.emit e).sk = s.sk := rfl
@[simp] theorem State.emit_net (e : Emit) : (s.emit e).net = s.net := rfl
@[simp] theorem State.emit_bayCh (e : Emit) : (s.emit e).bayCh = s.bayCh := rfl
@[simp] theorem State.emit_ep (e : Emit) : (s.emit e).ep = s.ep := rfl
@[simp] theorem State.emit_boot (e : Emit) : (s.emit e).boot = s.boot := rfl
@[simp] theorem State.emit_pending (e : Emit) : (s.emit e).pending = s.pending := rfl
@[simp] theorem State.emit_outbox (e : Emit) : (s.emit e).outbox = e :: s.outbox := rfl

@[simp] theorem State.later_outbox (t : Todo) : (s.later t).outbox = s.outbox := rfl
@[simp] theorem State.later_free (t : Todo) : (s.later t).free = s.free := rfl
@[simp] theorem State.later_part (t : Todo) : (s.later t).part = s.part := rfl
@[simp] theorem State.later_cnt (t : Todo) : (s.later t).cnt = s.cnt := rfl
@[simp] theorem State.later_clk (t : Todo) : (s.later t).clk = s.clk := rfl
@[simp] theorem State.later_pd (t : Todo) : (s.later t).pd = s.pd := rfl
@[simp] theorem State.later_dict (t : Todo) : (s.later t).dict = s.dict := rfl
@[simp] theorem State.later_rendi (t : Todo) : (s.later t).rendi = s.rendi := rfl
@[simp] theorem State.later_mbx (t : Todo) : (s.later t).mbx = s.mbx := rfl
@[simp] theorem State.later_smb (t : Todo) : (s.later t).smb = s.smb := rfl
@[simp] theorem State.later_ev (t : Todo) : (s.later t).ev = s.ev := rfl
@[simp] theorem State.later_fen (t : Todo) : (s.later t).fen = s.fen := rfl
@[simp] theorem State.later_msq (t : Todo) : (s.later t).msq = s.msq := rfl
@[simp] theorem State.later_place (t : Todo) : (s.later t).place = s.place := rfl
@[simp] theorem State.later_hoop (t : Todo) : (s.later t).hoop = s.hoop := rfl
@[simp] theorem State.later_jour (t : Todo) : (s.later t).jour = s.jour := rfl
@[simp] theorem State.later_vault (t : Todo) : (s.later t).vault = s.vault := rfl
@[simp] theorem State.later_darn (t : Todo) : (s.later t).darn = s.darn := rfl
@[simp] theorem State.later_drv (t : Todo) : (s.later t).drv = s.drv := rfl
@[simp] theorem State.later_skn (t : Todo) : (s.later t).skn = s.skn := rfl
@[simp] theorem State.later_sk (t : Todo) : (s.later t).sk = s.sk := rfl
@[simp] theorem State.later_net (t : Todo) : (s.later t).net = s.net := rfl
@[simp] theorem State.later_bayCh (t : Todo) : (s.later t).bayCh = s.bayCh := rfl
@[simp] theorem State.later_ep (t : Todo) : (s.later t).ep = s.ep := rfl
@[simp] theorem State.later_boot (t : Todo) : (s.later t).boot = s.boot := rfl
@[simp] theorem State.later_pending (t : Todo) : (s.later t).pending = s.pending := rfl
@[simp] theorem State.later_todo (t : Todo) : (s.later t).todo = s.todo ++ [t] := rfl

@[simp] theorem State.used_outbox : (s.used).outbox = s.outbox := rfl
@[simp] theorem State.used_part : (s.used).part = s.part := rfl
@[simp] theorem State.used_cnt : (s.used).cnt = s.cnt := rfl
@[simp] theorem State.used_clk : (s.used).clk = s.clk := rfl
@[simp] theorem State.used_pd : (s.used).pd = s.pd := rfl
@[simp] theorem State.used_dict : (s.used).dict = s.dict := rfl
@[simp] theorem State.used_rendi : (s.used).rendi = s.rendi := rfl
@[simp] theorem State.used_mbx : (s.used).mbx = s.mbx := rfl
@[simp] theorem State.used_smb : (s.used).smb = s.smb := rfl
@[simp] theorem State.used_ev : (s.used).ev = s.ev := rfl
@[simp] theorem State.used_fen : (s.used).fen = s.fen := rfl
@[simp] theorem State.used_msq : (s.used).msq = s.msq := rfl
@[simp] theorem State.used_todo : (s.used).todo = s.todo := rfl
@[simp] theorem State.used_place : (s.used).place = s.place := rfl
@[simp] theorem State.used_hoop : (s.used).hoop = s.hoop := rfl
@[simp] theorem State.used_jour : (s.used).jour = s.jour := rfl
@[simp] theorem State.used_vault : (s.used).vault = s.vault := rfl
@[simp] theorem State.used_darn : (s.used).darn = s.darn := rfl
@[simp] theorem State.used_drv : (s.used).drv = s.drv := rfl
@[simp] theorem State.used_skn : (s.used).skn = s.skn := rfl
@[simp] theorem State.used_sk : (s.used).sk = s.sk := rfl
@[simp] theorem State.used_net : (s.used).net = s.net := rfl
@[simp] theorem State.used_bayCh : (s.used).bayCh = s.bayCh := rfl
@[simp] theorem State.used_ep : (s.used).ep = s.ep := rfl
@[simp] theorem State.used_boot : (s.used).boot = s.boot := rfl
@[simp] theorem State.used_pending : (s.used).pending = s.pending := rfl
@[simp] theorem State.used_free : (s.used).free = s.free + 1 := rfl

@[simp] theorem State.setRw_outbox (c r v : Nat) : (s.setRw c r v).outbox = s.outbox := rfl
@[simp] theorem State.setRw_free (c r v : Nat) : (s.setRw c r v).free = s.free := rfl
@[simp] theorem State.setRw_part (c r v : Nat) : (s.setRw c r v).part = s.part := rfl
@[simp] theorem State.setRw_cnt (c r v : Nat) : (s.setRw c r v).cnt = s.cnt := rfl
@[simp] theorem State.setRw_clk (c r v : Nat) : (s.setRw c r v).clk = s.clk := rfl
@[simp] theorem State.setRw_pd (c r v : Nat) : (s.setRw c r v).pd = s.pd := rfl
@[simp] theorem State.setRw_rendi (c r v : Nat) : (s.setRw c r v).rendi = s.rendi := rfl
@[simp] theorem State.setRw_mbx (c r v : Nat) : (s.setRw c r v).mbx = s.mbx := rfl
@[simp] theorem State.setRw_smb (c r v : Nat) : (s.setRw c r v).smb = s.smb := rfl
@[simp] theorem State.setRw_ev (c r v : Nat) : (s.setRw c r v).ev = s.ev := rfl
@[simp] theorem State.setRw_fen (c r v : Nat) : (s.setRw c r v).fen = s.fen := rfl
@[simp] theorem State.setRw_msq (c r v : Nat) : (s.setRw c r v).msq = s.msq := rfl
@[simp] theorem State.setRw_todo (c r v : Nat) : (s.setRw c r v).todo = s.todo := rfl
@[simp] theorem State.setRw_place (c r v : Nat) : (s.setRw c r v).place = s.place := rfl
@[simp] theorem State.setRw_hoop (c r v : Nat) : (s.setRw c r v).hoop = s.hoop := rfl
@[simp] theorem State.setRw_jour (c r v : Nat) : (s.setRw c r v).jour = s.jour := rfl
@[simp] theorem State.setRw_vault (c r v : Nat) : (s.setRw c r v).vault = s.vault := rfl
@[simp] theorem State.setRw_darn (c r v : Nat) : (s.setRw c r v).darn = s.darn := rfl
@[simp] theorem State.setRw_drv (c r v : Nat) : (s.setRw c r v).drv = s.drv := rfl
@[simp] theorem State.setRw_skn (c r v : Nat) : (s.setRw c r v).skn = s.skn := rfl
@[simp] theorem State.setRw_sk (c r v : Nat) : (s.setRw c r v).sk = s.sk := rfl
@[simp] theorem State.setRw_net (c r v : Nat) : (s.setRw c r v).net = s.net := rfl
@[simp] theorem State.setRw_bayCh (c r v : Nat) : (s.setRw c r v).bayCh = s.bayCh := rfl
@[simp] theorem State.setRw_ep (c r v : Nat) : (s.setRw c r v).ep = s.ep := rfl
@[simp] theorem State.setRw_boot (c r v : Nat) : (s.setRw c r v).boot = s.boot := rfl
@[simp] theorem State.setRw_pending (c r v : Nat) : (s.setRw c r v).pending = s.pending := rfl

@[simp] theorem State.setPend_outbox (c r v : Nat) : (s.setPend c r v).outbox = s.outbox := rfl
@[simp] theorem State.setPend_free (c r v : Nat) : (s.setPend c r v).free = s.free := rfl
@[simp] theorem State.setPend_part (c r v : Nat) : (s.setPend c r v).part = s.part := rfl
@[simp] theorem State.setPend_cnt (c r v : Nat) : (s.setPend c r v).cnt = s.cnt := rfl
@[simp] theorem State.setPend_clk (c r v : Nat) : (s.setPend c r v).clk = s.clk := rfl
@[simp] theorem State.setPend_pd (c r v : Nat) : (s.setPend c r v).pd = s.pd := rfl
@[simp] theorem State.setPend_rendi (c r v : Nat) : (s.setPend c r v).rendi = s.rendi := rfl
@[simp] theorem State.setPend_mbx (c r v : Nat) : (s.setPend c r v).mbx = s.mbx := rfl
@[simp] theorem State.setPend_smb (c r v : Nat) : (s.setPend c r v).smb = s.smb := rfl
@[simp] theorem State.setPend_ev (c r v : Nat) : (s.setPend c r v).ev = s.ev := rfl
@[simp] theorem State.setPend_fen (c r v : Nat) : (s.setPend c r v).fen = s.fen := rfl
@[simp] theorem State.setPend_msq (c r v : Nat) : (s.setPend c r v).msq = s.msq := rfl
@[simp] theorem State.setPend_todo (c r v : Nat) : (s.setPend c r v).todo = s.todo := rfl
@[simp] theorem State.setPend_place (c r v : Nat) : (s.setPend c r v).place = s.place := rfl
@[simp] theorem State.setPend_hoop (c r v : Nat) : (s.setPend c r v).hoop = s.hoop := rfl
@[simp] theorem State.setPend_jour (c r v : Nat) : (s.setPend c r v).jour = s.jour := rfl
@[simp] theorem State.setPend_vault (c r v : Nat) : (s.setPend c r v).vault = s.vault := rfl
@[simp] theorem State.setPend_darn (c r v : Nat) : (s.setPend c r v).darn = s.darn := rfl
@[simp] theorem State.setPend_drv (c r v : Nat) : (s.setPend c r v).drv = s.drv := rfl
@[simp] theorem State.setPend_skn (c r v : Nat) : (s.setPend c r v).skn = s.skn := rfl
@[simp] theorem State.setPend_sk (c r v : Nat) : (s.setPend c r v).sk = s.sk := rfl
@[simp] theorem State.setPend_net (c r v : Nat) : (s.setPend c r v).net = s.net := rfl
@[simp] theorem State.setPend_bayCh (c r v : Nat) : (s.setPend c r v).bayCh = s.bayCh := rfl
@[simp] theorem State.setPend_ep (c r v : Nat) : (s.setPend c r v).ep = s.ep := rfl
@[simp] theorem State.setPend_boot (c r v : Nat) : (s.setPend c r v).boot = s.boot := rfl
@[simp] theorem State.setPend_pending (c r v : Nat) : (s.setPend c r v).pending = s.pending := rfl

@[simp] theorem State.dropPend_outbox (c r : Nat) : (s.dropPend c r).outbox = s.outbox := rfl
@[simp] theorem State.dropPend_free (c r : Nat) : (s.dropPend c r).free = s.free := rfl
@[simp] theorem State.dropPend_part (c r : Nat) : (s.dropPend c r).part = s.part := rfl
@[simp] theorem State.dropPend_cnt (c r : Nat) : (s.dropPend c r).cnt = s.cnt := rfl
@[simp] theorem State.dropPend_clk (c r : Nat) : (s.dropPend c r).clk = s.clk := rfl
@[simp] theorem State.dropPend_pd (c r : Nat) : (s.dropPend c r).pd = s.pd := rfl
@[simp] theorem State.dropPend_rendi (c r : Nat) : (s.dropPend c r).rendi = s.rendi := rfl
@[simp] theorem State.dropPend_mbx (c r : Nat) : (s.dropPend c r).mbx = s.mbx := rfl
@[simp] theorem State.dropPend_smb (c r : Nat) : (s.dropPend c r).smb = s.smb := rfl
@[simp] theorem State.dropPend_ev (c r : Nat) : (s.dropPend c r).ev = s.ev := rfl
@[simp] theorem State.dropPend_fen (c r : Nat) : (s.dropPend c r).fen = s.fen := rfl
@[simp] theorem State.dropPend_msq (c r : Nat) : (s.dropPend c r).msq = s.msq := rfl
@[simp] theorem State.dropPend_todo (c r : Nat) : (s.dropPend c r).todo = s.todo := rfl
@[simp] theorem State.dropPend_place (c r : Nat) : (s.dropPend c r).place = s.place := rfl
@[simp] theorem State.dropPend_hoop (c r : Nat) : (s.dropPend c r).hoop = s.hoop := rfl
@[simp] theorem State.dropPend_jour (c r : Nat) : (s.dropPend c r).jour = s.jour := rfl
@[simp] theorem State.dropPend_vault (c r : Nat) : (s.dropPend c r).vault = s.vault := rfl
@[simp] theorem State.dropPend_darn (c r : Nat) : (s.dropPend c r).darn = s.darn := rfl
@[simp] theorem State.dropPend_drv (c r : Nat) : (s.dropPend c r).drv = s.drv := rfl
@[simp] theorem State.dropPend_skn (c r : Nat) : (s.dropPend c r).skn = s.skn := rfl
@[simp] theorem State.dropPend_sk (c r : Nat) : (s.dropPend c r).sk = s.sk := rfl
@[simp] theorem State.dropPend_net (c r : Nat) : (s.dropPend c r).net = s.net := rfl
@[simp] theorem State.dropPend_bayCh (c r : Nat) : (s.dropPend c r).bayCh = s.bayCh := rfl
@[simp] theorem State.dropPend_ep (c r : Nat) : (s.dropPend c r).ep = s.ep := rfl
@[simp] theorem State.dropPend_boot (c r : Nat) : (s.dropPend c r).boot = s.boot := rfl
@[simp] theorem State.dropPend_pending (c r : Nat) : (s.dropPend c r).pending = s.pending := rfl

@[simp] theorem State.setAct_outbox (c r a d : Nat) : (s.setAct c r a d).outbox = s.outbox := rfl
@[simp] theorem State.setAct_free (c r a d : Nat) : (s.setAct c r a d).free = s.free := rfl
@[simp] theorem State.setAct_part (c r a d : Nat) : (s.setAct c r a d).part = s.part := rfl
@[simp] theorem State.setAct_cnt (c r a d : Nat) : (s.setAct c r a d).cnt = s.cnt := rfl
@[simp] theorem State.setAct_clk (c r a d : Nat) : (s.setAct c r a d).clk = s.clk := rfl
@[simp] theorem State.setAct_pd (c r a d : Nat) : (s.setAct c r a d).pd = s.pd := rfl
@[simp] theorem State.setAct_rendi (c r a d : Nat) : (s.setAct c r a d).rendi = s.rendi := rfl
@[simp] theorem State.setAct_mbx (c r a d : Nat) : (s.setAct c r a d).mbx = s.mbx := rfl
@[simp] theorem State.setAct_smb (c r a d : Nat) : (s.setAct c r a d).smb = s.smb := rfl
@[simp] theorem State.setAct_ev (c r a d : Nat) : (s.setAct c r a d).ev = s.ev := rfl
@[simp] theorem State.setAct_fen (c r a d : Nat) : (s.setAct c r a d).fen = s.fen := rfl
@[simp] theorem State.setAct_msq (c r a d : Nat) : (s.setAct c r a d).msq = s.msq := rfl
@[simp] theorem State.setAct_todo (c r a d : Nat) : (s.setAct c r a d).todo = s.todo := rfl
@[simp] theorem State.setAct_place (c r a d : Nat) : (s.setAct c r a d).place = s.place := rfl
@[simp] theorem State.setAct_hoop (c r a d : Nat) : (s.setAct c r a d).hoop = s.hoop := rfl
@[simp] theorem State.setAct_jour (c r a d : Nat) : (s.setAct c r a d).jour = s.jour := rfl
@[simp] theorem State.setAct_vault (c r a d : Nat) : (s.setAct c r a d).vault = s.vault := rfl
@[simp] theorem State.setAct_darn (c r a d : Nat) : (s.setAct c r a d).darn = s.darn := rfl
@[simp] theorem State.setAct_drv (c r a d : Nat) : (s.setAct c r a d).drv = s.drv := rfl
@[simp] theorem State.setAct_skn (c r a d : Nat) : (s.setAct c r a d).skn = s.skn := rfl
@[simp] theorem State.setAct_sk (c r a d : Nat) : (s.setAct c r a d).sk = s.sk := rfl
@[simp] theorem State.setAct_net (c r a d : Nat) : (s.setAct c r a d).net = s.net := rfl
@[simp] theorem State.setAct_bayCh (c r a d : Nat) : (s.setAct c r a d).bayCh = s.bayCh := rfl
@[simp] theorem State.setAct_ep (c r a d : Nat) : (s.setAct c r a d).ep = s.ep := rfl
@[simp] theorem State.setAct_boot (c r a d : Nat) : (s.setAct c r a d).boot = s.boot := rfl
@[simp] theorem State.setAct_pending (c r a d : Nat) : (s.setAct c r a d).pending = s.pending := rfl

@[simp] theorem State.actDone_outbox (c r : Nat) : (s.actDone c r).outbox = s.outbox := rfl
@[simp] theorem State.actDone_free (c r : Nat) : (s.actDone c r).free = s.free := rfl
@[simp] theorem State.actDone_part (c r : Nat) : (s.actDone c r).part = s.part := rfl
@[simp] theorem State.actDone_cnt (c r : Nat) : (s.actDone c r).cnt = s.cnt := rfl
@[simp] theorem State.actDone_clk (c r : Nat) : (s.actDone c r).clk = s.clk := rfl
@[simp] theorem State.actDone_pd (c r : Nat) : (s.actDone c r).pd = s.pd := rfl
@[simp] theorem State.actDone_rendi (c r : Nat) : (s.actDone c r).rendi = s.rendi := rfl
@[simp] theorem State.actDone_mbx (c r : Nat) : (s.actDone c r).mbx = s.mbx := rfl
@[simp] theorem State.actDone_smb (c r : Nat) : (s.actDone c r).smb = s.smb := rfl
@[simp] theorem State.actDone_ev (c r : Nat) : (s.actDone c r).ev = s.ev := rfl
@[simp] theorem State.actDone_fen (c r : Nat) : (s.actDone c r).fen = s.fen := rfl
@[simp] theorem State.actDone_msq (c r : Nat) : (s.actDone c r).msq = s.msq := rfl
@[simp] theorem State.actDone_todo (c r : Nat) : (s.actDone c r).todo = s.todo := rfl
@[simp] theorem State.actDone_place (c r : Nat) : (s.actDone c r).place = s.place := rfl
@[simp] theorem State.actDone_hoop (c r : Nat) : (s.actDone c r).hoop = s.hoop := rfl
@[simp] theorem State.actDone_jour (c r : Nat) : (s.actDone c r).jour = s.jour := rfl
@[simp] theorem State.actDone_vault (c r : Nat) : (s.actDone c r).vault = s.vault := rfl
@[simp] theorem State.actDone_darn (c r : Nat) : (s.actDone c r).darn = s.darn := rfl
@[simp] theorem State.actDone_drv (c r : Nat) : (s.actDone c r).drv = s.drv := rfl
@[simp] theorem State.actDone_skn (c r : Nat) : (s.actDone c r).skn = s.skn := rfl
@[simp] theorem State.actDone_sk (c r : Nat) : (s.actDone c r).sk = s.sk := rfl
@[simp] theorem State.actDone_net (c r : Nat) : (s.actDone c r).net = s.net := rfl
@[simp] theorem State.actDone_bayCh (c r : Nat) : (s.actDone c r).bayCh = s.bayCh := rfl
@[simp] theorem State.actDone_ep (c r : Nat) : (s.actDone c r).ep = s.ep := rfl
@[simp] theorem State.actDone_boot (c r : Nat) : (s.actDone c r).boot = s.boot := rfl
@[simp] theorem State.actDone_pending (c r : Nat) : (s.actDone c r).pending = s.pending := rfl

@[simp] theorem State.actRun_outbox (c r : Nat) : (s.actRun c r).outbox = s.outbox := rfl
@[simp] theorem State.actRun_free (c r : Nat) : (s.actRun c r).free = s.free := rfl
@[simp] theorem State.actRun_part (c r : Nat) : (s.actRun c r).part = s.part := rfl
@[simp] theorem State.actRun_cnt (c r : Nat) : (s.actRun c r).cnt = s.cnt := rfl
@[simp] theorem State.actRun_clk (c r : Nat) : (s.actRun c r).clk = s.clk := rfl
@[simp] theorem State.actRun_pd (c r : Nat) : (s.actRun c r).pd = s.pd := rfl
@[simp] theorem State.actRun_rendi (c r : Nat) : (s.actRun c r).rendi = s.rendi := rfl
@[simp] theorem State.actRun_mbx (c r : Nat) : (s.actRun c r).mbx = s.mbx := rfl
@[simp] theorem State.actRun_smb (c r : Nat) : (s.actRun c r).smb = s.smb := rfl
@[simp] theorem State.actRun_ev (c r : Nat) : (s.actRun c r).ev = s.ev := rfl
@[simp] theorem State.actRun_fen (c r : Nat) : (s.actRun c r).fen = s.fen := rfl
@[simp] theorem State.actRun_msq (c r : Nat) : (s.actRun c r).msq = s.msq := rfl
@[simp] theorem State.actRun_todo (c r : Nat) : (s.actRun c r).todo = s.todo := rfl
@[simp] theorem State.actRun_place (c r : Nat) : (s.actRun c r).place = s.place := rfl
@[simp] theorem State.actRun_hoop (c r : Nat) : (s.actRun c r).hoop = s.hoop := rfl
@[simp] theorem State.actRun_jour (c r : Nat) : (s.actRun c r).jour = s.jour := rfl
@[simp] theorem State.actRun_vault (c r : Nat) : (s.actRun c r).vault = s.vault := rfl
@[simp] theorem State.actRun_darn (c r : Nat) : (s.actRun c r).darn = s.darn := rfl
@[simp] theorem State.actRun_drv (c r : Nat) : (s.actRun c r).drv = s.drv := rfl
@[simp] theorem State.actRun_skn (c r : Nat) : (s.actRun c r).skn = s.skn := rfl
@[simp] theorem State.actRun_sk (c r : Nat) : (s.actRun c r).sk = s.sk := rfl
@[simp] theorem State.actRun_net (c r : Nat) : (s.actRun c r).net = s.net := rfl
@[simp] theorem State.actRun_bayCh (c r : Nat) : (s.actRun c r).bayCh = s.bayCh := rfl
@[simp] theorem State.actRun_ep (c r : Nat) : (s.actRun c r).ep = s.ep := rfl
@[simp] theorem State.actRun_boot (c r : Nat) : (s.actRun c r).boot = s.boot := rfl
@[simp] theorem State.actRun_pending (c r : Nat) : (s.actRun c r).pending = s.pending := rfl

@[simp] theorem State.actFail_outbox (c r d : Nat) : (s.actFail c r d).outbox = s.outbox := rfl
@[simp] theorem State.actFail_free (c r d : Nat) : (s.actFail c r d).free = s.free := rfl
@[simp] theorem State.actFail_part (c r d : Nat) : (s.actFail c r d).part = s.part := rfl
@[simp] theorem State.actFail_cnt (c r d : Nat) : (s.actFail c r d).cnt = s.cnt := rfl
@[simp] theorem State.actFail_clk (c r d : Nat) : (s.actFail c r d).clk = s.clk := rfl
@[simp] theorem State.actFail_pd (c r d : Nat) : (s.actFail c r d).pd = s.pd := rfl
@[simp] theorem State.actFail_rendi (c r d : Nat) : (s.actFail c r d).rendi = s.rendi := rfl
@[simp] theorem State.actFail_mbx (c r d : Nat) : (s.actFail c r d).mbx = s.mbx := rfl
@[simp] theorem State.actFail_smb (c r d : Nat) : (s.actFail c r d).smb = s.smb := rfl
@[simp] theorem State.actFail_ev (c r d : Nat) : (s.actFail c r d).ev = s.ev := rfl
@[simp] theorem State.actFail_fen (c r d : Nat) : (s.actFail c r d).fen = s.fen := rfl
@[simp] theorem State.actFail_msq (c r d : Nat) : (s.actFail c r d).msq = s.msq := rfl
@[simp] theorem State.actFail_todo (c r d : Nat) : (s.actFail c r d).todo = s.todo := rfl
@[simp] theorem State.actFail_place (c r d : Nat) : (s.actFail c r d).place = s.place := rfl
@[simp] theorem State.actFail_hoop (c r d : Nat) : (s.actFail c r d).hoop = s.hoop := rfl
@[simp] theorem State.actFail_jour (c r d : Nat) : (s.actFail c r d).jour = s.jour := rfl
@[simp] theorem State.actFail_vault (c r d : Nat) : (s.actFail c r d).vault = s.vault := rfl
@[simp] theorem State.actFail_darn (c r d : Nat) : (s.actFail c r d).darn = s.darn := rfl
@[simp] theorem State.actFail_drv (c r d : Nat) : (s.actFail c r d).drv = s.drv := rfl
@[simp] theorem State.actFail_skn (c r d : Nat) : (s.actFail c r d).skn = s.skn := rfl
@[simp] theorem State.actFail_sk (c r d : Nat) : (s.actFail c r d).sk = s.sk := rfl
@[simp] theorem State.actFail_net (c r d : Nat) : (s.actFail c r d).net = s.net := rfl
@[simp] theorem State.actFail_bayCh (c r d : Nat) : (s.actFail c r d).bayCh = s.bayCh := rfl
@[simp] theorem State.actFail_ep (c r d : Nat) : (s.actFail c r d).ep = s.ep := rfl
@[simp] theorem State.actFail_boot (c r d : Nat) : (s.actFail c r d).boot = s.boot := rfl
@[simp] theorem State.actFail_pending (c r d : Nat) : (s.actFail c r d).pending = s.pending := rfl

@[simp] theorem State.putSession_outbox (r : Nat) (x : Option Session) : (s.putSession r x).outbox = s.outbox := rfl
@[simp] theorem State.putSession_free (r : Nat) (x : Option Session) : (s.putSession r x).free = s.free := rfl
@[simp] theorem State.putSession_part (r : Nat) (x : Option Session) : (s.putSession r x).part = s.part := rfl
@[simp] theorem State.putSession_cnt (r : Nat) (x : Option Session) : (s.putSession r x).cnt = s.cnt := rfl
@[simp] theorem State.putSession_clk (r : Nat) (x : Option Session) : (s.putSession r x).clk = s.clk := rfl
@[simp] theorem State.putSession_pd (r : Nat) (x : Option Session) : (s.putSession r x).pd = s.pd := rfl
@[simp] theorem State.putSession_dict (r : Nat) (x : Option Session) : (s.putSession r x).dict = s.dict := rfl
@[simp] theorem State.putSession_mbx (r : Nat) (x : Option Session) : (s.putSession r x).mbx = s.mbx := rfl
@[simp] theorem State.putSession_smb (r : Nat) (x : Option Session) : (s.putSession r x).smb = s.smb := rfl
@[simp] theorem State.putSession_ev (r : Nat) (x : Option Session) : (s.putSession r x).ev = s.ev := rfl
@[simp] theorem State.putSession_fen (r : Nat) (x : Option Session) : (s.putSession r x).fen = s.fen := rfl
@[simp] theorem State.putSession_msq (r : Nat) (x : Option Session) : (s.putSession r x).msq = s.msq := rfl
@[simp] theorem State.putSession_todo (r : Nat) (x : Option Session) : (s.putSession r x).todo = s.todo := rfl
@[simp] theorem State.putSession_place (r : Nat) (x : Option Session) : (s.putSession r x).place = s.place := rfl
@[simp] theorem State.putSession_hoop (r : Nat) (x : Option Session) : (s.putSession r x).hoop = s.hoop := rfl
@[simp] theorem State.putSession_jour (r : Nat) (x : Option Session) : (s.putSession r x).jour = s.jour := rfl
@[simp] theorem State.putSession_vault (r : Nat) (x : Option Session) : (s.putSession r x).vault = s.vault := rfl
@[simp] theorem State.putSession_darn (r : Nat) (x : Option Session) : (s.putSession r x).darn = s.darn := rfl
@[simp] theorem State.putSession_drv (r : Nat) (x : Option Session) : (s.putSession r x).drv = s.drv := rfl
@[simp] theorem State.putSession_skn (r : Nat) (x : Option Session) : (s.putSession r x).skn = s.skn := rfl
@[simp] theorem State.putSession_sk (r : Nat) (x : Option Session) : (s.putSession r x).sk = s.sk := rfl
@[simp] theorem State.putSession_net (r : Nat) (x : Option Session) : (s.putSession r x).net = s.net := rfl
@[simp] theorem State.putSession_bayCh (r : Nat) (x : Option Session) : (s.putSession r x).bayCh = s.bayCh := rfl
@[simp] theorem State.putSession_ep (r : Nat) (x : Option Session) : (s.putSession r x).ep = s.ep := rfl
@[simp] theorem State.putSession_boot (r : Nat) (x : Option Session) : (s.putSession r x).boot = s.boot := rfl
@[simp] theorem State.putSession_pending (r : Nat) (x : Option Session) : (s.putSession r x).pending = s.pending := rfl

@[simp] theorem State.updPd_outbox (r : Nat) (f : Pd → Pd) : (s.updPd r f).outbox = s.outbox := rfl
@[simp] theorem State.updPd_free (r : Nat) (f : Pd → Pd) : (s.updPd r f).free = s.free := rfl
@[simp] theorem State.updPd_part (r : Nat) (f : Pd → Pd) : (s.updPd r f).part = s.part := rfl
@[simp] theorem State.updPd_cnt (r : Nat) (f : Pd → Pd) : (s.updPd r f).cnt = s.cnt := rfl
@[simp] theorem State.updPd_clk (r : Nat) (f : Pd → Pd) : (s.updPd r f).clk = s.clk := rfl
@[simp] theorem State.updPd_dict (r : Nat) (f : Pd → Pd) : (s.updPd r f).dict = s.dict := rfl
@[simp] theorem State.updPd_rendi (r : Nat) (f : Pd → Pd) : (s.updPd r f).rendi = s.rendi := rfl
@[simp] theorem State.updPd_mbx (r : Nat) (f : Pd → Pd) : (s.updPd r f).mbx = s.mbx := rfl
@[simp] theorem State.updPd_smb (r : Nat) (f : Pd → Pd) : (s.updPd r f).smb = s.smb := rfl
@[simp] theorem State.updPd_ev (r : Nat) (f : Pd → Pd) : (s.updPd r f).ev = s.ev := rfl
@[simp] theorem State.updPd_fen (r : Nat) (f : Pd → Pd) : (s.updPd r f).fen = s.fen := rfl
@[simp] theorem State.updPd_msq (r : Nat) (f : Pd → Pd) : (s.updPd r f).msq = s.msq := rfl
@[simp] theorem State.updPd_todo (r : Nat) (f : Pd → Pd) : (s.updPd r f).todo = s.todo := rfl
@[simp] theorem State.updPd_place (r : Nat) (f : Pd → Pd) : (s.updPd r f).place = s.place := rfl
@[simp] theorem State.updPd_hoop (r : Nat) (f : Pd → Pd) : (s.updPd r f).hoop = s.hoop := rfl
@[simp] theorem State.updPd_jour (r : Nat) (f : Pd → Pd) : (s.updPd r f).jour = s.jour := rfl
@[simp] theorem State.updPd_vault (r : Nat) (f : Pd → Pd) : (s.updPd r f).vault = s.vault := rfl
@[simp] theorem State.updPd_darn (r : Nat) (f : Pd → Pd) : (s.updPd r f).darn = s.darn := rfl
@[simp] theorem State.updPd_drv (r : Nat) (f : Pd → Pd) : (s.updPd r f).drv = s.drv := rfl
@[simp] theorem State.updPd_skn (r : Nat) (f : Pd → Pd) : (s.updPd r f).skn = s.skn := rfl
@[simp] theorem State.updPd_sk (r : Nat) (f : Pd → Pd) : (s.updPd r f).sk = s.sk := rfl
@[simp] theorem State.updPd_net (r : Nat) (f : Pd → Pd) : (s.updPd r f).net = s.net := rfl
@[simp] theorem State.updPd_bayCh (r : Nat) (f : Pd → Pd) : (s.updPd r f).bayCh = s.bayCh := rfl
@[simp] theorem State.updPd_ep (r : Nat) (f : Pd → Pd) : (s.updPd r f).ep = s.ep := rfl
@[simp] theorem State.updPd_boot (r : Nat) (f : Pd → Pd) : (s.updPd r f).boot = s.boot := rfl
@[simp] theorem State.updPd_pending (r : Nat) (f : Pd → Pd) : (s.updPd r f).pending = s.pending := rfl
@[simp] theorem State.updPd_pd (r : Nat) (f : Pd → Pd) : (s.updPd r f).pd = Tbl.upd {} s.pd r f := rfl

@[simp] theorem State.pdTo_outbox (r : Nat) (x : PdState) : (s.pdTo r x).outbox = s.outbox := rfl
@[simp] theorem State.pdTo_free (r : Nat) (x : PdState) : (s.pdTo r x).free = s.free := rfl
@[simp] theorem State.pdTo_part (r : Nat) (x : PdState) : (s.pdTo r x).part = s.part := rfl
@[simp] theorem State.pdTo_cnt (r : Nat) (x : PdState) : (s.pdTo r x).cnt = s.cnt := rfl
@[simp] theorem State.pdTo_clk (r : Nat) (x : PdState) : (s.pdTo r x).clk = s.clk := rfl
@[simp] theorem State.pdTo_dict (r : Nat) (x : PdState) : (s.pdTo r x).dict = s.dict := rfl
@[simp] theorem State.pdTo_rendi (r : Nat) (x : PdState) : (s.pdTo r x).rendi = s.rendi := rfl
@[simp] theorem State.pdTo_mbx (r : Nat) (x : PdState) : (s.pdTo r x).mbx = s.mbx := rfl
@[simp] theorem State.pdTo_smb (r : Nat) (x : PdState) : (s.pdTo r x).smb = s.smb := rfl
@[simp] theorem State.pdTo_ev (r : Nat) (x : PdState) : (s.pdTo r x).ev = s.ev := rfl
@[simp] theorem State.pdTo_fen (r : Nat) (x : PdState) : (s.pdTo r x).fen = s.fen := rfl
@[simp] theorem State.pdTo_msq (r : Nat) (x : PdState) : (s.pdTo r x).msq = s.msq := rfl
@[simp] theorem State.pdTo_todo (r : Nat) (x : PdState) : (s.pdTo r x).todo = s.todo := rfl
@[simp] theorem State.pdTo_place (r : Nat) (x : PdState) : (s.pdTo r x).place = s.place := rfl
@[simp] theorem State.pdTo_hoop (r : Nat) (x : PdState) : (s.pdTo r x).hoop = s.hoop := rfl
@[simp] theorem State.pdTo_jour (r : Nat) (x : PdState) : (s.pdTo r x).jour = s.jour := rfl
@[simp] theorem State.pdTo_vault (r : Nat) (x : PdState) : (s.pdTo r x).vault = s.vault := rfl
@[simp] theorem State.pdTo_darn (r : Nat) (x : PdState) : (s.pdTo r x).darn = s.darn := rfl
@[simp] theorem State.pdTo_drv (r : Nat) (x : PdState) : (s.pdTo r x).drv = s.drv := rfl
@[simp] theorem State.pdTo_skn (r : Nat) (x : PdState) : (s.pdTo r x).skn = s.skn := rfl
@[simp] theorem State.pdTo_sk (r : Nat) (x : PdState) : (s.pdTo r x).sk = s.sk := rfl
@[simp] theorem State.pdTo_net (r : Nat) (x : PdState) : (s.pdTo r x).net = s.net := rfl
@[simp] theorem State.pdTo_bayCh (r : Nat) (x : PdState) : (s.pdTo r x).bayCh = s.bayCh := rfl
@[simp] theorem State.pdTo_ep (r : Nat) (x : PdState) : (s.pdTo r x).ep = s.ep := rfl
@[simp] theorem State.pdTo_boot (r : Nat) (x : PdState) : (s.pdTo r x).boot = s.boot := rfl
@[simp] theorem State.pdTo_pending (r : Nat) (x : PdState) : (s.pdTo r x).pending = s.pending := rfl

@[simp] theorem State.fenServe_outbox (a b : Nat) : (s.fenServe a b).outbox = s.outbox := rfl
@[simp] theorem State.fenServe_free (a b : Nat) : (s.fenServe a b).free = s.free := rfl
@[simp] theorem State.fenServe_part (a b : Nat) : (s.fenServe a b).part = s.part := rfl
@[simp] theorem State.fenServe_cnt (a b : Nat) : (s.fenServe a b).cnt = s.cnt := rfl
@[simp] theorem State.fenServe_clk (a b : Nat) : (s.fenServe a b).clk = s.clk := rfl
@[simp] theorem State.fenServe_pd (a b : Nat) : (s.fenServe a b).pd = s.pd := rfl
@[simp] theorem State.fenServe_dict (a b : Nat) : (s.fenServe a b).dict = s.dict := rfl
@[simp] theorem State.fenServe_rendi (a b : Nat) : (s.fenServe a b).rendi = s.rendi := rfl
@[simp] theorem State.fenServe_mbx (a b : Nat) : (s.fenServe a b).mbx = s.mbx := rfl
@[simp] theorem State.fenServe_smb (a b : Nat) : (s.fenServe a b).smb = s.smb := rfl
@[simp] theorem State.fenServe_ev (a b : Nat) : (s.fenServe a b).ev = s.ev := rfl
@[simp] theorem State.fenServe_msq (a b : Nat) : (s.fenServe a b).msq = s.msq := rfl
@[simp] theorem State.fenServe_todo (a b : Nat) : (s.fenServe a b).todo = s.todo := rfl
@[simp] theorem State.fenServe_place (a b : Nat) : (s.fenServe a b).place = s.place := rfl
@[simp] theorem State.fenServe_hoop (a b : Nat) : (s.fenServe a b).hoop = s.hoop := rfl
@[simp] theorem State.fenServe_jour (a b : Nat) : (s.fenServe a b).jour = s.jour := rfl
@[simp] theorem State.fenServe_vault (a b : Nat) : (s.fenServe a b).vault = s.vault := rfl
@[simp] theorem State.fenServe_darn (a b : Nat) : (s.fenServe a b).darn = s.darn := rfl
@[simp] theorem State.fenServe_drv (a b : Nat) : (s.fenServe a b).drv = s.drv := rfl
@[simp] theorem State.fenServe_skn (a b : Nat) : (s.fenServe a b).skn = s.skn := rfl
@[simp] theorem State.fenServe_sk (a b : Nat) : (s.fenServe a b).sk = s.sk := rfl
@[simp] theorem State.fenServe_net (a b : Nat) : (s.fenServe a b).net = s.net := rfl
@[simp] theorem State.fenServe_bayCh (a b : Nat) : (s.fenServe a b).bayCh = s.bayCh := rfl
@[simp] theorem State.fenServe_ep (a b : Nat) : (s.fenServe a b).ep = s.ep := rfl
@[simp] theorem State.fenServe_boot (a b : Nat) : (s.fenServe a b).boot = s.boot := rfl
@[simp] theorem State.fenServe_pending (a b : Nat) : (s.fenServe a b).pending = s.pending := rfl

@[simp] theorem State.putFen_outbox (r : Nat) (f : Fen) : (s.putFen r f).outbox = s.outbox := rfl
@[simp] theorem State.putFen_free (r : Nat) (f : Fen) : (s.putFen r f).free = s.free := rfl
@[simp] theorem State.putFen_part (r : Nat) (f : Fen) : (s.putFen r f).part = s.part := rfl
@[simp] theorem State.putFen_cnt (r : Nat) (f : Fen) : (s.putFen r f).cnt = s.cnt := rfl
@[simp] theorem State.putFen_clk (r : Nat) (f : Fen) : (s.putFen r f).clk = s.clk := rfl
@[simp] theorem State.putFen_pd (r : Nat) (f : Fen) : (s.putFen r f).pd = s.pd := rfl
@[simp] theorem State.putFen_dict (r : Nat) (f : Fen) : (s.putFen r f).dict = s.dict := rfl
@[simp] theorem State.putFen_rendi (r : Nat) (f : Fen) : (s.putFen r f).rendi = s.rendi := rfl
@[simp] theorem State.putFen_mbx (r : Nat) (f : Fen) : (s.putFen r f).mbx = s.mbx := rfl
@[simp] theorem State.putFen_smb (r : Nat) (f : Fen) : (s.putFen r f).smb = s.smb := rfl
@[simp] theorem State.putFen_ev (r : Nat) (f : Fen) : (s.putFen r f).ev = s.ev := rfl
@[simp] theorem State.putFen_msq (r : Nat) (f : Fen) : (s.putFen r f).msq = s.msq := rfl
@[simp] theorem State.putFen_todo (r : Nat) (f : Fen) : (s.putFen r f).todo = s.todo := rfl
@[simp] theorem State.putFen_place (r : Nat) (f : Fen) : (s.putFen r f).place = s.place := rfl
@[simp] theorem State.putFen_hoop (r : Nat) (f : Fen) : (s.putFen r f).hoop = s.hoop := rfl
@[simp] theorem State.putFen_jour (r : Nat) (f : Fen) : (s.putFen r f).jour = s.jour := rfl
@[simp] theorem State.putFen_vault (r : Nat) (f : Fen) : (s.putFen r f).vault = s.vault := rfl
@[simp] theorem State.putFen_darn (r : Nat) (f : Fen) : (s.putFen r f).darn = s.darn := rfl
@[simp] theorem State.putFen_drv (r : Nat) (f : Fen) : (s.putFen r f).drv = s.drv := rfl
@[simp] theorem State.putFen_skn (r : Nat) (f : Fen) : (s.putFen r f).skn = s.skn := rfl
@[simp] theorem State.putFen_sk (r : Nat) (f : Fen) : (s.putFen r f).sk = s.sk := rfl
@[simp] theorem State.putFen_net (r : Nat) (f : Fen) : (s.putFen r f).net = s.net := rfl
@[simp] theorem State.putFen_bayCh (r : Nat) (f : Fen) : (s.putFen r f).bayCh = s.bayCh := rfl
@[simp] theorem State.putFen_ep (r : Nat) (f : Fen) : (s.putFen r f).ep = s.ep := rfl
@[simp] theorem State.putFen_boot (r : Nat) (f : Fen) : (s.putFen r f).boot = s.boot := rfl
@[simp] theorem State.putFen_pending (r : Nat) (f : Fen) : (s.putFen r f).pending = s.pending := rfl

@[simp] theorem State.updBay_outbox (n : Nat) (f : Bay → Bay) : (s.updBay n f).outbox = s.outbox := rfl
@[simp] theorem State.updBay_free (n : Nat) (f : Bay → Bay) : (s.updBay n f).free = s.free := rfl
@[simp] theorem State.updBay_part (n : Nat) (f : Bay → Bay) : (s.updBay n f).part = s.part := rfl
@[simp] theorem State.updBay_cnt (n : Nat) (f : Bay → Bay) : (s.updBay n f).cnt = s.cnt := rfl
@[simp] theorem State.updBay_clk (n : Nat) (f : Bay → Bay) : (s.updBay n f).clk = s.clk := rfl
@[simp] theorem State.updBay_pd (n : Nat) (f : Bay → Bay) : (s.updBay n f).pd = s.pd := rfl
@[simp] theorem State.updBay_dict (n : Nat) (f : Bay → Bay) : (s.updBay n f).dict = s.dict := rfl
@[simp] theorem State.updBay_rendi (n : Nat) (f : Bay → Bay) : (s.updBay n f).rendi = s.rendi := rfl
@[simp] theorem State.updBay_mbx (n : Nat) (f : Bay → Bay) : (s.updBay n f).mbx = s.mbx := rfl
@[simp] theorem State.updBay_smb (n : Nat) (f : Bay → Bay) : (s.updBay n f).smb = s.smb := rfl
@[simp] theorem State.updBay_ev (n : Nat) (f : Bay → Bay) : (s.updBay n f).ev = s.ev := rfl
@[simp] theorem State.updBay_fen (n : Nat) (f : Bay → Bay) : (s.updBay n f).fen = s.fen := rfl
@[simp] theorem State.updBay_msq (n : Nat) (f : Bay → Bay) : (s.updBay n f).msq = s.msq := rfl
@[simp] theorem State.updBay_todo (n : Nat) (f : Bay → Bay) : (s.updBay n f).todo = s.todo := rfl
@[simp] theorem State.updBay_place (n : Nat) (f : Bay → Bay) : (s.updBay n f).place = s.place := rfl
@[simp] theorem State.updBay_hoop (n : Nat) (f : Bay → Bay) : (s.updBay n f).hoop = s.hoop := rfl
@[simp] theorem State.updBay_jour (n : Nat) (f : Bay → Bay) : (s.updBay n f).jour = s.jour := rfl
@[simp] theorem State.updBay_vault (n : Nat) (f : Bay → Bay) : (s.updBay n f).vault = s.vault := rfl
@[simp] theorem State.updBay_darn (n : Nat) (f : Bay → Bay) : (s.updBay n f).darn = s.darn := rfl
@[simp] theorem State.updBay_drv (n : Nat) (f : Bay → Bay) : (s.updBay n f).drv = s.drv := rfl
@[simp] theorem State.updBay_skn (n : Nat) (f : Bay → Bay) : (s.updBay n f).skn = s.skn := rfl
@[simp] theorem State.updBay_sk (n : Nat) (f : Bay → Bay) : (s.updBay n f).sk = s.sk := rfl
@[simp] theorem State.updBay_net (n : Nat) (f : Bay → Bay) : (s.updBay n f).net = s.net := rfl
@[simp] theorem State.updBay_ep (n : Nat) (f : Bay → Bay) : (s.updBay n f).ep = s.ep := rfl
@[simp] theorem State.updBay_boot (n : Nat) (f : Bay → Bay) : (s.updBay n f).boot = s.boot := rfl
@[simp] theorem State.updBay_pending (n : Nat) (f : Bay → Bay) : (s.updBay n f).pending = s.pending := rfl
@[simp] theorem State.updBay_bayCh (n : Nat) (f : Bay → Bay) : (s.updBay n f).bayCh = Tbl.upd {} s.bayCh n f := rfl

@[simp] theorem State.updQp_outbox (q : Nat) (f : Qp → Qp) : (s.updQp q f).outbox = s.outbox := rfl
@[simp] theorem State.updQp_free (q : Nat) (f : Qp → Qp) : (s.updQp q f).free = s.free := rfl
@[simp] theorem State.updQp_part (q : Nat) (f : Qp → Qp) : (s.updQp q f).part = s.part := rfl
@[simp] theorem State.updQp_cnt (q : Nat) (f : Qp → Qp) : (s.updQp q f).cnt = s.cnt := rfl
@[simp] theorem State.updQp_clk (q : Nat) (f : Qp → Qp) : (s.updQp q f).clk = s.clk := rfl
@[simp] theorem State.updQp_pd (q : Nat) (f : Qp → Qp) : (s.updQp q f).pd = s.pd := rfl
@[simp] theorem State.updQp_dict (q : Nat) (f : Qp → Qp) : (s.updQp q f).dict = s.dict := rfl
@[simp] theorem State.updQp_rendi (q : Nat) (f : Qp → Qp) : (s.updQp q f).rendi = s.rendi := rfl
@[simp] theorem State.updQp_mbx (q : Nat) (f : Qp → Qp) : (s.updQp q f).mbx = s.mbx := rfl
@[simp] theorem State.updQp_smb (q : Nat) (f : Qp → Qp) : (s.updQp q f).smb = s.smb := rfl
@[simp] theorem State.updQp_ev (q : Nat) (f : Qp → Qp) : (s.updQp q f).ev = s.ev := rfl
@[simp] theorem State.updQp_fen (q : Nat) (f : Qp → Qp) : (s.updQp q f).fen = s.fen := rfl
@[simp] theorem State.updQp_msq (q : Nat) (f : Qp → Qp) : (s.updQp q f).msq = s.msq := rfl
@[simp] theorem State.updQp_todo (q : Nat) (f : Qp → Qp) : (s.updQp q f).todo = s.todo := rfl
@[simp] theorem State.updQp_place (q : Nat) (f : Qp → Qp) : (s.updQp q f).place = s.place := rfl
@[simp] theorem State.updQp_hoop (q : Nat) (f : Qp → Qp) : (s.updQp q f).hoop = s.hoop := rfl
@[simp] theorem State.updQp_jour (q : Nat) (f : Qp → Qp) : (s.updQp q f).jour = s.jour := rfl
@[simp] theorem State.updQp_vault (q : Nat) (f : Qp → Qp) : (s.updQp q f).vault = s.vault := rfl
@[simp] theorem State.updQp_darn (q : Nat) (f : Qp → Qp) : (s.updQp q f).darn = s.darn := rfl
@[simp] theorem State.updQp_drv (q : Nat) (f : Qp → Qp) : (s.updQp q f).drv = s.drv := rfl
@[simp] theorem State.updQp_skn (q : Nat) (f : Qp → Qp) : (s.updQp q f).skn = s.skn := rfl
@[simp] theorem State.updQp_sk (q : Nat) (f : Qp → Qp) : (s.updQp q f).sk = s.sk := rfl
@[simp] theorem State.updQp_bayCh (q : Nat) (f : Qp → Qp) : (s.updQp q f).bayCh = s.bayCh := rfl
@[simp] theorem State.updQp_ep (q : Nat) (f : Qp → Qp) : (s.updQp q f).ep = s.ep := rfl
@[simp] theorem State.updQp_boot (q : Nat) (f : Qp → Qp) : (s.updQp q f).boot = s.boot := rfl
@[simp] theorem State.updQp_pending (q : Nat) (f : Qp → Qp) : (s.updQp q f).pending = s.pending := rfl

@[simp] theorem State.updEye_outbox (e : Nat) (f : Eye → Eye) : (s.updEye e f).outbox = s.outbox := rfl
@[simp] theorem State.updEye_free (e : Nat) (f : Eye → Eye) : (s.updEye e f).free = s.free := rfl
@[simp] theorem State.updEye_part (e : Nat) (f : Eye → Eye) : (s.updEye e f).part = s.part := rfl
@[simp] theorem State.updEye_cnt (e : Nat) (f : Eye → Eye) : (s.updEye e f).cnt = s.cnt := rfl
@[simp] theorem State.updEye_clk (e : Nat) (f : Eye → Eye) : (s.updEye e f).clk = s.clk := rfl
@[simp] theorem State.updEye_pd (e : Nat) (f : Eye → Eye) : (s.updEye e f).pd = s.pd := rfl
@[simp] theorem State.updEye_dict (e : Nat) (f : Eye → Eye) : (s.updEye e f).dict = s.dict := rfl
@[simp] theorem State.updEye_rendi (e : Nat) (f : Eye → Eye) : (s.updEye e f).rendi = s.rendi := rfl
@[simp] theorem State.updEye_mbx (e : Nat) (f : Eye → Eye) : (s.updEye e f).mbx = s.mbx := rfl
@[simp] theorem State.updEye_smb (e : Nat) (f : Eye → Eye) : (s.updEye e f).smb = s.smb := rfl
@[simp] theorem State.updEye_ev (e : Nat) (f : Eye → Eye) : (s.updEye e f).ev = s.ev := rfl
@[simp] theorem State.updEye_fen (e : Nat) (f : Eye → Eye) : (s.updEye e f).fen = s.fen := rfl
@[simp] theorem State.updEye_msq (e : Nat) (f : Eye → Eye) : (s.updEye e f).msq = s.msq := rfl
@[simp] theorem State.updEye_todo (e : Nat) (f : Eye → Eye) : (s.updEye e f).todo = s.todo := rfl
@[simp] theorem State.updEye_place (e : Nat) (f : Eye → Eye) : (s.updEye e f).place = s.place := rfl
@[simp] theorem State.updEye_hoop (e : Nat) (f : Eye → Eye) : (s.updEye e f).hoop = s.hoop := rfl
@[simp] theorem State.updEye_jour (e : Nat) (f : Eye → Eye) : (s.updEye e f).jour = s.jour := rfl
@[simp] theorem State.updEye_vault (e : Nat) (f : Eye → Eye) : (s.updEye e f).vault = s.vault := rfl
@[simp] theorem State.updEye_darn (e : Nat) (f : Eye → Eye) : (s.updEye e f).darn = s.darn := rfl
@[simp] theorem State.updEye_drv (e : Nat) (f : Eye → Eye) : (s.updEye e f).drv = s.drv := rfl
@[simp] theorem State.updEye_skn (e : Nat) (f : Eye → Eye) : (s.updEye e f).skn = s.skn := rfl
@[simp] theorem State.updEye_sk (e : Nat) (f : Eye → Eye) : (s.updEye e f).sk = s.sk := rfl
@[simp] theorem State.updEye_bayCh (e : Nat) (f : Eye → Eye) : (s.updEye e f).bayCh = s.bayCh := rfl
@[simp] theorem State.updEye_ep (e : Nat) (f : Eye → Eye) : (s.updEye e f).ep = s.ep := rfl
@[simp] theorem State.updEye_boot (e : Nat) (f : Eye → Eye) : (s.updEye e f).boot = s.boot := rfl
@[simp] theorem State.updEye_pending (e : Nat) (f : Eye → Eye) : (s.updEye e f).pending = s.pending := rfl

@[simp] theorem State.updPort_outbox (n : Nat) (f : Port → Port) : (s.updPort n f).outbox = s.outbox := rfl
@[simp] theorem State.updPort_free (n : Nat) (f : Port → Port) : (s.updPort n f).free = s.free := rfl
@[simp] theorem State.updPort_part (n : Nat) (f : Port → Port) : (s.updPort n f).part = s.part := rfl
@[simp] theorem State.updPort_cnt (n : Nat) (f : Port → Port) : (s.updPort n f).cnt = s.cnt := rfl
@[simp] theorem State.updPort_clk (n : Nat) (f : Port → Port) : (s.updPort n f).clk = s.clk := rfl
@[simp] theorem State.updPort_pd (n : Nat) (f : Port → Port) : (s.updPort n f).pd = s.pd := rfl
@[simp] theorem State.updPort_dict (n : Nat) (f : Port → Port) : (s.updPort n f).dict = s.dict := rfl
@[simp] theorem State.updPort_rendi (n : Nat) (f : Port → Port) : (s.updPort n f).rendi = s.rendi := rfl
@[simp] theorem State.updPort_mbx (n : Nat) (f : Port → Port) : (s.updPort n f).mbx = s.mbx := rfl
@[simp] theorem State.updPort_smb (n : Nat) (f : Port → Port) : (s.updPort n f).smb = s.smb := rfl
@[simp] theorem State.updPort_ev (n : Nat) (f : Port → Port) : (s.updPort n f).ev = s.ev := rfl
@[simp] theorem State.updPort_fen (n : Nat) (f : Port → Port) : (s.updPort n f).fen = s.fen := rfl
@[simp] theorem State.updPort_msq (n : Nat) (f : Port → Port) : (s.updPort n f).msq = s.msq := rfl
@[simp] theorem State.updPort_todo (n : Nat) (f : Port → Port) : (s.updPort n f).todo = s.todo := rfl
@[simp] theorem State.updPort_place (n : Nat) (f : Port → Port) : (s.updPort n f).place = s.place := rfl
@[simp] theorem State.updPort_hoop (n : Nat) (f : Port → Port) : (s.updPort n f).hoop = s.hoop := rfl
@[simp] theorem State.updPort_jour (n : Nat) (f : Port → Port) : (s.updPort n f).jour = s.jour := rfl
@[simp] theorem State.updPort_vault (n : Nat) (f : Port → Port) : (s.updPort n f).vault = s.vault := rfl
@[simp] theorem State.updPort_darn (n : Nat) (f : Port → Port) : (s.updPort n f).darn = s.darn := rfl
@[simp] theorem State.updPort_drv (n : Nat) (f : Port → Port) : (s.updPort n f).drv = s.drv := rfl
@[simp] theorem State.updPort_skn (n : Nat) (f : Port → Port) : (s.updPort n f).skn = s.skn := rfl
@[simp] theorem State.updPort_sk (n : Nat) (f : Port → Port) : (s.updPort n f).sk = s.sk := rfl
@[simp] theorem State.updPort_bayCh (n : Nat) (f : Port → Port) : (s.updPort n f).bayCh = s.bayCh := rfl
@[simp] theorem State.updPort_ep (n : Nat) (f : Port → Port) : (s.updPort n f).ep = s.ep := rfl
@[simp] theorem State.updPort_boot (n : Nat) (f : Port → Port) : (s.updPort n f).boot = s.boot := rfl
@[simp] theorem State.updPort_pending (n : Nat) (f : Port → Port) : (s.updPort n f).pending = s.pending := rfl

@[simp] theorem State.putStripe_outbox (k : SKey) (x : Stripe) : (s.putStripe k x).outbox = s.outbox := rfl
@[simp] theorem State.putStripe_free (k : SKey) (x : Stripe) : (s.putStripe k x).free = s.free := rfl
@[simp] theorem State.putStripe_part (k : SKey) (x : Stripe) : (s.putStripe k x).part = s.part := rfl
@[simp] theorem State.putStripe_cnt (k : SKey) (x : Stripe) : (s.putStripe k x).cnt = s.cnt := rfl
@[simp] theorem State.putStripe_clk (k : SKey) (x : Stripe) : (s.putStripe k x).clk = s.clk := rfl
@[simp] theorem State.putStripe_pd (k : SKey) (x : Stripe) : (s.putStripe k x).pd = s.pd := rfl
@[simp] theorem State.putStripe_dict (k : SKey) (x : Stripe) : (s.putStripe k x).dict = s.dict := rfl
@[simp] theorem State.putStripe_rendi (k : SKey) (x : Stripe) : (s.putStripe k x).rendi = s.rendi := rfl
@[simp] theorem State.putStripe_mbx (k : SKey) (x : Stripe) : (s.putStripe k x).mbx = s.mbx := rfl
@[simp] theorem State.putStripe_smb (k : SKey) (x : Stripe) : (s.putStripe k x).smb = s.smb := rfl
@[simp] theorem State.putStripe_ev (k : SKey) (x : Stripe) : (s.putStripe k x).ev = s.ev := rfl
@[simp] theorem State.putStripe_fen (k : SKey) (x : Stripe) : (s.putStripe k x).fen = s.fen := rfl
@[simp] theorem State.putStripe_msq (k : SKey) (x : Stripe) : (s.putStripe k x).msq = s.msq := rfl
@[simp] theorem State.putStripe_todo (k : SKey) (x : Stripe) : (s.putStripe k x).todo = s.todo := rfl
@[simp] theorem State.putStripe_place (k : SKey) (x : Stripe) : (s.putStripe k x).place = s.place := rfl
@[simp] theorem State.putStripe_jour (k : SKey) (x : Stripe) : (s.putStripe k x).jour = s.jour := rfl
@[simp] theorem State.putStripe_vault (k : SKey) (x : Stripe) : (s.putStripe k x).vault = s.vault := rfl
@[simp] theorem State.putStripe_darn (k : SKey) (x : Stripe) : (s.putStripe k x).darn = s.darn := rfl
@[simp] theorem State.putStripe_drv (k : SKey) (x : Stripe) : (s.putStripe k x).drv = s.drv := rfl
@[simp] theorem State.putStripe_skn (k : SKey) (x : Stripe) : (s.putStripe k x).skn = s.skn := rfl
@[simp] theorem State.putStripe_sk (k : SKey) (x : Stripe) : (s.putStripe k x).sk = s.sk := rfl
@[simp] theorem State.putStripe_net (k : SKey) (x : Stripe) : (s.putStripe k x).net = s.net := rfl
@[simp] theorem State.putStripe_bayCh (k : SKey) (x : Stripe) : (s.putStripe k x).bayCh = s.bayCh := rfl
@[simp] theorem State.putStripe_ep (k : SKey) (x : Stripe) : (s.putStripe k x).ep = s.ep := rfl
@[simp] theorem State.putStripe_boot (k : SKey) (x : Stripe) : (s.putStripe k x).boot = s.boot := rfl
@[simp] theorem State.putStripe_pending (k : SKey) (x : Stripe) : (s.putStripe k x).pending = s.pending := rfl

@[simp] theorem State.updWrite_outbox (i : Nat) (f : WCmd → WCmd) : (s.updWrite i f).outbox = s.outbox := rfl
@[simp] theorem State.updWrite_free (i : Nat) (f : WCmd → WCmd) : (s.updWrite i f).free = s.free := rfl
@[simp] theorem State.updWrite_part (i : Nat) (f : WCmd → WCmd) : (s.updWrite i f).part = s.part := rfl
@[simp] theorem State.updWrite_cnt (i : Nat) (f : WCmd → WCmd) : (s.updWrite i f).cnt = s.cnt := rfl
@[simp] theorem State.updWrite_clk (i : Nat) (f : WCmd → WCmd) : (s.updWrite i f).clk = s.clk := rfl
@[simp] theorem State.updWrite_pd (i : Nat) (f : WCmd → WCmd) : (s.updWrite i f).pd = s.pd := rfl
@[simp] theorem State.updWrite_dict (i : Nat) (f : WCmd → WCmd) : (s.updWrite i f).dict = s.dict := rfl
@[simp] theorem State.updWrite_rendi (i : Nat) (f : WCmd → WCmd) : (s.updWrite i f).rendi = s.rendi := rfl
@[simp] theorem State.updWrite_mbx (i : Nat) (f : WCmd → WCmd) : (s.updWrite i f).mbx = s.mbx := rfl
@[simp] theorem State.updWrite_smb (i : Nat) (f : WCmd → WCmd) : (s.updWrite i f).smb = s.smb := rfl
@[simp] theorem State.updWrite_ev (i : Nat) (f : WCmd → WCmd) : (s.updWrite i f).ev = s.ev := rfl
@[simp] theorem State.updWrite_fen (i : Nat) (f : WCmd → WCmd) : (s.updWrite i f).fen = s.fen := rfl
@[simp] theorem State.updWrite_msq (i : Nat) (f : WCmd → WCmd) : (s.updWrite i f).msq = s.msq := rfl
@[simp] theorem State.updWrite_todo (i : Nat) (f : WCmd → WCmd) : (s.updWrite i f).todo = s.todo := rfl
@[simp] theorem State.updWrite_place (i : Nat) (f : WCmd → WCmd) : (s.updWrite i f).place = s.place := rfl
@[simp] theorem State.updWrite_jour (i : Nat) (f : WCmd → WCmd) : (s.updWrite i f).jour = s.jour := rfl
@[simp] theorem State.updWrite_vault (i : Nat) (f : WCmd → WCmd) : (s.updWrite i f).vault = s.vault := rfl
@[simp] theorem State.updWrite_darn (i : Nat) (f : WCmd → WCmd) : (s.updWrite i f).darn = s.darn := rfl
@[simp] theorem State.updWrite_drv (i : Nat) (f : WCmd → WCmd) : (s.updWrite i f).drv = s.drv := rfl
@[simp] theorem State.updWrite_skn (i : Nat) (f : WCmd → WCmd) : (s.updWrite i f).skn = s.skn := rfl
@[simp] theorem State.updWrite_sk (i : Nat) (f : WCmd → WCmd) : (s.updWrite i f).sk = s.sk := rfl
@[simp] theorem State.updWrite_net (i : Nat) (f : WCmd → WCmd) : (s.updWrite i f).net = s.net := rfl
@[simp] theorem State.updWrite_bayCh (i : Nat) (f : WCmd → WCmd) : (s.updWrite i f).bayCh = s.bayCh := rfl
@[simp] theorem State.updWrite_ep (i : Nat) (f : WCmd → WCmd) : (s.updWrite i f).ep = s.ep := rfl
@[simp] theorem State.updWrite_boot (i : Nat) (f : WCmd → WCmd) : (s.updWrite i f).boot = s.boot := rfl
@[simp] theorem State.updWrite_pending (i : Nat) (f : WCmd → WCmd) : (s.updWrite i f).pending = s.pending := rfl

@[simp] theorem State.putGeo_outbox (g : Nat) (x : Geo) : (s.putGeo g x).outbox = s.outbox := rfl
@[simp] theorem State.putGeo_free (g : Nat) (x : Geo) : (s.putGeo g x).free = s.free := rfl
@[simp] theorem State.putGeo_part (g : Nat) (x : Geo) : (s.putGeo g x).part = s.part := rfl
@[simp] theorem State.putGeo_cnt (g : Nat) (x : Geo) : (s.putGeo g x).cnt = s.cnt := rfl
@[simp] theorem State.putGeo_clk (g : Nat) (x : Geo) : (s.putGeo g x).clk = s.clk := rfl
@[simp] theorem State.putGeo_pd (g : Nat) (x : Geo) : (s.putGeo g x).pd = s.pd := rfl
@[simp] theorem State.putGeo_dict (g : Nat) (x : Geo) : (s.putGeo g x).dict = s.dict := rfl
@[simp] theorem State.putGeo_rendi (g : Nat) (x : Geo) : (s.putGeo g x).rendi = s.rendi := rfl
@[simp] theorem State.putGeo_mbx (g : Nat) (x : Geo) : (s.putGeo g x).mbx = s.mbx := rfl
@[simp] theorem State.putGeo_smb (g : Nat) (x : Geo) : (s.putGeo g x).smb = s.smb := rfl
@[simp] theorem State.putGeo_ev (g : Nat) (x : Geo) : (s.putGeo g x).ev = s.ev := rfl
@[simp] theorem State.putGeo_fen (g : Nat) (x : Geo) : (s.putGeo g x).fen = s.fen := rfl
@[simp] theorem State.putGeo_msq (g : Nat) (x : Geo) : (s.putGeo g x).msq = s.msq := rfl
@[simp] theorem State.putGeo_todo (g : Nat) (x : Geo) : (s.putGeo g x).todo = s.todo := rfl
@[simp] theorem State.putGeo_hoop (g : Nat) (x : Geo) : (s.putGeo g x).hoop = s.hoop := rfl
@[simp] theorem State.putGeo_jour (g : Nat) (x : Geo) : (s.putGeo g x).jour = s.jour := rfl
@[simp] theorem State.putGeo_vault (g : Nat) (x : Geo) : (s.putGeo g x).vault = s.vault := rfl
@[simp] theorem State.putGeo_darn (g : Nat) (x : Geo) : (s.putGeo g x).darn = s.darn := rfl
@[simp] theorem State.putGeo_drv (g : Nat) (x : Geo) : (s.putGeo g x).drv = s.drv := rfl
@[simp] theorem State.putGeo_skn (g : Nat) (x : Geo) : (s.putGeo g x).skn = s.skn := rfl
@[simp] theorem State.putGeo_sk (g : Nat) (x : Geo) : (s.putGeo g x).sk = s.sk := rfl
@[simp] theorem State.putGeo_net (g : Nat) (x : Geo) : (s.putGeo g x).net = s.net := rfl
@[simp] theorem State.putGeo_bayCh (g : Nat) (x : Geo) : (s.putGeo g x).bayCh = s.bayCh := rfl
@[simp] theorem State.putGeo_ep (g : Nat) (x : Geo) : (s.putGeo g x).ep = s.ep := rfl
@[simp] theorem State.putGeo_boot (g : Nat) (x : Geo) : (s.putGeo g x).boot = s.boot := rfl
@[simp] theorem State.putGeo_pending (g : Nat) (x : Geo) : (s.putGeo g x).pending = s.pending := rfl

@[simp] theorem State.putMem_outbox (b : Nat) (m : Member) : (s.putMem b m).outbox = s.outbox := rfl
@[simp] theorem State.putMem_free (b : Nat) (m : Member) : (s.putMem b m).free = s.free := rfl
@[simp] theorem State.putMem_part (b : Nat) (m : Member) : (s.putMem b m).part = s.part := rfl
@[simp] theorem State.putMem_cnt (b : Nat) (m : Member) : (s.putMem b m).cnt = s.cnt := rfl
@[simp] theorem State.putMem_clk (b : Nat) (m : Member) : (s.putMem b m).clk = s.clk := rfl
@[simp] theorem State.putMem_pd (b : Nat) (m : Member) : (s.putMem b m).pd = s.pd := rfl
@[simp] theorem State.putMem_dict (b : Nat) (m : Member) : (s.putMem b m).dict = s.dict := rfl
@[simp] theorem State.putMem_rendi (b : Nat) (m : Member) : (s.putMem b m).rendi = s.rendi := rfl
@[simp] theorem State.putMem_mbx (b : Nat) (m : Member) : (s.putMem b m).mbx = s.mbx := rfl
@[simp] theorem State.putMem_smb (b : Nat) (m : Member) : (s.putMem b m).smb = s.smb := rfl
@[simp] theorem State.putMem_ev (b : Nat) (m : Member) : (s.putMem b m).ev = s.ev := rfl
@[simp] theorem State.putMem_fen (b : Nat) (m : Member) : (s.putMem b m).fen = s.fen := rfl
@[simp] theorem State.putMem_msq (b : Nat) (m : Member) : (s.putMem b m).msq = s.msq := rfl
@[simp] theorem State.putMem_todo (b : Nat) (m : Member) : (s.putMem b m).todo = s.todo := rfl
@[simp] theorem State.putMem_place (b : Nat) (m : Member) : (s.putMem b m).place = s.place := rfl
@[simp] theorem State.putMem_hoop (b : Nat) (m : Member) : (s.putMem b m).hoop = s.hoop := rfl
@[simp] theorem State.putMem_jour (b : Nat) (m : Member) : (s.putMem b m).jour = s.jour := rfl
@[simp] theorem State.putMem_vault (b : Nat) (m : Member) : (s.putMem b m).vault = s.vault := rfl
@[simp] theorem State.putMem_darn (b : Nat) (m : Member) : (s.putMem b m).darn = s.darn := rfl
@[simp] theorem State.putMem_skn (b : Nat) (m : Member) : (s.putMem b m).skn = s.skn := rfl
@[simp] theorem State.putMem_sk (b : Nat) (m : Member) : (s.putMem b m).sk = s.sk := rfl
@[simp] theorem State.putMem_net (b : Nat) (m : Member) : (s.putMem b m).net = s.net := rfl
@[simp] theorem State.putMem_bayCh (b : Nat) (m : Member) : (s.putMem b m).bayCh = s.bayCh := rfl
@[simp] theorem State.putMem_ep (b : Nat) (m : Member) : (s.putMem b m).ep = s.ep := rfl
@[simp] theorem State.putMem_boot (b : Nat) (m : Member) : (s.putMem b m).boot = s.boot := rfl
@[simp] theorem State.putMem_pending (b : Nat) (m : Member) : (s.putMem b m).pending = s.pending := rfl

@[simp] theorem State.putBolt_outbox (e : Nat) (b : Bolt) : (s.putBolt e b).outbox = s.outbox := rfl
@[simp] theorem State.putBolt_free (e : Nat) (b : Bolt) : (s.putBolt e b).free = s.free := rfl
@[simp] theorem State.putBolt_part (e : Nat) (b : Bolt) : (s.putBolt e b).part = s.part := rfl
@[simp] theorem State.putBolt_cnt (e : Nat) (b : Bolt) : (s.putBolt e b).cnt = s.cnt := rfl
@[simp] theorem State.putBolt_clk (e : Nat) (b : Bolt) : (s.putBolt e b).clk = s.clk := rfl
@[simp] theorem State.putBolt_pd (e : Nat) (b : Bolt) : (s.putBolt e b).pd = s.pd := rfl
@[simp] theorem State.putBolt_dict (e : Nat) (b : Bolt) : (s.putBolt e b).dict = s.dict := rfl
@[simp] theorem State.putBolt_rendi (e : Nat) (b : Bolt) : (s.putBolt e b).rendi = s.rendi := rfl
@[simp] theorem State.putBolt_mbx (e : Nat) (b : Bolt) : (s.putBolt e b).mbx = s.mbx := rfl
@[simp] theorem State.putBolt_smb (e : Nat) (b : Bolt) : (s.putBolt e b).smb = s.smb := rfl
@[simp] theorem State.putBolt_ev (e : Nat) (b : Bolt) : (s.putBolt e b).ev = s.ev := rfl
@[simp] theorem State.putBolt_fen (e : Nat) (b : Bolt) : (s.putBolt e b).fen = s.fen := rfl
@[simp] theorem State.putBolt_msq (e : Nat) (b : Bolt) : (s.putBolt e b).msq = s.msq := rfl
@[simp] theorem State.putBolt_todo (e : Nat) (b : Bolt) : (s.putBolt e b).todo = s.todo := rfl
@[simp] theorem State.putBolt_hoop (e : Nat) (b : Bolt) : (s.putBolt e b).hoop = s.hoop := rfl
@[simp] theorem State.putBolt_jour (e : Nat) (b : Bolt) : (s.putBolt e b).jour = s.jour := rfl
@[simp] theorem State.putBolt_vault (e : Nat) (b : Bolt) : (s.putBolt e b).vault = s.vault := rfl
@[simp] theorem State.putBolt_darn (e : Nat) (b : Bolt) : (s.putBolt e b).darn = s.darn := rfl
@[simp] theorem State.putBolt_drv (e : Nat) (b : Bolt) : (s.putBolt e b).drv = s.drv := rfl
@[simp] theorem State.putBolt_skn (e : Nat) (b : Bolt) : (s.putBolt e b).skn = s.skn := rfl
@[simp] theorem State.putBolt_sk (e : Nat) (b : Bolt) : (s.putBolt e b).sk = s.sk := rfl
@[simp] theorem State.putBolt_net (e : Nat) (b : Bolt) : (s.putBolt e b).net = s.net := rfl
@[simp] theorem State.putBolt_bayCh (e : Nat) (b : Bolt) : (s.putBolt e b).bayCh = s.bayCh := rfl
@[simp] theorem State.putBolt_ep (e : Nat) (b : Bolt) : (s.putBolt e b).ep = s.ep := rfl
@[simp] theorem State.putBolt_boot (e : Nat) (b : Bolt) : (s.putBolt e b).boot = s.boot := rfl
@[simp] theorem State.putBolt_pending (e : Nat) (b : Bolt) : (s.putBolt e b).pending = s.pending := rfl

@[simp] theorem State.putNsp_outbox (n : Nat) (x : Nsp) : (s.putNsp n x).outbox = s.outbox := rfl
@[simp] theorem State.putNsp_free (n : Nat) (x : Nsp) : (s.putNsp n x).free = s.free := rfl
@[simp] theorem State.putNsp_part (n : Nat) (x : Nsp) : (s.putNsp n x).part = s.part := rfl
@[simp] theorem State.putNsp_cnt (n : Nat) (x : Nsp) : (s.putNsp n x).cnt = s.cnt := rfl
@[simp] theorem State.putNsp_clk (n : Nat) (x : Nsp) : (s.putNsp n x).clk = s.clk := rfl
@[simp] theorem State.putNsp_pd (n : Nat) (x : Nsp) : (s.putNsp n x).pd = s.pd := rfl
@[simp] theorem State.putNsp_dict (n : Nat) (x : Nsp) : (s.putNsp n x).dict = s.dict := rfl
@[simp] theorem State.putNsp_rendi (n : Nat) (x : Nsp) : (s.putNsp n x).rendi = s.rendi := rfl
@[simp] theorem State.putNsp_mbx (n : Nat) (x : Nsp) : (s.putNsp n x).mbx = s.mbx := rfl
@[simp] theorem State.putNsp_smb (n : Nat) (x : Nsp) : (s.putNsp n x).smb = s.smb := rfl
@[simp] theorem State.putNsp_ev (n : Nat) (x : Nsp) : (s.putNsp n x).ev = s.ev := rfl
@[simp] theorem State.putNsp_fen (n : Nat) (x : Nsp) : (s.putNsp n x).fen = s.fen := rfl
@[simp] theorem State.putNsp_msq (n : Nat) (x : Nsp) : (s.putNsp n x).msq = s.msq := rfl
@[simp] theorem State.putNsp_todo (n : Nat) (x : Nsp) : (s.putNsp n x).todo = s.todo := rfl
@[simp] theorem State.putNsp_hoop (n : Nat) (x : Nsp) : (s.putNsp n x).hoop = s.hoop := rfl
@[simp] theorem State.putNsp_jour (n : Nat) (x : Nsp) : (s.putNsp n x).jour = s.jour := rfl
@[simp] theorem State.putNsp_vault (n : Nat) (x : Nsp) : (s.putNsp n x).vault = s.vault := rfl
@[simp] theorem State.putNsp_darn (n : Nat) (x : Nsp) : (s.putNsp n x).darn = s.darn := rfl
@[simp] theorem State.putNsp_drv (n : Nat) (x : Nsp) : (s.putNsp n x).drv = s.drv := rfl
@[simp] theorem State.putNsp_skn (n : Nat) (x : Nsp) : (s.putNsp n x).skn = s.skn := rfl
@[simp] theorem State.putNsp_sk (n : Nat) (x : Nsp) : (s.putNsp n x).sk = s.sk := rfl
@[simp] theorem State.putNsp_net (n : Nat) (x : Nsp) : (s.putNsp n x).net = s.net := rfl
@[simp] theorem State.putNsp_bayCh (n : Nat) (x : Nsp) : (s.putNsp n x).bayCh = s.bayCh := rfl
@[simp] theorem State.putNsp_ep (n : Nat) (x : Nsp) : (s.putNsp n x).ep = s.ep := rfl
@[simp] theorem State.putNsp_boot (n : Nat) (x : Nsp) : (s.putNsp n x).boot = s.boot := rfl
@[simp] theorem State.putNsp_pending (n : Nat) (x : Nsp) : (s.putNsp n x).pending = s.pending := rfl

@[simp] theorem State.putLink_outbox (b : Nat) (l : DLink) : (s.putLink b l).outbox = s.outbox := rfl
@[simp] theorem State.putLink_free (b : Nat) (l : DLink) : (s.putLink b l).free = s.free := rfl
@[simp] theorem State.putLink_part (b : Nat) (l : DLink) : (s.putLink b l).part = s.part := rfl
@[simp] theorem State.putLink_cnt (b : Nat) (l : DLink) : (s.putLink b l).cnt = s.cnt := rfl
@[simp] theorem State.putLink_clk (b : Nat) (l : DLink) : (s.putLink b l).clk = s.clk := rfl
@[simp] theorem State.putLink_pd (b : Nat) (l : DLink) : (s.putLink b l).pd = s.pd := rfl
@[simp] theorem State.putLink_dict (b : Nat) (l : DLink) : (s.putLink b l).dict = s.dict := rfl
@[simp] theorem State.putLink_rendi (b : Nat) (l : DLink) : (s.putLink b l).rendi = s.rendi := rfl
@[simp] theorem State.putLink_mbx (b : Nat) (l : DLink) : (s.putLink b l).mbx = s.mbx := rfl
@[simp] theorem State.putLink_smb (b : Nat) (l : DLink) : (s.putLink b l).smb = s.smb := rfl
@[simp] theorem State.putLink_ev (b : Nat) (l : DLink) : (s.putLink b l).ev = s.ev := rfl
@[simp] theorem State.putLink_fen (b : Nat) (l : DLink) : (s.putLink b l).fen = s.fen := rfl
@[simp] theorem State.putLink_msq (b : Nat) (l : DLink) : (s.putLink b l).msq = s.msq := rfl
@[simp] theorem State.putLink_todo (b : Nat) (l : DLink) : (s.putLink b l).todo = s.todo := rfl
@[simp] theorem State.putLink_place (b : Nat) (l : DLink) : (s.putLink b l).place = s.place := rfl
@[simp] theorem State.putLink_hoop (b : Nat) (l : DLink) : (s.putLink b l).hoop = s.hoop := rfl
@[simp] theorem State.putLink_jour (b : Nat) (l : DLink) : (s.putLink b l).jour = s.jour := rfl
@[simp] theorem State.putLink_vault (b : Nat) (l : DLink) : (s.putLink b l).vault = s.vault := rfl
@[simp] theorem State.putLink_darn (b : Nat) (l : DLink) : (s.putLink b l).darn = s.darn := rfl
@[simp] theorem State.putLink_skn (b : Nat) (l : DLink) : (s.putLink b l).skn = s.skn := rfl
@[simp] theorem State.putLink_sk (b : Nat) (l : DLink) : (s.putLink b l).sk = s.sk := rfl
@[simp] theorem State.putLink_net (b : Nat) (l : DLink) : (s.putLink b l).net = s.net := rfl
@[simp] theorem State.putLink_bayCh (b : Nat) (l : DLink) : (s.putLink b l).bayCh = s.bayCh := rfl
@[simp] theorem State.putLink_ep (b : Nat) (l : DLink) : (s.putLink b l).ep = s.ep := rfl
@[simp] theorem State.putLink_boot (b : Nat) (l : DLink) : (s.putLink b l).boot = s.boot := rfl
@[simp] theorem State.putLink_pending (b : Nat) (l : DLink) : (s.putLink b l).pending = s.pending := rfl

@[simp] theorem State.updRing_outbox (r : Nat) (f : Ring → Ring) : (s.updRing r f).outbox = s.outbox := rfl
@[simp] theorem State.updRing_free (r : Nat) (f : Ring → Ring) : (s.updRing r f).free = s.free := rfl
@[simp] theorem State.updRing_part (r : Nat) (f : Ring → Ring) : (s.updRing r f).part = s.part := rfl
@[simp] theorem State.updRing_cnt (r : Nat) (f : Ring → Ring) : (s.updRing r f).cnt = s.cnt := rfl
@[simp] theorem State.updRing_clk (r : Nat) (f : Ring → Ring) : (s.updRing r f).clk = s.clk := rfl
@[simp] theorem State.updRing_pd (r : Nat) (f : Ring → Ring) : (s.updRing r f).pd = s.pd := rfl
@[simp] theorem State.updRing_dict (r : Nat) (f : Ring → Ring) : (s.updRing r f).dict = s.dict := rfl
@[simp] theorem State.updRing_rendi (r : Nat) (f : Ring → Ring) : (s.updRing r f).rendi = s.rendi := rfl
@[simp] theorem State.updRing_mbx (r : Nat) (f : Ring → Ring) : (s.updRing r f).mbx = s.mbx := rfl
@[simp] theorem State.updRing_smb (r : Nat) (f : Ring → Ring) : (s.updRing r f).smb = s.smb := rfl
@[simp] theorem State.updRing_ev (r : Nat) (f : Ring → Ring) : (s.updRing r f).ev = s.ev := rfl
@[simp] theorem State.updRing_fen (r : Nat) (f : Ring → Ring) : (s.updRing r f).fen = s.fen := rfl
@[simp] theorem State.updRing_msq (r : Nat) (f : Ring → Ring) : (s.updRing r f).msq = s.msq := rfl
@[simp] theorem State.updRing_todo (r : Nat) (f : Ring → Ring) : (s.updRing r f).todo = s.todo := rfl
@[simp] theorem State.updRing_place (r : Nat) (f : Ring → Ring) : (s.updRing r f).place = s.place := rfl
@[simp] theorem State.updRing_hoop (r : Nat) (f : Ring → Ring) : (s.updRing r f).hoop = s.hoop := rfl
@[simp] theorem State.updRing_jour (r : Nat) (f : Ring → Ring) : (s.updRing r f).jour = s.jour := rfl
@[simp] theorem State.updRing_vault (r : Nat) (f : Ring → Ring) : (s.updRing r f).vault = s.vault := rfl
@[simp] theorem State.updRing_darn (r : Nat) (f : Ring → Ring) : (s.updRing r f).darn = s.darn := rfl
@[simp] theorem State.updRing_drv (r : Nat) (f : Ring → Ring) : (s.updRing r f).drv = s.drv := rfl
@[simp] theorem State.updRing_skn (r : Nat) (f : Ring → Ring) : (s.updRing r f).skn = s.skn := rfl
@[simp] theorem State.updRing_sk (r : Nat) (f : Ring → Ring) : (s.updRing r f).sk = s.sk := rfl
@[simp] theorem State.updRing_net (r : Nat) (f : Ring → Ring) : (s.updRing r f).net = s.net := rfl
@[simp] theorem State.updRing_bayCh (r : Nat) (f : Ring → Ring) : (s.updRing r f).bayCh = s.bayCh := rfl
@[simp] theorem State.updRing_boot (r : Nat) (f : Ring → Ring) : (s.updRing r f).boot = s.boot := rfl
@[simp] theorem State.updRing_pending (r : Nat) (f : Ring → Ring) : (s.updRing r f).pending = s.pending := rfl

@[simp] theorem State.updChan_outbox (c : Nat) (f : Chan → Chan) : (s.updChan c f).outbox = s.outbox := rfl
@[simp] theorem State.updChan_free (c : Nat) (f : Chan → Chan) : (s.updChan c f).free = s.free := rfl
@[simp] theorem State.updChan_part (c : Nat) (f : Chan → Chan) : (s.updChan c f).part = s.part := rfl
@[simp] theorem State.updChan_cnt (c : Nat) (f : Chan → Chan) : (s.updChan c f).cnt = s.cnt := rfl
@[simp] theorem State.updChan_clk (c : Nat) (f : Chan → Chan) : (s.updChan c f).clk = s.clk := rfl
@[simp] theorem State.updChan_pd (c : Nat) (f : Chan → Chan) : (s.updChan c f).pd = s.pd := rfl
@[simp] theorem State.updChan_dict (c : Nat) (f : Chan → Chan) : (s.updChan c f).dict = s.dict := rfl
@[simp] theorem State.updChan_rendi (c : Nat) (f : Chan → Chan) : (s.updChan c f).rendi = s.rendi := rfl
@[simp] theorem State.updChan_mbx (c : Nat) (f : Chan → Chan) : (s.updChan c f).mbx = s.mbx := rfl
@[simp] theorem State.updChan_smb (c : Nat) (f : Chan → Chan) : (s.updChan c f).smb = s.smb := rfl
@[simp] theorem State.updChan_ev (c : Nat) (f : Chan → Chan) : (s.updChan c f).ev = s.ev := rfl
@[simp] theorem State.updChan_fen (c : Nat) (f : Chan → Chan) : (s.updChan c f).fen = s.fen := rfl
@[simp] theorem State.updChan_msq (c : Nat) (f : Chan → Chan) : (s.updChan c f).msq = s.msq := rfl
@[simp] theorem State.updChan_todo (c : Nat) (f : Chan → Chan) : (s.updChan c f).todo = s.todo := rfl
@[simp] theorem State.updChan_place (c : Nat) (f : Chan → Chan) : (s.updChan c f).place = s.place := rfl
@[simp] theorem State.updChan_hoop (c : Nat) (f : Chan → Chan) : (s.updChan c f).hoop = s.hoop := rfl
@[simp] theorem State.updChan_jour (c : Nat) (f : Chan → Chan) : (s.updChan c f).jour = s.jour := rfl
@[simp] theorem State.updChan_vault (c : Nat) (f : Chan → Chan) : (s.updChan c f).vault = s.vault := rfl
@[simp] theorem State.updChan_darn (c : Nat) (f : Chan → Chan) : (s.updChan c f).darn = s.darn := rfl
@[simp] theorem State.updChan_drv (c : Nat) (f : Chan → Chan) : (s.updChan c f).drv = s.drv := rfl
@[simp] theorem State.updChan_skn (c : Nat) (f : Chan → Chan) : (s.updChan c f).skn = s.skn := rfl
@[simp] theorem State.updChan_sk (c : Nat) (f : Chan → Chan) : (s.updChan c f).sk = s.sk := rfl
@[simp] theorem State.updChan_net (c : Nat) (f : Chan → Chan) : (s.updChan c f).net = s.net := rfl
@[simp] theorem State.updChan_bayCh (c : Nat) (f : Chan → Chan) : (s.updChan c f).bayCh = s.bayCh := rfl
@[simp] theorem State.updChan_boot (c : Nat) (f : Chan → Chan) : (s.updChan c f).boot = s.boot := rfl
@[simp] theorem State.updChan_pending (c : Nat) (f : Chan → Chan) : (s.updChan c f).pending = s.pending := rfl

@[simp] theorem State.updFn_outbox (f : Nat) (g : EpFn → EpFn) : (s.updFn f g).outbox = s.outbox := rfl
@[simp] theorem State.updFn_free (f : Nat) (g : EpFn → EpFn) : (s.updFn f g).free = s.free := rfl
@[simp] theorem State.updFn_part (f : Nat) (g : EpFn → EpFn) : (s.updFn f g).part = s.part := rfl
@[simp] theorem State.updFn_cnt (f : Nat) (g : EpFn → EpFn) : (s.updFn f g).cnt = s.cnt := rfl
@[simp] theorem State.updFn_clk (f : Nat) (g : EpFn → EpFn) : (s.updFn f g).clk = s.clk := rfl
@[simp] theorem State.updFn_pd (f : Nat) (g : EpFn → EpFn) : (s.updFn f g).pd = s.pd := rfl
@[simp] theorem State.updFn_dict (f : Nat) (g : EpFn → EpFn) : (s.updFn f g).dict = s.dict := rfl
@[simp] theorem State.updFn_rendi (f : Nat) (g : EpFn → EpFn) : (s.updFn f g).rendi = s.rendi := rfl
@[simp] theorem State.updFn_mbx (f : Nat) (g : EpFn → EpFn) : (s.updFn f g).mbx = s.mbx := rfl
@[simp] theorem State.updFn_smb (f : Nat) (g : EpFn → EpFn) : (s.updFn f g).smb = s.smb := rfl
@[simp] theorem State.updFn_ev (f : Nat) (g : EpFn → EpFn) : (s.updFn f g).ev = s.ev := rfl
@[simp] theorem State.updFn_fen (f : Nat) (g : EpFn → EpFn) : (s.updFn f g).fen = s.fen := rfl
@[simp] theorem State.updFn_msq (f : Nat) (g : EpFn → EpFn) : (s.updFn f g).msq = s.msq := rfl
@[simp] theorem State.updFn_todo (f : Nat) (g : EpFn → EpFn) : (s.updFn f g).todo = s.todo := rfl
@[simp] theorem State.updFn_place (f : Nat) (g : EpFn → EpFn) : (s.updFn f g).place = s.place := rfl
@[simp] theorem State.updFn_hoop (f : Nat) (g : EpFn → EpFn) : (s.updFn f g).hoop = s.hoop := rfl
@[simp] theorem State.updFn_jour (f : Nat) (g : EpFn → EpFn) : (s.updFn f g).jour = s.jour := rfl
@[simp] theorem State.updFn_vault (f : Nat) (g : EpFn → EpFn) : (s.updFn f g).vault = s.vault := rfl
@[simp] theorem State.updFn_darn (f : Nat) (g : EpFn → EpFn) : (s.updFn f g).darn = s.darn := rfl
@[simp] theorem State.updFn_drv (f : Nat) (g : EpFn → EpFn) : (s.updFn f g).drv = s.drv := rfl
@[simp] theorem State.updFn_skn (f : Nat) (g : EpFn → EpFn) : (s.updFn f g).skn = s.skn := rfl
@[simp] theorem State.updFn_sk (f : Nat) (g : EpFn → EpFn) : (s.updFn f g).sk = s.sk := rfl
@[simp] theorem State.updFn_net (f : Nat) (g : EpFn → EpFn) : (s.updFn f g).net = s.net := rfl
@[simp] theorem State.updFn_bayCh (f : Nat) (g : EpFn → EpFn) : (s.updFn f g).bayCh = s.bayCh := rfl
@[simp] theorem State.updFn_boot (f : Nat) (g : EpFn → EpFn) : (s.updFn f g).boot = s.boot := rfl
@[simp] theorem State.updFn_pending (f : Nat) (g : EpFn → EpFn) : (s.updFn f g).pending = s.pending := rfl

@[simp] theorem State.setRole_outbox (r : Nat) : (s.setRole r).outbox = s.outbox := rfl
@[simp] theorem State.setRole_free (r : Nat) : (s.setRole r).free = s.free := rfl
@[simp] theorem State.setRole_part (r : Nat) : (s.setRole r).part = s.part := rfl
@[simp] theorem State.setRole_cnt (r : Nat) : (s.setRole r).cnt = s.cnt := rfl
@[simp] theorem State.setRole_clk (r : Nat) : (s.setRole r).clk = s.clk := rfl
@[simp] theorem State.setRole_pd (r : Nat) : (s.setRole r).pd = s.pd := rfl
@[simp] theorem State.setRole_dict (r : Nat) : (s.setRole r).dict = s.dict := rfl
@[simp] theorem State.setRole_rendi (r : Nat) : (s.setRole r).rendi = s.rendi := rfl
@[simp] theorem State.setRole_mbx (r : Nat) : (s.setRole r).mbx = s.mbx := rfl
@[simp] theorem State.setRole_smb (r : Nat) : (s.setRole r).smb = s.smb := rfl
@[simp] theorem State.setRole_ev (r : Nat) : (s.setRole r).ev = s.ev := rfl
@[simp] theorem State.setRole_fen (r : Nat) : (s.setRole r).fen = s.fen := rfl
@[simp] theorem State.setRole_msq (r : Nat) : (s.setRole r).msq = s.msq := rfl
@[simp] theorem State.setRole_todo (r : Nat) : (s.setRole r).todo = s.todo := rfl
@[simp] theorem State.setRole_place (r : Nat) : (s.setRole r).place = s.place := rfl
@[simp] theorem State.setRole_hoop (r : Nat) : (s.setRole r).hoop = s.hoop := rfl
@[simp] theorem State.setRole_jour (r : Nat) : (s.setRole r).jour = s.jour := rfl
@[simp] theorem State.setRole_vault (r : Nat) : (s.setRole r).vault = s.vault := rfl
@[simp] theorem State.setRole_darn (r : Nat) : (s.setRole r).darn = s.darn := rfl
@[simp] theorem State.setRole_drv (r : Nat) : (s.setRole r).drv = s.drv := rfl
@[simp] theorem State.setRole_skn (r : Nat) : (s.setRole r).skn = s.skn := rfl
@[simp] theorem State.setRole_net (r : Nat) : (s.setRole r).net = s.net := rfl
@[simp] theorem State.setRole_bayCh (r : Nat) : (s.setRole r).bayCh = s.bayCh := rfl
@[simp] theorem State.setRole_ep (r : Nat) : (s.setRole r).ep = s.ep := rfl
@[simp] theorem State.setRole_boot (r : Nat) : (s.setRole r).boot = s.boot := rfl
@[simp] theorem State.setRole_pending (r : Nat) : (s.setRole r).pending = s.pending := rfl

@[simp] theorem State.setTwin_outbox (t : Twin) : (s.setTwin t).outbox = s.outbox := rfl
@[simp] theorem State.setTwin_free (t : Twin) : (s.setTwin t).free = s.free := rfl
@[simp] theorem State.setTwin_part (t : Twin) : (s.setTwin t).part = s.part := rfl
@[simp] theorem State.setTwin_cnt (t : Twin) : (s.setTwin t).cnt = s.cnt := rfl
@[simp] theorem State.setTwin_clk (t : Twin) : (s.setTwin t).clk = s.clk := rfl
@[simp] theorem State.setTwin_pd (t : Twin) : (s.setTwin t).pd = s.pd := rfl
@[simp] theorem State.setTwin_dict (t : Twin) : (s.setTwin t).dict = s.dict := rfl
@[simp] theorem State.setTwin_rendi (t : Twin) : (s.setTwin t).rendi = s.rendi := rfl
@[simp] theorem State.setTwin_mbx (t : Twin) : (s.setTwin t).mbx = s.mbx := rfl
@[simp] theorem State.setTwin_smb (t : Twin) : (s.setTwin t).smb = s.smb := rfl
@[simp] theorem State.setTwin_ev (t : Twin) : (s.setTwin t).ev = s.ev := rfl
@[simp] theorem State.setTwin_fen (t : Twin) : (s.setTwin t).fen = s.fen := rfl
@[simp] theorem State.setTwin_msq (t : Twin) : (s.setTwin t).msq = s.msq := rfl
@[simp] theorem State.setTwin_todo (t : Twin) : (s.setTwin t).todo = s.todo := rfl
@[simp] theorem State.setTwin_place (t : Twin) : (s.setTwin t).place = s.place := rfl
@[simp] theorem State.setTwin_hoop (t : Twin) : (s.setTwin t).hoop = s.hoop := rfl
@[simp] theorem State.setTwin_jour (t : Twin) : (s.setTwin t).jour = s.jour := rfl
@[simp] theorem State.setTwin_vault (t : Twin) : (s.setTwin t).vault = s.vault := rfl
@[simp] theorem State.setTwin_darn (t : Twin) : (s.setTwin t).darn = s.darn := rfl
@[simp] theorem State.setTwin_drv (t : Twin) : (s.setTwin t).drv = s.drv := rfl
@[simp] theorem State.setTwin_skn (t : Twin) : (s.setTwin t).skn = s.skn := rfl
@[simp] theorem State.setTwin_net (t : Twin) : (s.setTwin t).net = s.net := rfl
@[simp] theorem State.setTwin_bayCh (t : Twin) : (s.setTwin t).bayCh = s.bayCh := rfl
@[simp] theorem State.setTwin_ep (t : Twin) : (s.setTwin t).ep = s.ep := rfl
@[simp] theorem State.setTwin_boot (t : Twin) : (s.setTwin t).boot = s.boot := rfl
@[simp] theorem State.setTwin_pending (t : Twin) : (s.setTwin t).pending = s.pending := rfl

end Sys2Proof.Machine
end

