-- ==== Sys2Proof/WellFormed.lean ====
section
/-!
DEFINITION. WellFormed.lean: the commands whose operands lie in the ranges the manual gives them: rows of the objects'
tables, numbers of ports, bays, planes and functions, widths of the fields of headers and packets. The meanings are total:
on an operand out of its range they change nothing, or answer as the manual says (a row that is absent, a value out of range).
-/

namespace Sys2Proof

/-- A number of `w` bits. -/
def below (w x : Nat) : Bool := decide (x < 2 ^ w)

/-- A 128-bit address. -/
def u128 (x : Nat) : Bool := below 128 x

/-- A byte string. -/
def bytesOk (b : Bytes) : Bool := b.all (fun x => decide (x < 256))

/-- A function of the endpoint, 0xFF for the Thimble firmware. -/
def fnOk (f : Nat) : Bool := decide (f < 128) || decide (f = 0xFF)

/-- A carrier: management port 0 or 1, data port 0 to 7 with a 12-bit VLAN. -/
def carrierOk : Carrier → Bool
  | .meth n => decide (n < 2)
  | .inband p v => decide (p < 8) && decide (v < 4096)
  | .mailbox => true

/-- The header of a Rendi message (Table 2-6): the widths of its fields, 16 bytes of `AUTH`. -/
def hdrOk (h : Hdr) : Bool :=
  carrierOk h.carrier && below 32 h.src && below 16 h.dport && below 4 h.ver && below 2 h.kind && below 16 h.len
    && below 16 h.session && below 32 h.seq && below 32 h.rtag && decide (h.auth.length = 16) && bytesOk h.auth

/-- An item (R51). -/
def itemOk (i : Item) : Bool :=
  below 16 i.idx && below 8 i.sub && below 8 i.flags && below 32 i.row && below 16 i.len && below 8 i.stat && bytesOk i.value

/-- A block and its metadata. -/
def blkOk (b : Nat × Nat) : Bool := below 32768 b.1 && below 128 b.2

/-- A cell of a stripe: at most 48 columns of 256 block rows. -/
def cellOk (c : Cell) : Bool := decide (c.col < 48) && decide (c.row < 256) && blkOk (c.data, c.pi)

/-- A packet at a port. -/
def pktOk (k : Pkt) : Bool :=
  decide (k.port < 8) && decide (k.sub < 4) && below 48 k.smac && below 12 k.vlan && below 3 k.pcp && below 128 k.src
    && below 128 k.dst && below 16 k.sport && below 16 k.dport && below 6 k.dscp && below 24 k.qpn && below 24 k.psn && decide (1 ≤ k.n)

/-- The fields of a CM REQ. -/
def cmReqOk (q : CmReq) : Bool :=
  below 32 q.comm && below 16 q.fmt && below 16 q.qid && below 8 q.resources && below 8 q.depth && below 16 q.hrq && below 16 q.hsq
    && below 24 q.qpn && below 24 q.psn && below 6 q.dscp

/-- A CETH (R275). -/
def cethOk (c : Ceth) : Bool :=
  below 32 c.ckey && below 16 c.slot && below 16 c.count && below 8 c.scope && below 32 c.landKey && below 64 c.landOff
    && below 32 c.landLen

/-- A data pointer. -/
def sglOk (g : Sgl) : Bool := below 64 g.va && below 32 g.key && below 32 g.len

/-- Protection information fields. -/
def prOk (p : PrInfo) : Bool := below 3 p.prchk && below 64 p.ref && below 16 p.app && below 16 p.mask

/-- A hoop frame key. -/
def fkeyOk (k : FKey) : Bool :=
  decide (k.ns < 4096) && decide (k.entry < 3145728) && decide (k.sel < 3) && below 32 k.stripe && decide (k.col < 48) && below 16 k.gen

/-- A basting record: one of the seven kinds (Table 4-3). -/
def jargOk (r : JArg) : Bool :=
  decide (r.kind < 7) && decide (r.geo < 8) && below 64 r.jseq && decide (r.entry < 3145728) && below 32 r.stripe && below 48 r.members

/-- A directory entry. -/
def dirOk : DirEnt → Bool
  | .row r role _ sh => decide (r < 32) && decide (role < 4) && decide (sh < 16)
  | .shelf sh _ _ _ _ _ => decide (sh < 16)
  | .ns sh n side => decide (sh < 16) && decide (n < 4096) && decide (side < 2)

/-- What a KEEPER frame carries. -/
def kmsgOk : KMsg → Bool
  | .criterion b _ => decide (b < 48)
  | .member b _ _ _ => decide (b < 48)
  | .mapUpd e _ _ _ g _ _ _ _ _ => decide (e < 3145728) && decide (g < 8)
  | .rampAsk b => decide (b < 48)
  | .rampGrant b => decide (b < 48)
  | .rampEnd b => decide (b < 48)
  | .power b _ => decide (b < 48)

/-- The header of a skein message (Table 14-2): path 0 to 2, row 0 to 31. -/
def skHdrOk (h : SkHdr) : Bool :=
  decide (h.path < 3) && decide (h.row < 32) && below 8 h.role && below 32 h.term && below 64 h.seq && below 64 h.sender && bytesOk h.auth

/-- The header of a twin link frame (Table 14-4). -/
def twHdrOk (h : TwHdr) : Bool := below 32 h.seq && below 32 h.ack && below 16 h.credit && below 32 h.epoch

/-- What a stage found: 12 DIMMs. -/
def stageOk (a : StageArg) : Bool := decide (a.dimms.length ≤ 12) && a.taken.all (fun n => decide (n < 4096))
  && a.missing.all (below 64)

/-- A command is well-formed. -/
def Instr.wf : Instr → Bool
  | .pdRequest h row value => hdrOk h && decide (row < 140) && decide (value < 256)
  | .domainReady row => decide (row < 140)
  | .domainDrainDone row => decide (row < 140)
  | .domainDrainTimeout row => decide (row < 140)
  | .ptpSync port domain transport _ => decide (port < 10) && below 8 domain && below 8 transport
  | .detection det stype scope detail => decide (det < 4096) && decide (stype < 12) && below 32 scope && below 64 detail
  | .notifyTimerExpiry sub => below 16 sub
  | .coalesceWindowExpiry det stype scope => decide (det < 4096) && decide (stype < 12) && below 32 scope
  | .hello h slot level nonce => hdrOk h && below 8 slot && below 8 level && bytesOk nonce
  | .openReq h => hdrOk h
  | .closeReq h => hdrOk h
  | .readReq h items => hdrOk h && items.all itemOk
  | .writeReq h items => hdrOk h && items.all itemOk
  | .commitReq h => hdrOk h
  | .commitWriteDone _ => true
  | .subscribe h groups scopes start => hdrOk h && below 32 groups && below 32 scopes && below 32 start
  | .unsubscribe h sub => hdrOk h && below 16 sub
  | .halfOpenExpiry id => below 16 id
  | .sessionIdleTimeout row => decide (row < 16)
  | .dictRestoreDiscard h => hdrOk h
  | .dictRestoreFactory h => hdrOk h
  | .dictRestoreSlot h => hdrOk h
  | .dictRestoreAll h => hdrOk h
  | .sessClose h row => hdrOk h && decide (row < 16)
  | .keyValueWrite h row value => hdrOk h && decide (row < 8) && bytesOk value
  | .keyLevelWrite h row level => hdrOk h && decide (row < 8) && below 8 level
  | .mailboxGo queued => below 16 queued
  | .registerWrite func off _ => fnOk func && (decide (off < 0x40000) && decide (off % 4 = 0))
  | .smbSelectObject idx sub flags row _ => below 16 idx && below 8 sub && below 8 flags && below 32 row
  | .geoActivate h g => hdrOk h && decide (g < 8)
  | .geoTablesGenerated g => decide (g < 8)
  | .geoMapAck g _ => decide (g < 8)
  | .geoRetire h g => hdrOk h && decide (g < 8)
  | .mapCopyAck blk => below 32 blk
  | .nsSlotsFreed ns => decide (ns < 4096)
  | .zeroInitDone entry => decide (entry < 3145728)
  | .boltMigrate h entry geo => hdrOk h && decide (entry < 3145728) && decide (geo < 8)
  | .migrationStart entry => decide (entry < 3145728)
  | .migrationStripeCopy entry cells => decide (entry < 3145728) && cells.all cellOk
  | .migrationRecordRetire entry => decide (entry < 3145728)
  | .migrationSourceFree entry => decide (entry < 3145728)
  | .copybackStripe pos cells => decide (pos < 48) && cells.all cellOk
  | .frameReserve ns => decide (ns < 4096)
  | .fillReadDone cmd range row _ data pi => below 64 cmd && below 32 range && decide (row < 256) && below 32768 data
      && below 128 pi
  | .holdTimerExpiry entry sel stripe => decide (entry < 3145728) && below 2 sel && below 32 stripe
  | .destageStart entry sel stripe => decide (entry < 3145728) && below 2 sel && below 32 stripe
  | .fillInDone entry sel stripe cells => decide (entry < 3145728) && below 2 sel && below 32 stripe && cells.all cellOk
  | .bastingRecordPersisted jseq => below 64 jseq
  | .destageEncode entry sel stripe bad => decide (entry < 3145728) && below 2 sel && below 32 stripe && bad.all cellOk
  | .memberCompletion tag status data => below 16 tag && below 16 status && data.all blkOk
  | .darningDecodeDone cmd blk => below 64 cmd && below 32 blk
  | .journalPageWriteDone page copy _ => below 32 page && below 1 copy
  | .bastJournalMove h pos => hdrOk h && decide (pos < 48)
  | .vaultChunkWriteDone _ => true
  | .vaultFlushDone _ => true
  | .vaultTest h => hdrOk h
  | .reconstructStripe pos cells => decide (pos < 48) && cells.all cellOk
  | .rateControllerWindow reads p99 => below 64 reads && below 32 p99
  | .scrubStart h => hdrOk h
  | .proactiveCopyStart pos => decide (pos < 48)
  | .ethLinkUp port sub _ => decide (port < 8) && decide (sub < 4)
  | .ethLinkDown port sub => decide (port < 8) && decide (sub < 4)
  | .arpRequest k target => pktOk k && below 128 target
  | .neighborSolicitation k target => pktOk k && below 128 target
  | .pfcPause port prio quanta => decide (port < 8) && decide (prio < 8) && below 16 quanta
  | .pauseQuantaExpiry port prio => decide (port < 8) && decide (prio < 8)
  | .pfcRepeatTimer port prio level => decide (port < 8) && decide (prio < 8) && below 32 level
  | .pfcWatchdogExpiry port prio => decide (port < 8) && decide (prio < 8)
  | .cmReq k q => pktOk k && cmReqOk q
  | .cmRtu k row => pktOk k && decide (row < 65536)
  | .cmRej k row => pktOk k && decide (row < 65536)
  | .cmDreq k row => pktOk k && decide (row < 65536)
  | .connectingTimeout row => decide (row < 65536)
  | .ack k => pktOk k
  | .nakSequenceError k => pktOk k
  | .rnrNak k => pktOk k
  | .nakError k code => pktOk k && below 8 code
  | .rdmaReadResponse k len data => pktOk k && below 32 len && below (8 * len) data
  | .cnp k => pktOk k
  | .invalidOpcodePacket k op => pktOk k && below 8 op
  | .ackTimeout row => decide (row < 65536)
  | .rnrWaitExpiry row => decide (row < 65536)
  | .ackCoalesceTimer row => decide (row < 65536)
  | .alphaTimer row => decide (row < 65536)
  | .rpTimer row => decide (row < 65536)
  | .contextFetchStart row => decide (row < 65536)
  | .contextFetchDone row => decide (row < 65536)
  | .qpDrainComplete row => decide (row < 65536)
  | .drainTimeout row => decide (row < 65536)
  | .keepaliveExpiry ctrl => below 16 ctrl
  | .qpClose h row => hdrOk h && decide (row < 65536)
  | .qpPinWrite h row value => hdrOk h && decide (row < 65536) && below 8 value
  | .fabricsConnect k cid qid sqsize kato cntlid _ nqn subnqn hostId => pktOk k && below 16 cid && below 16 qid
      && below 16 sqsize && below 32 kato && below 16 cntlid && below 2048 nqn && below 2048 subnqn && below 128 hostId
  | .propertyGet k cid off => pktOk k && below 16 cid && below 64 off
  | .propertySet k cid off value => pktOk k && below 16 cid && below 64 off && below 64 value
  | .disconnect k cid => pktOk k && below 16 cid
  | .identify k cid cns nsid sgl => pktOk k && below 16 cid && below 8 cns && below 32 nsid && sglOk sgl
  | .getLogPage k cid lid off _ sgl => pktOk k && below 16 cid && below 8 lid && below 64 off && sglOk sgl
  | .setFeatures k cid fid value => pktOk k && below 16 cid && below 8 fid && below 64 value
  | .getFeatures k cid fid => pktOk k && below 16 cid && below 8 fid
  | .asynchronousEventRequest k cid => pktOk k && below 16 cid
  | .keepAlive k cid => pktOk k && below 16 cid
  | .abort k cid => pktOk k && below 16 cid
  | .nvmeRead k cid nsid slba nlb pr sgl => pktOk k && below 16 cid && below 32 nsid && below 64 slba && below 17 nlb
      && prOk pr && sglOk sgl
  | .nvmeWrite k cid nsid slba nlb pr sgl => pktOk k && below 16 cid && below 32 nsid && below 64 slba && below 17 nlb
      && prOk pr && sglOk sgl
  | .writeZeroes k cid nsid slba nlb => pktOk k && below 16 cid && below 32 nsid && below 64 slba && below 17 nlb
  | .nvmeFlush k cid nsid => pktOk k && below 16 cid && below 32 nsid
  | .rdmaWrite k _ _ key va len plen payload => pktOk k && below 32 key && below 64 va && below 32 len && below 24 plen
      && below (8 * plen) payload
  | .knotWrite k key va len payload => pktOk k && below 32 key && below 64 va && below 32 len && below (8 * len) payload
  | .rdmaRead k key va len => pktOk k && below 32 key && below 64 va && below 32 len
  | .eyeletFlush k => pktOk k
  | .eyeletWritePlaced id => below 64 id
  | .chainArm k c => pktOk k && cethOk c
  | .chainDisarm k c => pktOk k && cethOk c
  | .sendWithImmediate k imm len payload => pktOk k && below 32 imm && below 32 len && below (8 * len) payload
  | .wrRead slot => decide (slot < 4096)
  | .wrWrite slot => decide (slot < 4096)
  | .wrSend slot => decide (slot < 4096)
  | .wrLink slot => decide (slot < 4096)
  | .wrNop slot => decide (slot < 4096)
  | .workRequestComplete slot wr => decide (slot < 4096) && below 16 wr
  | .chainDisarmAction h slot => hdrOk h && decide (slot < 4096)
  | .eyeRegister h row => hdrOk h && decide (row < 16384)
  | .eyeRevoke h row => hdrOk h && decide (row < 16384)
  | .eyeRevokeTimeout row => decide (row < 16384)
  | .eyeCommit h row => hdrOk h && decide (row < 16384)
  | .keyCacheUpdateDone row => decide (row < 16384)
  | .eyeCommitTimeout row => decide (row < 16384)
  | .fenceRelease h row _ => hdrOk h && decide (row < 4096)
  | .fenceDrainDone row => decide (row < 4096)
  | .fenceDrainTimeout row => decide (row < 4096)
  | .fenceReleasedTimeout row => decide (row < 4096)
  | .selEngage h => hdrOk h
  | .msqMismatch slices _ _ => below 64 slices
  | .msqRepair h _ => hdrOk h
  | .msqResyncDone _ => true
  | .msqCmpTest h _ => hdrOk h
  | .cmpTestPeriodExpiry _ => true
  | .msqSwitchTest h arg => hdrOk h && below 32 arg
  | .cellArrival src dst cls seq plane _ => decide (src < 25) && decide (dst < 25) && decide (cls < 8) && below 16 seq
      && decide (plane < 4)
  | .receiptCredit src dst cls seq => decide (src < 25) && decide (dst < 25) && decide (cls < 8) && below 16 seq
  | .hemGapTimeout src dst cls => decide (src < 25) && decide (dst < 25) && decide (cls < 8)
  | .frameAssembly port sub => decide (port < 8) && decide (sub < 4)
  | .holdExpiry port sub => decide (port < 8) && decide (sub < 4)
  | .planeTest h plane => hdrOk h && decide (plane < 4)
  | .planeTestDone plane _ => decide (plane < 4)
  | .frameTransmit port sub => decide (port < 8) && decide (sub < 4)
  | .calendarSlot port => decide (port < 8)
  | .bucketRefill port => decide (port < 8)
  | .tensionModeSwitchBack port => decide (port < 8)
  | .policerModeWrite h row _ value => hdrOk h && decide (row < 4096) && below 8 value
  | .driveLinkDown bay => decide (bay < 48)
  | .driveUncorrectableError bay => decide (bay < 48)
  | .driveLinkRecovered bay speed width => decide (bay < 48) && below 8 speed && below 8 width
  | .driveRecoverTimeout bay _ => decide (bay < 48)
  | .dlinkRetrain h bay => hdrOk h && decide (bay < 48)
  | .perstDeassert bay => decide (bay < 48)
  | .driveLinkUp bay speed width => decide (bay < 48) && below 8 speed && below 8 width
  | .probeDone bay fail serial model capacity queues _ array gen => decide (bay < 48) && below 8 fail && below 160 serial
      && below 320 model && below 64 capacity && below 16 queues && below 64 array && below 32 gen
  | .commandTimeout tag => below 16 tag
  | .abortTimeout tag => below 16 tag
  | .controllerFatalStatus bay => decide (bay < 48)
  | .controllerResetDone bay _ => decide (bay < 48)
  | .healthPoll bay warn pct media => decide (bay < 48) && below 8 warn && below 8 pct && below 64 media
  | .memberAsyncEvent bay warn pct media => decide (bay < 48) && below 8 warn && below 8 pct && below 64 media
  | .memberTempPoll bay temp => decide (bay < 48) && below 16 temp
  | .absentGraceExpiry bay => decide (bay < 48)
  | .memAssign h bay arg => hdrOk h && decide (bay < 48) && below 32 arg
  | .memRetire h bay => hdrOk h && decide (bay < 48)
  | .memClearFailing h bay => hdrOk h && decide (bay < 48)
  | .presenceChange bay _ _ => decide (bay < 48)
  | .debounceComplete bay => decide (bay < 48)
  | .safetyPass _ watts _ idle _ _ => below 32 watts && idle.all (fun r => decide (r < 140))
  | .partnerRampTimeout bay => decide (bay < 48)
  | .railOn bay _ => decide (bay < 48)
  | .rampTimeout bay _ cur src => decide (bay < 48) && below 32 cur && u128 src
  | .currentLimitReached bay _ => decide (bay < 48)
  | .limitExit bay _ => decide (bay < 48)
  | .faultTimerExpiry bay _ cur src => decide (bay < 48) && below 32 cur && u128 src
  | .fastTrip bay _ cur src => decide (bay < 48) && below 32 cur && u128 src
  | .srcDischarged bay _ => decide (bay < 48)
  | .retryTimerExpiry bay => decide (bay < 48)
  | .goodTimeExpiry bay => decide (bay < 48)
  | .passElementFault bay _ cur src => decide (bay < 48) && below 32 cur && u128 src
  | .oringReverse bay _ => decide (bay < 48)
  | .oringDropHigh bay _ cur src => decide (bay < 48) && below 32 cur && u128 src
  | .bayEnableWrite h bay value => hdrOk h && decide (bay < 48) && below 8 value
  | .perstOffWaitExpiry bay => decide (bay < 48)
  | .bayLimitWrite h bay sub value => hdrOk h && decide (bay < 48)
      && (decide (sub = 6) || decide (sub = 7) || decide (sub = 8)) && below 16 value
  | .bayClear h bay => hdrOk h && decide (bay < 48)
  | .shuntCalibration h bay _ known => hdrOk h && decide (bay < 48) && below 32 known
  | .shuntCalibrationDone bay _ measured _ => decide (bay < 48) && below 32 measured
  | .epPerst _ => true
  | .configRequest fn _ w => fnOk fn && (match w with | some x => below 64 x | none => true)
  | .functionLevelReset fn => fnOk fn
  | .bmeClear fn => fnOk fn
  | .d3hotEntry fn => fnOk fn
  | .fnResume fn => fnOk fn
  | .containmentRelease h _ => (match h with | some x => hdrOk x | none => true)
  | .msixUnmask fn vec => fnOk fn && below 8 vec
  | .peerWrite reqid off len data _ _ => below 16 reqid && below 64 off && below 32 len && below (8 * len) data
  | .peerRead reqid tag off len _ => below 16 reqid && below 16 tag && below 64 off && below 32 len
  | .windowCommit w => decide (w < 64)
  | .pcieCompletion id fn status data => below 64 id && fnOk fn && below 16 status && below 32768 data
  | .completionTimeout id => below 64 id
  | .ringDb fn loc => fnOk fn && below 16 loc
  | .ringFetchDone id ents => below 64 id && ents.all (below 512)
  | .nop r idx => decide (r < 2112) && below 16 idx
  | .nsRead r idx => decide (r < 2112) && below 16 idx
  | .nsWrite r idx => decide (r < 2112) && below 16 idx
  | .eyeRead r idx => decide (r < 2112) && below 16 idx
  | .eyeWrite r idx => decide (r < 2112) && below 16 idx
  | .eyeFlush r idx => decide (r < 2112) && below 16 idx
  | .ringJobComplete r idx => decide (r < 2112) && below 16 idx
  | .ringEnable fn loc value => fnOk fn && below 16 loc && below 64 value
  | .ringDisable fn loc value => fnOk fn && below 16 loc && below 64 value
  | .ringRestart fn loc value => fnOk fn && below 16 loc && below 64 value
  | .irqHoldoffExpiry r => decide (r < 2112)
  | .shuttleEnqueue fn c value => fnOk fn && decide (c < 32) && below 64 value
  | .shuttleGo fn c => fnOk fn && decide (c < 32)
  | .shuttleStop fn c => fnOk fn && decide (c < 32)
  | .shuttleReset fn c => fnOk fn && decide (c < 32)
  | .shuttleCqHead fn c value => fnOk fn && decide (c < 32) && below 64 value
  | .shuttleDescriptorFetched id word => below 64 id && below 256 word
  | .shuttleDescriptorDone c => decide (c < 32)
  | .stageComplete fail f => below 8 fail && stageOk f
  | .bootResetCold h => hdrOk h
  | .bootResetWarm h => hdrOk h
  | .bootDomainReset h row => hdrOk h && decide (row < 140)
  | .bootDepart h arg => hdrOk h && below 32 arg
  | .fwuBegin h => hdrOk h
  | .fwuData h value => hdrOk h && bytesOk value
  | .fwuVerify h _ _ _ => hdrOk h
  | .fwuActivate h => hdrOk h
  | .fwuConfirm h => hdrOk h
  | .fwuRaiseSvn h _ => hdrOk h
  | .watchdogExpiry core => below 8 core
  | .telemetryPass loads lag flushP99 readP99 => loads.all (below 8) && below 32 lag && below 32 flushP99
      && below 32 readP99
  | .injection h det row n => hdrOk h && decide (det < 4096) && below 32 row && below 32 n
  | .injectionOccurrence det row => decide (det < 4096) && below 32 row
  | .pfcWatchdogRecovery port prio => decide (port < 8) && decide (prio < 8)
  | .measurementSample bay _ v12 _ v33 src12 src33 => decide (bay < 48) && below 32 v12 && below 32 v33 && below 32 src12
      && below 32 src33
  | .endpointLinkUp speed width => below 8 speed && below 8 width
  | .mgmtLinkUp port => decide (port < 2)
  | .windowUpdatePoint w => decide (w < 64)
  | .resyncStripe cells => cells.all cellOk
  | .criticalStripe a b cells => decide (a < 48) && decide (b < 48) && cells.all cellOk
  | .relistStripe cells => cells.all cellOk
  | .scrubStripe cells => cells.all cellOk
  | .proactiveCopyStripe pos cells => decide (pos < 48) && cells.all cellOk
  | .heartbeat h stage flags owned dirver => skHdrOk h && below 8 stage && below 8 flags && below 16 owned
      && below 32 dirver
  | .viewExpiry row => decide (row < 32)
  | .joinMsg h digest hosts => skHdrOk h && below 64 digest && below 64 hosts
  | .welcome h deputy version dir => skHdrOk h && below 8 deputy && below 32 version && dir.all dirOk
  | .leaveMsg h => skHdrOk h
  | .dirUpdate h version dir => skHdrOk h && below 32 version && dir.all dirOk
  | .dirAck h version => skHdrOk h && below 32 version
  | .confirmQuery h row => skHdrOk h && decide (row < 32)
  | .confirmReply h row _ ms taken => skHdrOk h && decide (row < 32) && below 32 ms
      && taken.all (fun n => decide (n < 4096))
  | .takeoverRequest h cause => skHdrOk h && below 16 cause
  | .takeoverNotice h lost adopted => skHdrOk h && below 16 lost && below 16 adopted
  | .handover h nss step => skHdrOk h && nss.all (fun n => decide (n < 4096)) && below 8 step
  | .takeoverPreemptDone pos result solo recs => decide (pos < 48) && below 8 result && below 64 solo && recs.all jargOk
  | .twinLinkUp lanes => below 8 lanes
  | .pair h dev side _ ceiling => twHdrOk h && below 64 dev && below 1 side && below 64 ceiling
  | .twinIdle h => twHdrOk h
  | .twinNak h => twHdrOk h
  | .mirrorWrite h k mseq blks => twHdrOk h && fkeyOk k && below 64 mseq && blks.all cellOk
  | .mirrorAck h seqs => twHdrOk h && seqs.all (below 64)
  | .mirrorRelease h keys => twHdrOk h && keys.all fkeyOk
  | .journalFrame h recs => twHdrOk h && recs.all jargOk
  | .vaultNotice h => twHdrOk h
  | .keeperFrame h m => twHdrOk h && kmsgOk m
  | .proxyCmd h tag bay kind lba count data => twHdrOk h && below 16 tag && decide (bay < 48) && below 8 kind
      && below 64 lba && below 32 count && data.all blkOk
  | .proxyCpl h tag status data => twHdrOk h && below 16 tag && below 16 status && data.all blkOk
  | .ownMove h ns => hdrOk h && decide (ns < 4096)
  | .ownMoveHome h => hdrOk h
  | .sknLeave h => hdrOk h
  | .sknRejoin h => hdrOk h
  | .ptpLockLost => true
  | .mailboxRspClear => true
  | .mailboxNtfClear => true
  | .smbReadStage => true
  | .smbReadIdentity => true
  | .smbReadEvents => true
  | .smbReadObject => true
  | .smbAlertResponse => true
  | .mapCopyDone => true
  | .zeroWalkStep => true
  | .mirrorResyncDone => true
  | .mirrorRegionShrink => true
  | .journalPageTimer => true
  | .journalRehomeDone => true
  | .pwrfailFiltered => true
  | .cmReqAdmit => true
  | .chainHeldTriggerStart => true
  | .vauxUndervoltage => true
  | .pollSilenceTimeout => true
  | .hotReset => true
  | .epLinkDown => true
  | .ringFetchTurn => true
  | .heartbeatPeriod => true
  | .guardExpiry => true
  | .twinLinkDown => true
  | .twinIdleTimer => true
  | .twinAckTimeout => true
  | .moveDrainDone => true
  | .moveTimeout => true
  | .vauxPowerOn => true
  | .pwronRstAssert => true
  | .pwronRstDeassert => true
  | .warmRstEdge => true
  | .s6LimitExpiry => true
  | .preResetDrainDone => true
  | .departGraceExpiry => true
  | .fwuEraseDone => true
  | .fwuTrialConfirmExpiry => true
  | .safetyDeadlineExpiry => true
  | .anattExpiry => true

end Sys2Proof
end

