-- ==== Sys2Proof/Tests/Slice0.lean ====
section
/-!
SUPPORT. Tests/Slice0.lean: tests. Terms that WellFormed refuses; for every statement with hypotheses a state and operands that
meet them (`test_meets_<statement>`), clause by clause; a few steps with the results the manual gives.
-/

namespace Sys2Proof.Tests

open Sys2Proof Sys2Proof.Machine

set_option Elab.async false

/-! ### States and requests that meet the hypotheses of the statements -/

/-- A session of level SERVICE over the mailbox. -/
def ses : Session := ⟨1, 3, .mailbox, 0, zeros 32, 0, 0, 0, [], [], 1, 0⟩

/-- Service is open: stage S7, VAUX present, the endpoint link up, one session. -/
def s7 : State :=
  let s := (State.reset.setCnt Obj.bootStage 0 7).setCnt Obj.epLinkWidth 0 16
  { s with boot := { s.boot with vaux := true, pwron := false, svcOpen := true }
           clk := { s.clk with ns := 10 ^ 13, sk := 10 ^ 13, running := true }
           rendi := { sessions := [(0, some ses)] } }

/-- Changes of a state by its parts. -/
def withNet (s : State) (f : Net → Net) : State := { s with net := f s.net }
def withEp (s : State) (f : Ep → Ep) : State := { s with ep := f s.ep }
def withPlace (s : State) (f : Place → Place) : State := { s with place := f s.place }
def withHoop (s : State) (f : Hoop → Hoop) : State := { s with hoop := f s.hoop }
def withBoot (s : State) (f : Boot → Boot) : State := { s with boot := f s.boot }
def withSk (s : State) (f : Skein → Skein) : State := { s with sk := f s.sk }

/-- The header of a request of the session: `SEQ` 1, its `AUTH` right. -/
def hdr (op : Nat) (body : Bytes) : Hdr :=
  ⟨.mailbox, 0, 0, false, 0, 1, 0, false, body.length, 1, 1, 0,
    ((authed ses.ks (hdrBytes 0 op 0 body.length 1 0 0 1 0 0) body).drop 16).take 16⟩

/-- Once such a request is accepted. -/
def acc (s : State) : State := s.accepted (hdr 0 []) 0 ses

/-- Rendi serves the session. -/
def serves (s : State) : Bool := s.inS7 && decide (s.findSession 1 = some (0, ses))

theorem takes_of {s : State} {op : Nat} {body : Bytes} (h : serves s = true) (h2 : knownOp op = true) (h3 : body.length ≤ 4064)
    (h4 : body.length % 4 = 0) : s.takes (hdr op body) op body 0 ses := by
  simp only [serves, Bool.and_eq_true, decide_eq_true_eq] at h
  obtain ⟨h1, h5⟩ := h
  have a : s.admitHead (hdr op body) op body.length = none := by
    have e : bodyMax (hdr op body).carrier = 4064 := rfl
    simp only [State.admitHead, e]
    rw [if_neg (by simp [State.carried, hdr]), if_neg (by simp [h1]), if_neg (by simp [hdr, h2]), if_neg (by simp [hdr, h4]; omega)]
  have b : s.findSession (hdr op body).session = some (0, ses) := h5
  have c : ((authed ses.ks (hdrBytes 0 op 0 body.length (hdr op body).session 0 0 (hdr op body).seq (hdr op body).rtag
      (b2n (hdr op body).pend)) body).drop 16).take 16 = (hdr op body).auth := rfl
  unfold State.takes State.screen
  rw [a, b]
  simp only
  rw [if_neg (by rw [c]; simp), if_pos (by rfl), if_neg (by simp [hdr])]

/-- A state in which the ACTION is accepted and passes its checks, with `ok` of the state that the request leaves. -/
def Meets (s : State) (code row arg : Nat) (ok : State → Prop) : Prop :=
  ∃ h r x, s.takes h 0x0B (encItems [itemFor code row (leBytes 4 arg)]) r x ∧ (s.accepted h r x).actionCheck x code row 4 = 0
    ∧ ok (s.accepted h r x)

theorem meets_of {s : State} {code row arg : Nat} {ok : State → Prop} (h : (serves s && decide ((acc s).actionCheck ses code row 4 = 0)) = true)
    (k : ok (acc s)) : Meets s code row arg ok := by
  simp only [Bool.and_eq_true, decide_eq_true_eq] at h
  exact ⟨_, _, _, takes_of h.1 (by decide) (by simp [encItems, itemBytes, itemFor, leBytes, pad4, zeros])
    (by simp [encItems, itemBytes, itemFor, leBytes, pad4, zeros]), h.2, k⟩

/-- A state in which the WRITE is accepted and its value passes, with `ok` of the state that the request leaves. -/
def WMeets (s : State) (code row : Nat) (b : Bytes) (v : Nat) (ok : State → Prop) : Prop :=
  ∃ h r x, s.takes h 0x09 (encItems [itemFor code row b]) r x ∧ (s.accepted h r x).writeCheck x code row b = (0, v)
    ∧ ok (s.accepted h r x)

theorem wmeets_of {s : State} {code row v : Nat} {b : Bytes} {ok : State → Prop}
    (h : (serves s && decide ((acc s).writeCheck ses code row b = (0, v)) && decide (b.length ≤ 16)) = true) (k : ok (acc s)) :
    WMeets s code row b v ok := by
  simp only [Bool.and_eq_true, decide_eq_true_eq] at h
  refine ⟨_, _, _, takes_of h.1.1 (by decide) ?_ ?_, h.1.2, k⟩
  · have := h.2
    simp [encItems, itemBytes, itemFor, leBytes, pad4, zeros]; omega
  · simp [encItems, itemBytes, itemFor, leBytes, pad4, zeros]; omega
/-- A geometry of width 7 with 4 data stitches of 128 KiB and one lane, of whose tables one row is kept. -/
def g7 : Geo :=
  { st := 2, w := 7, k := 4, u := 3, s := 1, pat := [[(0, 0), (1, 0), (2, 0), (3, 0), (4, 0), (5, 0)]]
    spare := [List.replicate 6 [(6, 0)]] }

/-- Members in the first seven bays, a geometry, a MAPPED bolt of namespace 1 in entry 0, the darning engines ON. -/
def arr : State :=
  { s7 with
    place := { array := some 1, maps := [⟨0, true⟩, ⟨1, true⟩, ⟨2, true⟩], geos := [(0, g7)]
               bolts := [(0, { st := .mapped, ns := 1 })], slots := [⟨0, 0, 0, 1, false⟩]
               nss := [(1, { bolts := 1, target := 1, owner := 0, ana := 1 })] }
    drv := { s7.drv with mems := (List.range 7).map (fun i => (i, { st := .inService, pos := i, capacity := 10 ^ 12 })) }
    jour := { s7.jour with pos0 := 0, pos1 := 1 }
    pd := (List.range 4).map (fun i => (28 + i, { st := .on })) }

/-- A stripe of entry 0. -/
def k0 : SKey := ⟨0, 0, 0⟩

/-- A good frame from 10.0.0.1 to the entry 10.0.0.2 of port 0, for QP 0, with PSN 5. -/
def pkt : Pkt := ⟨0, 0, 100, false, false, some 0, 0x42, 0, 0, false, 0x0A000001, 0x0A000002, 0xC000, 4791, 0, false, 65536, 5, true, 1⟩

/-- An ACTIVE QP of that source whose next packet is PSN 5. -/
def qp0 : Qp := { st := .active, resident := true, ip := 0x0A000001, epsn := 5, ctrl := some 1 }

/-- Port 0 is up with its address entry, QP 0 is `x`, controller 1 exists. -/
def net0 (x : Qp) : State :=
  let s := ((((arr.putRw Obj.gidType 0 1).putRw Obj.gidAddrLo 0 0x0A000002).putRw Obj.ethMode 0 1).putRw Obj.hostSrcPrefix 0 0).putRw Obj.hostEnable 0 1
  withNet s fun n => { n with ports := [(0, { up := [0] })], qps := [(0, x)], ctrls := [(1, some {})] }

/-- How a packet comes to its QP. -/
def heard (s : State) (k : Pkt) : State := (s.frameIn k).1
def policed (s : State) (k : Pkt) (q : Nat) : State := ((heard s k).police k ((heard s k).qp q).host).1
def metAt (p : State) (k : Pkt) (q : Nat) : State := (p.noted q k).ceMark q k
def reachB (s : State) (i : Instr) (k : Pkt) (q : Nat) : Bool :=
  let u := (policed s k q).noted q k
  decide (pktOf i = some (k, true)) && (s.frameIn k).2 && decide ((heard s k).ownerQp k = some q)
    && ((heard s k).police k ((heard s k).qp q).host).2 && ((policed s k q).qp q).resident && decide (u.psnOrder q k.psn = 0)
    && decide ((u.qp q).st = .active) && !u.mustHold q i
def respondB (s : State) (i : Instr) (k : Pkt) (q : Nat) : Bool :=
  decide (pktOf i = some (k, false)) && (s.frameIn k).2 && decide ((heard s k).ownerQp k = some q)
    && (((heard s k).countCnp k i).qp q).resident && decide (((((heard s k).countCnp k i).noted q k).qp q).st ≠ .error)

/-- A state in which a request packet reaches its QP, with `ok` of the state it is met in. -/
def Reached (s : State) (i : Instr) (k : Pkt) (q : Nat) (ok : State → Prop) : Prop := ∃ u, s.reaches i k q u ∧ ok u
theorem reached_of {s : State} {i : Instr} {k : Pkt} {q : Nat} {ok : State → Prop} (h : reachB s i k q = true)
    (o : ok (metAt (policed s k q) k q)) : Reached s i k q ok := by
  simp only [reachB, Bool.and_eq_true, decide_eq_true_eq, Bool.not_eq_true'] at h
  obtain ⟨⟨⟨⟨⟨⟨⟨a, b⟩, c⟩, d⟩, e⟩, f⟩, g⟩, i⟩ := h
  exact ⟨_, ⟨a, heard s k, policed s k q, Prod.ext rfl b, c, Prod.ext rfl d, ⟨e, rfl⟩, f, g, i⟩, o⟩
/-- A state in which a response, NAK or CNP reaches its QP. -/
def Responded (s : State) (i : Instr) (k : Pkt) (q : Nat) (ok : State → Prop) : Prop := ∃ u, s.responds i k q u ∧ ok u
theorem responded_of {s : State} {i : Instr} {k : Pkt} {q : Nat} {ok : State → Prop} (h : respondB s i k q = true)
    (o : ok (metAt ((heard s k).countCnp k i) k q)) : Responded s i k q ok := by
  simp only [respondB, Bool.and_eq_true, decide_eq_true_eq] at h
  obtain ⟨⟨⟨⟨a, b⟩, c⟩, d⟩, e⟩ := h
  exact ⟨_, ⟨a, heard s k, Prod.ext rfl b, c, e, d, rfl⟩, o⟩

/-- A window of host 0 on namespace 1 (row 5), one on the scratch region (row 6), one on the chain store (row 7), all LIVE. -/
def eye5 : Eye := { st := 1, kind := 0, perm := 255, kgen := 1, owner := 0, check := 2, ns := 1, base := 0, len := 4 }
def eyes0 : State := (withNet (net0 qp0) fun n => { n with
  eyes := [(5, eye5), (6, { eye5 with kind := 1 }), (7, { eye5 with kind := 2, base := 3, len := 2 })] }).putRw Obj.tgrpId 0 0
def key (row : Nat) : Nat := 16777216 + 2 * 16384 + row

theorem bar_of {s : State} (h : (s.epServes && !s.frozen && !s.peerFull && decide (s.ep.stalled = [])) = true) : s.barOpen := by
  simp only [Bool.and_eq_true, Bool.not_eq_true', decide_eq_true_eq] at h
  exact ⟨h.1.1.1, h.1.1.2, h.1.2, h.2⟩

/-- The endpoint serves host 0 through function 0, which has rings 0 and 1 and Shuttle channel 31. -/
def ep0 : State := (((((withEp eyes0 fun e => { e with fns := [(0, { bme := true })] }).putRw Obj.fnHost 0 0).putRw Obj.fnRingBase 0 0).putRw
  Obj.fnRingCount 0 2).putRw Obj.fnShtlMask 0 (2 ^ 31)).setCnt Obj.epLinkWidth 0 16

/-- A skein of three rows in which this device is row 0 and row 1 its partner, heard over the management port. -/
def skein0 : State :=
  let s := [0, 1, 2].foldl (fun (s : State) r => (s.putRw Obj.srowEnable r 1).putRw Obj.srowDeviceId r (100 + r)) eyes0
  { ((s.putRw Obj.mportMode 0 1).putRw Obj.sknPaths 0 7).setCnt Obj.mportLink 0 1 with
    skn := { row := some 0, side := 0, partner := some 1, present := true }
    sk := { s.sk with role := 2, mgr := 2, deputy := 1, twin := { st := 2, paired := true, rx := 5 } } }
def withSkein (f : Skein → Skein) : State := { skein0 with sk := f skein0.sk }

/-- The header of the message `b` of a row, its `AUTH` right. -/
def skh (s : State) (b : SkBody) (row role : Nat) : SkHdr :=
  ⟨2, 0, 0, 0, none, row, role, 1, 1, 100 + row, s.skAuth b row role 1 1 (100 + row)⟩
def hearsB (s : State) (b : SkBody) (row role : Nat) : Bool :=
  s.skn.row.isSome && s.inS7 && decide (s.skn.row ≠ some row) && s.skRows.contains row && s.skCarried (skh s b row role)
    && decide (s.rw Obj.srowDeviceId row = 100 + row) && (s.skRow row).accepts 1
theorem gets_of {s : State} {b : SkBody} {row role : Nat} (h : hearsB s b row role = true) :
    s.skGets (skh s b row role) b (s.skHeard (skh s b row role)) := by
  simp only [hearsB, Bool.and_eq_true, decide_eq_true_eq] at h
  obtain ⟨⟨⟨⟨⟨⟨a, e⟩, c⟩, d⟩, f⟩, g⟩, i⟩ := h
  refine ⟨s, .inl ⟨by simp [skh], rfl⟩, ⟨?_, e, c, d, f, rfl, g, i⟩, rfl⟩
  intro hn; rw [hn] at a; simp at a
/-- A state in which the message is acted on, with `ok` of the state its sender was heard in. -/
def Gets (s : State) (b : SkBody) (row _role : Nat) (ok : State → Prop) : Prop := ∃ h u, h.row = row ∧ s.skGets h b u ∧ ok u
theorem gets_ok {s : State} {b : SkBody} {row role : Nat} {ok : State → Prop} (h : hearsB s b row role = true)
    (o : ok (s.skHeard (skh s b row role))) : Gets s b row role ok := ⟨_, _, rfl, gets_of h, o⟩

theorem test_meets_PowerDomainCommands :
    WMeets ({ s7 with pd := [(9, { st := .on })] }) Obj.pdRequest 9 [0] 0
      (fun u => u.pdPresent 9 = true ∧ (9 < 15 ∨ 28 ≤ 9) ∧ (u.pdAt 9).st = .on ∧ u.offCond 9 = true)
    ∧ WMeets s7 Obj.pdRequest 43 [1] 1
      (fun u => u.pdPresent 43 = true ∧ (43 < 15 ∨ 28 ≤ 43) ∧ (u.pdAt 43).st = .off ∧ (43 < 40 ∨ u.isFenced 2 (43 - 40) = false))
    ∧ (let s := { s7 with pd := [(43, { st := .waking })] }
      (s.pdAt 43).st = .waking ∧ 43 < 44 ∧ (s.pdAt 43).heldOff = false ∧ 43 ∉ s.boot.domains)
    ∧ (let s := { s7 with pd := [(43, { st := .draining })] }
      (s.pdAt 43).st = .draining ∧ 43 ∉ s.boot.domains ∧ (43 < 40 ∨ ∀ c ∈ s.net.xbar.sent, 40 + c.plane ≠ 43)
      ∧ (s.pdAt 43).byLoop = false) :=
  ⟨wmeets_of (by decide +kernel) (by decide +kernel), wmeets_of (by decide +kernel) (by decide +kernel), by decide +kernel, by decide +kernel⟩

def rec0 : Rec := { det := 0x402, stype := 1 }
theorem test_meets_TimebaseAndEventCommands :
    ((s7.putRw Obj.timeSource 0 1).clk.running = true ∧ (s7.putRw Obj.timeSource 0 1).rw Obj.timeSource 0 = 1)
    ∧ ({ s7 with clk := { s7.clk with locked := true } } : State).clk.locked = true
    ∧ (s7.detHere 0x001 0 0 = true ∧ s7.detHere 0xE01 0 0 = true)
    ∧ (let b : Subn := ⟨1, 1, 0xFFFF, 0xFFFF, [rec0], 0⟩
       let s : State := { s7 with rendi := { s7.rendi with subs := [b] }, mbx := { s7.mbx with ntfEn := true } }
       s.rendi.subs.find? (fun c => c.id = b.id) = some b ∧ s.findSession b.session = some (0, ses) ∧ b.unsent ≠ [] ∧ s.ntfReady ses = true)
    ∧ (let c : Coal := ⟨0x402, 1, 0, 1, 5, 0, false⟩
       let s : State := { s7 with ev := { s7.ev with coal := [c] } }
       s.ev.coal.find? (fun d => d.det = c.det ∧ d.stype = c.stype ∧ d.scope = c.scope) = some c ∧ c.supp ≠ 0) := by decide +kernel

def halfOpen0 : HalfOpen := ⟨7, 2, 7, .mailbox, zeros 32⟩
def openHdr : Hdr := { hdr 0x02 [] with session := 7, auth := ((authed (zeros 32) (hdrBytes 0 0x02 0 0 7 0 0 1 0 0) []).drop 16).take 16 }
theorem test_meets_SessionCommands_hello :
    (let h : Hdr := { hdr 0x01 (zeros 20) with session := 0, seq := 0, auth := zeros 16 }
     let s : State := (s7.putRw Obj.keyValue 0 (encStr (zeros 32))).putRw Obj.keyLevel 0 3
     s.admitHead h 0x01 20 = none ∧ h.session = 0 ∧ h.seq = 0 ∧ h.auth = zeros 16 ∧ (zeros 16).length = 16
      ∧ (s.helloKey h 0).isSome = true ∧ s.rendi.half.length < 32) := by decide +kernel
theorem openHdr_auth : ((authed halfOpen0.ks (hdrBytes 0 0x02 0 0 openHdr.session 0 0 openHdr.seq openHdr.rtag (b2n openHdr.pend)) []).drop 16).take 16
    = openHdr.auth := by
  have h (a b c : Nat) (d : Bytes) (e : Nat) (f : d = zeros 32) (g : a = 7) (i : b = 1) (j : c = 0) (k : e = 0) :
      ((authed d (hdrBytes 0 0x02 0 0 a 0 0 b c e) []).drop 16).take 16 = openHdr.auth := by subst f g i j k; rfl
  exact h _ _ _ _ _ (by decide) (by decide) (by decide) (by decide) (by decide)
theorem test_meets_SessionCommands_open :
    (let s : State := State.putRw { s7 with rendi := { s7.rendi with half := [halfOpen0] } } Obj.keyLevel 7 1
     s.admitHead openHdr 0x02 0 = none ∧ s.rendi.half.find? (fun y => y.id = openHdr.session) = some halfOpen0 ∧ openHdr.seq = 1
        ∧ s.grant halfOpen0 ≠ 0 ∧ s.freeSession = some 1) := by
  refine ⟨?_, rfl, rfl, ?_, ?_⟩ <;> decide +kernel
theorem test_meets_SessionCommands :
    s7.takes (hdr 0x03 []) 0x03 [] 0 ses
    ∧ (Tbl.get none s7.rendi.sessions 0 = some ses ∧ ses.since + s7.rw Obj.rendiIdleTimeout 0 * 1000000000 ≤ s7.clk.ns)
    ∧ Meets s7 Obj.sessClose 0 1 (fun u => (Tbl.get none u.rendi.sessions 0).isSome = true)
    ∧ WMeets s7 Obj.keyValue 0 [] 0 (fun _ => True)
    ∧ WMeets s7 Obj.keyLevel 7 [3] 3 (fun _ => True) :=
  ⟨takes_of (by decide +kernel) (by decide) (by decide) (by decide), by decide +kernel, meets_of (by decide +kernel) (by decide +kernel),
    wmeets_of (by decide +kernel) trivial, wmeets_of (by decide +kernel) trivial⟩

theorem test_meets_RequestCommands :
    (s7.takes (hdr 0x08 (encItems [itemFor Obj.bootStage 0 []])) 0x08 (encItems [itemFor Obj.bootStage 0 []]) 0 ses)
    ∧ (s7.takes (hdr 0x09 (encItems [itemFor Obj.ethMode 0 [1]])) 0x09 (encItems [itemFor Obj.ethMode 0 [1]]) 0 ses
      ∧ (acc s7).writeTarget ses (itemFor Obj.ethMode 0 [1]) = (0, Obj.ethMode, 0, 1) ∧ accOf Obj.ethMode = .rwc
      ∧ Obj.ethMode ∉ [Obj.dlinkBond, Obj.bayShunt12, Obj.bayShunt33, Obj.fwuData])
    ∧ (s7.takes (hdr 0x0A []) 0x0A [] 0 ses ∧ 2 ≤ ses.level ∧ s7.dict.run = none ∧ (acc s7).validate = [])
    ∧ (let c : CommitRun := { image := [], taken := [], hdr := hdr 0x0A [], session := ses }
       let s : State := { s7 with dict := { s7.dict with run := some c } }
       s.dict.run = some c ∧ c.image.any (fun e => decide (e.1 / 4294967296 = Obj.keyLevel) && decide (e.2 = some 3)) = false)
    ∧ (s7.takes (hdr 0x0C (leBytes 2 65535 ++ leBytes 2 65535 ++ [0, 0, 0, 0])) 0x0C (leBytes 2 65535 ++ leBytes 2 65535 ++ [0, 0, 0, 0]) 0 ses
      ∧ ses.kslot ≠ 0xFF ∧ (s7.rendi.subs.filter (fun b => b.session = ses.id)).length < 4 ∧ s7.rendi.subs.length < 64)
    ∧ s7.takes (hdr 0x0D (leBytes 2 1 ++ [0, 0])) 0x0D (leBytes 2 1 ++ [0, 0]) 0 ses :=
  ⟨takes_of (by decide +kernel) (by decide) (by decide) (by decide),
    ⟨takes_of (by decide +kernel) (by decide) (by decide) (by decide), by decide +kernel, by decide +kernel, by decide +kernel⟩,
    ⟨takes_of (by decide +kernel) (by decide) (by decide) (by decide), by decide, rfl, by decide +kernel⟩, ⟨rfl, rfl⟩,
    ⟨takes_of (by decide +kernel) (by decide) (by decide) (by decide), by decide, by decide +kernel, by decide +kernel⟩,
    takes_of (by decide +kernel) (by decide) (by decide) (by decide)⟩

theorem test_meets_RestoreCommands :
    Meets s7 Obj.dictRestore 0 1 (fun _ => True)
    ∧ Meets s7 Obj.dictRestore 0 2 (fun u => u.dict.eff = [] ∧ u.lateVals = [])
    ∧ (persistObj Obj.ethMode = true ∧ dfltOf Obj.ethMode 0 ≠ 2 ∧ Obj.ethMode / 256 ≠ 0x1110
      ∧ (Obj.ethMode / 256 < 0x1400 ∨ 0x14FF < Obj.ethMode / 256)
      ∧ Meets { s7 with dict := { s7.dict with eff := [(okey Obj.ethMode 0, some 2)] } } Obj.dictRestore 0 2
          (fun u => u.dict.eff = [(okey Obj.ethMode 0, some 2)] ∧ u.lateVals = [])
      ∧ Meets { s7 with dict := { s7.dict with eff := [(okey Obj.ethMode 0, some 2)] } } Obj.dictRestoreAll 0 1
          (fun u => u.dict.eff = [(okey Obj.ethMode 0, some 2)] ∧ u.lateVals = []))
    ∧ Meets (s7.putOld { valid := true, gen := 1, schema := (s7.fwSlot s7.boot.running).schema, vals := [] }) Obj.dictRestore 0 3
      (fun u => u.oldImage.valid = true ∧ u.oldImage.schema / 65536 = (u.fwSlot u.boot.running).schema / 65536)
    ∧ Meets s7 Obj.dictRestore 0 3 (fun u => u.oldImage.valid = false) := by
  refine ⟨meets_of (by decide +kernel) trivial, meets_of (by decide +kernel) (by decide +kernel), ⟨by decide +kernel, by decide +kernel, by decide, by decide, ?_, ?_⟩, ?_, ?_⟩
  rotate_left 2
  · exact meets_of (by decide +kernel) ⟨by decide +kernel, rfl⟩
  all_goals exact meets_of (by decide +kernel) (by decide +kernel)

theorem test_meets_MailboxCommands :
    s7.barOpen ∧ (s7.mbx.go = false ∧ s7.mbx.waiting = [] ∧ s7.rendi.subs = [])
    ∧ (let s : State := { s7 with mbx := { s7.mbx with waiting := [[1], [2]] } }
       s.barOpen ∧ s.mbx.waiting = [1] :: [[2]] ∧ s.mbx.go = false) :=
  ⟨bar_of (by decide +kernel), ⟨rfl, rfl, rfl⟩, ⟨bar_of (by decide +kernel), rfl, rfl⟩⟩

theorem test_meets_SmbusCommands :
    s7.boot.vaux = true ∧ s7.inS7 = true ∧ (65535 < 65536 ∧ 255 < 256 ∧ 4294967295 < 4294967296)
    ∧ (let s : State := { s7 with smb := { s7.smb with sel := itemFor Obj.bootStage 0 [] } }
       let r := s.readItem (bit s.smb.sel.flags 1) observer { s.smb.sel with flags := s.smb.sel.flags % 2 }
       s.inS7 = true ∧ r.stat = 0 ∧ r.value.length ≤ 31)
    ∧ ({ s7 with smb := { s7.smb with count := 1, groups := 0xFFFF } } : State).alert = true := by decide +kernel

theorem test_meets_GeometryCommands :
    Meets ((((withPlace arr fun p => { p with geos := [], array := none }).putRw Obj.geoWidth 0 7).putRw Obj.geoData 0 4).putRw Obj.placeSpareLanes 0 1)
      Obj.geoActivate 0 1
      (fun u => (u.place.array = none ∨ 2 ≤ u.validMaps) ∧ (∀ e ∈ u.place.geos, e.2.st ≠ 1) ∧ (u.geo 0).st = 0 ∧ u.r81 (u.geoWanted 0) = true)
    ∧ Meets (withPlace s7 fun p => { p with array := some 1, maps := [⟨0, true⟩, ⟨1, true⟩, {}] }) Obj.geoActivate 7 1
      (fun u => (u.place.array = none ∨ 2 ≤ u.validMaps) ∧ (∀ e ∈ u.place.geos, e.2.st ≠ 1) ∧ u.r81 (u.geoWanted 7) = false)
    ∧ (let s := withPlace arr fun p => { p with geos := [(0, { g7 with st := 1 })] }
       (s.geo 0).st = 1 ∧ (s.geo 0).writing = false)
    ∧ (let s := withPlace arr fun p => { p with geos := [(0, { g7 with st := 1, writing := true })] }
       (s.geo 0).st = 1 ∧ (s.geo 0).writing = true)
    ∧ Meets (withPlace arr fun p => { p with slots := [] }) Obj.geoActivate 0 2
      (fun u => (u.place.array = none ∨ 2 ≤ u.validMaps) ∧ (u.geo 0).st = 2 ∧ u.geoBolts 0 = 0 ∧ (∀ m ∈ u.place.waiting ++ u.place.active, m.geo ≠ 0))
    ∧ (let w : MapWrite := ⟨255, { st := .zero }⟩
       let s := withPlace arr fun p => { p with mapPend := [w] }
       s.place.mapPend = [w] ∧ s.place.active = [] ∧ ∀ e ∈ s.place.nss, e.2.bolts = e.2.target)
    ∧ (withPlace arr fun p => { p with rehome := some 2 }).place.rehome = some 2 :=
  ⟨meets_of (by decide +kernel) (by decide +kernel), meets_of (by decide +kernel) (by decide +kernel), by decide +kernel, by decide +kernel,
    meets_of (by decide +kernel) (by decide +kernel), by decide +kernel, rfl⟩

theorem test_meets_SlotCommands :
    ((∀ c ∈ arr.hoop.writes, c.ns ≠ 1) ∧ ∀ c ∈ arr.hoop.reads, c.ns ≠ 1)
    ∧ (let s := withPlace arr fun p => { p with bolts := [(0, { st := .zero, ns := 1 })], zeroing := [0] }
       0 ∈ s.place.zeroing ∧ (s.bolt 0).st = .zero ∧ (s.boltNext 0).st = .zero)
    ∧ (let s := withPlace arr fun p => { p with bolts := [(0, { st := .zero, ns := 1 }), (5, { st := .zero, ns := 1 })], zeroing := [0] }
       ((s.place.bolts.filter (fun x => x.2.st = .zero && !s.place.zeroing.contains x.1)).map (fun x => x.1)).find?
         (fun x => s.place.zeroNext ≤ x) = some 5)
    ∧ (∀ c ∈ arr.hoop.writes, c.ns ≠ (arr.bolt 0).ns) ∧ ∀ c ∈ arr.hoop.reads, c.ns ≠ (arr.bolt 0).ns := by decide +kernel

/-- Entry 0 migrates to a second geometry. -/
def mig0 : State := withPlace arr fun p => { p with
  geos := [(0, g7), (1, g7)], active := [{ entry := 0, geo := 1 }]
  bolts := [(0, { st := .migrating, ns := 1, tgeo := 1, tbase := 40 })] }
/-- Position 0 is filled by copy-back. -/
def cb0 : State :=
  State.putRw { arr with
    place := { arr.place with copyback := [(0, some 0)] }
    drv := { arr.drv with mems := Tbl.set {} arr.drv.mems 0 { st := .rebuilding, pos := 0 } } } Obj.nsPiFormat 1 5
/-- The blocks of the columns `cs` of a stripe, data zero and tags the escape, with their parity. -/
def cellsOf (cs : List Nat) : List Cell :=
  let q := (blkOf (parityQ (List.replicate 4 (Blk.num ⟨0, 2 ^ 128 - 1⟩)))).pi
  cs.flatMap (fun c => (List.range 32).map (fun r => ⟨c, r, true, 0, if c < 4 then 2 ^ 128 - 1 else if c = 4 then 0 else q⟩))
theorem test_meets_MigrationCommands :
    Meets arr Obj.boltMigrate 0 0
      (fun u => 0 < 8 ∧ (u.place.array = none ∨ 2 ≤ u.validMaps) ∧ ((u.bolt 0).st = .mapped ∨ (u.bolt 0).st = .zero) ∧ (u.geo 0).st = 2
        ∧ ∀ m ∈ u.place.waiting ++ u.place.active, m.entry ≠ 0)
    ∧ (let s := withPlace arr fun p => { p with waiting := [{ entry := 0, geo := 0 }], maps := [⟨0, true⟩, ⟨1, true⟩, {}] }
       s.place.waiting.find? (fun m => m.entry = 0) = some { entry := 0, geo := 0 } ∧ s.place.active.length < s.rw Obj.migrateActive 0
        ∧ 2 ≤ s.validMaps ∧ ((s.bolt 0).st = .mapped ∨ (s.bolt 0).st = .zero) ∧ (s.nsp (s.bolt 0).ns).owner = s.skn.side
        ∧ 0 ∉ s.place.zeroing ∧ (s.takeSlot 0 0 (s.bolt 0).ns).2.isSome = true)
    ∧ (mig0.mig 0 = some { entry := 0, geo := 1 } ∧ (mig0.bolt 0).st = .migrating ∧ mig0.boltNext 0 = mig0.bolt 0
        ∧ (mig0.bolt 0).cursor < (mig0.geo (mig0.bolt 0).tgeo).sb
        ∧ mig0.stripeLive ⟨0, 1, (mig0.bolt 0).cursor⟩ = false ∧ (∀ x ∈ mig0.migSources 0, mig0.stripeLive x = false) ∧ mig0.engines ≠ [])
    ∧ (let m : Mig := { entry := 0, geo := 1, copied := true }
       let s := withPlace mig0 fun p => { p with active := [m] }
       s.mig 0 = some m ∧ m.copied = true ∧ (s.bolt 0).st = .migrating ∧ s.boltNext 0 = s.bolt 0
        ∧ ∀ c ∈ s.hoop.writes, ∀ r ∈ c.ranges, r.st ≠ 1 ∨ r.key ∉ s.migSources 0)
    ∧ (Tbl.get none cb0.place.copyback 0 = some 0 ∧ cb0.posState 0 = .rebuilding ∧ cb0.nextEntry 0 (fun w => 0 < w.g.w) = some (k0, g7)
        ∧ cb0.stripeLive k0 = false ∧ cb0.engines ≠ [] ∧ findAt (fun (e : Nat × Nat) => e.1 = 0) (g7.patRow k0.stripe) = some (0, (0, 0))
        ∧ cb0.laneColsOn k0 0 = [] ∧ cb0.syncMore k0 (cellsOf [1, 2, 3, 4]) = false ∧ cb0.syncFirst k0 (cellsOf [1, 2, 3, 4]) = (cb0, true)
        ∧ cb0.moreToRead k0 (cellsOf [1, 2, 3, 4]) [0] = false
        ∧ Tbl.get 0 (cb0.cbWrite k0 (cellsOf [1, 2, 3, 4]) [(0, 0, 0)]).darn.cbSince 0 < 255)
    ∧ (let s := withPlace cb0 fun p => { p with copyback := [(0, some 2048)] }
       Tbl.get none s.place.copyback 0 = some 2048 ∧ s.posState 0 = .rebuilding ∧ s.nextEntry 2048 (fun w => 0 < w.g.w) = none) :=
  ⟨meets_of (by decide +kernel) (by decide +kernel), by decide +kernel, by decide +kernel, by decide +kernel, by decide +kernel, by decide +kernel⟩

def wcmd0 (st : Nat) : WCmd := { id := 1, req := .own, ns := 1, first := 0, bytes := 4096, ranges := [{ key := k0, col := 0, at_ := 0, len := 4096, off := 0, st := st }] }
def withStripe (s : State) (x : Stripe) : State := withHoop s fun h => { h with stripes := [(k0.num, x)] }
theorem test_meets_HoopFillCommands :
    (let c := wcmd0 0
     let r : Range := { key := k0, col := 0, at_ := 0, len := 4096, off := 0 }
     let s := withHoop arr fun h => { h with queue := [1], writes := [c] }
     s.hoop.queue = [c.id] ∧ s.hoop.writes = [c] ∧ c.ranges = [r] ∧ r.st = 0 ∧ (s.stripe r.key).shadowed = false
      ∧ Tbl.get none (s.stripe r.key).frames r.col = none ∧ s.blockedBy c (s.slotOf r.key).1.uBytes = 0)
    ∧ (let f : FillWait := ⟨1, 0, 0, 512, 512, 0⟩
       let s := withHoop arr fun h => { h with writes := [wcmd0 1], fills := [f] }
       s.hoop.fills.find? (fun g => g.cmd = f.cmd && g.range = f.range && g.row = f.row) = some f ∧ s.findWrite f.cmd = some (wcmd0 1)
        ∧ (wcmd0 1).ranges[f.range]? = some { key := k0, col := 0, at_ := 0, len := 4096, off := 0, st := 1 }
        ∧ (s.stripe k0).newest 0 f.row = none)
    ∧ (let s := withStripe arr { st := .filling, timer := some 0, hold := 5 }
       (s.stripe k0).timer = some 0 ∧ 0 + (s.stripe k0).hold ≤ s.clk.ns ∧ (s.stripe k0).st = .filling)
    ∧ (let x : Stripe := { st := .filling, trig := true }
       let s := withStripe arr x
       x = s.stripe k0 ∧ s.stripeLive k0 = false ∧ s.vault.state ≠ 1 ∧ s.migHeld k0 = false ∧ (s.bolt 0).st ≠ .zero) := by decide +kernel

/-- A stripe whose frames hold every data block. -/
def full0 : Stripe := { st := .filling, fillIn := true, trig := true, frames := (List.range 4).map (fun c =>
  (c, some { acked := true, blks := (List.range 32).map (fun r => (r, some {})) })) }
def rec1 : JRec := { kind := .destage, jseq := 5, key := k0, on0 := true, on1 := true }
def rblk0 : RBlk := { nsBlk := 0, key := k0, col := 0, row := 0, st := .decode,
                      surv := (4, some {}) :: [1, 2, 3].map (fun c => (c, some ⟨0, 2 ^ 128 - 1⟩)) }
def rcmd0 : RCmd := ⟨3, .own, 1, 0, 4096, [rblk0]⟩
theorem test_meets_DestageCommands :
    (let s := withHoop arr fun h => { h with stripes := [(k0.num, full0)] }
     (s.stripe k0).st = .filling ∧ (s.stripe k0).fillIn = true ∧ (s.stripe k0).live = none ∧ (s.bolt 0).st ≠ .zero ∧ s.missingSectors k0 = []
      ∧ s.fillsOn k0 = false)
    ∧ (let s : State := { arr with jour := { arr.jour with recs := [{ rec1 with onPartner := true }] }
                                   hoop := { arr.hoop with mirrorState := 0, stripes := [(k0.num, { full0 with live := some 5 })] } }
       let r : JRec := { rec1 with onPartner := true }
       s.jrec 5 = some r ∧ r.persisted = false ∧ s.held r = true ∧ s.mirrorExists = true ∧ r.kind = .destage
        ∧ (s.stripe r.key).live = some r.jseq ∧ (s.stripe r.key).st = .filling)
    ∧ (let s := withHoop arr fun h => { h with stripes := [(k0.num, { full0 with st := .basted })] }
       (s.stripe k0).st = .basted ∧ s.engines ≠ [] ∧ s.vault.state ≠ 1)
    ∧ (let c : MCmd := { tag := 9, bay := 0, kind := .write, lba := 0, count := 32, data := [], owner := .destage k0 0 }
       let s : State := { arr with drv := { arr.drv with cmds := [c] } }
       s.findCmd c.tag = some c ∧ c.held = false)
    ∧ (let c : MCmd := { tag := 9, bay := 0, kind := .read, lba := 0, count := 1, data := [], owner := .read 3 0 }
       let s : State := { arr with drv := { arr.drv with cmds := [c] } }
       s.findCmd c.tag = some c ∧ c.held = false)
    ∧ (let s := (withHoop arr fun h => { h with reads := [rcmd0] }).putRw Obj.nsPiFormat 1 4
       s.rblk 3 0 = some rblk0 ∧ s.findRead 3 = some rcmd0 ∧ rblk0.st = .decode ∧ rblk0.own = false
        ∧ (((s.cells rblk0.key rblk0.row (fun col => if col = rblk0.col then none else Tbl.get none rblk0.surv col)).decode).map
          (fun d => checkStored (s.fmtOf 1) 1 rblk0.nsBlk (blkOf (d.getD rblk0.col 0)) false)) = some 0) := by
  decide +kernel

theorem test_meets_MirrorAndJournalCommands :
    (let s := withHoop arr fun h => { h with mirrorState := 2, stripes := [(k0.num, { frames := [(0, some { blks := [(0, some {})], acked := true })] })] }
     s.hoop.mirrorState = 2 ∧ (∀ e ∈ s.hoop.stripes, ∀ f ∈ e.2.all, f.blks = [] ∨ f.acked = true) ∧ ∀ c ∈ s.hoop.writes, ∀ r ∈ c.ranges, r.st ≠ 2)
    ∧ (let s := withHoop arr fun h => { h with lowering := some 0 }
       s.hoop.lowering = some 0 ∧ s.hoopDirty ≤ 0 * 1048576)
    ∧ (let s : State := { arr with jour := { arr.jour with recs := [rec1], waiting := [5] } }
       s.jour.waiting ≠ [] ∧ s.journalAt s.jour.pos0 = true ∧ s.journalAt s.jour.pos1 = true
        ∧ State.staleRecs { s with jour := { s.jour with
            waiting := s.jour.waiting.drop 63, page := wrapAdd 64 s.jour.page 1
            recs := s.jour.recs.map (fun r => if (s.jour.waiting.take 63).contains r.jseq then { r with page := s.jour.page } else r) } } = [])
    ∧ (let s : State := { arr with jour := { arr.jour with pages := [⟨0, [5], true, true⟩] } }
       s.jour.pages.find? (fun q => q.seq = 0 && q.out0) = some ⟨0, [5], true, true⟩)
    ∧ ({ arr with jour := { arr.jour with rehome := some (1, 2) } } : State).jour.rehome = some (1, 2)
    ∧ Meets arr Obj.bastJournalMove 0 2
      (fun u => 2 < 48 ∧ u.jour.rehome = none ∧ 2 % 2 = u.skn.side ∧ u.inService 2 = true ∧ 2 ≠ u.jour.pos0)
    ∧ (let s := withPlace arr fun p => { p with bolts := [(0, { st := .mapped, ns := 1, suspect := true })] }
       let t : State := { s with jour := { s.jour with resync := 1 } }
       t.nextEntry t.jour.resync (fun w => (t.bolt w.key.entry).suspect) = some (⟨0, 0, 1⟩, g7) ∧ t.stripeLive ⟨0, 0, 1⟩ = false
        ∧ t.engines ≠ [] ∧ (⟨0, 0, 1⟩ : SKey).stripe + 1 ≠ g7.sb) :=
  ⟨by decide +kernel, by decide +kernel, by decide +kernel, by decide +kernel, rfl, meets_of (by decide +kernel) (by decide +kernel), by decide +kernel⟩

theorem test_meets_VaultCommands :
    (s7.rw Obj.vaultEnable 0 ≠ 0 ∧ s7.inS7 = true ∧ s7.vault.state ≠ 1)
    ∧ ((s7.putRw Obj.vaultEnable 0 0).rw Obj.vaultEnable 0 = 0 ∧ s7.vault.state ≠ 1)
    ∧ ({ s7 with vault := { s7.vault with cur := some ⟨0, 0, 0, 0⟩ } } : State).vault.cur = some ⟨0, 0, 0, 0⟩
    ∧ (let s : State := { s7 with vault := { s7.vault with state := 3, start := 10 ^ 13 } }
       s.vault.state = 3 ∧ s.vault.cur = none ∧ s.vault.todo = [] ∧ s.clk.ns = s.vault.start)
    ∧ Meets s7 Obj.vaultTest 0 1 (fun u => u.rw Obj.vaultEnable 0 ≠ 0 ∧ u.inS7 = true ∧ u.vault.state = 0) :=
  ⟨by decide +kernel, by decide +kernel, rfl, by decide +kernel, meets_of (by decide +kernel) (by decide +kernel)⟩

/-- Position 0 failed; the device rebuilds it into lane 0. -/
def rb0 (st : Nat) (m : MemSt) : State :=
  { arr with
    place := { arr.place with lanes := [(0, ⟨0, 1⟩)] }
    drv := { arr.drv with mems := Tbl.set {} arr.drv.mems 0 { st := m, pos := 0 } }
    darn := { arr.darn with passes := [(0, { st := st })] } }
def critc : Crit := { a := 0, b := 1 }
/-- Positions 0 and 1 failed, each with its lane. -/
def rb01 : State :=
  { arr with
    place := { arr.place with geos := [(0, { g7 with spare := [List.replicate 6 [(6, 0), (6, 1)]], s := 2 })], lanes := [(0, ⟨0, 1⟩), (1, ⟨1, 1⟩)] }
    drv := { arr.drv with mems := Tbl.set {} (Tbl.set {} arr.drv.mems 0 { st := .failed, pos := 0 }) 1 { st := .failed, pos := 1 } }
    darn := { arr.darn with crits := [critc] } }
theorem test_meets_WalkCommands :
    (let s := (rb0 1 .failed).putRw Obj.nsPiFormat 1 4
     let cs := cellsOf [1, 2, 3, 4]
     (s.pass 0).st = 1 ∧ s.rw Obj.rbPause 0 ≠ 1 ∧ s.rank1 = false ∧ s.nextPass 0 (s.pass 0).cursor = some (k0, 0, 0, g7) ∧ s.laneOf 0 = some 0
      ∧ s.stripeLive k0 = false ∧ s.engines ≠ [] ∧ s.reconstructed 0 k0 = false ∧ s.syncMore k0 cs = false
      ∧ s.syncFirst k0 cs = (s, true) ∧ (s.laneSlot k0 0 0).isSome = true ∧ s.moreToRead k0 cs [0] = false)
    ∧ (let s := rb01.putRw Obj.nsPiFormat 1 4
       let cs := cellsOf [2, 3, 4, 5]
       s.syncMore k0 cs = false ∧ s.syncFirst k0 cs = (s, true) ∧ s.moreToRead k0 cs [0, 1] = false)
    ∧ (rb01.darn.crits.find? (fun d => d.a = critc.a && d.b = critc.b) = some critc
      ∧ (rb01.nextCrit critc).map (fun e => e.1) = some k0 ∧ rb01.stripeLive k0 = false ∧ rb01.engines ≠ []
      ∧ findAt (fun (e : Nat × Nat) => e.1 = critc.a) (g7.patRow k0.stripe) = some (0, (0, 0)) ∧ rb01.laneOf 0 = some 0
      ∧ (rb01.laneSlot k0 0 0).isSome = true ∧ findAt (fun (e : Nat × Nat) => e.1 = critc.b) (g7.patRow k0.stripe) = some (1, (1, 0))
      ∧ rb01.laneOf 1 = some 1 ∧ (rb01.laneSlot k0 1 1).isSome = true)
    ∧ (s7.rank1 = false ∧ s7.rank2 = false ∧ s7.passGeos = [] ∧ s7.level = 0)
    ∧ (let s : State := { s7 with darn := { s7.darn with relisting := true } }
       s.darn.relisting = true ∧ s.nextEntry s.darn.relist (fun w => (s.bolt w.key.entry).lost) = none)
    ∧ (let s : State := { arr with darn := { arr.darn with relisting := true }
                                   place := { arr.place with bolts := [(0, { st := .mapped, ns := 1, lost := true })] } }
       s.darn.relisting = true ∧ s.nextEntry s.darn.relist (fun w => (s.bolt w.key.entry).lost) = some (k0, g7)
        ∧ s.allGiven k0 ((cellsOf [0, 1, 2, 3]).map (fun c => { c with ok := false })) (List.range g7.k) = true
        ∧ s.poisons k0 ((cellsOf [0, 1, 2, 3]).map (fun c => { c with ok := false })) = [])
    ∧ (arr.rw Obj.scrubEnable 0 ≠ 0 ∧ arr.rank1 = false ∧ arr.rank2 = false ∧ arr.rank3 = false ∧ arr.engines ≠ []
      ∧ arr.nextEntry arr.darn.scrub (fun _ => true) = some (k0, g7) ∧ arr.stripeLive k0 = false ∧ arr.suspect k0 = false
      ∧ arr.allGiven k0 (cellsOf [0, 1, 2, 3, 4, 5]) (List.range (g7.k + 2)) = true)
    ∧ Meets s7 Obj.scrubStart 0 1 (fun _ => True)
    ∧ (let s := withPlace (rb0 5 .failing) fun p => { p with lanes := [] }
       (s.pass 0).st = 5 ∧ s.posState 0 = .failing ∧ s.freeLane = some 0 ∧ s.rw Obj.rbKeepLanes 0 + 1 ≤ s.freeLanes)
    ∧ (let s := (rb0 3 .failing).putRw Obj.nsPiFormat 1 4
       let cs := cellsOf [0]
       (s.pass 0).st = 3 ∧ s.rw Obj.rbPause 0 ≠ 1 ∧ s.rank1 = false ∧ s.rank2 = false
        ∧ s.nextPass 0 (s.pass 0).cursor = some (k0, 0, 0, g7) ∧ s.laneOf 0 = some 0 ∧ s.stripeLive k0 = false ∧ s.engines ≠ []
        ∧ s.syncMore k0 cs = false ∧ s.syncFirst k0 cs = (s, true) ∧ (s.laneSlot k0 0 0).isSome = true ∧ s.moreToRead k0 cs [0] = false) :=
  ⟨by decide +kernel, by decide +kernel, by decide +kernel, by decide +kernel, by decide +kernel, by decide +kernel, by decide +kernel,
    meets_of (by decide +kernel) trivial, by decide +kernel, by decide +kernel⟩

theorem test_meets_EthernetPortCommands :
    (let s := (withNet (net0 qp0) fun n => { n with ports := [] }).updPd 0 (fun d => { d with st := .on })
     s.boot.svcOpen = true ∧ 0 < s.ports ∧ s.subRate 0 0 ≠ 0 ∧ (Tbl.get {} s.pd 0).st = .on ∧ s.blocked 1 0 = false ∧ 0 ∉ (s.port 0).up)
    ∧ (0 ∈ ((net0 qp0).port 0).up ∧ (net0 qp0).rw Obj.holdTime 0 ≠ 0)
    ∧ (pkt.port < (net0 qp0).ports ∧ (net0 qp0).linkUp pkt.port pkt.sub = true ∧ pkt.fecBad = false
      ∧ (net0 qp0).gidOf { pkt with dst := 0x0A000002, v6 := false } = some 0
      ∧ ((net0 qp0).putRw Obj.gidType 0 2).gidOf { pkt with dst := 0x0A000002, v6 := true } = some 0)
    ∧ (let s := (net0 qp0).putRw Obj.ethPfcEnable 0 0x80
       0 < s.ports ∧ 7 < 8 ∧ (s.port 0).up ≠ [] ∧ bit (s.rw Obj.ethPfcEnable 0) 7 = true ∧ 7 ∉ (s.port 0).ignored)
    ∧ (let s := withNet ((net0 qp0).putRw Obj.ethPfcEnable 0 0x80) fun n => { n with ports := [(0, { up := [0], pausing := [7] })] }
       bit (s.rw Obj.ethPfcEnable 0) 7 = true ∧ (s.port 0).up ≠ [] ∧ s.rw Obj.ethPfcXoff 0 < s.rw Obj.ethPfcXoff 0 + 1
        ∧ s.rw Obj.ethPfcXon 0 - 1 ≤ s.rw Obj.ethPfcXoff 0 ∧ s.rw Obj.ethPfcXon 0 - 1 < s.rw Obj.ethPfcXon 0 ∧ 7 ∈ (s.port 0).pausing)
    ∧ (let s := withNet (net0 qp0) fun n => { n with ports := [(0, { up := [0], paused := [(7, some (0, 100))] })] }
       Tbl.get none (s.port 0).paused 7 = some (0, 100) ∧ 100 ≠ 0 ∧ 0 + 100 * 1000000 ≤ s.clk.ns) := by
  decide +kernel

def req0 : CmReq := ⟨1, 0, 0, 1, 16, 32, 31, 1024, 5, 5, 0⟩
/-- The queue of requests holds one from host 0. -/
def asks (r : CmReq) : State := withNet (net0 {}) fun n => { n with reqs := [⟨pkt, r⟩] }
theorem test_meets_ConnectionCommands :
    (let s := net0 {}
     (s.frameIn pkt).2 = true ∧ (∀ w ∈ (heard s pkt).net.reqs, w.q.comm ≠ req0.comm) ∧ (∀ e ∈ (heard s pkt).net.answered, e.1.q.comm ≠ req0.comm)
      ∧ (heard s pkt).net.reqs.length < 1024)
    ∧ (let s := asks { req0 with depth := 17 }
       s.net.reqs = [⟨pkt, { req0 with depth := 17 }⟩] ∧ (s.net.admits.filter (fun a => s.clk.ns < a + 1000000000)).length < 50000
        ∧ (s.reqCheck pkt { req0 with depth := 17 }).toOption = none)
    ∧ (let s := asks req0
       s.net.reqs = [⟨pkt, req0⟩] ∧ (s.net.admits.filter (fun a => s.clk.ns < a + 1000000000)).length < 50000
        ∧ (s.reqCheck pkt req0).toOption = some 0 ∧ s.freeQpRow = some 0 ∧ (s.makeRoom (fun _ => false)).isSome = true)
    ∧ (let s := net0 { qp0 with st := .connecting }
       (s.frameIn pkt).2 = true ∧ ((heard s pkt).qp 0).ip = pkt.src ∧ ((heard s pkt).qp 0).st = .connecting ∧ (s.qp 0).st = .connecting)
    ∧ (let s := net0 qp0
       (s.frameIn pkt).2 = true ∧ ((heard s pkt).qp 0).ip = pkt.src ∧ ((heard s pkt).qp 0).st = .active) := by decide +kernel

/-- A QP that waits for the acknowledgment of PSNs 4 to 6. -/
def qpw : Qp := { qp0 with una := 4, psn := 7, tx := [{ kind := .send none none, len := 0, data := 0, for_ := .plain, psn := 4, n := 3 }] }
/-- A QP that fetches 8 bytes for a write. -/
def qpr : Qp := { qp0 with una := 5, psn := 6, tx := [{ kind := .read 0 0, len := 8, data := 0, for_ := .fetch 1 0, psn := 5, n := 1 }] }
theorem test_meets_ResponseCommands :
    Responded (net0 qpw) (.ack pkt) pkt 0 (fun u => (u.qp 0).tx ≠ [] ∧ psnDist (u.qp 0).una pkt.psn < psnDist (u.qp 0).una (u.qp 0).psn)
    ∧ Responded (net0 qpw) (.nakSequenceError pkt) pkt 0 (fun u =>
        ((u.ackTx 0 (psnAdd pkt.psn 16777215)).qp 0).tx ≠ [] ∧ ((u.ackTx 0 (psnAdd pkt.psn 16777215)).qp 0).st = .active)
    ∧ Responded (net0 qpw) (.rnrNak pkt) pkt 0 (fun u => ((u.ackTx 0 (psnAdd pkt.psn 16777215)).qp 0).tx ≠ [])
    ∧ Responded (net0 qpw) (.nakError pkt 2) pkt 0 (fun u => ((u.ackTx 0 (psnAdd pkt.psn 16777215)).qp 0).st = .active)
    ∧ Responded (net0 qpr) (.rdmaReadResponse pkt 4 1) pkt 0 (fun u =>
        ((u.qp 0).tx.find? (fun m => match m.kind with | .read _ _ => true | _ => false)).map (fun m => (m.psn, m.got, m.len)) = some (5, 0, 8)
          ∧ pkt.psn = psnAdd 5 (0 / (u.qp 0).mtu) ∧ 0 + 4 < 8)
    ∧ Responded (net0 qpr) (.rdmaReadResponse pkt 8 1) pkt 0 (fun u =>
        ((u.qp 0).tx.find? (fun m => match m.kind with | .read _ _ => true | _ => false)).map (fun m => (m.psn, m.got, m.len, m.for_))
          = some (5, 0, 8, .fetch 1 0) ∧ pkt.psn = psnAdd 5 (0 / (u.qp 0).mtu) ∧ 8 ≤ 0 + 8)
    ∧ Responded (net0 qp0) (.cnp pkt) pkt 0 (fun u => u.rw Obj.tpRpEnable 0 = 1 ∧ (u.qp 0).st = .active ∧ (u.qp 0).cutAt = none)
    ∧ Responded ((net0 qp0).putRw Obj.tpRpEnable 0 0) (.cnp pkt) pkt 0 (fun u => u.rw Obj.tpRpEnable 0 = 0)
    ∧ Reached (net0 qp0) (.invalidOpcodePacket pkt 0x15) pkt 0 (fun _ => True) :=
  ⟨responded_of (by decide +kernel) (by decide +kernel), responded_of (by decide +kernel) (by decide +kernel),
    responded_of (by decide +kernel) (by decide +kernel), responded_of (by decide +kernel) (by decide +kernel),
    responded_of (by decide +kernel) (by decide +kernel), responded_of (by decide +kernel) (by decide +kernel),
    responded_of (by decide +kernel) (by decide +kernel), responded_of (by decide +kernel) (by decide +kernel), reached_of (by decide +kernel) trivial⟩

theorem test_meets_QpTimerCommands :
    (((net0 qpw).qp 0).tx ≠ [] ∧ ((net0 qpw).qp 0).st = .active)
    ∧ (((net0 { qpw with rnrWait := some 4 }).qp 0).rnrWait = some 4 ∧ ((net0 { qpw with rnrWait := some 4 }).qp 0).st = .active)
    ∧ 0 < ((net0 { qp0 with since := 1 }).qp 0).since
    ∧ (((net0 { qp0 with rp := true }).qp 0).st = .active ∧ ((net0 { qp0 with rp := true }).qp 0).rp = true
      ∧ ((net0 { qp0 with rp := true }).qp 0).cnpR = false)
    ∧ (let s := withNet (net0 { qp0 with resident := false }) fun n => { n with ports := [(0, { up := [0], miss := [.ack pkt] })] }
       (s.qp 0).st ≠ .idle ∧ (s.qp 0).resident = false ∧ (s.qp 0).fetching = false ∧ s.queuedQp 0 = true ∧ (s.makeRoom s.queuedQp).isSome = true)
    ∧ (let s := withNet (net0 { qp0 with resident := false }) fun n => { n with
         ports := [(0, { up := [0], miss := [.ack pkt] })]
         qps := (0, { qp0 with resident := false }) :: (List.range 4096).map (fun i => (i + 1, { qp0 with rnrWait := some 0 })) }
       (s.qp 0).st ≠ .idle ∧ (s.qp 0).resident = false ∧ (s.qp 0).fetching = false ∧ s.queuedQp 0 = true ∧ (s.makeRoom s.queuedQp).isSome = false ∧ (s.qp 0).fetchWait = false)
    ∧ ((net0 { qp0 with fetching := true }).qp 0).fetching = true
    ∧ (((net0 { qp0 with st := .draining }).qp 0).st = .draining ∧ (net0 { qp0 with st := .draining }).qpBusy 0 = false
      ∧ ((net0 { qp0 with st := .draining }).qp 0).leftAt + ((net0 { qp0 with st := .draining }).qp 0).drainMs * 1000000
        ≤ (net0 { qp0 with st := .draining }).clk.ns)
    ∧ ((net0 qp0).ctrl 1 = some {} ∧ ({} : Ctrl).kaAt + ({} : Ctrl).kato * 1000000000 ≤ (net0 qp0).clk.ns)
    ∧ Meets (net0 qp0) Obj.qpClose 0 1 (fun u => (u.qp 0).st = .active)
    ∧ WMeets (net0 qp0) Obj.qpPin 0 [1] 1 (fun u => 1 = 0 ∨ u.pins < 1024) :=
  ⟨by decide +kernel, by decide +kernel, by decide +kernel, by decide +kernel, by decide +kernel, by decide +kernel, by decide +kernel, by decide +kernel,
    by decide +kernel, meets_of (by decide +kernel) (by decide +kernel), wmeets_of (by decide +kernel) (by decide +kernel)⟩

def nqnA : Nat := encStr [0x61]
theorem test_meets_AdminCommands_connect :
    Reached (net0 { qp0 with ctrl := none }) (.fabricsConnect pkt 1 0 31 3600000 0xFFFF false 0 discNqn 7) pkt 0
      (fun u => (((u.taken 0 pkt).qp 0).ctrl = none ∧ ((u.taken 0 pkt).qp 0).qid = 0)
        ∧ (discNqn = (u.taken 0 pkt).subsysNqn ∨ discNqn = discNqn) ∧ 0 = (u.taken 0 pkt).rw Obj.hostNqn ((u.taken 0 pkt).qp 0).host
        ∧ 1 ≤ 3600000 ∧ 3600000 ≤ 3600000)
    ∧ Reached (net0 { qp0 with ctrl := none, qid := 1 }) (.fabricsConnect pkt 1 1 31 0 1 false 0 (encStr (nqnOf 1)) 7) pkt 0
      (fun u => ((u.taken 0 pkt).qp 0).ctrl = none ∧ 1 ≠ 0 ∧ ((u.taken 0 pkt).qp 0).qid = 1 ∧ encStr (nqnOf 1) = (u.taken 0 pkt).subsysNqn
        ∧ encStr (nqnOf 1) ≠ discNqn ∧ (u.taken 0 pkt).ctrl 1 = some {} ∧ ({} : Ctrl).host = ((u.taken 0 pkt).qp 0).host
        ∧ ({} : Ctrl).disc = false) :=
  ⟨reached_of (by decide +kernel) (by decide +kernel), reached_of (by decide +kernel) (by decide +kernel)⟩
theorem test_meets_AdminCommands :
    Reached (net0 qp0) (.propertyGet pkt 1 0x14) pkt 0 (fun u => (u.qp 0).ctrl = some 1 ∧ (u.taken 0 pkt).ctrl 1 = some {})
    ∧ Reached (net0 qp0) (.propertySet pkt 1 0x14 1) pkt 0 (fun u => (u.qp 0).ctrl = some 1 ∧ 1 % 2 = 1)
    ∧ Reached (net0 qp0) (.disconnect pkt 1) pkt 0 (fun u => (u.qp 0).ctrl = some 1)
    ∧ Reached (net0 qp0) (.identify pkt 1 4 1 ⟨0, 0, 4096, false, false, 0⟩) pkt 0
        (fun u => (u.qp 0).ctrl = some 1 ∧ (u.qp 0).qid = 0 ∧ 4 ∉ [0, 1, 2, 3, 6])
    ∧ Reached (net0 qp0) (.identify pkt 1 2 0 ⟨0, 0, 4096, false, false, 0⟩) pkt 0
        (fun u => (u.qp 0).ctrl = some 1 ∧ (u.qp 0).qid = 0 ∧ ((u.taken 0 pkt).identData ((u.taken 0 pkt).qp 0).host 1 2 0).isSome = true)
    ∧ Reached (net0 qp0) (.identify pkt 1 0 9 ⟨0, 0, 4096, false, false, 0⟩) pkt 0
        (fun u => (u.qp 0).ctrl = some 1 ∧ (u.qp 0).qid = 0 ∧ ((u.taken 0 pkt).identData ((u.taken 0 pkt).qp 0).host 1 0 8).isNone = true)
    ∧ Reached (net0 qp0) (.getLogPage pkt 1 4 0 false ⟨0, 0, 4096, false, false, 0⟩) pkt 0
        (fun u => (u.qp 0).ctrl = some 1 ∧ (u.qp 0).qid = 0 ∧ (u.taken 0 pkt).ctrl 1 = some {})
    ∧ Reached (net0 qp0) (.getLogPage pkt 1 0xC 0 false ⟨0, 0, 4096, false, false, 0⟩) pkt 0
        (fun u => (u.qp 0).ctrl = some 1 ∧ (u.qp 0).qid = 0 ∧ (u.taken 0 pkt).ctrl 1 = some {})
    ∧ Reached (net0 qp0) (.getLogPage pkt 1 3 0 false ⟨0, 0, 4096, false, false, 0⟩) pkt 0
        (fun u => (u.qp 0).ctrl = some 1 ∧ (u.qp 0).qid = 0 ∧ (u.taken 0 pkt).ctrl 1 = some {} ∧ 3 ∉ [1, 2, 4, 0xC, 0x70])
    ∧ Reached (net0 qp0) (.setFeatures pkt 1 0x0F 3600001) pkt 0 (fun u => (u.qp 0).ctrl = some 1 ∧ (u.qp 0).qid = 0)
    ∧ Reached (net0 qp0) (.getFeatures pkt 1 0x81) pkt 0
        (fun u => (u.qp 0).ctrl = some 1 ∧ (u.qp 0).qid = 0 ∧ (u.taken 0 pkt).ctrl 1 = some {})
    ∧ Reached (net0 qp0) (.asynchronousEventRequest pkt 1) pkt 0
        (fun u => (u.qp 0).ctrl = some 1 ∧ (u.qp 0).qid = 0 ∧ (u.taken 0 pkt).ctrl 1 = some {})
    ∧ Reached (net0 qp0) (.keepAlive pkt 1) pkt 0 (fun u => (u.qp 0).ctrl = some 1 ∧ (u.qp 0).qid = 0)
    ∧ Reached (net0 qp0) (.abort pkt 1) pkt 0 (fun u => (u.qp 0).ctrl = some 1 ∧ (u.qp 0).qid = 0) := by
  refine ⟨?_, ?_, ?_, ?_, ?_, ?_, ?_, ?_, ?_, ?_, ?_, ?_, ?_, ?_⟩ <;> exact reached_of (by decide +kernel) (by decide +kernel)

/-- An I/O queue of host 0, to which namespace 1 is attached. -/
def nvm0 : State := ((net0 { qp0 with qid := 1 }).putRw Obj.attHost 0 0).putRw Obj.attNs 0 1
def pr0 : PrInfo := ⟨false, 0, 0, 0, 0⟩
theorem test_meets_BlockCommands :
    Reached nvm0 (.nvmeRead pkt 1 1 0 8 pr0 ⟨0, 0, 4096, false, false, 0⟩) pkt 0 (fun u => (u.qp 0).ctrl = some 1 ∧ (u.qp 0).qid ≠ 0
      ∧ (u.taken 0 pkt).blockCheck ((u.taken 0 pkt).qp 0).host 1 0 8 pr0.pract ≠ 0)
    ∧ Reached nvm0 (.nvmeRead pkt 1 2 0 8 pr0 ⟨0, 0, 4096, false, true, 0⟩) pkt 0 (fun u => (u.qp 0).ctrl = some 1 ∧ (u.qp 0).qid ≠ 0
      ∧ (u.taken 0 pkt).blockCheck ((u.taken 0 pkt).qp 0).host 2 0 8 pr0.pract = 0)
    ∧ Reached nvm0 (.nvmeRead pkt 1 2 262143 1 pr0 ⟨0, 0, 4096, false, false, 0⟩) pkt 0 (fun u => (u.qp 0).ctrl = some 1 ∧ (u.qp 0).qid ≠ 0
      ∧ (u.taken 0 pkt).blockCheck ((u.taken 0 pkt).qp 0).host 2 262143 1 pr0.pract = 0)
    ∧ Reached nvm0 (.nvmeWrite pkt 1 2 0 1 pr0 ⟨0, 0, 8193, false, true, 0⟩) pkt 0 (fun u => (u.qp 0).ctrl = some 1 ∧ (u.qp 0).qid ≠ 0
      ∧ (u.taken 0 pkt).blockCheck ((u.taken 0 pkt).qp 0).host 2 0 1 pr0.pract = 0 ∧ 8192 < 8193)
    ∧ Reached nvm0 (.nvmeWrite pkt 1 2 0 1 pr0 ⟨0, 0, 8192, false, true, 0⟩) pkt 0 (fun u => (u.qp 0).ctrl = some 1 ∧ (u.qp 0).qid ≠ 0
      ∧ (u.taken 0 pkt).blockCheck ((u.taken 0 pkt).qp 0).host 2 0 1 pr0.pract = 0)
    ∧ Reached nvm0 (.writeZeroes pkt 1 2 0 1) pkt 0 (fun u => (u.qp 0).ctrl = some 1 ∧ (u.qp 0).qid ≠ 0
      ∧ (u.taken 0 pkt).blockCheck ((u.taken 0 pkt).qp 0).host 2 0 1 false = 0)
    ∧ Reached nvm0 (.nvmeFlush pkt 1 2) pkt 0 (fun u => (u.qp 0).ctrl = some 1 ∧ (u.qp 0).qid ≠ 0) := by
  refine ⟨?_, ?_, ?_, ?_, ?_, ?_, ?_⟩ <;> exact reached_of (by decide +kernel) (by decide +kernel)

def eacc (kind : EyeAccKind) (len got : Nat) : EyeAcc :=
  { id := 1, who := .qp 0, kind := kind, row := 5, wgen := 0, ekind := 0, ns := 1, base := 0, off := 0, len := len, psn := 4, n := 1
    got := got, cmd := some 1, issued := true }
theorem test_meets_EyeletAccessCommands_write :
    Reached eyes0 (.rdmaWrite pkt true true 5 0 4096 4096 0) pkt 0 (fun u => u.eyeCheck 5 (u.qp 0).host 0 0 4096 true ≠ 0)
    ∧ Reached (withHoop eyes0 fun h => { h with stopped := true }) (.rdmaWrite pkt true true (key 5) 0 4096 4096 0) pkt 0
      (fun u => u.eyeCheck (key 5) (u.qp 0).host 0 0 4096 true = 0
        ∧ ((u.admitAcc (.qp 0) .write (key 5 % 16384) 0 4096 pkt.psn 1).1.takeFrames (u.admitAcc (.qp 0) .write (key 5 % 16384) 0 4096 pkt.psn 1).2).isNone
          = true)
    ∧ Reached eyes0 (.rdmaWrite pkt true true (key 5) 12288 4096 4096 0) pkt 0
      (fun u => u.eyeCheck (key 5) (u.qp 0).host 0 12288 4096 true = 0
        ∧ ((u.admitAcc (.qp 0) .write (key 5 % 16384) 12288 4096 pkt.psn 1).1.takeFrames
            (u.admitAcc (.qp 0) .write (key 5 % 16384) 12288 4096 pkt.psn 1).2).isSome = true)
    ∧ Reached (withHoop (withNet eyes0 fun n => { n with accs := [eacc .write 4096 1024] }) fun h => { h with
        writes := [{ id := 1, req := .eyelet 1, ns := 1, first := 0, bytes := 4096, ranges := [{ key := k0, col := 0, at_ := 0, len := 4096, off := 0, st := 1 }] }] })
      (.rdmaWrite pkt false true (key 5) 0 4096 1024 0) pkt 0
      (fun u => u.net.accs.find? (fun a => a.who = .qp 0 && a.kind = .write && decide (a.got < a.len)) = some (eacc .write 4096 1024)
        ∧ (((eacc .write 4096 1024).cmd.bind u.findWrite).map (fun c => c.ranges.all (fun r => decide (1 ≤ r.st)))) = some true) := by
  refine ⟨?_, ?_, ?_, ?_⟩ <;> exact reached_of (by decide +kernel) (by decide +kernel)
theorem test_meets_EyeletAccessCommands :
    Reached eyes0 (.knotWrite pkt (key 5) 0 1024 0) pkt 0
      (fun u => 1024 ≤ (u.qp 0).mtu ∧ 1024 ≤ 4096 ∧ u.eyeCheck (key 5) (u.qp 0).host 0 0 1024 true = 0
        ∧ ((u.admitAcc (.qp 0) .knot (key 5 % 16384) 0 1024 pkt.psn 1).1.takeFrames (u.admitAcc (.qp 0) .knot (key 5 % 16384) 0 1024 pkt.psn 1).2).isSome
          = true)
    ∧ Reached eyes0 (.knotWrite pkt (key 5) 0 1025 0) pkt 0 (fun u => (u.qp 0).mtu < 1025 ∨ 4096 < 1025)
    ∧ Reached eyes0 (.rdmaRead pkt (key 6) 0 4096) pkt 0 (fun u => u.rspFull 0 = false ∧ u.eyeCheck (key 6) (u.qp 0).host 1 0 4096 false = 0)
    ∧ Reached eyes0 (.eyeletFlush pkt) pkt 0 (fun u => u.rspFull 0 = false)
    ∧ Reached (withNet eyes0 fun n => { n with chains := [(3, { st := .armed, host := 0, tagchk := 9 })] }) (.sendWithImmediate pkt (3 * 2 ^ 20 + 9) 0 0)
      pkt 0 (fun u => 3 = (3 * 2 ^ 20 + 9) / 2 ^ 20 % 4096 ∧ (u.chain 3).st ≠ .empty ∧ (3 * 2 ^ 20 + 9) % 2 ^ 20 = (u.chain 3).tagchk
        ∧ (u.qp 0).host = (u.chain 3).host) := by
  refine ⟨?_, ?_, ?_, ?_, ?_⟩ <;> exact reached_of (by decide +kernel) (by decide +kernel)
theorem test_meets_EyeletAccessCommands_placed :
    (let a := { eacc .write 4096 4096 with cmd := none, ekind := 1 }
     let s := withNet eyes0 fun n => { n with accs := [a] }
     s.acc 1 = some a ∧ a.isWrite = true ∧ a.placed = false ∧ s.inPlace a = true) := by decide +kernel

def wrNum (op lkey len target : Nat) : Nat := op + lkey * 2 ^ 32 + len * 2 ^ 128 + target * 2 ^ 160
/-- A chain of one work request runs in slot 3. -/
def chn (w : Nat) (c : Chain) : State :=
  (withNet eyes0 fun n => { n with
    eyes := n.eyes ++ [(8, { eye5 with kind := 1, base := 8 })], chains := [(3, c)] }).ramWrite (wrAddr 3 0) 64 w
def run1 : Chain := { st := .running, eye := 7, host := 0, count := 1 }
def ceth (slot : Nat) : Ceth := ⟨key 7, slot, 1, false, 0, 0, 0, 0, 0⟩
theorem test_meets_ChainCommands_arm :
    Reached (chn 0 {}) (.chainArm pkt (ceth 1)) pkt 0 (fun u => u.ceCheck (u.qp 0).host (ceth 1) = 0 ∧ u.rspFull 0 = false
      ∧ (u.chain ((u.eye (key 7 % 16384)).base + 1)).st = .empty ∧ ((u.wrAt ((u.eye (key 7 % 16384)).base + 1) 0).bad = false) ∧ (ceth 1).landKey = 0)
    ∧ Reached (chn (wrNum 7 0 0 0) {}) (.chainArm pkt (ceth 0)) pkt 0 (fun u => u.ceCheck (u.qp 0).host (ceth 0) = 0 ∧ u.rspFull 0 = false
      ∧ (u.chain ((u.eye (key 7 % 16384)).base + 0)).st = .empty ∧ ((u.wrAt ((u.eye (key 7 % 16384)).base + 0) 0).bad = true) ∧ 0 < (ceth 0).count)
    ∧ Reached (chn 0 {}) (.chainDisarm pkt (ceth 0)) pkt 0 (fun u => u.ceCheck (u.qp 0).host (ceth 0) = 0 ∧ u.rspFull 0 = false
      ∧ (u.chain ((u.eye (key 7 % 16384)).base + 0)).st = .empty)
    ∧ Reached (chn 0 { st := .armed }) (.chainDisarm pkt (ceth 0)) pkt 0 (fun u => u.ceCheck (u.qp 0).host (ceth 0) = 0 ∧ u.rspFull 0 = false
      ∧ (u.chain ((u.eye (key 7 % 16384)).base + 0)).st ≠ .empty) := by
  refine ⟨?_, ?_, ?_, ?_⟩ <;> exact reached_of (by decide +kernel) (by decide +kernel)
theorem test_meets_ChainCommands :
    (let s := chn 0 { st := .armed, held := some 1 }
     s.running < 512 ∧ sortBy (fun a b => a.1 ≤ b.1) (s.net.chains.filterMap (fun e => e.2.held.map (fun n => (n, e.1)))) = [(1, 3)])
    ∧ (let s := chn (wrNum 1 (key 6) 64 0) run1
       s.mayIssue 3 [1] = true ∧ s.eyeCheck (s.wrAt 3 0).target 0 2 0 64 false ≠ 0)
    ∧ (let s := chn (wrNum 1 (key 6) 64 (key 8)) run1
       s.mayIssue 3 [1] = true ∧ s.eyeCheck (s.wrAt 3 0).target 0 2 0 64 false = 0 ∧ s.eyeCheck (s.wrAt 3 0).lkey 0 3 0 64 true = 0
        ∧ (s.wrAt 3 0).target % 16384 ≠ (s.wrAt 3 0).lkey % 16384
        ∧ ((((s.admitAcc (.chain 3 0) .read 8 0 64 0 0).1.admitAcc (.chain 3 0) .write 6 0 64 0 0).1).issueWr 3 false 1).net.accs.map (fun a => a.id)
          = [s.net.nextAcc, s.net.nextAcc + 1])
    ∧ (let s := chn (wrNum 2 (key 6) 64 0) run1
       let r := chn (wrNum 4 (key 5) 64 0) run1
       s.eyeCheck (s.wrAt 3 0).lkey 0 2 0 64 false = 0 ∧ (s.qp 0).st = .active ∧ s.sameGroup (s.qp 0).host 0 = true ∧ s.mayIssue 3 [2, 3] = true
        ∧ (((s.admitAcc (.chain 3 0) .read 6 0 64 0 0).1.issueWr 3 false 1).acc s.net.nextAcc).isSome = true
        ∧ r.eyeCheck (r.wrAt 3 0).lkey 0 2 0 64 false = 0 ∧ (r.qp 0).st = .active ∧ r.mayIssue 3 [4, 5] = true
        ∧ (((r.admitAcc (.chain 3 0) .read 5 0 64 0 0).1.issueWr 3 false 1).acc r.net.nextAcc).isSome = true)
    ∧ ((chn (wrNum 6 0 0 4095) run1).mayIssue 3 [6] = true ∧ (chn 0 run1).mayIssue 3 [0] = true)
    ∧ (let f : WrRun := { idx := 0, ended := true, status := 1 }
       let s := chn 0 { run1 with next := 1, flight := [f] }
       let t := ((s.setWr 3 0 f.status s.clk.ns).endWrAccs 3 0).updChain 3 (fun c => { c with flight := c.flight.filter (fun f => f.idx ≠ 0) })
       (s.chain 3).st = .running ∧ (s.chain 3).flight.find? (fun f => f.idx = 0 && f.ended) = some f ∧ f.status = 1
        ∧ (t.chain 3).flight = [] ∧ (s.chain 3).count ≤ (s.chain 3).next)
    ∧ (let f : WrRun := { idx := 0, ended := true, status := 1 }
       let s := chn 0 { run1 with next := 1, count := 2, flight := [f] }
       (s.chain 3).st = .running ∧ (s.chain 3).flight.find? (fun f => f.idx = 0 && f.ended) = some f ∧ f.status = 1
        ∧ (s.chain 3).next < (s.chain 3).count)
    ∧ (let f : WrRun := { idx := 0, ended := true, status := 7 }
       let s := chn 0 { run1 with next := 1, flight := [f] }
       (s.chain 3).st = .running ∧ (s.chain 3).flight.find? (fun f => f.idx = 0 && f.ended) = some f ∧ f.status ≠ 1)
    ∧ Meets (chn 0 {}) Obj.chainDisarm 3 1 (fun _ => True) :=
  ⟨by decide +kernel, by decide +kernel, by decide +kernel, by decide +kernel, by decide +kernel, by decide +kernel, by decide +kernel,
    by decide +kernel, meets_of (by decide +kernel) trivial⟩

/-- Row 9 is empty, its fields name a window on the scratch region. -/
def reg9 : State := (((((eyes0.putRw Obj.eyeKind 9 1).putRw Obj.eyeOwner 9 0).putRw Obj.eyeBase 9 0).putRw Obj.eyeLen 9 1).putRw Obj.eyePerm 9 15).putRw
  Obj.scratchSize 0 1
def withEye (e : Eye) : State := withNet eyes0 fun n => { n with eyes := [(6, e)] }
def acc6 : EyeAcc := { id := 1, who := .qp 0, kind := .read, row := 6, wgen := 0, ekind := 1, ns := 0, base := 0, off := 0, len := 64, psn := 4, n := 1 }
theorem test_meets_EyeletCommands :
    Meets (withNet reg9 fun n => { n with eyes := [(9, { st := 3, kgen := 255 })] }) Obj.eyeRegister 9 1
      (fun u => ((u.eye 9).st = 0 ∨ (u.eye 9).st = 3) ∧ u.rw Obj.eyeOwner 9 < 2048 ∧ u.rw Obj.hostEnable (u.rw Obj.eyeOwner 9) = 1
        ∧ u.windowDetail 9 (u.rw Obj.eyeKind 9) (u.rw Obj.eyeOwner 9) (u.rw Obj.eyeNs 9) (u.rw Obj.eyeBase 9) (u.rw Obj.eyeLen 9)
          (u.rw Obj.eyePerm 9) = 0 ∧ (u.eye 9).kgen ≠ 0)
    ∧ Meets eyes0 Obj.eyeRegister 6 1 (fun u => (u.eye 6).st = 1 ∨ (u.eye 6).st = 2)
    ∧ Meets eyes0 Obj.eyeRevoke 6 1 (fun u => (u.eye 6).st = 1)
    ∧ (let s := withNet (withEye { eye5 with st := 2, since := 10 ^ 13 - 64000 }) fun n => { n with accs := [acc6] }
       (s.eye 6).st = 2 ∧ (s.eye 6).since + 64000 ≤ s.clk.ns ∧ s.admitted 6 ≠ [])
    ∧ Meets (((((withEye { eye5 with kind := 1, svalid := true }).putRw Obj.eyeSbase 6 0).putRw Obj.eyeSlen 6 1).putRw Obj.eyeSperm 6 15).putRw
        Obj.scratchSize 0 1) Obj.eyeCommit 6 1
      (fun u => (u.eye 6).st = 1 ∧ (u.eye 6).svalid = true ∧ (u.eye 6).committing = false
        ∧ u.windowDetail 6 (u.eye 6).kind (u.eye 6).owner (u.eye 6).ns (u.rw Obj.eyeSbase 6) (u.rw Obj.eyeSlen 6) (u.rw Obj.eyeSperm 6) = 0)
    ∧ ((withEye { eye5 with updating := true }).eye 6).updating = true
    ∧ (((withEye { eye5 with committing := true, since := 10 ^ 13 - 64000 }).eye 6).committing = true
      ∧ ((withEye { eye5 with committing := true, commitAt := 10 ^ 13 - 64000 }).eye 6).commitAt + 64000 ≤ eyes0.clk.ns) :=
  ⟨meets_of (by decide +kernel) (by decide +kernel), meets_of (by decide +kernel) (by decide +kernel), meets_of (by decide +kernel) (by decide +kernel),
    by decide +kernel, meets_of (by decide +kernel) (by decide +kernel), by decide +kernel, by decide +kernel⟩

def fen0 (f : Fen) : State := { s7 with fen := { s7.fen with rows := [(2, f)] } }
theorem test_meets_FenceCommands :
    Meets (fen0 { st := .fenced, scope := 4, id := 1 }) Obj.fenRelease 2 1
      (fun u => (Tbl.get {} u.fen.rows 2).st = .fenced ∧ (Tbl.get {} u.fen.rows 2).scope = 4 ∧ true = true)
    ∧ Meets (fen0 { st := .draining, scope := 4, id := 1 }) Obj.fenRelease 2 1
      (fun u => (Tbl.get {} u.fen.rows 2).st ≠ .fenced ∧ (Tbl.get {} u.fen.rows 2).scope ≠ 1)
    ∧ (let s := fen0 { st := .draining, scope := 4, id := 1 }
       (Tbl.get {} s.fen.rows 2).st = .draining ∧ s.scopeBusy 4 1 = false)
    ∧ (Tbl.get {} (fen0 { st := .released }).fen.rows 2).st = .released
    ∧ Meets ((s7.putRw Obj.selEngageType 0 2).putRw Obj.selEngageId 0 3) Obj.selEngage 0 1
      (fun u => u.scopePresent (u.rw Obj.selEngageType 0) (u.rw Obj.selEngageId 0) = true ∧ u.rw Obj.selEngageType 0 ≠ 10)
    ∧ Meets ((s7.putRw Obj.selEngageType 0 2).putRw Obj.selEngageId 0 4) Obj.selEngage 0 1
      (fun u => u.scopePresent (u.rw Obj.selEngageType 0) (u.rw Obj.selEngageId 0) = false) :=
  ⟨meets_of (by decide +kernel) (by decide +kernel), meets_of (by decide +kernel) (by decide +kernel), by decide +kernel, by decide +kernel,
    meets_of (by decide +kernel) (by decide +kernel), meets_of (by decide +kernel) (by decide +kernel)⟩

def msq0 (st : MsqState) : State := { s7 with msq := { s7.msq with st := st } }
theorem test_meets_MsqCommands :
    ((msq0 .paired).msq.st = .paired ∧ 2 ^ 64 - 1 < 2 ^ 64 ∧ 1 ≠ 0)
    ∧ Meets (msq0 .singleB) Obj.msqRepair 0 1 (fun u => u.msq.st = .singleA ∨ u.msq.st = .singleB)
    ∧ (msq0 .resync).msq.st = .resync
    ∧ Meets (msq0 .paired) Obj.msqCmpTest 0 1 (fun u => u.msq.st = .paired)
    ∧ ((msq0 .paired).msq.st = .paired ∧ (msq0 .paired).rw Obj.msqCmpTestPeriod 0 ≠ 0)
    ∧ Meets (msq0 .singleA) Obj.msqSwitchTest 0 2 (fun u => u.msq.st ≠ .paired) :=
  ⟨by decide +kernel, meets_of (by decide +kernel) (by decide +kernel), rfl, meets_of (by decide +kernel) (by decide +kernel),
    by decide +kernel, meets_of (by decide +kernel) (by decide +kernel)⟩

def withX (x : Xbar) : State := { (withNet (net0 qp0) fun n => { n with xbar := x }) with pd := (List.range 4).map (fun i => (40 + i, { st := .on })) }
def sent0 : SentCell := ⟨1, 2, 0, 65535, 3, 7, true⟩
def frm (data : Bool) : EFrame := { port := 0, sub := 0, cls := 0, len := 1000, data := data, ect := true, body := .cnp 1 }
theorem test_meets_FabricCommands :
    (let s := withX {}
     3 < 4 ∧ s.isFenced 2 3 = false ∧ (Tbl.get {} s.pd (40 + 3)).st ≠ .off
      ∧ 32768 ≤ (65535 + 65536 - Tbl.get 0 s.net.xbar.rxSeq (flowKey 1 2 0)) % 65536)
    ∧ (let s := withX { sent := [sent0], rxSeq := [(flowKey 1 2 0, 65535)] }
       let t := s.addCnt 64 Obj.planeCells 3 1
       (65535 + 65536 - Tbl.get 0 t.net.xbar.rxSeq (flowKey 1 2 0)) % 65536 < 32768
        ∧ (∀ h ∈ t.net.xbar.hem, ¬ (h.flow = flowKey 1 2 0 ∧ h.seq = 65535))
        ∧ t.net.xbar.sent.find? (fun c => c.src = 1 && c.dst = 2 && c.cls = 0 && c.seq = 65535) = some sent0)
    ∧ (let s := withX { sent := [sent0], rxSeq := [(flowKey 1 2 0, 65535)], hem := [⟨flowKey 1 2 0, 0, 7, true⟩], gapMax := [(flowKey 1 2 0, some 3)] }
       Tbl.get none s.net.xbar.gapMax (flowKey 1 2 0) = some 3 ∧ (∃ h ∈ s.net.xbar.hem, h.flow = flowKey 1 2 0) ∧ Tbl.get 0 s.net.xbar.retries (flowKey 1 2 0) < 3
        ∧ s.net.xbar.sent.find? (fun c => c.src = 1 && c.dst = 2 && c.cls = 0
          && c.seq = Tbl.get 0 s.net.xbar.rxSeq (flowKey 1 2 0)) = some sent0)
    ∧ (let s := withX { hem := [⟨flowKey 1 2 0, 0, 7, true⟩], retries := [(flowKey 1 2 0, 255)], gapMax := [(flowKey 1 2 0, some 3)] }
       Tbl.get none s.net.xbar.gapMax (flowKey 1 2 0) = some 3 ∧ (∃ h ∈ s.net.xbar.hem, h.flow = flowKey 1 2 0) ∧ 3 ≤ Tbl.get 0 s.net.xbar.retries (flowKey 1 2 0))
    ∧ (let s := withNet (net0 qp0) fun n => { n with ports := [(0, { up := [0], asm := [(0, [frm true])] })] }
       Tbl.get [] (s.port 0).asm 0 = [frm true]
        ∧ ((s.updPort 0 (fun p => { p with asm := Tbl.set [] p.asm 0 [] })).port 0).flushed.contains 0 = false
        ∧ s.depthOf 0 0 (frm true).cls ≤ s.rw Obj.eclEcnThresh (0 * 8 + (frm true).cls) * 1024)
    ∧ (let s := (withNet (net0 qp0) fun n => { n with ports := [(0, { up := [0], asm := [(0, [frm true])], queues := [(0, List.replicate 2 (frm false))] })] }).putRw
         Obj.eclEcnThresh 0 1
       Tbl.get [] (s.port 0).asm 0 = [frm true]
        ∧ ((s.updPort 0 (fun p => { p with asm := Tbl.set [] p.asm 0 [] })).port 0).flushed.contains 0 = false
        ∧ s.rw Obj.eclEcnThresh (0 * 8 + (frm true).cls) * 1024 < s.depthOf 0 0 (frm true).cls)
    ∧ ((withNet (net0 qp0) fun n => { n with ports := [(0, { holding := [3] })] }).port 0).holding.contains 3 = true
    ∧ Meets s7 Obj.planeTest 3 1 (fun u => (Tbl.get {} u.pd (40 + 3)).st ≠ .on)
    ∧ Meets { s7 with pd := [(43, { st := .on })] } Obj.planeTest 3 1 (fun u => (Tbl.get {} u.pd (40 + 3)).st = .on)
    ∧ (withNet s7 fun n => { n with plane := [3] }).net.plane.contains 3 = true :=
  ⟨by decide +kernel, by decide +kernel, by decide +kernel, by decide +kernel, by decide +kernel, by decide +kernel, by decide +kernel,
    meets_of (by decide +kernel) (by decide +kernel), meets_of (by decide +kernel) (by decide +kernel), by decide +kernel⟩

def framed (f : EFrame) : State := withNet (net0 qp0) fun n => { n with ports := [(0, { up := [0], queues := [(0, [f])] })] }
def fr0 : EFrame := { port := 0, sub := 0, cls := 0, len := 1000, data := true, ect := true, body := .arp 1 }
theorem test_meets_TensionCommands :
    (∀ f ∈ [fr0, { fr0 with held := true, qp := some 0 }, { fr0 with qp := some 0, wr := some (3, 0) }],
      (framed f).linkUp 0 0 = true ∧ ((framed f).pick 0 0).map (fun x => x.1) = some f)
    ∧ (let s : State := { net0 qp0 with clk := { (net0 qp0).clk with ns := 10 ^ 13 + 1000 } }
       (s.port 0).bucket = false ∧ s.slotNow % 4096 ≠ 0)
    ∧ ((withNet s7 fun n => { n with ports := [(0, { bucket := true, lowSince := some (10 ^ 13 - 10000000) })] }).port 0).bucket = true
    ∧ (let s := withNet s7 fun n => { n with ports := [(0, { bucket := true, lowSince := some (10 ^ 13 - 10000000) })] }
       (s.port 0).lowSince = some (10 ^ 13 - 10000000) ∧ (10 ^ 13 - 10000000) + 10000000 ≤ s.clk.ns)
    ∧ WMeets s7 Obj.polMode 4095 [2] 2 (fun _ => True) ∧ WMeets s7 Obj.polAware 4095 [1] 1 (fun _ => True) :=
  ⟨by decide +kernel, by decide +kernel, by decide +kernel, by decide +kernel, wmeets_of (by decide +kernel) trivial,
    wmeets_of (by decide +kernel) trivial⟩

def link0 (x : DLink) : State :=
  { arr with drv := { arr.drv with links := [(2, x)] }, bayCh := [(2, { r12 := { st := .on }, r33 := { st := .on } })] }
theorem test_meets_DriveLinkCommands :
    (47 < (link0 {}).bays ∧ ((link0 {}).link 47).st ≠ 3)
    ∧ (((link0 { st := 3, recovering := true }).link 2).st = 3 ∧ ((link0 { st := 3, recovering := true }).link 2).recovering = true
      ∧ ({ link0 { st := 3, recovering := true } with skn := { arr.skn with present := true } } : State).skn.present = true)
    ∧ Meets arr Obj.dlinkRetrain 2 1 (fun u => u.bothOn 2 = false)
    ∧ Meets (link0 { st := 3 }) Obj.dlinkRetrain 2 1 (fun u => u.bothOn 2 = true ∧ (u.link 2).st = 3)
    ∧ Meets { link0 {} with drv := { arr.drv with mems := [] } } Obj.dlinkRetrain 2 1
      (fun u => u.bothOn 2 = true ∧ (u.link 2).st ≠ 3 ∧ ((u.mem 2).st = .absent ∨ (u.mem 2).st = .retired))
    ∧ ((link0 {}).bothOn 2 = true ∧ ((link0 {}).link 2).perst = false ∧ (link0 {}).cntAt Obj.bootStage 0 = 7 ∧ ((link0 {}).bay 2).offing = 0)
    ∧ (let s := link0 { st := 1, perst := true, tries := 3 }
       (s.link 2).perst = true ∧ (s.link 2).st = 1 ∧ s.rw Obj.dlinkMinSpeed 2 ≤ 32
        ∧ 2 = (if s.rw Obj.dlinkBond 2 = 1 ∧ 2 % 2 = 0 then 4 else 2) ∧ 0 < s.rw Obj.dlinkMinSpeed 2 ∧ 3 ≤ (s.link 2).tries)
    ∧ (((link0 { st := 1, perst := true, tries := 2 }).link 2).tries < 3 ∧ ((link0 { st := 1, perst := true, tries := 2 }).link 2).perst = true)
    ∧ (let s : State := { arr with drv := { arr.drv with mems := [(2, { st := .probing })] } }
       s.cntAt Obj.bootStage 0 = 7 ∧ (s.mem 2).st = .probing ∧ s.dataSpace + zoneBytes ≤ s.dataSpace + zoneBytes) :=
  ⟨by decide +kernel, by decide +kernel, meets_of (by decide +kernel) (by decide +kernel), meets_of (by decide +kernel) (by decide +kernel),
    meets_of (by decide +kernel) (by decide +kernel), by decide +kernel, by decide +kernel, by decide +kernel, by decide +kernel⟩

def mcmd (kind : MKind) (b : Nat) : MCmd := { tag := 9, bay := b, kind := kind, lba := 0, count := 1, data := [], owner := .destage k0 0 }
def mem0 (m : Member) : State := { arr with drv := { arr.drv with mems := [(2, m)] } }
def memC (m : Member) (c : MCmd) : State := { arr with drv := { arr.drv with mems := [(2, m)], cmds := [c] } }
theorem test_meets_MemberCommands :
    (∀ kind ∈ [MKind.read, .write],
      let s := memC { st := .inService, timeouts := [10 ^ 13 - 60000000000] } (mcmd kind 2)
      s.findCmd 9 = some (mcmd kind 2) ∧ (s.mem 2).timeouts.filter (fun t => s.clk.ns < t + 60000000000) = [] ∧ (mcmd kind 2).reissued = false)
    ∧ (let s := memC { st := .inService, timeouts := [10 ^ 13 - 59999999999] } (mcmd .read 2)
       s.findCmd 9 = some (mcmd .read 2) ∧ (s.mem 2).timeouts.filter (fun t => s.clk.ns < t + 60000000000) = [10 ^ 13 - 59999999999])
    ∧ ({ arr with drv := { arr.drv with aborts := [(9, 2)] } } : State).drv.aborts.find? (fun a => a.1 = 9) = some (9, 2)
    ∧ (((mem0 {}).mem 2).resets.filter (fun t => (mem0 {}).clk.ns < t + 3600000000000) ++ [(mem0 {}).clk.ns]).length ≤ (mem0 {}).rw Obj.arrResetLimit 0
    ∧ (let s := mem0 { resets := List.replicate 32 (10 ^ 13) }
       s.rw Obj.arrResetLimit 0 < ((s.mem 2).resets.filter (fun t => s.clk.ns < t + 3600000000000) ++ [s.clk.ns]).length)
    ∧ ((mem0 { resetting := true }).mem 2).resetting = true
    ∧ (bit 8 3 = true ∧ bit 0 3 = false ∧ (mem0 { st := .inService, warn := 4 }).failingNow 2 ≠ 0 ∧ (mem0 { st := .inService }).failingNow 2 = 0)
    ∧ (((mem0 { pos := 2, grace := true }).mem 2).st = .absent ∧ ((mem0 { pos := 2, grace := true }).mem 2).pos ≠ 0xFF
      ∧ ((mem0 { pos := 2, grace := true }).mem 2).grace = true) := by decide +kernel

def bay2 (x : Bay) : State := { arr with bayCh := [(2, x)] }
theorem test_meets_MemberActionAndPresenceCommands :
    Meets { arr with drv := { arr.drv with mems := (arr.drv.mems.filter (fun e => e.1 ≠ 6)) ++ [(8, { st := .spare, capacity := 10 ^ 12, ioQueues := 64 })] } }
      Obj.memAssign 8 6 (fun u => 6 < u.bays ∧ u.spareDetail 8 false = 0 ∧ u.posState 6 = .failed)
    ∧ Meets arr Obj.memAssign 2 47 (fun u => 47 < u.bays ∧ (u.mem 2).st ≠ .spare)
    ∧ Meets arr Obj.memRetire 2 1 (fun u => (u.mem 2).st = .inService ∧ (u.mem 2).pos ≠ 0xFF)
    ∧ Meets (mem0 { st := .spare }) Obj.memRetire 2 1 (fun u => (u.mem 2).st = .spare ∧ (u.mem 2).pos = 0xFF)
    ∧ Meets (mem0 { st := .failing }) Obj.memClearFailing 2 1 (fun u => (u.mem 2).st = .failing ∧ u.failingNow 2 = 0)
    ∧ Meets arr Obj.memClearFailing 2 1 (fun u => (u.mem 2).st ≠ .failing)
    ∧ (arr.boot.vaux = true ∧ 47 < arr.bays ∧ arr.bonded 47 = false ∧ (arr.bay 47).a = false)
    ∧ (State.reset.boot.vaux = false ∧ 47 < State.reset.bays)
    ∧ (let s := bay2 { debAt := some 0, a := true, b := true }
       (s.bay 2).debAt = some 0 ∧ (s.bay 2).a = true ∧ (s.bay 2).b = true ∧ 0 ≤ s.clk.sk)
    ∧ (let s := bay2 { granted := some 0, r12 := { st := .seating }, deb := true }
       (s.bay 2).granted = some 0 ∧ 0 + 500000000 ≤ s.clk.sk ∧ (s.bay 2).r12.st = .seating ∧ (s.bay 2).deb = true ∧ s.mayGrant = true) :=
  ⟨meets_of (by decide +kernel) (by decide +kernel), meets_of (by decide +kernel) (by decide +kernel), meets_of (by decide +kernel) (by decide +kernel),
    meets_of (by decide +kernel) (by decide +kernel), meets_of (by decide +kernel) (by decide +kernel), meets_of (by decide +kernel) (by decide +kernel),
    by decide +kernel, by decide +kernel, by decide +kernel, by decide +kernel⟩

def bayR (a b : Rail) (x : Bay) : State := bay2 { x with r12 := a, r33 := b }
theorem test_meets_RailCommands :
    (let s := bayR { st := .ramping } { st := .ramping, ramp := some 0 } {}
     (s.bay 2).r33.st = .ramping ∧ (s.bay 2).r33.ramp ≠ none ∧ (s.bay 2).r12.st ≠ .on)
    ∧ (let s := bayR { st := .ramping, ramp := some 0 } { st := .on } {}
       (s.bay 2).r12.st = .ramping ∧ (s.bay 2).r12.ramp ≠ none ∧ s.skn.present = false ∧ (s.bay 2).r33.st = .on)
    ∧ (let s := bayR { st := .on, ramp := some 0 } {} {}
       ((s.bay 2).rail false).st = .on ∧ ((s.bay 2).rail false).ramp ≠ none ∧ ((s.bay 2).rail false).driven = true)
    ∧ (let s := bayR {} { st := .limiting, ramp := some 0 } {}
       ((s.bay 2).rail true).st = .limiting)
    ∧ (let s := bayR { st := .ramping, ramp := some 0 } {} {}
       ((s.bay 2).rail false).st = .ramping ∧ ((s.bay 2).rail false).wasOn = false ∧ ((s.bay 2).rail false).ramp = some 0 ∧ 0 ≤ s.clk.sk)
    ∧ (let s := bayR { st := .tripped } {} { count := 1, retries := 3 }
       (s.bay 2).r12.st = .tripped ∧ (s.bay 2).offing ≠ 2 ∧ (s.bay 2).count ≤ (s.bay 2).retries ∧ s.rw Obj.bayEnable 2 = 1)
    ∧ (let s := bayR { st := .tripped } {} { count := 4, retries := 3 }
       (s.bay 2).r12.st = .tripped ∧ (s.bay 2).offing ≠ 2 ∧ (s.bay 2).retries < (s.bay 2).count ∧ (s.bay 2).retries ≠ 255)
    ∧ (let s := bayR { st := .retryWait } {} { deb := true }
       (s.bay 2).r12.st = .retryWait ∧ (s.bay 2).retryAt ≤ s.clk.sk ∧ (s.bay 2).deb = true ∧ s.rw Obj.bayEnable 2 = 1)
    ∧ (let s := bayR { st := .retryWait } {} { debAt := some 0 }
       (s.bay 2).r12.st = .retryWait ∧ (s.bay 2).retryAt ≤ s.clk.sk ∧ (s.bay 2).deb = false
        ∧ (s.bay 2).debAt.isSome = true)
    ∧ (let s := bayR {} {} { goodAt := some 0 }
       (s.bay 2).goodAt = some 0 ∧ 0 ≤ s.clk.sk ∧ ((s.bay 2).rail false).st = .off) := by decide +kernel

theorem test_meets_BayControlCommands :
    WMeets arr Obj.bayEnable 47 [0] 0 (fun _ => True)
    ∧ ((bay2 { offing := 1 }).bay 2).offing = 1
    ∧ WMeets arr 0x300006 2 (leBytes 2 600) 600 (fun u => u.limitOk 2 6 600 = true)
    ∧ WMeets arr 0x300007 2 (leBytes 2 150) 150 (fun u => u.limitOk 2 7 150 = true)
    ∧ WMeets arr 0x300008 2 (leBytes 1 10) 10 (fun u => u.limitOk 2 8 10 = true)
    ∧ Meets (bay2 { r12 := { st := .lockedOut, src := 800 }, r33 := { st := .lockedOut, src := 800 } }) Obj.bayClear 2 1
      (fun u => (u.bay 2).r12.st = .lockedOut ∧ (u.bay 2).r12.src ≤ 800 ∧ (u.bay 2).r33.src ≤ 800)
    ∧ Meets (bay2 { r12 := { st := .lockedOut, src := 800 }, r33 := { st := .lockedOut, src := 801 } }) Obj.bayClear 2 1
      (fun u => (u.bay 2).r12.st = .lockedOut ∧ (800 < (u.bay 2).r12.src ∨ 800 < (u.bay 2).r33.src))
    ∧ Meets (bay2 {}) Obj.bayClear 2 1 (fun u => (u.bay 2).r12.st ≠ .lockedOut)
    ∧ Meets (bay2 { r12 := { st := .on } }) Obj.bayCal12 2 6000 (fun u => (u.bay 2).r12.st = .on)
    ∧ Meets (bay2 { r33 := { st := .on } }) Obj.bayCal33 2 200 (fun u => (u.bay 2).r33.st = .on)
    ∧ (let s := bay2 { r12 := { st := .on, ramp := some 0, cal := some (1000, true) } }
       (s.bay 2).r12.cal = some (1000, true) ∧ (s.bay 2).r12.st = .on ∧ 1000 * 100000 ≤ 1020408 * 102
        ∧ 1020408 * 98 ≤ 1000 * 100000)
    ∧ (((bay2 { n := 14 }).bay 2).n + 1) % 16 ≠ 0 :=
  ⟨wmeets_of (by decide +kernel) trivial, by decide +kernel, wmeets_of (by decide +kernel) (by decide +kernel),
    wmeets_of (by decide +kernel) (by decide +kernel), wmeets_of (by decide +kernel) (by decide +kernel), meets_of (by decide +kernel) (by decide +kernel),
    meets_of (by decide +kernel) (by decide +kernel), meets_of (by decide +kernel) (by decide +kernel), meets_of (by decide +kernel) (by decide +kernel),
    meets_of (by decide +kernel) (by decide +kernel), by decide +kernel, by decide +kernel⟩

theorem test_meets_EndpointResetCommands :
    (let s := (ep0.setCnt Obj.bootStage 0 3).updPd 15 (fun d => { d with st := .on })
     3 ≤ s.cntAt Obj.bootStage 0 ∧ (Tbl.get {} s.pd 15).st = .on ∧ s.ep.perst = false ∧ 6 ≤ 6 ∧ 16 ∈ [1, 2, 4, 8, 16])
    ∧ ((ep0.setCnt Obj.bootStage 0 6).epUp = true ∧ (ep0.setCnt Obj.bootStage 0 6).inS7 = false)
    ∧ (ep0.epUp = true ∧ ep0.inS7 = true ∧ ep0.fnThere 1 = false ∧ ep0.fnThere 0 = true)
    ∧ (let s := withEp ep0 fun e => { e with vfEnable := true, numVfs := 127, fns := [(126, { bme := true })] }
       s.epUp = true ∧ s.inS7 = true ∧ s.fnThere 127 = true ∧ 127 ≠ 0 ∧ (s.fn 127).master = false ∧ (s.fn 126).master = true)
    ∧ (ep0.barOpen ∧ ep0.fnThere 0 = true ∧ (ep0.fn 0).master = true ∧ 255 < vecsOf 0)
    ∧ (let s : State := { ep0 with fen := { ep0.fen with rows := [(4, { st := .fenced, scope := 1, id := 9 })] } }
       s.epServes = true ∧ s.frozen = true ∧ s.fenRowOf 1 9 = some 4) :=
  ⟨by decide +kernel, by decide +kernel, by decide +kernel, by decide +kernel, ⟨bar_of (by decide +kernel), by decide +kernel⟩, by decide +kernel⟩

/-- Window 63 of 64 KiB reads and writes the scratch window for requester 0x1234. -/
def win0 : WinRegs := { key := key 6, len := 4, ctrl := 0x12340000 + 15 }
def winS (w : Win) : State := withEp ep0 fun e => { e with wins := [(63, w)] }
def off63 (s : State) : Nat := 63 * 2 ^ s.slotBits
def prd (who : RdFor) (fn : Nat) : PRead := { id := 3, fn := fn, addr := 4096, len := 64, ro := false, who := who, off := 0, issued := true }
def rdS (p : PRead) : State := withEp ep0 fun e => { e with reads := [p] }
theorem test_meets_PeerCommands :
    (let s := winS { act := win0 }
     s.barOpen ∧ 63 = off63 s / 2 ^ s.slotBits % 64 ∧ 0 = off63 s % 2 ^ s.slotBits ∧ (s.win 63).busy = false ∧ win0 = (s.win 63).act
      ∧ win0.check 0x1235 0 true ≠ 0 ∧ win0.check 0x1234 0 true = 0 ∧ s.fnCheck win0.func win0.key 0 (win0.eoff * 4096 + 0) 64 true = 0
      ∧ win0.check 0x1235 0 false ≠ 0 ∧ win0.check 0x1234 0 false = 0 ∧ s.fnCheck win0.func win0.key 1 (win0.eoff * 4096 + 0) 64 false = 0)
    ∧ ((winS { busy := true, take_ := win0 }).win 63).busy = true
    ∧ ep0.issuedRead 3 = none
    ∧ ((rdS (prd (.fetch 1) 0)).issuedRead 3 = some (prd (.fetch 1) 0) ∧ (prd (.fetch 1) 0).dead = false)
    ∧ ((rdS (prd (.data 31) 0)).issuedRead 3 = some (prd (.data 31) 0) ∧ (prd (.data 31) 0).fn ≠ 0xFF
      ∧ ((rdS (prd (.data 31) 0)).fn 0).ctoDis = false) := by
  refine ⟨⟨bar_of (by decide +kernel), ?_⟩, ?_, ?_, ?_, ?_⟩ <;> decide +kernel

def ent (op target len : Nat) : Nat := 15 + op * 256 + target * 2 ^ 32 + len * 2 ^ 192
def job (st op target len : Nat) : RJob := { id := 4, idx := 2, ents := [ent op target len], st := st }
def rng (x : Ring) : State := withEp ep0 fun e => { e with rings := [(1, x)] }
theorem test_meets_RingCommands :
    ((rng { st := .running }).barOpen ∧ (rng { st := .running }).ringAt 0 1 = some 1 ∧ ((rng { st := .running }).ring 1).st = .running
      ∧ ((rng { st := .stoppedErr }).ring 1).st = .stoppedErr)
    ∧ (rng { st := .running, active := true, inRound := true, credit := 1, base := 4096, log2 := 4 }).nextTurn = some 1
    ∧ ((rdS (prd (.fetch 1) 0)).issuedRead 3 = some (prd (.fetch 1) 0))
    ∧ (∀ op ∈ [0, 1, 2, 5], let s := rng { st := .running, jobs := [job 0 op 1 4096] }
       (s.ring 1).st ≠ .stoppedBme ∧ s.devFenced = false ∧ s.ringMaster 1 = true
        ∧ (s.ring 1).jobs.find? (fun j => j.idx = 2 && j.st = 0 && j.op = op) = some (job 0 op 1 4096))
    ∧ (∀ e ∈ [(3, 1, false), (4, 0, true)], let s := rng { st := .running, jobs := [job 0 e.1 (key 6) 4096] }
       let t := s.updJob 1 4 (fun j => { j with st := 1 })
       (s.ring 1).jobs.find? (fun j => j.idx = 2 && j.st = 0 && j.op = e.1) = some (job 0 e.1 (key 6) 4096)
        ∧ t.ringEyeCheck 1 (job 0 e.1 (key 6) 4096) e.2.1 e.2.2 = 0 ∧ t.ringEyeCheck 1 (job 0 e.1 6 4096) e.2.1 e.2.2 ≠ 0)
    ∧ (let s := rng { st := .running, jobs := [job 2 0 0 0] }
       (s.ring 1).jobs.find? (fun j => j.idx = 2 && j.st = 2) = some (job 2 0 0 0) ∧ s.mayLand 1 (job 2 0 0 0) = true)
    ∧ (bit (clearBit (orBit 0 0) 2) 0 = true ∧ bit (clearBit (clearBit 1 0) 2) 0 = false ∧ bit (orBit (orBit 0 0) 2) 0 = true
      ∧ bit (orBit (orBit 0 0) 2) 2 = true ∧ ((rng {}).ring 1).st = .disabled)
    ∧ (let s := rng { base := 64, log2 := 16, vec := 255 }
       (s.ring 1).st = .disabled ∧ (s.ring 1).base % 64 = 0 ∧ 4 ≤ (s.ring 1).log2 ∧ (s.ring 1).log2 ≤ 16 ∧ vecOk 0 (s.ring 1).vec = true)
    ∧ (let s := rng { quiet := some (10 ^ 13), sigWait := true, pend := true }
       (s.ring 1).quiet = some (10 ^ 13) ∧ 10 ^ 13 ≤ s.clk.ns ∧ (s.ring 1).sigWait = true ∧ (s.ring 1).pend = true) := by
  refine ⟨⟨bar_of (by decide +kernel), ?_⟩, ?_, ?_, ?_, ?_, ?_, ?_, ?_, ?_⟩ <;> decide +kernel

def chn31 (x : Chan) : State := withEp ep0 fun e => { e with chans := [(31, x)] }
def cqr : CqRec := ⟨1, 0, 64, 4096, false⟩
def des (src dst len : Nat) : Nat := src + dst * 16 + len * 2 ^ 32
theorem test_meets_ShuttleCommands :
    (ep0.barOpen ∧ ep0.chanFn 31 = some 0 ∧ 16 ≤ ((chn31 { fifo := List.replicate 16 64 }).chan 31).fifo.length
      ∧ ((chn31 { fifo := List.replicate 15 64 }).chan 31).fifo.length < 16)
    ∧ (((chn31 { st := .stopped }).chan 31).st = .stopped ∧ ((chn31 { st := .stopped }).chan 31).bme = false
      ∧ (chn31 { st := .stopped }).chanFree 31 = true ∧ ((chn31 { st := .running }).chan 31).st ≠ .stopped
      ∧ ((chn31 { st := .stopped }).chan 31).held = none ∧ ((chn31 { st := .error, held := some cqr }).chan 31).held = some cqr)
    ∧ (let x : Chan := { st := .cqBlocked, held := some cqr, cqLog2 := 4, cqTail := 15 }
       ((chn31 { x with cqHead := 0 }).chan 31).full = true ∧ ((chn31 { x with cqHead := 1 }).chan 31).full = false
        ∧ (chn31 x).chanMaster 31 = true ∧ ((chn31 x).chan 31).st = .cqBlocked ∧ ((chn31 x).chan 31).bme = false ∧ (chn31 x).frozen = false)
    ∧ (let s := withEp (chn31 { st := .running, asked := true }) fun e => { e with reads := [prd (.desc 31) 0] }
       s.issuedRead 3 = some (prd (.desc 31) 0) ∧ ((s.endRead 3).chan 31).asked = true ∧ ((s.endRead 3).chan 31).st = .running)
    ∧ (desBad 31 (des 8 0 64) ≠ 0 ∧ desBad 31 (des 0 0 64) = 0 ∧ desSrcT (des 0 0 64) = 0 ∧ desDstT (des 0 0 64) = 0 ∧ desLen (des 0 0 64) ≠ 0
      ∧ desBad 31 (des 5 0 64) = 0 ∧ desSrcT (des 5 0 64) = 5)
    ∧ (∀ w ∈ [des 0 0 64, des 0 0 64 + 2048], let d : ShRun := { addr := 4096, word := w, issued := true }
       let s := chn31 { st := .running, run := some d }
       (s.chan 31).run = some d ∧ s.shComplete 31 d = true ∧ (s.chan 31).st = .running ∧ desIrq w = false ∧ (s.chan 31).run ≠ none)
    ∧ (desCmp (des 0 0 64) = false ∧ desCmp (des 0 0 64 + 2048) = true) := by
  refine ⟨⟨bar_of (by decide +kernel), ?_⟩, ?_, ?_, ?_, ?_, ?_, ?_⟩ <;> decide +kernel

theorem test_meets_SkeinMessageCommands :
    Gets skein0 (.heartbeat 7 4 0 0) 1 1 (fun u => u.skn.partner = some 1)
    ∧ Gets skein0 (.join 0 0) 2 0 (fun u => u.skn.partner ≠ some 2 ∧ 0 ≠ (u.updSkRow 2 (fun x => { x with left := false })).rowDigest ∧ u.sk.role ≠ 0)
    ∧ Gets skein0 (.join skein0.rowDigest 0) 2 0 (fun u => u.skn.partner ≠ some 2
      ∧ skein0.rowDigest = (u.updSkRow 2 (fun x => { x with left := false })).rowDigest ∧ u.sk.role ≠ 0)
    ∧ Gets (withSkein fun k => { k with role := 0, mgr := 0, term := 9 }) (.join skein0.rowDigest 0) 2 2 (fun u => u.skn.partner ≠ some 2
      ∧ skein0.rowDigest = (u.updSkRow 2 (fun x => { x with left := false })).rowDigest ∧ u.sk.role = 0)
    ∧ Gets skein0 (.welcome 0 3 []) 2 0 (fun u => u.sk.role ≠ 0 ∧ u.sk.mgr = 2)
    ∧ Gets skein0 .leave 2 0 (fun u => u.skn.partner ≠ some 2
      ∧ ((u.updSkRow 2 (fun x => { x with inView := false, left := true })).sk.deputy ≠ 2
        ∨ (u.updSkRow 2 (fun x => { x with inView := false, left := true })).sk.role ≠ 0))
    ∧ Gets skein0 (.dirUpdate 3 []) 2 0 (fun u => u.sk.role ≠ 0 ∧ u.sk.mgr = 2)
    ∧ Gets (withSkein fun k => { k with role := 0, mgr := 0, term := 9 }) (.dirUpdate 3 []) 2 2 (fun u => u.sk.role = 0)
    ∧ Gets (withSkein fun k => { k with role := 0, mgr := 0, term := 9, dir := { version := 3, waiting := [.row 2 2 true 0] } , rows := [(1, { inView := true })] })
      (.dirAck 3) 1 1 (fun u => u.sk.role = 0 ∧ u.sk.deputy = 1 ∧ 3 = u.sk.dir.version ∧ u.sk.dir.waiting ≠ [])
    ∧ Gets (withSkein fun k => { k with role := 1 }) (.confirmQuery 1) 2 0 (fun u => (u.sk.role = 0 ∨ u.sk.role = 1) ∧ (u.skRow 1).heard = none)
    ∧ Gets (withSkein fun k => { k with role := 1, rows := [(1, { heard := some 5 })] }) (.confirmQuery 1) 2 0
      (fun u => (u.sk.role = 0 ∨ u.sk.role = 1) ∧ (u.skRow 1).heard = some 5)
    ∧ Gets (withSkein fun k => { k with tko := { st := 1 } }) (.confirmReply 1 true 300) 2 0
      (fun u => u.skn.partner = some 1 ∧ 2 = u.sk.mgr ∧ u.sk.tko.st = 1 ∧ u.sk.tko.decided = none)
    ∧ Gets (withSkein fun k => { k with tko := { st := 4 } }) (.confirmReply 1 false 300) 2 0
      (fun u => u.skn.partner = some 1 ∧ 2 = u.sk.mgr ∧ u.sk.tko.st = 4)
    ∧ Gets skein0 (.takeoverRequest 2) 1 1 (fun _ => True)
    ∧ Gets (withSkein fun k => { k with role := 0, mgr := 0, term := 9 }) (.takeoverNotice 1 1) 2 2
      (fun u => u.sk.role = 0 ∧ u.rw Obj.srowShelf 1 = u.rw Obj.srowShelf 2) := by
  refine ⟨?_, ?_, ?_, ?_, ?_, ?_, ?_, ?_, ?_, ?_, ?_, ?_, ?_, ?_, ?_⟩
  all_goals first | exact gets_ok (by decide +kernel) trivial | exact gets_ok (by decide +kernel) (by decide +kernel)
theorem test_meets_SkeinMessageCommands_handover :
    Gets skein0 (.handover [1] 1) 1 1 (fun u => u.skn.partner = some 1 ∧ u.sk.move = none)
    ∧ (∀ step ∈ [0, 2], Gets (withSkein fun k => { k with move := some { nss := [1], since := 0 } }) (.handover [1] step) 1 1
      (fun u => u.skn.partner = some 1 ∧ u.sk.move = some { nss := [1], since := 0 }))
    ∧ Gets { withSkein (fun k => { k with move := some { nss := [1], since := 0 } }) with skn := { skein0.skn with side := 1 } } (.handover [1] 3) 1 1
      (fun u => u.skn.partner = some 1 ∧ u.sk.move = some { nss := [1], since := 0 } ∧ u.keeper = false) := by
  refine ⟨gets_ok (by decide +kernel) (by decide +kernel), ?_, gets_ok (by decide +kernel) (by decide +kernel)⟩
  intro step hs
  simp at hs
  obtain rfl | rfl := hs <;> exact gets_ok (by decide +kernel) (by decide +kernel)

def tko0 (k : Tko) : State := { withSkein (fun x => { x with tko := k }) with skn := { skein0.skn with present := false } }
/-- Two partners, both mirrored, with one namespace each. -/
def pair0 : State :=
  { withSkein (fun x => { x with peerSolo := false }) with
    hoop := { skein0.hoop with mirrorState := 0 }
    place := { skein0.place with nss := [(1, { bolts := 1, target := 1, owner := 0, ana := 1 }), (2, { bolts := 1, target := 1, owner := 1, ana := 3 })] } }
theorem test_meets_TakeoverCommands :
    (s7.skn.row = none
      ∧ (skein0.skn.row = some 0 ∧ skein0.inS7 = true ∧ skein0.skn.partner = some 1 ∧ skein0.sk.tko.st ≠ 4 ∧ skein0.sk.tko.st ≠ 2))
    ∧ (let s := withSkein fun k => { k with rows := [(2, { inView := true })] }
       s.inS7 = true ∧ s.skn.row ≠ none ∧ s.skn.row ≠ some 2 ∧ s.skRows.contains 2 = true ∧ s.skn.partner ≠ some 2
        ∧ (s.sk.deputy ≠ 2 ∨ s.sk.role ≠ 0) ∧ ((s.updSkRow 2 (fun x => { x with inView := false })).elect true).skn.partner ≠ some 2
        ∧ (s.skRow 2).inView = true)
    ∧ ((skein0.skRow 2).inView = false ∧ ((skein0.updSkRow 2 (fun x => { x with inView := false })).elect true).skn.partner ≠ some 2)
    ∧ ((tko0 { st := 1, decided := some 5 }).sk.tko.decided = some 5 ∧ (tko0 { st := 1 }).sk.tko.decided = none
      ∧ ((tko0 { st := 1 }).putRw Obj.srowShelf 2 7).multiShelf = true)
    ∧ (let s := tko0 { st := 2, asked := [3], rest := [4] }
       s.sk.tko.st = 2 ∧ s.sk.tko.asked.contains 3 = true ∧ s.sk.tko.rest ≠ [])
    ∧ (let s := tko0 { st := 2, asked := [3], rest := [] }
       s.sk.tko.asked.contains 3 = true ∧ s.sk.tko.rest = [] ∧ s.sk.tko.asked.erase 3 = [])
    ∧ (tko0 {}).contestPos = [0, 1, 2, 3, 4, 5, 6]
    ∧ Meets pair0 Obj.ownMove 1 1 (fun u => u.moveOk = true ∧ (u.nsp 1).bolts ≠ 0)
    ∧ Meets pair0 Obj.ownMoveHome 0 1 (fun u => u.moveOk = true)
    ∧ (let m : Move := { nss := [2], since := 0 }
       let s := withSkein fun k => { k with move := some m }
       s.sk.move = some m ∧ m.mine = false ∧ s.moveDrained m = true)
    ∧ Meets (tko0 {}) Obj.sknLeave 0 1 (fun u => u.skn.row ≠ none ∧ (u.skn.present = false ∨ u.ownNss = []))
    ∧ Meets pair0 Obj.sknLeave 0 1 (fun u => u.skn.row ≠ none ∧ u.skn.present = true ∧ u.ownNss ≠ [] ∧ u.moveOk = true)
    ∧ Meets pair0 Obj.sknLeave 0 2 (fun u => u.skn.row ≠ none)
    ∧ (let s := tko0 { st := 2, again := true, decided := some 5 }
       s.sk.tko.st = 2 ∧ s.sk.tko.again = true ∧ s.sk.tko.decided = some 5 ∧ (tko0 {}).sk.tko.st ≠ 2) :=
  ⟨by decide +kernel, by decide +kernel, by decide +kernel, by decide +kernel, by decide +kernel, by decide +kernel, by decide +kernel,
    meets_of (by decide +kernel) (by decide +kernel), meets_of (by decide +kernel) (by decide +kernel), by decide +kernel,
    meets_of (by decide +kernel) (by decide +kernel), meets_of (by decide +kernel) (by decide +kernel), meets_of (by decide +kernel) (by decide +kernel),
    by decide +kernel⟩

def twin0 (t : Twin) : State := { withSkein (fun x => { x with twin := t }) with pd := (8, { st := .on }) :: skein0.pd }
theorem test_meets_TwinLinkCommands :
    (let s := twin0 { st := 1 }
     s.inS7 = true ∧ s.boot.hold = false ∧ (Tbl.get {} s.pd 8).st = .on ∧ s.isFenced 1 8 = false ∧ s.sk.twin.st < 2)
    ∧ (let s := twin0 { st := 3 }
       2 ≤ s.sk.twin.st ∧ s.sk.twin.held = false ∧ s.sk.twin.paired = false ∧ s.skn.partner = some 1 ∧ s.rw Obj.srowDeviceId 1 ≠ 102
        ∧ s.rw Obj.srowDeviceId 1 = 101)
    ∧ (let s := twin0 { st := 2, lastEpoch := some 9, ownEpoch := some (skein0.cntAt Obj.bootEpoch 0) }
       s.sk.twin.lastEpoch = some 9 ∧ s.sk.twin.ownEpoch = some (s.cntAt Obj.bootEpoch 0))
    ∧ (∀ n ∈ [14, 15], let s := twin0 { st := 2, paired := true, replay := [(4, .vaultNotice)], resends := [(4, n)] }
       s.sk.twin.replay ≠ [] ∧ 2 ≤ s.sk.twin.st ∧ s.sk.twin.resent.any (fun e => decide (16 ≤ e.2)) = decide (n = 15))
    ∧ (twin0 {}).sk.twin.replay = []
    ∧ (∀ b ∈ [false, true], let s := twin0 { st := 2, paired := true, rx := 5, nakSent := b }
       2 ≤ s.sk.twin.st ∧ s.sk.twin.held = false ∧ s.sk.twin.paired = true ∧ 6 ≠ s.sk.twin.rx ∧ s.sk.twin.nakSent = b) := by decide +kernel

def twh : TwHdr := ⟨5, 0, 64, 3, true⟩
theorem skein0_hears : skein0.twHears twh := ⟨by decide, by decide, by decide, by decide, by decide⟩
theorem pair0_hears : pair0.twHears twh := ⟨by decide, by decide, by decide, by decide, by decide⟩
theorem test_meets_TwinFrameCommands :
    (pair0.twHears twh ∧ ((pair0.twHeard twh).nsp 2).owner ≠ (pair0.twHeard twh).skn.side
      ∧ ((pair0.twHeard twh).nsp 1).owner = (pair0.twHeard twh).skn.side ∧ (pair0.twHeard twh).writeThrough = false)
    ∧ (skein0.twHears twh ∧ (skein0.twHeard twh).writeThrough = true ∧ (skein0.twHeard twh).hoop.mirrorState = 1
      ∧ (skein0.twHeard twh).keeper = true ∧ 1 ∉ [7, 11, 12, 13] ∧ 13 ∈ [7, 11, 12, 13])
    ∧ (let s : State := { skein0 with skn := { skein0.skn with side := 1 } }
       2 ≤ s.sk.twin.st ∧ s.sk.twin.held = false ∧ s.sk.twin.paired = true ∧ twh.seq = s.sk.twin.rx ∧ (s.twHeard twh).keeper = false)
    ∧ ((skein0.twHeard twh).link 2).st ≠ 2
    ∧ (let s : State := { skein0 with drv := { skein0.drv with links := [(2, { st := 2 })] } }
       ((s.twHeard twh).link 2).st = 2 ∧ ((s.twHeard twh).link 2).path = 0)
    ∧ (∀ c ∈ [({ tag := 9, bay := 2, kind := .write, lba := 0, count := 32, data := [], owner := .destage k0 0 } : MCmd),
        { tag := 9, bay := 2, kind := .read, lba := 0, count := 1, data := [], owner := .read 3 0 }],
       let s : State := { skein0 with drv := { skein0.drv with cmds := [c] } }
       (s.twHeard twh).findCmd 9 = some c ∧ c.held = false) :=
  ⟨⟨pair0_hears, by decide +kernel⟩, ⟨skein0_hears, by decide +kernel⟩, by decide +kernel, by decide +kernel, by decide +kernel, by decide +kernel⟩

def st0 (n : Nat) : State := withBoot (s7.setCnt Obj.bootStage 0 n) fun b => { b with svcOpen := false }
def arg0 : StageArg := ⟨true, true, 0, 1, List.replicate 12 64, true, true, [], true, [], []⟩
theorem test_meets_BringUpCommands :
    State.reset.boot.vaux = false
    ∧ (State.reset.boot.pwron = true ∧ (withBoot State.reset fun b => { b with vaux := true }).boot.vaux = true)
    ∧ (∀ n ∈ [1, 2, 3, 4, 5, 6], (st0 n).cntAt Obj.bootHalted 0 = 0 ∧ (st0 n).boot.vaux = true ∧ (st0 n).boot.pwron = false
      ∧ (st0 n).cntAt Obj.bootStage 0 = n)
    ∧ (let s := st0 2
       let v : State := { s with msq := { s.msq with st := .paired } }
       let t := State.updFw (State.updFw v 0 (fun x => { x with fail := v.fwCheck 0 arg0.fwA })) 1 (fun x => { x with fail := v.fwCheck 1 arg0.fwB })
       arg0.msqA = true ∧ arg0.msqB = true
        ∧ t.boot.choose (fun i => (if i = 0 then v.fwCheck 0 arg0.fwA else v.fwCheck 1 arg0.fwB) = 0) = some (0, false, false))
    ∧ (dimmsOk arg0.dimms = true ∧ dimmsOk [] = false)
    ∧ (1 < 2 ∧ 3 ≤ (st0 3).cntAt Obj.bootStage 0 ∧ ((st0 3).putRw Obj.mportMode 1 1).rw Obj.mportMode 1 ≠ 0) := by decide +kernel

theorem test_meets_ResetCommands :
    (s7.boot.vaux = true ∧ State.reset.boot.vaux = false ∧ s7.boot.pwron = false ∧ s7.cntAt Obj.bootStage 0 ≠ 0)
    ∧ Meets s7 Obj.bootReset 0 1 (fun u => u.boot.depart = none) ∧ Meets s7 Obj.bootReset 0 2 (fun u => u.boot.depart = none)
    ∧ Meets (withBoot s7 fun b => { b with depart := some { arg := 1 } }) Obj.bootReset 0 1 (fun u => u.boot.depart = some { arg := 1 })
    ∧ (s7.boot.wait = .none ∧ s7.inS7 = true ∧ s7.cntAt Obj.bootHalted 0 ≠ 1 ∧ s7.msq.st ≠ .halted ∧ (st0 4).boot.wait = .none ∧ (st0 4).inS7 = false)
    ∧ ((withBoot s7 fun b => { b with wait := .drain 4 false }).boot.wait = .drain 4 false
      ∧ ((withBoot s7 fun b => { b with wait := .drain 2 true }).putRw Obj.vaultEnable 0 0).boot.wait = .drain 2 true
      ∧ ((withBoot s7 fun b => { b with wait := .drain 2 true }).putRw Obj.vaultEnable 0 0).rw Obj.vaultEnable 0 = 0)
    ∧ Meets { s7 with pd := [(14, { st := .on })] } Obj.bootDomainReset 0 14 (fun u => u.pdPresent 14 = true ∧ 14 < 15
      ∧ (u.pdAt 14).st = .on ∧ u.boot.domains = [])
    ∧ Meets s7 Obj.bootDomainReset 0 15 (fun u => u.pdPresent 15 = true ∧ (15 ≤ 15 ∧ 15 < 28 ∨ 40 ≤ 15))
    ∧ Meets s7 Obj.bootDepart 0 3 (fun u => u.boot.depart = none ∧ u.boot.wait = .none ∧ u.boot.hold = false ∧ u.skn.present = false)
    ∧ (let s := withBoot s7 fun b => { b with depart := some { arg := 3, grace := true } }
       s.boot.depart = some { arg := 3, grace := true } ∧ ({ arg := 3, grace := true } : Depart).grace = true) :=
  ⟨by decide +kernel, meets_of (by decide +kernel) (by decide +kernel), meets_of (by decide +kernel) (by decide +kernel),
    meets_of (by decide +kernel) (by decide +kernel), by decide +kernel, by decide +kernel, meets_of (by decide +kernel) (by decide +kernel),
    meets_of (by decide +kernel) (by decide +kernel), meets_of (by decide +kernel) (by decide +kernel), by decide +kernel⟩

def fw0 (n : Nat) : State := withBoot (s7.setCnt Obj.fwuState 0 n) fun b => { b with slots := [{ factory := true, fail := 0 }, { factory := true, fail := 0 }] }
def fwValue : Bytes := [0x41, 0x42]
theorem test_meets_FirmwareCommands :
    Meets (fw0 0) Obj.fwuBegin 0 1 (fun u => u.boot.isTrial = false)
    ∧ Meets (withBoot (fw0 0) fun b => { b with isTrial := true }) Obj.fwuBegin 0 1 (fun u => u.boot.isTrial = true)
    ∧ ((fw0 1).boot.fwWait = [] ∧ (fw0 1).cntAt Obj.fwuState 0 = 1)
    ∧ (∀ n ∈ [1, 2], (acc (fw0 n)).writeTarget ses (itemFor Obj.fwuData 0 fwValue) = (0, Obj.fwuData, 0, encStr fwValue)
      ∧ (acc (fw0 n)).cntAt Obj.fwuState 0 = n ∧ hexBytes (decStr (encStr fwValue)) = some [0xAB]
      ∧ (acc (fw0 n)).rw Obj.fwuOffset 0 + [0xAB].length ≤ fwSlotBytes)
    ∧ Meets (fw0 3) Obj.fwuVerify 0 1 (fun u => u.fwCheck (1 - u.boot.running) 0 = 0)
    ∧ Meets (fw0 3) Obj.fwuVerify 0 1 (fun u => u.fwCheck (1 - u.boot.running) 3 = 3)
    ∧ Meets (fw0 4) Obj.fwuActivate 0 1 (fun u => u.cntAt Obj.fwuState 0 = 4)
    ∧ Meets (withBoot (fw0 0) fun b => { b with isTrial := true }) Obj.fwuConfirm 0 1 (fun u => u.boot.isTrial = true)
    ∧ Meets (fw0 0) Obj.fwuConfirm 0 1 (fun u => u.boot.isTrial = false)
    ∧ (let s := withBoot (fw0 0) fun b => { b with isTrial := true }
       s.boot.isTrial = true ∧ s.inS7 = true ∧ s.rw Obj.fwuTrialConfirm 0 ≠ 0 ∧ s.boot.wdSeen = false)
    ∧ Meets (fw0 0) Obj.fwuRaiseSvn 0 1 (fun u => u.boot.isTrial = false) :=
  ⟨meets_of (by decide +kernel) (by decide +kernel), meets_of (by decide +kernel) (by decide +kernel), by decide +kernel, by decide +kernel,
    meets_of (by decide +kernel) (by decide +kernel), meets_of (by decide +kernel) (by decide +kernel), meets_of (by decide +kernel) (by decide +kernel),
    meets_of (by decide +kernel) (by decide +kernel), meets_of (by decide +kernel) (by decide +kernel), by decide +kernel,
    meets_of (by decide +kernel) (by decide +kernel)⟩

def inj0 (left : Nat) : State := State.putRw { s7 with ev := { s7.ev with inj := [⟨0x402, 7, left⟩] } } Obj.injEnable 0 2
theorem test_meets_SelfManagementCommands :
    (s7.boot.silentAt = none ∧ 3 ≤ s7.cntAt Obj.bootStage 0 ∧ s7.cntAt Obj.bootHalted 0 = 0
      ∧ maxInt ([123, 122, 124].filter (sensorOk [123, 122, 124])) = some 124)
    ∧ ((st0 2).cntAt Obj.bootStage 0 < 3 ∧ 3 < 4 ∧ s7.boot.wdOnce.contains 3 = false
      ∧ (withBoot s7 fun b => { b with wdOnce := [3] }).boot.wdOnce.contains 3 = true)
    ∧ Meets (s7.putRw Obj.injEnable 0 2) (injCode 0x402) 7 255
      (fun u => u.injDetail 0x402 7 = 0 ∧ u.ev.inj.any (fun i => i.det = 0x402 && i.row = 7) = false)
    ∧ Meets (s7.putRw Obj.injEnable 0 2) (injCode 0x402) 7 1
      (fun u => u.injDetail 0x402 7 = 0 ∧ u.ev.inj.any (fun i => i.det = 0x402 && i.row = 7) = false)
    ∧ Meets (s7.putRw Obj.injEnable 0 0) (injCode 0x402) 7 255 (fun u => u.injDetail 0x402 7 = 1)
    ∧ s7.rw Obj.injEnable 0 = 0
    ∧ (∀ n ∈ [1, 2], (inj0 n).ev.inj.find? (fun i => i.det = 0x402 && i.row = 7) = some ⟨0x402, 7, n⟩ ∧ (inj0 n).injDetail 0x402 7 = 0
      ∧ (State.putRw (inj0 n) Obj.injEnable 0 0).injDetail 0x402 7 ≠ 0) :=
  ⟨by decide +kernel, by decide +kernel, meets_of (by decide +kernel) (by decide +kernel), meets_of (by decide +kernel) (by decide +kernel),
    meets_of (by decide +kernel) (by decide +kernel), by decide +kernel, by decide +kernel⟩

/-- Witnesses for StepRunsTheFront, IntaFollowsItsCauses, QuietEffectIsAll, SkamoKeepsItsChannels, RamReadsWhatWasWritten,
GrantsKeepTheBudget and ActionAccessIsActionType. -/
theorem test_meets_whole_machine :
    State.reset.pending = [] ∧ State.reset.intaRight ∧ step State.reset = .next State.reset.tick
    ∧ (s7.quiet = true ∧ s7.railStates = s7.railStates) ∧ s7.boot.vaux = true
    ∧ (Memory.wf [(5, 1), (9, 255)] = true ∧ 5 ≤ 5 ∧ 5 < 5 + 1 ∧ ¬ 6 < 5 + 1)
    ∧ (Tbl.wf {} (bay2 { r12 := { st := .seating }, deb := true }).bayCh = true
      ∧ (bay2 { r12 := { st := .seating }, deb := true }).waitsGrant 2 = true ∧ (bay2 {}).waitsGrant 2 = false)
    ∧ ((findDesc Obj.sessClose).isSome = true ∧ (findDesc Obj.ethMode).isSome = true) :=
  ⟨rfl, .inl (by decide +kernel), rfl, by decide +kernel, rfl, by decide +kernel, by decide +kernel, by decide +kernel⟩
theorem test_meets_ItemsReadBack :
    ([⟨65535, 255, 255, 4294967295, 3, 255, [1, 2, 255]⟩, ⟨0, 0, 0, 0, 0, 0, []⟩] : List Item).length ≤ 2
    ∧ ∀ i ∈ ([⟨65535, 255, 255, 4294967295, 3, 255, [1, 2, 255]⟩, ⟨0, 0, 0, 0, 0, 0, []⟩] : List Item),
      i.idx < 2 ^ 16 ∧ i.sub < 2 ^ 8 ∧ i.flags < 2 ^ 8 ∧ i.row < 2 ^ 32 ∧ i.stat < 2 ^ 8 ∧ i.len = i.value.length ∧ i.len < 2 ^ 16 := by decide
theorem test_meets_ParityRestoresOneBlock :
    2 < [7, 8, 9].length ∧ 3 ≤ (⟨[none, none, none, some 1], some 5, some 6⟩ : Cells).missing.length := by decide
theorem test_meets_FirmwareDataConditions :
    (hexBytes (decStr (encStr fwValue)) = some [0xAB] ∧ (fw0 4).cntAt Obj.fwuState 0 ≠ 1 ∧ (fw0 4).cntAt Obj.fwuState 0 ≠ 2
      ∧ fwSlotBytes < (State.setRw (fw0 2) Obj.fwuOffset 0 fwSlotBytes).rw Obj.fwuOffset 0 + [0xAB].length ∧ (fw0 2).cntAt Obj.fwuState 0 = 2)
    ∧ (fw0 1).takes (hdr 0x09 (encItems [itemFor Obj.fwuData 0 fwValue])) 0x09 (encItems [itemFor Obj.fwuData 0 fwValue]) 0 ses :=
  ⟨by decide +kernel, takes_of (by decide +kernel) (by decide) (by decide) (by decide)⟩

/-- Example 2-1: the header words of HELLO, OPEN, WRITE and of the BUSY answer. -/
theorem test_example_2_1_words :
    leNat ((hdrBytes 0 0x01 0 0x14 0 0 0 0 0 0).take 4) = 0x10100014 ∧ leNat ((hdrBytes 1 0x01 0 0x14 0 0 0 0 0 0).take 4) = 0x14100014
    ∧ leNat ((hdrBytes 0 0x09 0 0x20 7 0 0 2 0xA2 0).take 8) = 0x0007000010900020
    ∧ leNat ((hdrBytes 1 0x08 0 0 7 1 3 4 0 0).take 8) = 0x0007010314800000 := by decide +kernel
/-- Example 3-1: the derived quantities of geometry 0 (R82). -/
theorem test_example_3_1 :
    (let g : Geo := { w := 48, k := 16, u := 2, s := 2 }
     g.sb = 1024 ∧ g.period = 64 ∧ g.slotStripes = 1024 ∧ g.perPos = 24 ∧ g.z = 1 ∧ g.dm = 24 * 2 ^ 20 ∧ g.sm = 2 * 2 ^ 20
      ∧ g.foot * 16384 = 26 * 2 ^ 20) := by decide +kernel
/-- R369: 2 mΩ at 6 A and m = 4, and at 0.5 A, meet the inequalities; less than 1 mV does not. -/
theorem test_R369_examples : shuntOk 2000 600 16 = true ∧ shuntOk 2000 50 10 = true ∧ shuntOk 2000 49 10 = false := by decide +kernel
/-- The check values of CRC-64/NVME and CRC-16/T10-DIF for the characters 1 to 9 (the CRCs' own definitions). -/
theorem test_crc_check_values :
    crc64 (ascii "123456789") = 0xAE8B14860A799888 ∧ crc16 (ascii "123456789") = 0xD0DB := by decide +kernel
/-- FIPS 180-4's example "abc", and case 2 of RFC 4231. -/
theorem test_sha256_abc : beNat (sha256 (ascii "abc")) = 0xba7816bf8f01cfea414140de5dae2223b00361a396177a9cb410ff61f20015ad := by decide +kernel
theorem test_hmac_rfc4231 : beNat (hmac (ascii "Jefe") (ascii "what do ya want for nothing?"))
    = 0x5bdcc146bf60754e6a042426089575c75a003f089d2739839dec58b964ec3843 := by decide +kernel
/-- Table 2-11: the default alert mask selects groups 0x0, 0x1, 0x7, 0xA and 0xE. -/
theorem test_alert_mask : (List.range 16).filter (bit (dfltOf 0x140302 0)) = [0, 1, 7, 10, 14] := by decide +kernel
/-- The opcode table gives no command any bits. -/
theorem test_no_words : decodeTableWord 8 0 = none ∧ State.reset.withFetchWord 8 0 = State.reset := by decide +kernel

/-- What a command leaves of a state. -/
def after (c : Instr) (s : State) : State := match exec c s with
  | .next t => t
  | _ => s
/-- Table 1-14: a WAKING domain that is ready is ON, and the others are as they were. -/
theorem test_domainReady :
    (let t := after (.domainReady 3) { s7 with pd := [(3, { st := .waking }), (4, { st := .waking })] }
     (t.pdAt 3).st = .on ∧ (t.pdAt 4).st = .waking) := by decide +kernel
/-- R69: the response that waits comes when `RSP_VALID` clears. -/
theorem test_mailboxRspClear :
    (let t := after .mailboxRspClear { s7 with mbx := { s7.mbx with waiting := [[1, 2]], rspValid := true } }
     t.mbx.rsp = [1, 2] ∧ t.mbx.rspValid = true ∧ t.mbx.waiting = []) := by decide +kernel
/-- R70: the stage byte: stage 7, nothing halted, no alert. -/
theorem test_smbReadStage : (after .smbReadStage s7).outbox = [.smbus [7]] := by decide +kernel
/-- R304: a mismatch blamed on copy A leaves B alone, and A's engine fenced. -/
theorem test_msqMismatch :
    (let t := after (.msqMismatch 5 true false) s7
     t.msq.st = .singleB ∧ t.msq.lastSlices = 5 ∧ t.isFenced 10 68 = true ∧ t.isFenced 10 69 = false) := by decide +kernel
/-- R217: PAUSE stops a priority; a quanta of 0 releases it. -/
theorem test_pfcPause :
    (let s := (net0 qp0).putRw Obj.ethPfcEnable 0 0x80
     let t := after (.pfcPause 0 7 65535) s
     Tbl.get none (t.port 0).paused 7 = some (s.clk.ns, 100) ∧ Tbl.get none ((after (.pfcPause 0 7 0) t).port 0).paused 7 = none) := by decide +kernel
/-- Table 6-3: an RTU makes a CONNECTING QP ACTIVE. -/
theorem test_cmRtu : ((after (.cmRtu pkt 0) (net0 { qp0 with st := .connecting })).qp 0).st = .active := by decide +kernel
/-- R261, R262: a write of a scratch window is placed in its bytes, and in no others. -/
theorem test_rdmaWrite :
    (let t := after (.eyeletWritePlaced 1) (after (.rdmaWrite pkt true true (key 6) 3 2 2 0xBEEF) eyes0)
     memRead t.net.ram 3 2 = 0xBEEF ∧ memRead t.net.ram 2 1 = 0 ∧ memRead t.net.ram 5 1 = 0 ∧ t.net.accs = []) := by decide +kernel
/-- R382: a 12 V rail that trips is TRIPPED with its cause, and the 3.3 V rail with it. -/
theorem test_fastTrip :
    (let t := after (.fastTrip 2 false 3000 12000) (bayR { st := .on, ramp := some 0 } { st := .on, ramp := some 0 } {})
     (t.bay 2).r12.st = .tripped ∧ (t.bay 2).r33.st = .tripped ∧ (t.bay 2).last = 2 ∧ (t.bay 2).count = 1) := by decide +kernel
/-- R438: `RING_ENABLE` starts a ring at its first entry, lap 1. -/
theorem test_ringEnable :
    (let t := after (.ringEnable 0 1 1) (rng { base := 64, log2 := 4, vec := 255 })
     (t.ring 1).st = .running ∧ (t.ring 1).fetch = 0 ∧ (t.ring 1).lap = true) := by decide +kernel
/-- R463: a frame out of sequence is answered by one NAK, with the number expected. -/
theorem test_twin_nak :
    (let s := twin0 { st := 2, paired := true, rx := 5 }
     let t := after (.mirrorAck ⟨6, 0, 64, 3, true⟩ [1]) s
     t.outbox = [.twinNak 5] ∧ (after (.mirrorAck ⟨7, 0, 64, 3, true⟩ [1]) t).outbox = [.twinNak 5]) := by decide +kernel

/-! ### Well-formedness: operands in range pass, and each check refuses an operand out of its range -/

namespace Ill
def hd : Hdr := ⟨.mailbox, 0, 0, false, 0, 1, 0, false, 0, 0, 1, 0, zeros 16⟩
def it : Item := ⟨0x1000, 1, 0, 0, 0, 0, []⟩
def cl : Cell := ⟨0, 0, true, 0, 0⟩
def pk : Pkt := ⟨0, 0, 100, false, false, none, 0, 0, 0, false, 0, 0, 0, 4791, 0, false, 0, 0, false, 1⟩
def cmq : CmReq := ⟨0, 0, 0, 0, 0, 0, 0, 1024, 0, 0, 0⟩
def ce : Ceth := ⟨0, 0, 0, false, 0, 0, 0, 0, 0⟩
def sg : Sgl := ⟨0, 0, 0, false, false, 0⟩
def pr : PrInfo := ⟨false, 0, 0, 0, 0⟩
def fk : FKey := ⟨0, 0, 0, 0, 0, 0⟩
def ja : JArg := ⟨0, 0, 0, 0, 0, 0, 0, 0, 0, 0, 0, 0, []⟩
def tw : TwHdr := ⟨0, 0, 0, 0, true⟩
def sk : SkHdr := ⟨1, 0, 0, 0, none, 0, 0, 0, 0, 0, zeros 16⟩
def sa : StageArg := ⟨true, true, 0, 0, zeros 12, false, false, [], false, [], []⟩
def hdX : Hdr := { hd with seq := 2 ^ 32 }
def itX : Item := { it with sub := 256 }
def clX : Cell := { cl with col := 48 }
def pkX : Pkt := { pk with port := 8 }
def cmX : CmReq := { cmq with qpn := 2 ^ 24 }
def ceX : Ceth := { ce with ckey := 2 ^ 32 }
def sgX : Sgl := { sg with key := 2 ^ 32 }
def prX : PrInfo := { pr with prchk := 8 }
def fkX : FKey := { fk with ns := 4096 }
def jaX : JArg := { ja with kind := 7 }
def twX : TwHdr := { tw with seq := 2 ^ 32 }
def skX : SkHdr := { sk with row := 32 }
def saX : StageArg := { sa with dimms := zeros 13 }

end Ill

section
open Ill
theorem test_wf_shared_checks :
    ([{ hd with carrier := .meth 2 }, { hd with carrier := .inband 8 0 }, { hd with carrier := .inband 0 4096 }, { hd with src := 2 ^ 32 }, { hd with dport := 2 ^ 16 }, { hd with ver := 16 }, { hd with kind := 4 }, { hd with len := 2 ^ 16 }, { hd with session := 2 ^ 16 }, { hd with seq := 2 ^ 32 }, { hd with rtag := 2 ^ 32 }, { hd with auth := zeros 15 }, { hd with auth := 256 :: zeros 15 }].all (fun x => !hdrOk x)) = true
    ∧ ([{ it with idx := 2 ^ 16 }, { it with sub := 256 }, { it with flags := 256 }, { it with row := 2 ^ 32 }, { it with len := 2 ^ 16 }, { it with stat := 256 }, { it with value := [256] }].all (fun x => !itemOk x)) = true
    ∧ ([{ cl with col := 48 }, { cl with row := 256 }, { cl with data := 2 ^ 32768 }, { cl with pi := 2 ^ 128 }].all (fun x => !cellOk x)) = true
    ∧ ([{ pk with port := 8 }, { pk with sub := 4 }, { pk with smac := 2 ^ 48 }, { pk with vlan := 4096 }, { pk with pcp := 8 }, { pk with src := 2 ^ 128 }, { pk with dst := 2 ^ 128 }, { pk with sport := 2 ^ 16 }, { pk with dport := 2 ^ 16 }, { pk with dscp := 64 }, { pk with qpn := 2 ^ 24 }, { pk with psn := 2 ^ 24 }, { pk with n := 0 }].all (fun x => !pktOk x)) = true
    ∧ ([{ cmq with comm := 2 ^ 32 }, { cmq with fmt := 2 ^ 16 }, { cmq with qid := 2 ^ 16 }, { cmq with resources := 256 }, { cmq with depth := 256 }, { cmq with hrq := 2 ^ 16 }, { cmq with hsq := 2 ^ 16 }, { cmq with qpn := 2 ^ 24 }, { cmq with psn := 2 ^ 24 }, { cmq with dscp := 64 }].all (fun x => !cmReqOk x)) = true
    ∧ ([{ ce with ckey := 2 ^ 32 }, { ce with slot := 2 ^ 16 }, { ce with count := 2 ^ 16 }, { ce with scope := 256 }, { ce with landKey := 2 ^ 32 }, { ce with landOff := 2 ^ 64 }, { ce with landLen := 2 ^ 32 }].all (fun x => !cethOk x)) = true
    ∧ ([{ sg with va := 2 ^ 64 }, { sg with key := 2 ^ 32 }, { sg with len := 2 ^ 32 }].all (fun x => !sglOk x)) = true
    ∧ ([{ pr with prchk := 8 }, { pr with ref := 2 ^ 64 }, { pr with app := 2 ^ 16 }, { pr with mask := 2 ^ 16 }].all (fun x => !prOk x)) = true
    ∧ ([{ fk with ns := 4096 }, { fk with entry := 3145728 }, { fk with sel := 3 }, { fk with stripe := 2 ^ 32 }, { fk with col := 48 }, { fk with gen := 2 ^ 16 }].all (fun x => !fkeyOk x)) = true
    ∧ ([{ ja with kind := 7 }, { ja with geo := 8 }, { ja with jseq := 2 ^ 64 }, { ja with entry := 3145728 }, { ja with stripe := 2 ^ 32 }, { ja with members := 2 ^ 48 }].all (fun x => !jargOk x)) = true
    ∧ ([{ sk with path := 3 }, { sk with row := 32 }, { sk with role := 256 }, { sk with term := 2 ^ 32 }, { sk with seq := 2 ^ 64 }, { sk with sender := 2 ^ 64 }, { sk with auth := [256] }].all (fun x => !skHdrOk x)) = true
    ∧ ([{ tw with seq := 2 ^ 32 }, { tw with ack := 2 ^ 32 }, { tw with credit := 2 ^ 16 }, { tw with epoch := 2 ^ 32 }].all (fun x => !twHdrOk x)) = true
    ∧ ([{ sa with dimms := zeros 13 }, { sa with taken := [4096] }].all (fun x => !stageOk x)) = true
    ∧ (([.row 32 0 false 0, .row 0 4 false 0, .row 0 0 false 16, .shelf 16 0 0 0 0 [], .ns 16 0 0, .ns 0 4096 0, .ns 0 0 2] : List DirEnt).all (fun x => !dirOk x)) = true
    ∧ (([.criterion 48 0, .member 48 0 0 0, .mapUpd 3145728 0 0 0 0 0 false false 0 0, .mapUpd 0 0 0 0 8 0 false false 0 0, .rampAsk 48,
      .rampGrant 48, .rampEnd 48, .power 48 0] : List KMsg).all (fun x => !kmsgOk x)) = true
    ∧ (!fnOk 128 && fnOk 127 && fnOk 255 && !u128 (2 ^ 128) && !below 3 8 && !bytesOk [256] && !blkOk (2 ^ 32768, 0) && !blkOk (0, 2 ^ 128)) = true := by decide +kernel
/-! Every command with operands in range is well-formed. -/
theorem test_wf_accepts1 : (
  [.pdRequest hd 0 0, .domainReady 0, .domainDrainDone 0, .domainDrainTimeout 0, .ptpSync 0 0 0 0, .detection 0 0 0 0,
   .notifyTimerExpiry 0, .coalesceWindowExpiry 0 0 0, .hello hd 0 0 [1], .openReq hd, .closeReq hd, .readReq hd [it],
   .writeReq hd [it], .commitReq hd, .commitWriteDone false, .subscribe hd 0 0 0, .unsubscribe hd 0, .halfOpenExpiry 0,
   .sessionIdleTimeout 0, .dictRestoreDiscard hd, .dictRestoreFactory hd, .dictRestoreSlot hd, .dictRestoreAll hd,
   .sessClose hd 0, .keyValueWrite hd 0 [1], .keyLevelWrite hd 0 0, .mailboxGo 0, .registerWrite 0 0 0,
   .smbSelectObject 0 0 0 0 false, .geoActivate hd 0, .geoTablesGenerated 0, .geoMapAck 0 false, .geoRetire hd 0,
   .mapCopyAck 0, .nsSlotsFreed 0, .zeroInitDone 0, .boltMigrate hd 0 0, .migrationStart 0, .migrationStripeCopy 0 [cl],
   .migrationRecordRetire 0, .migrationSourceFree 0, .copybackStripe 0 [cl], .frameReserve 0, .fillReadDone 0 0 0 false 0 0,
   .holdTimerExpiry 0 0 0, .destageStart 0 0 0, .fillInDone 0 0 0 [cl], .bastingRecordPersisted 0, .destageEncode 0 0 0 [cl],
   .memberCompletion 0 0 [], .darningDecodeDone 0 0, .journalPageWriteDone 0 0 false, .bastJournalMove hd 0,
   .vaultChunkWriteDone false, .vaultFlushDone false, .vaultTest hd, .reconstructStripe 0 [cl], .rateControllerWindow 0 0,
   .scrubStart hd, .proactiveCopyStart 0, .ethLinkUp 0 0 false, .ethLinkDown 0 0, .arpRequest pk 0,
   .neighborSolicitation pk 0, .pfcPause 0 0 0, .pauseQuantaExpiry 0 0, .pfcRepeatTimer 0 0 0, .pfcWatchdogExpiry 0 0,
   .cmReq pk cmq, .cmRtu pk 0, .cmRej pk 0, .cmDreq pk 0, .connectingTimeout 0, .ack pk, .nakSequenceError pk, .rnrNak pk,
   .nakError pk 0, .rdmaReadResponse pk 3 0, .cnp pk, .invalidOpcodePacket pk 0, .ackTimeout 0, .rnrWaitExpiry 0,
   .ackCoalesceTimer 0, .alphaTimer 0, .rpTimer 0, .contextFetchStart 0, .contextFetchDone 0, .qpDrainComplete 0,
   .drainTimeout 0, .keepaliveExpiry 0] : List Instr).all (fun i => i.wf) = true := by decide +kernel
theorem test_wf_accepts2 : (
  [.qpClose hd 0, .qpPinWrite hd 0 0, .fabricsConnect pk 0 0 0 0 0 false 0 0 0, .propertyGet pk 0 0, .propertySet pk 0 0 0,
   .disconnect pk 0, .identify pk 0 0 0 sg, .getLogPage pk 0 0 0 false sg, .setFeatures pk 0 0 0, .getFeatures pk 0 0,
   .asynchronousEventRequest pk 0, .keepAlive pk 0, .abort pk 0, .nvmeRead pk 0 0 0 0 pr sg, .nvmeWrite pk 0 0 0 0 pr sg,
   .writeZeroes pk 0 0 0 0, .nvmeFlush pk 0 0, .rdmaWrite pk false false 0 0 3 3 0, .knotWrite pk 0 0 3 0,
   .rdmaRead pk 0 0 3, .eyeletFlush pk, .eyeletWritePlaced 0, .chainArm pk ce, .chainDisarm pk ce,
   .sendWithImmediate pk 0 3 0, .wrRead 0, .wrWrite 0, .wrSend 0, .wrLink 0, .wrNop 0, .workRequestComplete 0 0,
   .chainDisarmAction hd 0, .eyeRegister hd 0, .eyeRevoke hd 0, .eyeRevokeTimeout 0, .eyeCommit hd 0, .keyCacheUpdateDone 0,
   .eyeCommitTimeout 0, .fenceRelease hd 0 false, .fenceDrainDone 0, .fenceDrainTimeout 0, .fenceReleasedTimeout 0,
   .selEngage hd, .msqMismatch 0 false false, .msqRepair hd false, .msqResyncDone false, .msqCmpTest hd false,
   .cmpTestPeriodExpiry false, .msqSwitchTest hd 0, .cellArrival 0 0 0 0 0 false, .receiptCredit 0 0 0 0,
   .hemGapTimeout 0 0 0, .frameAssembly 0 0, .holdExpiry 0 0, .planeTest hd 0, .planeTestDone 0 false, .frameTransmit 0 0,
   .calendarSlot 0, .bucketRefill 0, .tensionModeSwitchBack 0, .policerModeWrite hd 0 false 0, .driveLinkDown 0,
   .driveUncorrectableError 0, .driveLinkRecovered 0 0 0, .driveRecoverTimeout 0 false, .dlinkRetrain hd 0, .perstDeassert 0,
   .driveLinkUp 0 0 0, .probeDone 0 0 0 0 0 0 false 0 0, .commandTimeout 0, .abortTimeout 0, .controllerFatalStatus 0,
   .controllerResetDone 0 false, .healthPoll 0 0 0 0, .memberAsyncEvent 0 0 0 0, .memberTempPoll 0 0, .absentGraceExpiry 0,
   .memAssign hd 0 0, .memRetire hd 0, .memClearFailing hd 0, .presenceChange 0 false false, .debounceComplete 0,
   .safetyPass [] 0 false [] false false, .partnerRampTimeout 0, .railOn 0 false, .rampTimeout 0 false 0 0,
   .currentLimitReached 0 false, .limitExit 0 false, .faultTimerExpiry 0 false 0 0, .fastTrip 0 false 0 0] : List Instr).all (fun i => i.wf) = true := by decide +kernel
theorem test_wf_accepts3 : (
  [.srcDischarged 0 false, .retryTimerExpiry 0, .goodTimeExpiry 0, .passElementFault 0 false 0 0, .oringReverse 0 false,
   .oringDropHigh 0 false 0 0, .bayEnableWrite hd 0 0, .perstOffWaitExpiry 0, .bayLimitWrite hd 0 6 0, .bayClear hd 0,
   .shuntCalibration hd 0 false 0, .shuntCalibrationDone 0 false 0 false, .epPerst false, .configRequest 0 .vendor none,
   .functionLevelReset 0, .bmeClear 0, .d3hotEntry 0, .fnResume 0, .containmentRelease (some hd) false, .msixUnmask 0 0,
   .peerWrite 0 0 3 0 false false, .peerRead 0 0 0 3 false, .windowCommit 0, .pcieCompletion 0 0 0 0, .completionTimeout 0,
   .ringDb 0 0, .ringFetchDone 0 [], .nop 0 0, .nsRead 0 0, .nsWrite 0 0, .eyeRead 0 0, .eyeWrite 0 0, .eyeFlush 0 0,
   .ringJobComplete 0 0, .ringEnable 0 0 0, .ringDisable 0 0 0, .ringRestart 0 0 0, .irqHoldoffExpiry 0,
   .shuttleEnqueue 0 0 0, .shuttleGo 0 0, .shuttleStop 0 0, .shuttleReset 0 0, .shuttleCqHead 0 0 0,
   .shuttleDescriptorFetched 0 0, .shuttleDescriptorDone 0, .stageComplete 0 sa, .bootResetCold hd, .bootResetWarm hd,
   .bootDomainReset hd 0, .bootDepart hd 0, .fwuBegin hd, .fwuData hd [1], .fwuVerify hd false false false, .fwuActivate hd,
   .fwuConfirm hd, .fwuRaiseSvn hd false, .watchdogExpiry 0, .telemetryPass [] 0 0 0, .injection hd 0 0 0,
   .injectionOccurrence 0 0, .pfcWatchdogRecovery 0 0, .measurementSample 0 0 0 0 0 0 0, .endpointLinkUp 0 0, .mgmtLinkUp 0,
   .windowUpdatePoint 0, .resyncStripe [cl], .criticalStripe 0 0 [cl], .relistStripe [cl], .scrubStripe [cl],
   .proactiveCopyStripe 0 [cl], .heartbeat sk 0 0 0 0, .viewExpiry 0, .joinMsg sk 0 0, .welcome sk 0 0 [], .leaveMsg sk,
   .dirUpdate sk 0 [], .dirAck sk 0, .confirmQuery sk 0, .confirmReply sk 0 false 0 [], .takeoverRequest sk 0,
   .takeoverNotice sk 0 0, .handover sk [] 0, .takeoverPreemptDone 0 0 0 [ja], .twinLinkUp 0, .pair tw 0 0 false 0,
   .twinIdle tw, .twinNak tw, .mirrorWrite tw fk 0 [cl], .mirrorAck tw [], .mirrorRelease tw [fk]] : List Instr).all (fun i => i.wf) = true := by decide +kernel
theorem test_wf_accepts4 : (
  [.journalFrame tw [ja], .vaultNotice tw, .keeperFrame tw (.rampAsk 0), .proxyCmd tw 0 0 0 0 0 [], .proxyCpl tw 0 0 [],
   .ownMove hd 0, .ownMoveHome hd, .sknLeave hd, .sknRejoin hd, .ptpLockLost, .mailboxRspClear, .mailboxNtfClear,
   .smbReadStage, .smbReadIdentity, .smbReadEvents, .smbReadObject, .smbAlertResponse, .mapCopyDone, .zeroWalkStep,
   .mirrorResyncDone, .mirrorRegionShrink, .journalPageTimer, .journalRehomeDone, .pwrfailFiltered, .cmReqAdmit,
   .chainHeldTriggerStart, .vauxUndervoltage, .pollSilenceTimeout, .hotReset, .epLinkDown, .ringFetchTurn, .heartbeatPeriod,
   .guardExpiry, .twinLinkDown, .twinIdleTimer, .twinAckTimeout, .moveDrainDone, .moveTimeout, .vauxPowerOn, .pwronRstAssert,
   .pwronRstDeassert, .warmRstEdge, .s6LimitExpiry, .preResetDrainDone, .departGraceExpiry, .fwuEraseDone,
   .fwuTrialConfirmExpiry, .safetyDeadlineExpiry, .anattExpiry] : List Instr).all (fun i => i.wf) = true := by decide +kernel
/-! One operand out of its range, in turn for each check of each command. -/
theorem test_wf_refuses1 : (
  [.pdRequest hdX 0 0, .pdRequest hd 140 0, .pdRequest hd 0 256, .domainReady 140, .domainDrainDone 140,
   .domainDrainTimeout 140, .ptpSync 10 0 0 0, .ptpSync 0 (2 ^ 8) 0 0, .ptpSync 0 0 (2 ^ 8) 0, .detection 4096 0 0 0,
   .detection 0 12 0 0, .detection 0 0 (2 ^ 32) 0, .detection 0 0 0 (2 ^ 64), .notifyTimerExpiry (2 ^ 16),
   .coalesceWindowExpiry 4096 0 0, .coalesceWindowExpiry 0 12 0, .coalesceWindowExpiry 0 0 (2 ^ 32), .hello hdX 0 0 [1],
   .hello hd (2 ^ 8) 0 [1], .hello hd 0 (2 ^ 8) [1], .hello hd 0 0 [256], .openReq hdX, .closeReq hdX, .readReq hdX [it],
   .readReq hd [itX], .writeReq hdX [it], .writeReq hd [itX], .commitReq hdX, .subscribe hdX 0 0 0,
   .subscribe hd (2 ^ 32) 0 0, .subscribe hd 0 (2 ^ 32) 0, .subscribe hd 0 0 (2 ^ 32), .unsubscribe hdX 0,
   .unsubscribe hd (2 ^ 16), .halfOpenExpiry (2 ^ 16), .sessionIdleTimeout 16, .dictRestoreDiscard hdX,
   .dictRestoreFactory hdX, .dictRestoreSlot hdX, .dictRestoreAll hdX, .sessClose hdX 0, .sessClose hd 16,
   .keyValueWrite hdX 0 [1], .keyValueWrite hd 8 [1], .keyValueWrite hd 0 [256], .keyLevelWrite hdX 0 0,
   .keyLevelWrite hd 8 0, .keyLevelWrite hd 0 (2 ^ 8), .mailboxGo (2 ^ 16), .registerWrite 128 0 0,
   .registerWrite 0 0x40000 0, .registerWrite 0 2 0, .smbSelectObject (2 ^ 16) 0 0 0 false,
   .smbSelectObject 0 (2 ^ 8) 0 0 false, .smbSelectObject 0 0 (2 ^ 8) 0 false, .smbSelectObject 0 0 0 (2 ^ 32) false,
   .geoActivate hdX 0, .geoActivate hd 8, .geoTablesGenerated 8, .geoMapAck 8 false, .geoRetire hdX 0, .geoRetire hd 8,
   .mapCopyAck (2 ^ 32), .nsSlotsFreed 4096, .zeroInitDone 3145728, .boltMigrate hdX 0 0, .boltMigrate hd 3145728 0,
   .boltMigrate hd 0 8, .migrationStart 3145728, .migrationStripeCopy 3145728 [cl], .migrationStripeCopy 0 [clX],
   .migrationRecordRetire 3145728, .migrationSourceFree 3145728, .copybackStripe 48 [cl], .copybackStripe 0 [clX],
   .frameReserve 4096, .fillReadDone (2 ^ 64) 0 0 false 0 0, .fillReadDone 0 (2 ^ 32) 0 false 0 0,
   .fillReadDone 0 0 256 false 0 0, .fillReadDone 0 0 0 false (2 ^ 32768) 0, .fillReadDone 0 0 0 false 0 (2 ^ 128),
   .holdTimerExpiry 3145728 0 0, .holdTimerExpiry 0 (2 ^ 2) 0, .holdTimerExpiry 0 0 (2 ^ 32), .destageStart 3145728 0 0,
   .destageStart 0 (2 ^ 2) 0, .destageStart 0 0 (2 ^ 32), .fillInDone 3145728 0 0 [cl], .fillInDone 0 (2 ^ 2) 0 [cl],
   .fillInDone 0 0 (2 ^ 32) [cl]] : List Instr).all (fun i => !i.wf) = true := by decide +kernel
theorem test_wf_refuses2 : (
  [.fillInDone 0 0 0 [clX], .bastingRecordPersisted (2 ^ 64), .destageEncode 3145728 0 0 [cl],
   .destageEncode 0 (2 ^ 2) 0 [cl], .destageEncode 0 0 (2 ^ 32) [cl], .destageEncode 0 0 0 [clX],
   .memberCompletion (2 ^ 16) 0 [], .memberCompletion 0 (2 ^ 16) [], .memberCompletion 0 0 [(2 ^ 32768, 0)],
   .darningDecodeDone (2 ^ 64) 0, .darningDecodeDone 0 (2 ^ 32), .journalPageWriteDone (2 ^ 32) 0 false,
   .journalPageWriteDone 0 (2 ^ 1) false, .bastJournalMove hdX 0, .bastJournalMove hd 48, .vaultTest hdX,
   .reconstructStripe 48 [cl], .reconstructStripe 0 [clX], .rateControllerWindow (2 ^ 64) 0,
   .rateControllerWindow 0 (2 ^ 32), .scrubStart hdX, .proactiveCopyStart 48, .ethLinkUp 8 0 false, .ethLinkUp 0 4 false,
   .ethLinkDown 8 0, .ethLinkDown 0 4, .arpRequest pkX 0, .arpRequest pk (2 ^ 128), .neighborSolicitation pkX 0,
   .neighborSolicitation pk (2 ^ 128), .pfcPause 8 0 0, .pfcPause 0 8 0, .pfcPause 0 0 (2 ^ 16), .pauseQuantaExpiry 8 0,
   .pauseQuantaExpiry 0 8, .pfcRepeatTimer 8 0 0, .pfcRepeatTimer 0 8 0, .pfcRepeatTimer 0 0 (2 ^ 32),
   .pfcWatchdogExpiry 8 0, .pfcWatchdogExpiry 0 8, .cmReq pkX cmq, .cmReq pk cmX, .cmRtu pkX 0, .cmRtu pk 65536,
   .cmRej pkX 0, .cmRej pk 65536, .cmDreq pkX 0, .cmDreq pk 65536, .connectingTimeout 65536, .ack pkX, .nakSequenceError pkX,
   .rnrNak pkX, .nakError pkX 0, .nakError pk (2 ^ 8), .rdmaReadResponse pkX 3 0, .rdmaReadResponse pk (2 ^ 32) 0,
   .rdmaReadResponse pk 3 (2 ^ 24), .cnp pkX, .invalidOpcodePacket pkX 0, .invalidOpcodePacket pk (2 ^ 8), .ackTimeout 65536,
   .rnrWaitExpiry 65536, .ackCoalesceTimer 65536, .alphaTimer 65536, .rpTimer 65536, .contextFetchStart 65536,
   .contextFetchDone 65536, .qpDrainComplete 65536, .drainTimeout 65536, .keepaliveExpiry (2 ^ 16), .qpClose hdX 0,
   .qpClose hd 65536, .qpPinWrite hdX 0 0, .qpPinWrite hd 65536 0, .qpPinWrite hd 0 (2 ^ 8),
   .fabricsConnect pkX 0 0 0 0 0 false 0 0 0, .fabricsConnect pk (2 ^ 16) 0 0 0 0 false 0 0 0,
   .fabricsConnect pk 0 (2 ^ 16) 0 0 0 false 0 0 0, .fabricsConnect pk 0 0 (2 ^ 16) 0 0 false 0 0 0,
   .fabricsConnect pk 0 0 0 (2 ^ 32) 0 false 0 0 0, .fabricsConnect pk 0 0 0 0 (2 ^ 16) false 0 0 0,
   .fabricsConnect pk 0 0 0 0 0 false (2 ^ 2048) 0 0, .fabricsConnect pk 0 0 0 0 0 false 0 (2 ^ 2048) 0,
   .fabricsConnect pk 0 0 0 0 0 false 0 0 (2 ^ 128), .propertyGet pkX 0 0, .propertyGet pk (2 ^ 16) 0,
   .propertyGet pk 0 (2 ^ 64), .propertySet pkX 0 0 0, .propertySet pk (2 ^ 16) 0 0, .propertySet pk 0 (2 ^ 64) 0] : List Instr).all (fun i => !i.wf) = true := by decide +kernel
theorem test_wf_refuses3 : (
  [.propertySet pk 0 0 (2 ^ 64), .disconnect pkX 0, .disconnect pk (2 ^ 16), .identify pkX 0 0 0 sg,
   .identify pk (2 ^ 16) 0 0 sg, .identify pk 0 (2 ^ 8) 0 sg, .identify pk 0 0 (2 ^ 32) sg, .identify pk 0 0 0 sgX,
   .getLogPage pkX 0 0 0 false sg, .getLogPage pk (2 ^ 16) 0 0 false sg, .getLogPage pk 0 (2 ^ 8) 0 false sg,
   .getLogPage pk 0 0 (2 ^ 64) false sg, .getLogPage pk 0 0 0 false sgX, .setFeatures pkX 0 0 0,
   .setFeatures pk (2 ^ 16) 0 0, .setFeatures pk 0 (2 ^ 8) 0, .setFeatures pk 0 0 (2 ^ 64), .getFeatures pkX 0 0,
   .getFeatures pk (2 ^ 16) 0, .getFeatures pk 0 (2 ^ 8), .asynchronousEventRequest pkX 0,
   .asynchronousEventRequest pk (2 ^ 16), .keepAlive pkX 0, .keepAlive pk (2 ^ 16), .abort pkX 0, .abort pk (2 ^ 16),
   .nvmeRead pkX 0 0 0 0 pr sg, .nvmeRead pk (2 ^ 16) 0 0 0 pr sg, .nvmeRead pk 0 (2 ^ 32) 0 0 pr sg,
   .nvmeRead pk 0 0 (2 ^ 64) 0 pr sg, .nvmeRead pk 0 0 0 (2 ^ 17) pr sg, .nvmeRead pk 0 0 0 0 prX sg,
   .nvmeRead pk 0 0 0 0 pr sgX, .nvmeWrite pkX 0 0 0 0 pr sg, .nvmeWrite pk (2 ^ 16) 0 0 0 pr sg,
   .nvmeWrite pk 0 (2 ^ 32) 0 0 pr sg, .nvmeWrite pk 0 0 (2 ^ 64) 0 pr sg, .nvmeWrite pk 0 0 0 (2 ^ 17) pr sg,
   .nvmeWrite pk 0 0 0 0 prX sg, .nvmeWrite pk 0 0 0 0 pr sgX, .writeZeroes pkX 0 0 0 0, .writeZeroes pk (2 ^ 16) 0 0 0,
   .writeZeroes pk 0 (2 ^ 32) 0 0, .writeZeroes pk 0 0 (2 ^ 64) 0, .writeZeroes pk 0 0 0 (2 ^ 17), .nvmeFlush pkX 0 0,
   .nvmeFlush pk (2 ^ 16) 0, .nvmeFlush pk 0 (2 ^ 32), .rdmaWrite pkX false false 0 0 3 3 0,
   .rdmaWrite pk false false (2 ^ 32) 0 3 3 0, .rdmaWrite pk false false 0 (2 ^ 64) 3 3 0,
   .rdmaWrite pk false false 0 0 (2 ^ 32) 3 0, .rdmaWrite pk false false 0 0 3 (2 ^ 24) 0,
   .rdmaWrite pk false false 0 0 3 3 (2 ^ 24), .knotWrite pkX 0 0 3 0, .knotWrite pk (2 ^ 32) 0 3 0,
   .knotWrite pk 0 (2 ^ 64) 3 0, .knotWrite pk 0 0 (2 ^ 32) 0, .knotWrite pk 0 0 3 (2 ^ 24), .rdmaRead pkX 0 0 3,
   .rdmaRead pk (2 ^ 32) 0 3, .rdmaRead pk 0 (2 ^ 64) 3, .rdmaRead pk 0 0 (2 ^ 32), .eyeletFlush pkX,
   .eyeletWritePlaced (2 ^ 64), .chainArm pkX ce, .chainArm pk ceX, .chainDisarm pkX ce, .chainDisarm pk ceX,
   .sendWithImmediate pkX 0 3 0, .sendWithImmediate pk (2 ^ 32) 3 0, .sendWithImmediate pk 0 (2 ^ 32) 0,
   .sendWithImmediate pk 0 3 (2 ^ 24), .wrRead 4096, .wrWrite 4096, .wrSend 4096, .wrLink 4096, .wrNop 4096,
   .workRequestComplete 4096 0, .workRequestComplete 0 (2 ^ 16), .chainDisarmAction hdX 0, .chainDisarmAction hd 4096,
   .eyeRegister hdX 0, .eyeRegister hd 16384, .eyeRevoke hdX 0, .eyeRevoke hd 16384, .eyeRevokeTimeout 16384,
   .eyeCommit hdX 0, .eyeCommit hd 16384, .keyCacheUpdateDone 16384] : List Instr).all (fun i => !i.wf) = true := by decide +kernel
theorem test_wf_refuses4 : (
  [.eyeCommitTimeout 16384, .fenceRelease hdX 0 false, .fenceRelease hd 4096 false, .fenceDrainDone 4096,
   .fenceDrainTimeout 4096, .fenceReleasedTimeout 4096, .selEngage hdX, .msqMismatch (2 ^ 64) false false,
   .msqRepair hdX false, .msqCmpTest hdX false, .msqSwitchTest hdX 0, .msqSwitchTest hd (2 ^ 32),
   .cellArrival 25 0 0 0 0 false, .cellArrival 0 25 0 0 0 false, .cellArrival 0 0 8 0 0 false,
   .cellArrival 0 0 0 (2 ^ 16) 0 false, .cellArrival 0 0 0 0 4 false, .receiptCredit 25 0 0 0, .receiptCredit 0 25 0 0,
   .receiptCredit 0 0 8 0, .receiptCredit 0 0 0 (2 ^ 16), .hemGapTimeout 25 0 0, .hemGapTimeout 0 25 0, .hemGapTimeout 0 0 8,
   .frameAssembly 8 0, .frameAssembly 0 4, .holdExpiry 8 0, .holdExpiry 0 4, .planeTest hdX 0, .planeTest hd 4,
   .planeTestDone 4 false, .frameTransmit 8 0, .frameTransmit 0 4, .calendarSlot 8, .bucketRefill 8,
   .tensionModeSwitchBack 8, .policerModeWrite hdX 0 false 0, .policerModeWrite hd 4096 false 0,
   .policerModeWrite hd 0 false (2 ^ 8), .driveLinkDown 48, .driveUncorrectableError 48, .driveLinkRecovered 48 0 0,
   .driveLinkRecovered 0 (2 ^ 8) 0, .driveLinkRecovered 0 0 (2 ^ 8), .driveRecoverTimeout 48 false, .dlinkRetrain hdX 0,
   .dlinkRetrain hd 48, .perstDeassert 48, .driveLinkUp 48 0 0, .driveLinkUp 0 (2 ^ 8) 0, .driveLinkUp 0 0 (2 ^ 8),
   .probeDone 48 0 0 0 0 0 false 0 0, .probeDone 0 (2 ^ 8) 0 0 0 0 false 0 0, .probeDone 0 0 (2 ^ 160) 0 0 0 false 0 0,
   .probeDone 0 0 0 (2 ^ 320) 0 0 false 0 0, .probeDone 0 0 0 0 (2 ^ 64) 0 false 0 0,
   .probeDone 0 0 0 0 0 (2 ^ 16) false 0 0, .probeDone 0 0 0 0 0 0 false (2 ^ 64) 0, .probeDone 0 0 0 0 0 0 false 0 (2 ^ 32),
   .commandTimeout (2 ^ 16), .abortTimeout (2 ^ 16), .controllerFatalStatus 48, .controllerResetDone 48 false,
   .healthPoll 48 0 0 0, .healthPoll 0 (2 ^ 8) 0 0, .healthPoll 0 0 (2 ^ 8) 0, .healthPoll 0 0 0 (2 ^ 64),
   .memberAsyncEvent 48 0 0 0, .memberAsyncEvent 0 (2 ^ 8) 0 0, .memberAsyncEvent 0 0 (2 ^ 8) 0,
   .memberAsyncEvent 0 0 0 (2 ^ 64), .memberTempPoll 48 0, .memberTempPoll 0 (2 ^ 16), .absentGraceExpiry 48,
   .memAssign hdX 0 0, .memAssign hd 48 0, .memAssign hd 0 (2 ^ 32), .memRetire hdX 0, .memRetire hd 48,
   .memClearFailing hdX 0, .memClearFailing hd 48, .presenceChange 48 false false, .debounceComplete 48,
   .safetyPass [] (2 ^ 32) false [] false false, .safetyPass [] 0 false [140] false false, .partnerRampTimeout 48,
   .railOn 48 false, .rampTimeout 48 false 0 0, .rampTimeout 0 false (2 ^ 32) 0, .rampTimeout 0 false 0 (2 ^ 128)] : List Instr).all (fun i => !i.wf) = true := by decide +kernel
theorem test_wf_refuses5 : (
  [.currentLimitReached 48 false, .limitExit 48 false, .faultTimerExpiry 48 false 0 0, .faultTimerExpiry 0 false (2 ^ 32) 0,
   .faultTimerExpiry 0 false 0 (2 ^ 128), .fastTrip 48 false 0 0, .fastTrip 0 false (2 ^ 32) 0,
   .fastTrip 0 false 0 (2 ^ 128), .srcDischarged 48 false, .retryTimerExpiry 48, .goodTimeExpiry 48,
   .passElementFault 48 false 0 0, .passElementFault 0 false (2 ^ 32) 0, .passElementFault 0 false 0 (2 ^ 128),
   .oringReverse 48 false, .oringDropHigh 48 false 0 0, .oringDropHigh 0 false (2 ^ 32) 0,
   .oringDropHigh 0 false 0 (2 ^ 128), .bayEnableWrite hdX 0 0, .bayEnableWrite hd 48 0, .bayEnableWrite hd 0 (2 ^ 8),
   .perstOffWaitExpiry 48, .bayLimitWrite hdX 0 6 0, .bayLimitWrite hd 48 6 0, .bayLimitWrite hd 0 5 0,
   .bayLimitWrite hd 0 9 0, .bayLimitWrite hd 0 6 (2 ^ 16), .bayClear hdX 0, .bayClear hd 48,
   .shuntCalibration hdX 0 false 0, .shuntCalibration hd 48 false 0, .shuntCalibration hd 0 false (2 ^ 32),
   .shuntCalibrationDone 48 false 0 false, .shuntCalibrationDone 0 false (2 ^ 32) false, .configRequest 128 .vendor none,
   .configRequest 0 .vendor (some (2 ^ 64)), .functionLevelReset 128, .bmeClear 128, .d3hotEntry 128, .fnResume 128,
   .containmentRelease (some hdX) false, .msixUnmask 128 0, .msixUnmask 0 (2 ^ 8), .peerWrite (2 ^ 16) 0 3 0 false false,
   .peerWrite 0 (2 ^ 64) 3 0 false false, .peerWrite 0 0 (2 ^ 32) 0 false false, .peerWrite 0 0 3 (2 ^ 24) false false,
   .peerRead (2 ^ 16) 0 0 3 false, .peerRead 0 (2 ^ 16) 0 3 false, .peerRead 0 0 (2 ^ 64) 3 false,
   .peerRead 0 0 0 (2 ^ 32) false, .windowCommit 64, .pcieCompletion (2 ^ 64) 0 0 0, .pcieCompletion 0 128 0 0,
   .pcieCompletion 0 0 (2 ^ 16) 0, .pcieCompletion 0 0 0 (2 ^ 32768), .completionTimeout (2 ^ 64), .ringDb 128 0,
   .ringDb 0 (2 ^ 16), .ringFetchDone (2 ^ 64) [], .ringFetchDone 0 [2 ^ 512], .nop 2112 0, .nop 0 (2 ^ 16), .nsRead 2112 0,
   .nsRead 0 (2 ^ 16), .nsWrite 2112 0, .nsWrite 0 (2 ^ 16), .eyeRead 2112 0, .eyeRead 0 (2 ^ 16), .eyeWrite 2112 0,
   .eyeWrite 0 (2 ^ 16), .eyeFlush 2112 0, .eyeFlush 0 (2 ^ 16), .ringJobComplete 2112 0, .ringJobComplete 0 (2 ^ 16),
   .ringEnable 128 0 0, .ringEnable 0 (2 ^ 16) 0, .ringEnable 0 0 (2 ^ 64), .ringDisable 128 0 0, .ringDisable 0 (2 ^ 16) 0,
   .ringDisable 0 0 (2 ^ 64), .ringRestart 128 0 0, .ringRestart 0 (2 ^ 16) 0, .ringRestart 0 0 (2 ^ 64),
   .irqHoldoffExpiry 2112, .shuttleEnqueue 128 0 0, .shuttleEnqueue 0 32 0, .shuttleEnqueue 0 0 (2 ^ 64), .shuttleGo 128 0,
   .shuttleGo 0 32] : List Instr).all (fun i => !i.wf) = true := by decide +kernel
theorem test_wf_refuses6 : (
  [.shuttleStop 128 0, .shuttleStop 0 32, .shuttleReset 128 0, .shuttleReset 0 32, .shuttleCqHead 128 0 0,
   .shuttleCqHead 0 32 0, .shuttleCqHead 0 0 (2 ^ 64), .shuttleDescriptorFetched (2 ^ 64) 0,
   .shuttleDescriptorFetched 0 (2 ^ 256), .shuttleDescriptorDone 32, .stageComplete (2 ^ 8) sa, .stageComplete 0 saX, .stageComplete 0 { sa with missing := [2 ^ 64] },
   .bootResetCold hdX, .bootResetWarm hdX, .bootDomainReset hdX 0, .bootDomainReset hd 140, .bootDepart hdX 0,
   .bootDepart hd (2 ^ 32), .fwuBegin hdX, .fwuData hdX [1], .fwuData hd [256], .fwuVerify hdX false false false,
   .fwuActivate hdX, .fwuConfirm hdX, .fwuRaiseSvn hdX false, .watchdogExpiry (2 ^ 8), .telemetryPass [2 ^ 8] 0 0 0,
   .telemetryPass [] (2 ^ 32) 0 0, .telemetryPass [] 0 (2 ^ 32) 0, .telemetryPass [] 0 0 (2 ^ 32), .injection hdX 0 0 0,
   .injection hd 4096 0 0, .injection hd 0 (2 ^ 32) 0, .injection hd 0 0 (2 ^ 32), .injectionOccurrence 4096 0,
   .injectionOccurrence 0 (2 ^ 32), .pfcWatchdogRecovery 8 0, .pfcWatchdogRecovery 0 8, .measurementSample 48 0 0 0 0 0 0,
   .measurementSample 0 0 (2 ^ 32) 0 0 0 0, .measurementSample 0 0 0 0 (2 ^ 32) 0 0, .measurementSample 0 0 0 0 0 (2 ^ 32) 0,
   .measurementSample 0 0 0 0 0 0 (2 ^ 32), .endpointLinkUp (2 ^ 8) 0, .endpointLinkUp 0 (2 ^ 8), .mgmtLinkUp 2,
   .windowUpdatePoint 64, .resyncStripe [clX], .criticalStripe 48 0 [cl], .criticalStripe 0 48 [cl],
   .criticalStripe 0 0 [clX], .relistStripe [clX], .scrubStripe [clX], .proactiveCopyStripe 48 [cl],
   .proactiveCopyStripe 0 [clX], .heartbeat skX 0 0 0 0, .heartbeat sk (2 ^ 8) 0 0 0, .heartbeat sk 0 (2 ^ 8) 0 0,
   .heartbeat sk 0 0 (2 ^ 16) 0, .heartbeat sk 0 0 0 (2 ^ 32), .viewExpiry 32, .joinMsg skX 0 0, .joinMsg sk (2 ^ 64) 0,
   .joinMsg sk 0 (2 ^ 64), .welcome skX 0 0 [], .welcome sk (2 ^ 8) 0 [], .welcome sk 0 (2 ^ 32) [],
   .welcome sk 0 0 [.row 32 0 false 0], .leaveMsg skX, .dirUpdate skX 0 [], .dirUpdate sk (2 ^ 32) [],
   .dirUpdate sk 0 [.row 32 0 false 0], .dirAck skX 0, .dirAck sk (2 ^ 32), .confirmQuery skX 0, .confirmQuery sk 32,
   .confirmReply skX 0 false 0 [], .confirmReply sk 32 false 0 [], .confirmReply sk 0 false (2 ^ 32) [],
   .confirmReply sk 0 false 0 [4096], .takeoverRequest skX 0, .takeoverRequest sk (2 ^ 16), .takeoverNotice skX 0 0,
   .takeoverNotice sk (2 ^ 16) 0, .takeoverNotice sk 0 (2 ^ 16), .handover skX [] 0, .handover sk [4096] 0,
   .handover sk [] (2 ^ 8), .takeoverPreemptDone 48 0 0 [ja], .takeoverPreemptDone 0 (2 ^ 8) 0 [ja]] : List Instr).all (fun i => !i.wf) = true := by decide +kernel
theorem test_wf_refuses7 : (
  [.takeoverPreemptDone 0 0 (2 ^ 64) [ja], .takeoverPreemptDone 0 0 0 [jaX], .twinLinkUp (2 ^ 8), .pair twX 0 0 false 0,
   .pair tw (2 ^ 64) 0 false 0, .pair tw 0 (2 ^ 1) false 0, .pair tw 0 0 false (2 ^ 64), .twinIdle twX, .twinNak twX,
   .mirrorWrite twX fk 0 [cl], .mirrorWrite tw fkX 0 [cl], .mirrorWrite tw fk (2 ^ 64) [cl], .mirrorWrite tw fk 0 [clX],
   .mirrorAck twX [], .mirrorAck tw [2 ^ 64], .mirrorRelease twX [fk], .mirrorRelease tw [fkX], .journalFrame twX [ja],
   .journalFrame tw [jaX], .vaultNotice twX, .keeperFrame twX (.rampAsk 0), .keeperFrame tw (.rampAsk 48),
   .proxyCmd twX 0 0 0 0 0 [], .proxyCmd tw (2 ^ 16) 0 0 0 0 [], .proxyCmd tw 0 48 0 0 0 [], .proxyCmd tw 0 0 (2 ^ 8) 0 0 [],
   .proxyCmd tw 0 0 0 (2 ^ 64) 0 [], .proxyCmd tw 0 0 0 0 (2 ^ 32) [], .proxyCmd tw 0 0 0 0 0 [(2 ^ 32768, 0)],
   .proxyCpl twX 0 0 [], .proxyCpl tw (2 ^ 16) 0 [], .proxyCpl tw 0 (2 ^ 16) [], .proxyCpl tw 0 0 [(2 ^ 32768, 0)],
   .ownMove hdX 0, .ownMove hd 4096, .ownMoveHome hdX, .sknLeave hdX, .sknRejoin hdX] : List Instr).all (fun i => !i.wf) = true := by decide +kernel
end

end Sys2Proof.Tests
end

section
/-!
PROOFS. Power domains (R19 to R22, R30, Table 1-14): what each request and each end of a transition makes of the row.
-/

namespace Sys2Proof.Machine

/-- A command that acts by `f` ends in what `f` makes of the state. -/
theorem exec_ends {i : Instr} {s t : State} {f : State → State} (hi : exec i s = s.act f) (hf : f s = t) :
    exec i s = .next (Ends s t) := hi.trans (State.act_eq s t f hf)

/-! ### What goes ON or OFF: the shared operations -/

/-- A domain that is ON drains once its off condition holds (R22). -/
theorem State.pdOff_of_on {s : State} {r : Nat} (loop : Bool) (hon : (s.pdAt r).st = .on) (hoff : s.offCond r = true) :
    s.pdOff r loop = ((s.pdTo r .draining).updPd r (fun d => { d with byLoop := loop, refused := false }), true) := by
  simp only [State.pdOff, hon, hoff, if_true]

/-- A domain that is OFF wakes, unless it is a plane behind its fence (R22, R332). -/
theorem State.pdOn_of_off {s : State} {r : Nat} (loop : Bool) (hoff : (s.pdAt r).st = .off)
    (hfence : r < 40 ∨ s.isFenced 2 (r - 40) = false) :
    s.pdOn r loop = ((s.pdTo r .waking).updPd r
      (fun d => { d with owner := b2n loop, refused := false, heldOff := false, byLoop := false }), true) := by
  have hno : ¬ (40 ≤ r ∧ s.isFenced 2 (r - 40) = true) := by
    rintro ⟨hr, hf⟩
    rcases hfence with h | h
    · omega
    · simp [h] at hf
  simp only [State.pdOn, hoff, if_neg hno]

/-- A request of the operator on a present row that is switched by request, once the domain takes it (R19, R30). -/
theorem State.pdWrite_taken {s t : State} {r v : Nat} (hp : s.pdPresent r = true) (hr : r < 15 ∨ 28 ≤ r)
    (ht : (if v = 0 then s.pdOff r false else s.pdOn r false) = (t, true)) :
    s.pdWrite r v = (t.setRw Obj.pdRequest r v, 0) := by
  have hok : ¬ (s.pdPresent r = false ∨ (15 ≤ r ∧ r < 28)) := by
    rw [hp]
    rintro (h | h)
    · cases h
    · omega
  simp only [State.pdWrite, if_neg hok, ht, if_true]

/-- Putting units back in service touches their fences alone. -/
theorem State.foldl_fenServe_boot (unit : Nat → Nat) (l : List Nat) (s : State) :
    (l.foldl (fun t i => t.fenServe 10 (unit i)) s).boot = s.boot := by
  induction l generalizing s with
  | nil => rfl
  | cons i l ih => rw [List.foldl_cons, ih, State.fenServe_boot]

@[simp] theorem State.pdServe_boot (s : State) (r : Nat) : (s.pdServe r).boot = s.boot := by
  by_cases h40 : 40 ≤ r
  · rw [State.pdServe, if_pos h40, State.fenServe_boot]
  · by_cases h32 : 32 ≤ r
    · rw [State.pdServe, if_neg h40, if_pos h32, State.foldl_fenServe_boot]
    · by_cases h28 : 28 ≤ r
      · rw [State.pdServe, if_neg h40, if_neg h32, if_pos h28, State.fenServe_boot]
      · rw [State.pdServe, if_neg h40, if_neg h32, if_neg h28]

/-! ### The ends of WAKING and DRAINING outside a domain reset -/

theorem State.domainReady_of_waking {s : State} {r : Nat} (hst : (s.pdAt r).st = .waking) (hr : r < 44)
    (hheld : (s.pdAt r).heldOff = false) (hreset : r ∉ s.boot.domains) :
    s.domainReady r = ((s.pdTo r .on).updPd r (fun d => { d with heldOff := false, byLoop := false })).pdServe r := by
  have hok : ¬ ((s.pdAt r).st ≠ .waking ∨ 44 ≤ r) := not_or.mpr ⟨fun hne => hne hst, by omega⟩
  simp only [State.domainReady, if_neg hok, hheld]
  simp [hreset]

theorem State.domainDrained_of_draining {s : State} {r : Nat} (hst : (s.pdAt r).st = .draining) (hreset : r ∉ s.boot.domains)
    (hcells : r < 40 ∨ ∀ c ∈ s.net.xbar.sent, 40 + c.plane ≠ r) :
    s.domainDrained r =
      ((s.pdTo r .off).updPd r (fun d => { d with owner := b2n d.byLoop })).later (.detect 0x006 0 0 r) := by
  have hok : ¬ ((s.pdAt r).st ≠ .draining ∨ (40 ≤ r ∧ s.net.xbar.sent.any (fun c => 40 + c.plane = r) = true)) := by
    rintro (h | ⟨h40, hany⟩)
    · exact h hst
    · obtain ⟨c, hc, hplane⟩ := List.any_eq_true.mp hany
      rcases hcells with h | h
      · omega
      · exact h c hc (of_decide_eq_true hplane)
  unfold State.domainDrained
  rw [if_neg hok]
  simp [hreset, State.pdEvent, b2n]

theorem State.domainStuck_of_draining {s : State} {r : Nat} (hst : (s.pdAt r).st = .draining) (hreset : r ∉ s.boot.domains)
    (hloop : (s.pdAt r).byLoop = false) :
    s.domainStuck r = (((s.pdTo r .on).updPd r (fun d => { d with refused := true, byLoop := false })).setRw Obj.pdRequest r 1).later
      (.detect 0x006 0 0 (r + 256)) := by
  simp [State.domainStuck, hst, hreset, hloop, State.pdEvent, b2n]

end Sys2Proof.Machine

open Sys2Proof Sys2Proof.Machine

/-- Settles O1: the two requests through `pdWrite_taken`, the three ends of a transition through the lemma of each. -/
theorem powerDomainCommands : Obligations.PowerDomainCommands := by
  unfold Obligations.PowerDomainCommands
  refine ⟨fun h row => ?drain, fun h row => ?wake, fun s row hst hr hheld hreset => ?ready,
    fun s row hst hreset hcells => ?drained, fun s row hst hreset hloop => ?stuck⟩
  case drain =>
    refine WriteRuns.of _ (exec_pdRequest h row 0) fun u _ ⟨hp, hr, hon, hoff⟩ => ?_
    have hw := State.pdWrite_taken (v := 0) hp hr (State.pdOff_of_on false hon hoff)
    rw [State.pdSet, hw]
  case wake =>
    refine WriteRuns.of _ (exec_pdRequest h row 1) fun u _ ⟨hp, hr, hoff, hfence⟩ => ?_
    have hw := State.pdWrite_taken (v := 1) hp hr (State.pdOn_of_off false hoff hfence)
    rw [State.pdSet, hw]
    rfl
  case ready => exact exec_ends (exec_domainReady row s) (State.domainReady_of_waking hst hr hheld hreset)
  case drained => exact exec_ends (exec_domainDrainDone row s) (State.domainDrained_of_draining hst hreset hcells)
  case stuck => exact exec_ends (exec_domainDrainTimeout row s) (State.domainStuck_of_draining hst hreset hloop)
end

section
/-!
PROOFS. The timebase under PTP (R15 to R18), detectors without a rule of their own (R519), notifications (R64) and coalescing
windows (R522).
-/

namespace Sys2Proof.Machine

/-! ### The PTP servo (its gain and its steps are free values: log entries 2 and 33) -/

/-- The frequency adjustment the servo draws. -/
def State.servoAdj (s : State) : Int := (s.fresh % (2 * maxAdj + 1) : Nat) - (maxAdj : Int)

/-- The time after the servo's answer to a measured offset: stepped by it, or as it was. -/
def State.servoNs (s : State) (offset : Int) : Nat :=
  if s.used.fresh % 2 = 1 then ((s.clk.ns : Int) - offset).toNat else s.clk.ns

/-- The adjustment stays within 500 ppm (R15). -/
theorem State.servoAdj_bounds (s : State) : -32768000 ≤ s.servoAdj ∧ s.servoAdj ≤ 32768000 := by
  have hlt : s.fresh % (2 * maxAdj + 1) < 2 * maxAdj + 1 := Nat.mod_lt _ (Nat.succ_pos _)
  simp only [State.servoAdj, maxAdj] at hlt ⊢
  omega

theorem State.servoNs_cases (s : State) (offset : Int) :
    s.servoNs offset = s.clk.ns ∨ s.servoNs offset = ((s.clk.ns : Int) - offset).toNat := by
  by_cases hstep : s.used.fresh % 2 = 1
  · exact .inr (if_pos hstep)
  · exact .inl (if_neg hstep)

/-- A Sync exchange on the chosen port, domain and transport disciplines the running timebase (R16). -/
theorem State.ptpSync_chosen {s : State} {port domain transport : Nat} (offset : Int) (hrun : s.clk.running = true)
    (hsrc : s.rw Obj.timeSource 0 = 1) (hport : port = s.rw Obj.timePtpPort 0) (hdom : domain = s.rw Obj.timePtpDomain 0)
    (htr : transport = s.rw Obj.timePtpTransport 0) :
    s.ptpSync port domain transport offset = { s.used.used with
      clk := { s.clk with ns := s.servoNs offset, freqAdj := s.servoAdj, offset := offset, locked := true } } := by
  unfold State.ptpSync
  rw [if_neg (by simp [hrun, hsrc, hport, hdom, htr])]
  rfl

/-- Loss of lock is declared while locked, and so only once (R18). -/
theorem State.ptpLost_of_locked {s : State} (hl : s.clk.locked = true) :
    s.ptpLost = { s with clk := { s.clk with locked := false }, todo := s.todo ++ [.detect 0x003 0 0 0] } := if_pos hl

/-! ### Detectors without a rule of their own -/

/-- Detectors whose only action is the one of R519: count, record, fence. -/
def plainDets : List Nat :=
  [0x001, 0x002, 0x005, 0x101, 0x102, 0x103, 0x104, 0x201, 0x202, 0x204, 0x205, 0x301, 0x302, 0x304, 0x305, 0x401, 0x403, 0x404,
    0x405, 0x406, 0x501, 0x502, 0x503, 0x505, 0x601, 0x602, 0x801, 0x802, 0x808, 0x901, 0x902, 0x903, 0x904, 0xB01, 0xC01, 0xD02, 0xE01]

/-- No detector that has a rule of its own is one of them. -/
theorem State.occur_of_plain (s : State) {det : Nat} (stype scope detail : Nat) (hd : det ∈ plainDets) :
    s.occur det stype scope detail = s.detect det stype scope detail := by
  unfold State.occur
  split
  case h_24 => rfl -- the arm of every other detector
  all_goals exact absurd hd (by decide)

/-! ### Notifications -/

theorem length_leBytes (n x : Nat) : (leBytes n x).length = n := by
  induction n generalizing x with
  | zero => rfl
  | succ n ih => simp only [leBytes, List.length_cons, ih]

/-- An event record is 32 bytes (Table 16-4). -/
theorem Rec.length_bytes (r : Rec) : r.bytes.length = 32 := by
  simp only [Rec.bytes, List.length_append, length_leBytes, List.length_cons, List.length_nil]

theorem Rec.length_flatten_bytes (l : List Rec) : (l.map Rec.bytes).flatten.length = 32 * l.length := by
  induction l with
  | nil => rfl
  | cons r l ih => simp only [List.map_cons, List.flatten_cons, List.length_append, Rec.length_bytes, ih, List.length_cons]; omega

/-- The body of a notification: subscription, number of records, records lost, the records (R64). -/
def Subn.ntfBody (b : Subn) : Bytes :=
  leBytes 2 b.id ++ leBytes 2 (min 43 b.unsent.length) ++ leBytes 4 b.lost ++ ((b.unsent.take 43).map Rec.bytes).flatten

theorem Subn.length_ntfBody (b : Subn) : b.ntfBody.length = 8 + 32 * min 43 b.unsent.length := by
  simp only [Subn.ntfBody, List.length_append, length_leBytes, Rec.length_flatten_bytes, List.length_take]

/-- The notification of a subscription: its session's next one, authenticated (R56, R64). -/
def Subn.ntf (b : Subn) (x : Session) : Bytes :=
  authed x.ks (hdrBytes 2 0x0C 0 (8 + 32 * min 43 b.unsent.length) x.id 0 0 x.ntfSeq 0 0) b.ntfBody

/-- A subscription with records, on a carrier that takes a notification, sends its 43 oldest (R64). -/
theorem State.sendNtf_of_ready {s : State} {b : Subn} {row : Nat} {x : Session}
    (hb : s.rendi.subs.find? (fun c => c.id = b.id) = some b) (hx : s.findSession b.session = some (row, x)) (hne : b.unsent ≠ [])
    (hready : s.ntfReady x = true) :
    s.sendNtf b.id = State.deliverNtf { s with rendi := { s.rendi with
        sessions := Tbl.set none s.rendi.sessions row (some { x with ntfSeq := wrapAdd 32 x.ntfSeq 1 })
        subs := updWhere (fun c => c.id = b.id) (fun c => { c with unsent := c.unsent.drop 43, lost := 0 }) s.rendi.subs } }
      x (b.ntf x) := by
  unfold State.sendNtf
  simp only [hb, hx, hne, hready, Bool.true_eq_false, or_self, if_false, List.length_take, Subn.ntf, ← Subn.length_ntfBody]
  rfl

/-! ### Coalescing windows -/

/-- The record that ends a coalescing window and reports its repeats (R522). -/
def Coal.report (c : Coal) : Rec :=
  { time := c.time, det := c.det, stype := c.stype, act := 7, inj := c.inj, scope := c.scope, rep := min c.supp 65535
    detail := c.detail }

theorem State.coalesceEnd_of_repeats {s : State} {c : Coal}
    (hc : s.ev.coal.find? (fun d => d.det = c.det ∧ d.stype = c.stype ∧ d.scope = c.scope) = some c) (hn : c.supp ≠ 0) :
    s.coalesceEnd c.det c.stype c.scope = State.record { s with ev := { s.ev with
        coal := updWhere (fun d => d.det = c.det ∧ d.stype = c.stype ∧ d.scope = c.scope) (fun d => { d with supp := 0 }) s.ev.coal } }
      c.report := by
  unfold State.coalesceEnd
  simp only [hc, if_neg hn]
  rfl

end Sys2Proof.Machine

open Sys2Proof Sys2Proof.Machine

/-- Settles O2: each command through the lemma that says what its unit does in that case. -/
theorem timebaseAndEventCommands : Obligations.TimebaseAndEventCommands := by
  unfold Obligations.TimebaseAndEventCommands
  refine ⟨fun s port domain transport offset hrun hsrc hport hdom htr => ?sync, fun s hl => ?lost,
    fun s det stype scope detail hh hd => ?detect, fun s b row x hb hx hne hready => ?notify, fun s c hc hn => ?window⟩
  case sync =>
    obtain ⟨hlo, hhi⟩ := s.servoAdj_bounds
    exact ⟨s.servoNs offset, s.servoAdj, hlo, hhi, s.servoNs_cases offset,
      exec_ends (exec_ptpSync port domain transport offset s) (State.ptpSync_chosen offset hrun hsrc hport hdom htr)⟩
  case lost => exact exec_ends (exec_ptpLockLost s) (State.ptpLost_of_locked hl)
  case detect =>
    have hocc : s.detection det stype scope detail = s.occur det stype scope detail := if_pos hh
    exact exec_ends (exec_detection det stype scope detail s) (hocc.trans (s.occur_of_plain stype scope detail hd))
  case notify => exact exec_ends (exec_notifyTimerExpiry b.id s) (State.sendNtf_of_ready hb hx hne hready)
  case window => exact exec_ends (exec_coalesceWindowExpiry c.det c.stype c.scope s) (State.coalesceEnd_of_repeats hc hn)
end

section
/-!
PROOFS. Resets and departures (R8, R159, R385, R488 to R491, R499), and the state after reset.
-/

namespace Sys2Proof.Machine

/-- An ACTION whose argument is the only one its object lists acts by `op` and answers (R7). -/
theorem ActionRuns.of_actionReq {i : Instr} {h : Hdr} {code row arg : Nat} {ok : State → Prop} {f : State → State}
    (op : State → State) (hi : ∀ s, exec i s = s.act (fun t => t.actionReq h code row arg true op)) (hop : ∀ u, ok u → op u = f u) :
    ActionRuns i h code row arg ok f :=
  ActionRuns.of (fun u => (op u, 0)) hi fun u hu => by rw [hop u hu]

/-! ### Drains and the resets that follow them (R159, R489) -/

/-- In S7 a commanded reset first drains: every FILLING stripe destages. -/
theorem State.drainFor_of_serving {s : State} (code : Nat) (cold : Bool) (hwait : s.boot.wait = .none) (h7 : s.inS7 = true)
    (hhalt : s.cntAt Obj.bootHalted 0 ≠ 1) (hmsq : s.msq.st ≠ .halted) :
    s.drainFor code cold = { s.triggerAll with boot := { s.boot with wait := .drain code cold } } := by
  unfold State.drainFor
  rw [if_neg (by simp [hwait]), if_neg (by simp [h7, hhalt, hmsq])]

/-- Below S7 there is nothing to drain: a cold reset starts at once. -/
theorem State.drainFor_cold_below_s7 {s : State} (code : Nat) (hwait : s.boot.wait = .none) (h7 : s.inS7 = false) :
    s.drainFor code true = s.mainReset code false := by
  unfold State.drainFor
  rw [if_neg (by simp [hwait]), if_pos (.inl h7), if_pos rfl]

theorem State.drainOver_warm {s : State} {code : Nat} (hwait : s.boot.wait = .drain code false) :
    s.drainOver = s.quiesce.retain.warmReset code := by simp only [State.drainOver, hwait]

theorem State.drainOver_cold_without_vault {s : State} {code : Nat} (hwait : s.boot.wait = .drain code true)
    (hvault : s.rw Obj.vaultEnable 0 = 0) : s.drainOver = s.quiesce.mainReset code false := by
  simp only [State.drainOver, hwait, hvault, true_or, if_true]

theorem State.drainOver_idle {s : State} (hwait : s.boot.wait = .none) : s.drainOver = s := by
  simp only [State.drainOver, hwait]

theorem State.bootReset_of_staying {s : State} (cold : Bool) (hd : s.boot.depart = none) :
    s.bootReset cold = (s.actRun Obj.bootReset 0).drainFor (if cold then 2 else 4) cold := by
  simp only [State.bootReset, hd, Option.isSome_none, Bool.false_eq_true, if_false]

theorem State.bootReset_of_departing {s : State} {d : Depart} (cold : Bool) (hd : s.boot.depart = some d) :
    s.bootReset cold = s.actFail Obj.bootReset 0 1 := by
  simp only [State.bootReset, hd, Option.isSome_some, if_true]

/-! ### Resets by a pin (R385, R488, Table 15-6) -/

theorem State.vauxLow_of_vaux {s : State} (hv : s.boot.vaux = true) :
    s.vauxLow = State.mainReset { s.skamoReset with
      boot := { s.skamoReset.boot with vaux := false }, clk := { s.skamoReset.clk with sk := 0 } } 0 false := by
  simp only [State.vauxLow, hv, Bool.true_eq_false, if_false]

theorem State.vauxLow_without_vaux {s : State} (hv : s.boot.vaux = false) : s.vauxLow = s := by
  simp only [State.vauxLow, hv, if_true]

theorem State.pwronLow_of_running {s : State} (hp : s.boot.pwron = false) :
    s.pwronLow = State.mainReset { s with boot := { s.boot with pwron := true } } 1 false := by
  simp only [State.pwronLow, hp, Bool.false_eq_true, if_false]

theorem State.warmEdge_of_running {s : State} (hp : s.boot.pwron = false) (hv : s.boot.vaux = true)
    (hst : s.cntAt Obj.bootStage 0 ≠ 0) : s.warmEdge = s.drainFor 3 false := by
  unfold State.warmEdge
  rw [if_neg (by simp [hp, hv, hst])]

/-! ### Domain resets (R491) -/

/-- The present row of a unit with links, ON, drains for its own reset; its links go down at once. -/
theorem State.domainReset_of_on {s : State} {row : Nat} (hp : s.pdPresent row = true) (hr : row < 15)
    (hon : (s.pdAt row).st = .on) (hfree : s.boot.domains = []) :
    s.domainReset row = ((State.actRun (State.pdTo { s with boot := { s.boot with domains := [row] } } row .draining)
      Obj.bootDomainReset 0).domainStop row, 0) := by
  unfold State.domainReset
  rw [if_neg (by simp [hp]), if_neg (by omega), if_neg (by omega), if_neg (by simp [hon, hfree])]

/-- The endpoint, the DRAM channels and the planes have no reset of their own. -/
theorem State.domainReset_refused {s : State} {row : Nat} (hp : s.pdPresent row = true) (hr : 15 ≤ row ∧ row < 28 ∨ 40 ≤ row) :
    s.domainReset row = (s.actFail Obj.bootDomainReset 0 1, 0) := by
  unfold State.domainReset
  rw [if_neg (by simp [hp]), if_pos hr]

/-! ### Planned departure (R499) -/

/-- Without a partner a departure destages every FILLING stripe and reports the access change of its own namespaces. -/
theorem State.departOp_alone {s : State} (arg : Nat) (hd : s.boot.depart = none) (hwait : s.boot.wait = .none)
    (hhold : s.boot.hold = false) (hp : s.skn.present = false) :
    s.departOp arg = s.ownNss.foldl (fun v n => v.later (.ana n))
      ((State.actRun { s with boot := { s.boot with depart := some { arg := arg } } } Obj.bootDepart 0).triggerAll) := by
  simp only [State.departOp, hd, hwait, hhold, hp, Option.isSome_none, Bool.false_eq_true, ne_eq, not_true_eq_false, or_self,
    false_and, if_false]

/-- The state once the grace of a departure is over: Ethernet links down, service closed, the action done. -/
def State.departed (s : State) : State :=
  State.actDone { s.ethAllDown with boot := { s.ethAllDown.boot with svcOpen := false, depart := none, hold := true } } Obj.bootDepart 0

theorem State.departEnd_of_grace {s : State} {d : Depart} (hd : s.boot.depart = some d) (hg : d.grace = true) :
    s.departEnd = (if d.arg = 1 then s.departed.drainFor 7 true else if d.arg = 2 then s.departed.drainFor 7 false else s.departed) := by
  simp only [State.departEnd, hd, hg, Bool.true_eq_false, if_false]
  rfl

end Sys2Proof.Machine

open Sys2Proof Sys2Proof.Machine

/-- Settles O43: each command through the lemma that says which reset, drain or end it starts. -/
theorem resetCommands : Obligations.ResetCommands := by
  unfold Obligations.ResetCommands
  refine ⟨?vaux, fun s hp => ?pwron, fun s hp hv hst => ?warmEdge, fun h => ?cold, fun h => ?warm, fun h d => ?departing,
    fun s code cold hwait => ?drain, fun s code => ?drained, fun h row t ht => ?domain, fun h row => ?noDomain,
    fun h arg h1 h3 => ?depart, fun s t d hd hg ht => ?departed⟩
  case vaux =>
    rintro s _ rfl
    exact ⟨fun hv => exec_ends (exec_vauxUndervoltage s) (State.vauxLow_of_vaux hv),
      fun hv => exec_ends (exec_vauxUndervoltage s) (State.vauxLow_without_vaux hv)⟩
  case pwron => exact exec_ends (exec_pwronRstAssert s) (State.pwronLow_of_running hp)
  case warmEdge => exact exec_ends (exec_warmRstEdge s) (State.warmEdge_of_running hp hv hst)
  case cold => exact ActionRuns.of_actionReq _ (exec_bootResetCold h) fun u hu => State.bootReset_of_staying true hu
  case warm => exact ActionRuns.of_actionReq _ (exec_bootResetWarm h) fun u hu => State.bootReset_of_staying false hu
  case departing => exact ActionRuns.of_actionReq _ (exec_bootResetCold h) fun u hu => State.bootReset_of_departing true hu
  case drain =>
    exact ⟨fun h7 hhalt hmsq => State.drainFor_of_serving code cold hwait h7 hhalt hmsq,
      fun h7 => State.drainFor_cold_below_s7 code hwait h7⟩
  case drained =>
    exact ⟨fun hw => exec_ends (exec_preResetDrainDone s) (State.drainOver_warm hw),
      fun hw hv => exec_ends (exec_preResetDrainDone s) (State.drainOver_cold_without_vault hw hv),
      fun hw => exec_ends (exec_preResetDrainDone s) (State.drainOver_idle hw)⟩
  case domain =>
    refine ActionRuns.of _ (exec_bootDomainReset h row) fun u ⟨hp, hr, hon, hfree⟩ => ?_
    rw [ht u]
    exact State.domainReset_of_on hp hr hon hfree
  case noDomain =>
    exact ActionRuns.of _ (exec_bootDomainReset h row) fun u ⟨hp, hr⟩ => State.domainReset_refused hp hr
  case depart =>
    refine ActionRuns.of _ (exec_bootDepart h arg) fun u ⟨hd, hwait, hhold, hp⟩ => ?_
    rw [State.actDepart, if_pos ⟨h1, h3⟩, State.departOp_alone arg hd hwait hhold hp]
  case departed =>
    subst ht
    exact exec_ends (exec_departGraceExpiry s) (State.departEnd_of_grace hd hg)
end

section
/-!
PROOFS. What a reset of the main die leaves of the Skamo die (R8, R385; its clock: log entry 34), and the state after reset.
-/

namespace Sys2Proof.Machine

/-! ### The Skamo die through resets of the main die -/

@[simp] theorem State.mainReset_bayCh (s : State) (code : Nat) (warm : Bool) : (s.mainReset code warm).bayCh = s.bayCh := rfl
@[simp] theorem State.mainReset_sk (s : State) (code : Nat) (warm : Bool) : (s.mainReset code warm).clk.sk = s.clk.sk := rfl
@[simp] theorem State.mainReset_vaux (s : State) (code : Nat) (warm : Bool) : (s.mainReset code warm).boot.vaux = s.boot.vaux := rfl

/-- A warm reset, also one from HALTED, is a reset of the main die alone. -/
theorem State.warmReset_skamo (s : State) (code : Nat) :
    (s.warmReset code).bayCh = s.bayCh ∧ (s.warmReset code).clk.sk = s.clk.sk := by
  by_cases hmsq : s.msq.st = .halted
  · rw [State.warmReset, if_pos hmsq]
    exact ⟨State.mainReset_bayCh _ _ _, State.mainReset_sk _ _ _⟩
  · rw [State.warmReset, if_neg hmsq]
    exact ⟨State.mainReset_bayCh _ _ _, State.mainReset_sk _ _ _⟩

theorem State.tick_sk (s : State) : s.tick.clk.sk = (if s.boot.vaux then s.clk.sk + 1 else s.clk.sk) := rfl

/-- The fall of VAUX resets the Skamo die: its channels keep their pins alone, its clock stands at 0. -/
theorem State.vauxLow_skamo {s : State} (hv : s.boot.vaux = true) :
    s.vauxLow.clk.sk = 0 ∧ s.vauxLow.boot.vaux = false
      ∧ s.vauxLow.bayCh = Tbl.mapRows {} (fun _ (x : Bay) => { a := x.a, b := x.b }) s.bayCh := by
  rw [State.vauxLow_of_vaux hv]
  simp only [State.mainReset_bayCh, State.mainReset_sk, State.mainReset_vaux]
  exact ⟨trivial, trivial, rfl⟩

/-! ### The state after reset: every table but that of the reported values is empty -/

theorem State.reset_rw (code row : Nat) : State.reset.rw code row = dfltOf code row := rfl
theorem State.reset_pd (r : Nat) : Tbl.get {} State.reset.pd r = {} := rfl
theorem State.reset_bay (n : Nat) : State.reset.bay n = {} := rfl
theorem State.reset_mem (b : Nat) : State.reset.mem b = {} := rfl
theorem State.reset_isFenced (stype id : Nat) : State.reset.isFenced stype id = false := rfl
theorem State.reset_qp (q : Nat) : State.reset.qp q = {} := rfl
theorem State.reset_eye (e : Nat) : State.reset.eye e = {} := rfl
theorem State.reset_ring (r : Nat) : State.reset.ring r = {} := rfl
theorem State.reset_chan (c : Nat) : State.reset.chan c = {} := rfl
theorem State.reset_findSession (id : Nat) : State.reset.findSession id = none := rfl

/-- The reported values that differ from 0 (Tables 16-5 and 5-9), and the stage S0 among those that do not (R480, R481). -/
theorem State.reset_cntAt :
    State.reset.cntAt Obj.bootStage 0 = 0 ∧ State.reset.cntAt Obj.bootHalted 0 = 0
      ∧ State.reset.cntAt Obj.thermSensors 0 = 0xFFFF ∧ State.reset.cntAt Obj.lblComplete 0 = 1 := by decide

end Sys2Proof.Machine

open Sys2Proof Sys2Proof.Machine

/-- Settles O53: `mainReset` carries the Skamo die over as it was; the fall of VAUX resets it first. -/
theorem skamoKeepsItsChannels : Obligations.SkamoKeepsItsChannels :=
  ⟨fun s code warm => ⟨s.mainReset_bayCh code warm, s.mainReset_sk code warm⟩, State.warmReset_skamo, State.tick_sk,
    fun _ hv => State.vauxLow_skamo hv⟩

/-- Settles O48: the reported values one by one; every other row reads as the default of its table. -/
theorem resetLeaves : Obligations.ResetLeaves := by
  unfold Obligations.ResetLeaves
  obtain ⟨hstage, hhalted, hsensors, hlabel⟩ := State.reset_cntAt
  refine ⟨rfl, rfl, rfl, hstage, hhalted, ?serving, hsensors, hlabel, rfl, rfl, rfl, State.reset_rw, fun r => ?pd, fun n => ?bay,
    fun n => ?mem, State.reset_isFenced, fun q => ?qp, fun e => ?eye, fun r => ?ring, fun c => ?chan, State.reset_findSession⟩
  case serving => rw [State.inS7, hstage]; rfl
  case pd => rw [State.reset_pd]
  case bay => rw [State.reset_bay]; exact ⟨rfl, rfl⟩
  case mem => rw [State.reset_mem]; exact ⟨rfl, rfl⟩
  case qp => rw [State.reset_qp]
  case eye => rw [State.reset_eye]
  case ring => rw [State.reset_ring]; exact ⟨rfl, rfl, rfl⟩
  case chan => rw [State.reset_chan]
end

section
/-!
PROOFS. Bodies of items (R51): what is sent for an item reads back as the item.
-/

namespace Sys2Proof.Machine

/-- A number that fits its little-endian field is read back from it. -/
theorem leNat_leBytes {n x : Nat} (h : x < 256 ^ n) : leNat (leBytes n x) = x := by
  induction n generalizing x with
  | zero => exact (Nat.lt_one_iff.mp h).symm
  | succ n ih =>
    have hq : x / 256 < 256 ^ n := Nat.div_lt_of_lt_mul (by rwa [Nat.pow_succ, Nat.mul_comm] at h)
    simp only [leBytes, leNat, ih hq]
    omega

theorem length_pad4 (n : Nat) : (pad4 n).length = (4 - n % 4) % 4 := List.length_replicate

/-- Every field of the item is within its width, and `LEN` is the length of its value (R51). -/
def ItemFits (i : Item) : Prop :=
  i.idx < 2 ^ 16 ∧ i.sub < 2 ^ 8 ∧ i.flags < 2 ^ 8 ∧ i.row < 2 ^ 32 ∧ i.stat < 2 ^ 8 ∧ i.len = i.value.length ∧ i.len < 2 ^ 16

/-- The 12 bytes in front of an item's value. -/
def itemHead (i : Item) : Bytes :=
  leBytes 2 i.idx ++ [i.sub % 256, i.flags % 256] ++ leBytes 4 i.row ++ leBytes 2 i.len ++ [i.stat % 256, 0]

theorem length_itemHead (i : Item) : (itemHead i).length = 12 := rfl

theorem itemBytes_eq (i : Item) : itemBytes i = itemHead i ++ (i.value ++ pad4 i.value.length) := by
  simp only [itemBytes, itemHead, List.append_assoc]

theorem length_itemBytes (i : Item) : (itemBytes i).length = 12 + i.value.length + (4 - i.value.length % 4) % 4 := by
  simp only [itemBytes_eq, List.length_append, length_itemHead, length_pad4]
  omega

theorem itemBytes_ne_nil (i : Item) : itemBytes i ≠ [] :=
  List.ne_nil_of_length_pos (by rw [length_itemBytes]; omega)

/-- Each field of an item at the front of a body is read from its place (R51). -/
theorem itemHead_fields {i : Item} (hi : ItemFits i) (b : Bytes) :
    leNat ((itemHead i ++ b).take 2) = i.idx ∧ (itemHead i ++ b).getD 2 0 = i.sub ∧ (itemHead i ++ b).getD 3 0 = i.flags
      ∧ leNat (((itemHead i ++ b).drop 4).take 4) = i.row ∧ leNat (((itemHead i ++ b).drop 8).take 2) = i.len
      ∧ (itemHead i ++ b).getD 10 0 = i.stat ∧ (itemHead i ++ b).drop 12 = b := by
  obtain ⟨hidx, hsub, hflags, hrow, hstat, -, hlen⟩ := hi
  exact ⟨leNat_leBytes (n := 2) hidx, Nat.mod_eq_of_lt hsub, Nat.mod_eq_of_lt hflags, leNat_leBytes (n := 4) hrow, leNat_leBytes (n := 2) hlen,
    Nat.mod_eq_of_lt hstat, rfl⟩

/-- The first item of a body is read as what was sent, and the reading goes on behind its padding. -/
theorem decItems_itemBytes_append {i : Item} (hi : ItemFits i) (n : Nat) (b : Bytes) :
    decItems (n + 1) (itemBytes i ++ b) = (decItems n b).map (fun r => i :: r) := by
  obtain ⟨hidx, hsub, hflags, hrow, hlen, hstat, hbody⟩ := itemHead_fields hi (i.value ++ pad4 i.value.length ++ b)
  obtain ⟨-, -, -, -, -, hlv, -⟩ := hi
  have hall : itemBytes i ++ b = itemHead i ++ (i.value ++ pad4 i.value.length ++ b) := by rw [itemBytes_eq, List.append_assoc]
  have hbytes : (itemBytes i ++ b).length = 12 + i.len + (4 - i.len % 4) % 4 + b.length := by
    rw [List.length_append, length_itemBytes, ← hlv]
  have hrest : (itemBytes i ++ b).drop (12 + i.len + (4 - i.len % 4) % 4) = b := by
    rw [hlv, ← length_itemBytes, List.drop_left]
  have hvalue : (i.value ++ pad4 i.value.length ++ b).take i.len = i.value := by
    rw [hlv, List.append_assoc, List.take_left]
  have hne : itemBytes i ++ b ≠ [] := fun h => itemBytes_ne_nil i (List.append_eq_nil_iff.mp h).1
  rw [← hall] at hidx hsub hflags hrow hlen hstat hbody
  rw [decItems, if_neg (by omega)]
  case x_2 => exact hne
  simp only [hlen]
  rw [if_neg (by omega), hrest, hidx, hsub, hflags, hrow, hstat, hbody, hvalue]

theorem decItems_encItems {l : List Item} {n : Nat} (hn : l.length ≤ n) (hl : ∀ i ∈ l, ItemFits i) : decItems n (encItems l) = some l := by
  induction l generalizing n with
  | nil => cases n <;> rfl
  | cons i l ih =>
    obtain ⟨m, rfl⟩ : ∃ m, n = m + 1 := Nat.exists_eq_succ_of_ne_zero (by rw [List.length_cons] at hn; omega)
    have htail : decItems m (encItems l) = some l := ih (Nat.le_of_succ_le_succ hn) fun j hj => hl j (List.mem_cons_of_mem i hj)
    calc decItems (m + 1) (encItems (i :: l))
        = (decItems m (encItems l)).map (fun r => i :: r) := decItems_itemBytes_append (hl i List.mem_cons_self) m _
      _ = some (i :: l) := by rw [htail]; rfl

end Sys2Proof.Machine

open Sys2Proof Sys2Proof.Machine

/-- Settles O55: by induction on the list of items. -/
theorem itemsReadBack : Obligations.ItemsReadBack := fun _ _ hn hl => decItems_encItems hn hl
end

section
/-!
PROOFS. The window of request numbers of a session (R57).
-/

namespace Sys2Proof.Machine

/-- The number `n` is spent: no number above the highest accepted one, and still listed while the window holds it (R57). -/
def Session.spent (x : Session) (n : Nat) : Prop := n ≤ x.hi ∧ (x.hi < n + 64 → n ∈ x.accepted)

theorem Session.accept_hi (x : Session) (seq now : Nat) : (x.accept seq now).hi = max x.hi seq := rfl

theorem Session.mem_accept (x : Session) (seq now n : Nat) :
    n ∈ (x.accept seq now).accepted ↔ (n = seq ∨ n ∈ x.accepted) ∧ max x.hi seq < n + 64 := by
  simp only [Session.accept, List.mem_filter, List.mem_cons, decide_eq_true_eq]

theorem Session.spent_accept_self (x : Session) (seq now : Nat) : (x.accept seq now).spent seq :=
  ⟨Nat.le_max_right _ _, fun hwin => (x.mem_accept seq now seq).mpr ⟨.inl rfl, hwin⟩⟩

/-- Accepting another number moves the window upward only, so a spent number stays spent. -/
theorem Session.spent_accept {x : Session} {n : Nat} (h : x.spent n) (seq now : Nat) : (x.accept seq now).spent n := by
  obtain ⟨hle, hmem⟩ := h
  refine ⟨Nat.le_trans hle (Nat.le_max_left _ _), fun hwin => (x.mem_accept seq now n).mpr ⟨.inr (hmem ?_), hwin⟩⟩
  exact Nat.lt_of_le_of_lt (Nat.le_max_left _ _) hwin

theorem Session.spent_foldl_accept {n : Nat} (l : List (Nat × Nat)) {x : Session} (h : x.spent n) :
    (l.foldl (fun y e => y.accept e.1 e.2) x).spent n := by
  induction l generalizing x with
  | nil => exact h
  | cons e l ih => exact ih (spent_accept h e.1 e.2)

theorem Session.accepts_eq_false_of_spent {x : Session} {n : Nat} (h : x.spent n) : x.accepts n = false := by
  obtain ⟨hle, hmem⟩ := h
  have habove : ¬ x.hi < n := Nat.not_lt.mpr hle
  by_cases hwin : x.hi < n + 64
  · simp [Session.accepts, habove, hmem hwin]
  · simp [Session.accepts, habove, hwin]

end Sys2Proof.Machine

open Sys2Proof Sys2Proof.Machine

/-- Settles O57: an accepted number is spent, every later acceptance keeps it so, and a spent number is refused. -/
theorem seqAcceptedOnce : Obligations.SeqAcceptedOnce := fun x seq now l =>
  Session.accepts_eq_false_of_spent (Session.spent_foldl_accept l (x.spent_accept_self seq now))
end

section
/-!
PROOFS. The access codes of the object dictionary (R35).
-/

namespace Sys2Proof.Machine

/-- Every descriptor stands in the object table. -/
theorem findDesc_mem_objTable {code : Nat} {d : Desc} (h : findDesc code = some d) : ∃ e ∈ objTable, d ∈ e.2.2 := by
  unfold findDesc objsOf at h
  cases hf : objTable.find? (fun e => e.1 = code / 256) with
  | none => rw [hf] at h; exact absurd h (by simp)
  | some e =>
    rw [hf] at h
    exact ⟨e, List.mem_of_find?_eq_some hf, List.mem_of_find?_eq_some h⟩

theorem objTable_act_iff_action : ∀ e ∈ objTable, ∀ d ∈ e.2.2, (d.acc = .act ↔ d.ty = .action) := by decide +kernel

end Sys2Proof.Machine

open Sys2Proof Sys2Proof.Machine

/-- Settles O59: every descriptor of the object table has the property. -/
theorem actionAccessIsActionType : Obligations.ActionAccessIsActionType := fun _ d hd =>
  let ⟨e, he, hmem⟩ := findDesc_mem_objTable hd
  objTable_act_iff_action e he d hmem
end

section
/-!
PROOFS. Rendi sessions: handshake, close, keys and timers (R55, R58 to R60).
-/

namespace Sys2Proof.Machine

/-! ### Handshake (R55) -/

/-- A HELLO that is admitted, well formed and names a usable key leaves a half-open session and is answered. -/
theorem State.helloOp_admitted {s : State} {h : Hdr} {slot level lv : Nat} {nonce k : Bytes} (hadm : s.admitHead h 0x01 20 = none)
    (hsess : h.session = 0) (hseq : h.seq = 0) (hauth : h.auth = zeros 16) (hnonce : nonce.length = 16) (hlo : 1 ≤ level)
    (hhi : level ≤ 3) (hkey : s.helloKey h slot = some (k, lv)) (hroom : s.rendi.half.length < 32) :
    s.helloOp h slot level nonce = State.respondBare
      { s.used.used with rendi := { s.rendi with half := s.rendi.half ++
        [⟨s.newId, level, slot, h.carrier, sessionKey k nonce (leBytes 16 s.used.fresh) s.newId⟩] } }
      h 0x01 0 0 (leBytes 16 s.used.fresh ++ leBytes 2 s.newId ++ [0, 0]) := by
  have hform : ¬ (h.session ≠ 0 ∨ h.seq ≠ 0 ∨ h.auth ≠ zeros 16 ∨ nonce.length ≠ 16 ∨ level = 0 ∨ 3 < level) := by
    simp only [hsess, hseq, hauth, hnonce, ne_eq, not_true_eq_false, false_or]
    omega
  simp only [State.helloOp, hadm, if_neg hform, hkey, if_neg (Nat.not_le.mpr hroom)]

/-- The session that an OPEN makes of a half-open one. -/
def State.opened (s : State) (h : Hdr) (x : HalfOpen) : Session :=
  ⟨x.id, s.grant x, h.carrier, x.slot, x.ks, h.dport, h.src, 1, [1], [], 1, s.clk.ns⟩

/-- The state once an OPEN has put its session in a row, before the key's use is counted. -/
def State.withOpened (s : State) (h : Hdr) (x : HalfOpen) (row : Nat) : State :=
  (State.putSession { s with rendi := { s.rendi with half := s.rendi.half.filter (fun z => z.id ≠ x.id) } } row
    (some (s.opened h x))).addCnt 64 Obj.rendiRxOk 0 1

/-- An OPEN with the right `AUTH` and `SEQ` turns its half-open session into a session. -/
theorem State.openOp_authentic {s : State} {h : Hdr} {x : HalfOpen} {row : Nat} (hadm : s.admitHead h 0x02 0 = none)
    (hhalf : s.rendi.half.find? (fun z => z.id = h.session) = some x) (hseq : h.seq = 1) (hgrant : s.grant x ≠ 0)
    (hrow : s.freeSession = some row)
    (hauth : ((authed x.ks (hdrBytes 0 0x02 0 0 h.session 0 0 h.seq h.rtag (b2n h.pend)) []).drop 16).take 16 = h.auth) :
    s.openOp h = (if x.slot < 8 then (s.withOpened h x row).addCnt 32 Obj.keyUses x.slot 1 else s.withOpened h x row).finish
      h 0x02 (s.opened h x) { body := [s.grant x, 0, 0, 0] } := by
  have hgood : ¬ (((authed x.ks (hdrBytes 0 0x02 0 0 h.session 0 0 h.seq h.rtag (b2n h.pend)) []).drop 16).take 16 ≠ h.auth
      ∨ s.grant x = 0) := not_or.mpr ⟨fun hbad => hbad hauth, hgrant⟩
  simp only [State.openOp, hadm, hhalf, if_neg hgood, if_neg (fun hbad : h.seq ≠ 1 => hbad hseq), hrow]
  rfl

/-! ### Ends of sessions (R58) -/

theorem State.closeSession_of_open {s : State} {row : Nat} {x : Session} (hx : Tbl.get none s.rendi.sessions row = some x) :
    s.closeSession row = { s with rendi := { s.rendi with
      sessions := Tbl.set none s.rendi.sessions row none, subs := s.rendi.subs.filter (fun b => b.session ≠ x.id) } } := by
  simp only [State.closeSession, hx]

theorem State.idleEnd_of_idle {s : State} {row : Nat} {x : Session} (hx : Tbl.get none s.rendi.sessions row = some x)
    (hidle : x.since + s.rw Obj.rendiIdleTimeout 0 * 1000000000 ≤ s.clk.ns) : s.idleEnd row = s.closeSession row := by
  simp only [State.idleEnd, hx, if_pos hidle]

theorem State.closeMsg_of_takes {s : State} {h : Hdr} {row : Nat} {x : Session} (htake : s.takes h 0x03 [] row x) :
    s.closeMsg h = ((s.accepted h row x).finish h 0x03 x {}).closeSession row := by
  unfold State.takes at htake
  simp only [State.closeMsg, htake]

theorem State.sessCloseOp_of_open {s : State} {row : Nat} (hx : (Tbl.get none s.rendi.sessions row).isSome = true) :
    s.sessCloseOp row = (s.actDone Obj.sessClose row).closeSession row := by
  obtain ⟨x, hx⟩ := Option.isSome_iff_exists.mp hx
  simp only [State.sessCloseOp, hx]

/-- An empty `key.value` clears the key (log entry 15) and closes the sessions of its slot (R58). -/
theorem State.keySet_empty (s : State) (x : Session) (row : Nat) :
    s.keySet x row 0 = ((s.putRw Obj.keyValue row 0).closeSessions (fun y => y.kslot = row), 0) := by
  have hkey : unwrapKey x row 0 = some 0 := if_pos rfl
  simp only [State.keySet, hkey]

end Sys2Proof.Machine

open Sys2Proof Sys2Proof.Machine

/-- Settles O3: the handshake, each end of a session and each key write through the lemma that says what it does. -/
theorem sessionCommands : Obligations.SessionCommands := by
  unfold Obligations.SessionCommands
  refine ⟨fun s h slot level nonce k lv hadm hsess hseq hauth hnonce hlo hhi hkey hroom => ?hello,
    fun s v h x row y hadm hhalf hseq hgrant hrow hauth hy hv => ?open_, fun s h row x htake => ?close, fun s id => ?halfOpen,
    fun s row x hx hidle => ?idle, fun h row => ?sessClose, fun h row => ?keyValue, fun h row level hlevel => ?keyLevel⟩
  case hello =>
    exact exec_ends (exec_hello h slot level nonce s) (State.helloOp_admitted hadm hsess hseq hauth hnonce hlo hhi hkey hroom)
  case open_ =>
    subst hv hy
    exact exec_ends (exec_openReq h s) (State.openOp_authentic hadm hhalf hseq hgrant hrow hauth)
  case close => exact exec_ends (exec_closeReq h s) (State.closeMsg_of_takes htake)
  case halfOpen => exact exec_ends (exec_halfOpenExpiry id s) rfl
  case idle =>
    exact exec_ends (exec_sessionIdleTimeout row s) ((State.idleEnd_of_idle hx hidle).trans (State.closeSession_of_open hx))
  case sessClose => exact ActionRuns.of_actionReq _ (exec_sessClose h row) fun u hu => State.sessCloseOp_of_open hu
  case keyValue => exact WriteRuns.of _ (exec_keyValueWrite h row []) fun u x _ => u.keySet_empty x row
  case keyLevel =>
    refine WriteRuns.of (fun u _ v => u.keyLevelSet row v) (fun s => ?_) fun u _ _ => rfl
    rw [exec_keyLevelWrite, Nat.mod_eq_of_lt hlevel]
end

section
/-!
PROOFS. Requests of a session: READ, WRITE, COMMIT and subscriptions (R41 to R43, R53, R63).
-/

namespace Sys2Proof.Machine

/-- A request that is accepted and answered at once by `f`. -/
theorem State.request_answered {s t : State} {h : Hdr} {op r : Nat} {body : Bytes} {x : Session} {a : Reply}
    {f : State → Nat → Session → State × Option Reply} (htake : s.takes h op body r x)
    (hf : f (s.accepted h r x) r x = (t, some a)) : s.request h op body f = t.finish h op x a := by
  unfold State.takes at htake
  simp only [State.request, htake, hf]

/-- A request that is accepted and whose answer comes later. -/
theorem State.request_deferred {s t : State} {h : Hdr} {op r : Nat} {body : Bytes} {x : Session}
    {f : State → Nat → Session → State × Option Reply} (htake : s.takes h op body r x)
    (hf : f (s.accepted h r x) r x = (t, none)) : s.request h op body f = t := by
  unfold State.takes at htake
  simp only [State.request, htake, hf]

/-! ### READ and WRITE (R53) -/

theorem State.readMsg_of_takes {s : State} {h : Hdr} {items : List Item} {r : Nat} {x : Session}
    (htake : s.takes h 0x08 (encItems items) r x) (hn : items.length ≤ 64) :
    s.readMsg h items = (s.accepted h r x).finish h 0x08 x (itemsReply
      (fitItems (bodyMax h.carrier - 12 * items.length) (items.map (fun i => (i, (s.accepted h r x).readItem h.pend x i))))) :=
  State.request_answered htake (if_neg (Nat.not_lt.mpr hn))

/-- A value written to an RWC object that its chapter does not refuse at once is pending (R41). -/
theorem State.writeValue_of_rwc (s : State) (x : Session) {code : Nat} (row v : Nat) (hacc : accOf code = .rwc)
    (hplain : code ∉ [Obj.dlinkBond, Obj.bayShunt12, Obj.bayShunt33, Obj.fwuData]) :
    s.writeValue x code row v = some (s.putPend code row v, 0) := by
  simp only [List.mem_cons, List.not_mem_nil, or_false, not_or] at hplain
  obtain ⟨hbond, h12, h33, hfwu⟩ := hplain
  simp only [State.writeValue, State.pendRule, hfwu, hacc, hbond, h12, h33, false_and, if_false, if_true]

/-- A body of one item whose target passes its checks and whose value acts at once. -/
theorem State.writeItems_one {s t : State} {x : Session} {i : Item} {code row v : Nat}
    (htgt : s.writeTarget x i = (0, code, row, v)) (hact : s.writeValue x code row v = some (t, 0)) :
    State.writeItems x [i] s [] = (t, [answer i {}], []) := by
  simp [State.writeItems, htgt, hact]

theorem State.writeMsg_rwc {s : State} {h : Hdr} {i : Item} {r code row v : Nat} {x : Session}
    (htake : s.takes h 0x09 (encItems [i]) r x) (htgt : (s.accepted h r x).writeTarget x i = (0, code, row, v))
    (hacc : accOf code = .rwc) (hplain : code ∉ [Obj.dlinkBond, Obj.bayShunt12, Obj.bayShunt33, Obj.fwuData]) :
    s.writeMsg h [i] = ((s.accepted h r x).putPend code row v).finish h 0x09 x (itemsReply [answer i {}]) := by
  have hone := State.writeItems_one htgt (State.writeValue_of_rwc _ x row v hacc hplain)
  refine State.request_answered htake ?_
  simp only [hone]
  rfl

/-! ### COMMIT (R42, R43) -/

/-- A commit that passes its checks empties the inactive slot and starts its image (R42). -/
theorem State.commitStart_valid {s : State} {x : Session} (h : Hdr) (hlevel : 2 ≤ x.level) (hidle : s.dict.run = none)
    (hvalid : s.validate = []) :
    s.commitStart h x = (State.putOld { s.used with dict := { s.dict with
      commitState := 1
      run := some { image := s.used.imageVals, taken := s.dict.pend, hdr := h, session := x } } } {}, none) := by
  simp [State.commitStart, Nat.not_lt.mpr hlevel, hidle, hvalid]

theorem State.commitMsg_of_takes {s : State} {h : Hdr} {r : Nat} {x : Session} (htake : s.takes h 0x0A [] r x)
    (hlevel : 2 ≤ x.level) (hidle : s.dict.run = none) (hvalid : (s.accepted h r x).validate = []) :
    s.commitMsg h = State.putOld { (s.accepted h r x).used with dict := { s.dict with
      commitState := 1
      run := some { image := (s.accepted h r x).used.imageVals, taken := s.dict.pend, hdr := h, session := x } } } {} :=
  State.request_deferred htake (State.commitStart_valid h hlevel hidle hvalid)

/-- A flash that fails leaves everything pending (R42 step 5). -/
theorem State.commitDone_failed {s : State} {c : CommitRun} (hrun : s.dict.run = some c) :
    s.commitDone false = State.finish { s with dict := { s.dict with run := none, commitState := 3 } } c.hdr 0x0A c.session
      { status := 0x09 } := by
  simp only [State.commitDone, hrun, if_true]

/-- The state in which the image of commit `c` is the active one, before its values act (R42 step 4). -/
def State.switched (s : State) (c : CommitRun) : State :=
  { s with dict := { (s.putOld { valid := true, gen := s.image.gen + 1, schema := (s.fwSlot s.boot.running).schema, vals := c.image }).dict with
      active := 1 - s.dict.active, commitCount := satAdd 32 s.dict.commitCount 1, commitTime := s.clk.ns } }

/-- Once its image is in flash, a commit that does not end provisioning switches the slot, applies what it took and answers. -/
theorem State.commitDone_written {s : State} {c : CommitRun} (hrun : s.dict.run = some c)
    (hkeys : c.image.any (fun e => decide (e.1 / 4294967296 = Obj.keyLevel) && decide (e.2 = some 3)) = false) :
    s.commitDone true = State.finish { (s.switched c).applyTaken c with dict := { ((s.switched c).applyTaken c).dict with
        run := none, commitState := 2
        pend := ((s.switched c).applyTaken c).dict.pend.filter (fun e => !((c.taken.map (fun x => x.1)).contains e.1 && !c.kept.contains e.1)) } }
      c.hdr 0x0A c.session {} := by
  simp only [State.commitDone, hrun, Bool.true_eq_false, hkeys, Bool.false_eq_true, if_false]
  rfl

/-! ### Subscriptions (R63) -/

/-- A session with a key takes the next free identifier while it has fewer than 4 subscriptions and all have fewer than 64. -/
theorem State.subscribeOp_of_room {s : State} {x : Session} (groups scopes : Nat) (hkey : x.kslot ≠ 0xFF)
    (hown : (s.rendi.subs.filter (fun b => b.session = x.id)).length < 4) (hall : s.rendi.subs.length < 64) :
    s.subscribeOp x groups scopes 0 = ({ s with rendi := { s.rendi with
      subs := s.rendi.subs ++ [⟨s.newSub, x.id, groups, scopes, [], 0⟩] } }, { body := leBytes 2 s.newSub ++ [0, 0] }) := by
  have hroom : ¬ (4 ≤ (s.rendi.subs.filter (fun b => b.session = x.id)).length ∨ 64 ≤ s.rendi.subs.length) :=
    not_or.mpr ⟨Nat.not_le.mpr hown, Nat.not_le.mpr hall⟩
  simp only [State.subscribeOp, if_neg hkey, if_neg (Nat.not_lt_zero 1), if_neg hroom, if_neg Nat.zero_ne_one]

theorem State.subscribeMsg_of_takes {s : State} {h : Hdr} {groups scopes r : Nat} {x : Session} (hg : groups < 65536)
    (hs : scopes < 65536) (htake : s.takes h 0x0C (leBytes 2 groups ++ leBytes 2 scopes ++ [0, 0, 0, 0]) r x) (hkey : x.kslot ≠ 0xFF)
    (hown : (s.rendi.subs.filter (fun b => b.session = x.id)).length < 4) (hall : s.rendi.subs.length < 64) :
    s.subscribeMsg h groups scopes 0 = State.finish { s.accepted h r x with
      rendi := { (s.accepted h r x).rendi with subs := s.rendi.subs ++ [⟨s.newSub, x.id, groups, scopes, [], 0⟩] } }
      h 0x0C x { body := leBytes 2 s.newSub ++ [0, 0] } := by
  refine State.request_answered htake ?_
  rw [Nat.mod_eq_of_lt hg, Nat.mod_eq_of_lt hs, Nat.zero_mod,
    State.subscribeOp_of_room (s := s.accepted h r x) groups scopes hkey hown hall]
  rfl

theorem State.unsubscribeMsg_of_takes {s : State} {h : Hdr} {sub r : Nat} {x : Session} (hsub : sub < 65536)
    (htake : s.takes h 0x0D (leBytes 2 sub ++ [0, 0]) r x) (hkey : x.kslot ≠ 0xFF) :
    s.unsubscribeMsg h sub = State.finish { s.accepted h r x with
      rendi := { (s.accepted h r x).rendi with subs := s.rendi.subs.filter (fun b => ¬ (b.id = sub ∧ b.session = x.id)) } }
      h 0x0D x { body := leBytes 2 sub ++ [0, 0] } := by
  have hop : ∀ u : State, u.unsubscribeOp x sub = ({ u with rendi := { u.rendi with
      subs := u.rendi.subs.filter (fun b => ¬ (b.id = sub ∧ b.session = x.id)) } }, { body := leBytes 2 sub ++ [0, 0] }) :=
    fun _ => if_neg hkey
  refine State.request_answered htake ?_
  rw [Nat.mod_eq_of_lt hsub, hop]
  rfl

end Sys2Proof.Machine

open Sys2Proof Sys2Proof.Machine

/-- Settles O4: each request, once it is accepted, through the lemma that says what it does. -/
theorem requestCommands : Obligations.RequestCommands := by
  unfold Obligations.RequestCommands
  refine ⟨fun s h items r x htake hn => ?read, fun s h i r x code row v htake htgt hacc hplain => ?write,
    fun s h r x htake hlevel hidle hvalid => ?commit, fun s c hrun => ?failed, fun s v c hrun hkeys hv => ?written,
    fun s h groups scopes r x hg hs htake hkey hown hall => ?subscribe, fun s h sub r x hsub htake hkey => ?unsubscribe⟩
  case read => exact exec_ends (exec_readReq h items s) (State.readMsg_of_takes htake hn)
  case write => exact exec_ends (exec_writeReq h [i] s) (State.writeMsg_rwc htake htgt hacc hplain)
  case commit => exact exec_ends (exec_commitReq h s) (State.commitMsg_of_takes htake hlevel hidle hvalid)
  case failed => exact exec_ends (exec_commitWriteDone false s) (State.commitDone_failed hrun)
  case written =>
    subst hv
    exact exec_ends (exec_commitWriteDone true s) (State.commitDone_written hrun hkeys)
  case subscribe =>
    exact exec_ends (exec_subscribe h groups scopes 0 s) (State.subscribeMsg_of_takes hg hs htake hkey hown hall)
  case unsubscribe => exact exec_ends (exec_unsubscribe h sub s) (State.unsubscribeMsg_of_takes hsub htake hkey)
end

section
/-!
PROOFS. Restores of the dictionary (R48; what a restore leaves pending: log entry 19).
-/

namespace Sys2Proof.Machine

theorem okey_div (code : Nat) {row : Nat} (h : row < 4294967296) : okey code row / 4294967296 = code := by
  unfold okey; omega

theorem okey_mod (code : Nat) {row : Nat} (h : row < 4294967296) : okey code row % 4294967296 = row := by
  unfold okey; omega

/-- The keys a restore looks at: those of its image and of every value that is not a default, of the P objects that `p` takes. -/
def State.restoreKeys (s : State) (p : Nat → Bool) (vals : Tbl (Option Nat)) : List Nat :=
  ((s.dict.eff.map (fun e => e.1)) ++ s.lateVals.map (fun e => e.1) ++ vals.map (fun e => e.1)).eraseDups.filter (fun k =>
    p (k / 4294967296) && persistObj (k / 4294967296))

/-- What a restore from `s` makes of one key. -/
def State.restoreKey (s : State) (vals : Tbl (Option Nat)) (t : State) (k : Nat) : State :=
  let v := (Tbl.get none vals k).getD (dfltOf (k / 4294967296) (k % 4294967296))
  if v = s.rw (k / 4294967296) (k % 4294967296) ∧ v = s.committed (k / 4294967296) (k % 4294967296) then t
  else t.putPend (k / 4294967296) (k % 4294967296) v

theorem State.restore_eq (s : State) (p : Nat → Bool) (vals : Tbl (Option Nat)) :
    s.restore p vals = (s.restoreKeys p vals).foldl (s.restoreKey vals) { s with dict := { s.dict with pend := [] } } := rfl

theorem State.restoreKeys_all_default {s : State} (p : Nat → Bool) (heff : s.dict.eff = []) (hlate : s.lateVals = []) :
    s.restoreKeys p [] = [] := by
  simp only [State.restoreKeys, heff, hlate, List.map_nil, List.append_nil, List.eraseDups_nil, List.filter_nil]

theorem State.restoreKeys_one_changed {s : State} {p : Nat → Bool} {k : Nat} {v : Option Nat} (hp : p (k / 4294967296) = true)
    (hpersist : persistObj (k / 4294967296) = true) (heff : s.dict.eff = [(k, v)]) (hlate : s.lateVals = []) :
    s.restoreKeys p [] = [k] := by
  have honce : [k].eraseDups = [k] := by rw [List.eraseDups_cons, List.filter_nil, List.eraseDups_nil]
  simp only [State.restoreKeys, heff, hlate, List.map_cons, List.map_nil, List.append_nil, honce, List.filter_cons, List.filter_nil,
    hp, hpersist, Bool.and_self, if_true]

/-- A value in force that is not its default gets its default as pending. -/
theorem State.restoreKey_changed {s : State} (t : State) {code row : Nat} (hrow : row < 4294967296)
    (hv : s.rw code row ≠ dfltOf code row) : s.restoreKey [] t (okey code row) = t.putPend code row (dfltOf code row) := by
  have hdiff : ¬ (dfltOf code row = s.rw code row ∧ dfltOf code row = s.committed code row) := fun h => hv h.1.symm
  simp only [State.restoreKey, okey_div code hrow, okey_mod code hrow]
  exact if_neg hdiff

/-- Where every value in force is its default, a restore of defaults only drops what is pending. -/
theorem State.restore_all_default {s : State} (p : Nat → Bool) (heff : s.dict.eff = []) (hlate : s.lateVals = []) :
    s.restore p [] = { s with dict := { s.dict with pend := [] } } := by
  rw [State.restore_eq, State.restoreKeys_all_default p heff hlate, List.foldl_nil]

/-- Where one value alone is not its default, a restore of defaults that takes its object leaves that default pending. -/
theorem State.restore_one_changed {s : State} {p : Nat → Bool} {code row v : Nat} (hrow : row < 4294967296) (hp : p code = true)
    (hpersist : persistObj code = true) (hv : v ≠ dfltOf code row) (heff : s.dict.eff = [(okey code row, some v)])
    (hlate : s.lateVals = []) :
    s.restore p [] = State.putPend { s with dict := { s.dict with pend := [] } } code row (dfltOf code row) := by
  have hrw : s.rw code row = v := by simp only [State.rw, heff, Tbl.get, if_true, Option.getD_some]
  have hcode := okey_div code hrow
  rw [State.restore_eq, State.restoreKeys_one_changed (by rw [hcode, hp]) (by rw [hcode, hpersist]) heff hlate, List.foldl_cons,
    List.foldl_nil, State.restoreKey_changed _ hrow (by rw [hrw]; exact hv)]

theorem State.restoreFactory_all_default {s : State} (heff : s.dict.eff = []) (hlate : s.lateVals = []) :
    s.restoreFactory = State.actDone { s with dict := { s.dict with pend := [] } } Obj.dictRestore 0 := by
  rw [State.restoreFactory, State.restore_all_default _ heff hlate]

/-- Factory defaults are restored for every P object but the keys and 0x1400 to 0x14FF (R48). -/
theorem State.restoreFactory_one_changed {s : State} {code row v : Nat} (hrow : row < 4294967296) (hkey : code / 256 ≠ 0x1110)
    (hnet : code / 256 < 0x1400 ∨ 0x14FF < code / 256) (hpersist : persistObj code = true) (hv : v ≠ dfltOf code row)
    (heff : s.dict.eff = [(okey code row, some v)]) (hlate : s.lateVals = []) :
    s.restoreFactory
      = (State.putPend { s with dict := { s.dict with pend := [] } } code row (dfltOf code row)).actDone Obj.dictRestore 0 := by
  have htaken : (decide (code / 256 ≠ 0x1110) && !(decide (0x1400 ≤ code / 256) && decide (code / 256 ≤ 0x14FF))) = true := by
    simp only [Bool.and_eq_true, decide_eq_true_eq, Bool.not_eq_true', Bool.and_eq_false_iff, decide_eq_false_iff_not]
    exact ⟨hkey, hnet.imp Nat.not_le.mpr Nat.not_le.mpr⟩
  rw [State.restoreFactory, State.restore_one_changed hrow htaken hpersist hv heff hlate]

theorem State.restoreAll_one_changed {s : State} {code row v : Nat} (hrow : row < 4294967296) (hpersist : persistObj code = true)
    (hv : v ≠ dfltOf code row) (heff : s.dict.eff = [(okey code row, some v)]) (hlate : s.lateVals = []) :
    s.restoreAll
      = (State.putPend { s with dict := { s.dict with pend := [] } } code row (dfltOf code row)).actDone Obj.dictRestoreAll 0 := by
  rw [State.restoreAll, State.restore_one_changed (p := fun _ => true) hrow rfl hpersist hv heff hlate]

theorem State.restoreSlot_of_invalid {s : State} (h : s.oldImage.valid = false) :
    s.restoreSlot = s.actFail Obj.dictRestore 0 1 := by
  simp [State.restoreSlot, h]

end Sys2Proof.Machine

open Sys2Proof Sys2Proof.Machine

/-- Settles O5: each action through the lemma that says what its restore leaves pending. -/
theorem restoreCommands : Obligations.RestoreCommands := by
  unfold Obligations.RestoreCommands
  refine ⟨fun h => ?discard, fun h => ?factoryIdle, fun h code row v hrow hkey hnet hpersist hv => ?factory, fun h => ?slot,
    fun h => ?slotInvalid, fun h code row v hrow hpersist hv => ?all⟩
  case discard => exact ActionRuns.of_actionReq _ (exec_dictRestoreDiscard h) fun _ _ => rfl
  case factoryIdle =>
    exact ActionRuns.of_actionReq _ (exec_dictRestoreFactory h) fun _ ⟨heff, hlate⟩ =>
      State.restoreFactory_all_default heff hlate
  case factory =>
    exact ActionRuns.of_actionReq _ (exec_dictRestoreFactory h) fun _ ⟨heff, hlate⟩ =>
      State.restoreFactory_one_changed hrow hkey hnet hpersist hv heff hlate
  case slot => exact ActionRuns.of_actionReq _ (exec_dictRestoreSlot h) fun _ hu => if_pos hu
  case slotInvalid => exact ActionRuns.of_actionReq _ (exec_dictRestoreSlot h) fun _ hu => State.restoreSlot_of_invalid hu
  case all =>
    exact ActionRuns.of_actionReq _ (exec_dictRestoreAll h) fun _ ⟨heff, hlate⟩ =>
      State.restoreAll_one_changed hrow hpersist hv heff hlate
end

section
/-!
PROOFS. The Rendi mailbox (R68, R69, Table 2-9).
-/

namespace Sys2Proof.Machine

/-- A posted write that is served at once and whose TLP makes `t` ends in `t`. -/
theorem exec_posted {i : Instr} {s t : State} (hi : exec i s = s.act (fun u => u.posted i)) (hopen : s.barOpen)
    (ht : s.tlp i = t) : exec i s = .next (Ends s t) :=
  exec_ends hi ((s.posted_open i hopen).trans ht)

/-! ### `GO` and the acknowledgments -/

/-- The header of the request in a mailbox buffer that holds the bytes `b`, while `queued` requests wait (Table 2-6). -/
def mbxHdr (queued : Nat) (b : Bytes) : Hdr :=
  let w := leNat (b.take 4)
  let w1 := leNat ((b.drop 4).take 4)
  { carrier := .mailbox, src := 0, dport := 0, frag := false, queued := queued, ver := bits w 28 4, kind := bits w 26 2
    pend := bit w 19, len := w % 65536, session := w1 / 65536, seq := leNat ((b.drop 8).take 4), rtag := leNat ((b.drop 12).take 4)
    auth := (b.drop 16).take 16 }

/-- A request is taken from the buffer: `GO` clears and Rendi gets the message. -/
theorem State.mbxTake_eq (s : State) {queued : Nat} {b : Bytes} (hb : b = ramBytes s.mbx.req 0 (max 32 (min s.mbx.reqLen 4096))) :
    s.mbxTake queued = ({ s with mbx := { s.mbx with go := false } } : State).message (mbxHdr queued b) (bits (leNat (b.take 4)) 20 6)
      (b.drop 32) := by
  subst hb; rfl

theorem State.mbxGo_of_idle {s : State} (queued : Nat) (hgo : s.mbx.go = false) (hwait : s.mbx.waiting = []) :
    s.mbxGo queued = s.mbxTake queued := by
  simp only [State.mbxGo, hgo, Bool.false_eq_true, hwait, ne_eq, not_true_eq_false, if_false]

/-- Clearing `GO` where it is clear changes nothing. -/
theorem State.clearGo_of_clear {s : State} (hgo : s.mbx.go = false) : { s with mbx := { s.mbx with go := false } } = s := by
  rw [← hgo]

theorem State.rspClear_of_empty {s : State} (hwait : s.mbx.waiting = []) :
    s.rspClear = { s with mbx := { s.mbx with rspValid := false } } := by
  simp only [State.rspClear, hwait]

theorem State.rspClear_of_waiting {s : State} {m : Bytes} {r : List Bytes} (hwait : s.mbx.waiting = m :: r) :
    s.rspClear = { s with
      mbx := { s.mbx with rsp := m, rspLen := m.length, rspValid := true, waiting := r }, todo := s.todo ++ [.irq 0 0] } := by
  simp only [State.rspClear, hwait]

theorem State.rspClear_go (s : State) : s.rspClear.mbx.go = s.mbx.go := by
  unfold State.rspClear; split <;> rfl

/-- While no request is held back, clearing `RSP_VALID` is all that its command does. -/
theorem State.mbxRspClear_of_idle {s : State} (hgo : s.mbx.go = false) : s.mbxRspClear = s.rspClear :=
  if_neg fun h => by rw [State.rspClear_go, hgo] at h; exact absurd h.1 Bool.false_ne_true

theorem State.ntfClear_without_subs {s : State} (hsubs : s.rendi.subs = []) :
    s.ntfClear = { s with mbx := { s.mbx with ntfValid := false } } := by
  have hnone : State.mbxSubs { s with mbx := { s.mbx with ntfValid := false } } = [] := by
    simp only [State.mbxSubs, hsubs, List.filter_nil, List.map_nil]
  simp only [State.ntfClear, hnone]

/-! ### Register writes -/

theorem State.fnThere_pf (s : State) : s.fnThere 0 = true := rfl

/-- A dword written to the mailbox block of the PF (Table 12-2). -/
theorem State.regWrite_mailbox (s : State) {off : Nat} (v : Nat) (halign : off % 4 = 0) (hlo : 0x4000 ≤ off) (hhi : off < 0x8000) :
    s.regWrite 0 off v = s.mbxReg (off - 0x4000) v := by
  unfold State.regWrite
  rw [if_neg (by omega), if_neg (by omega), if_neg (by simp [s.fnThere_pf]), if_neg (by omega), if_neg (by omega), if_pos (by omega)]

/-- A dword of the request buffer is taken while `GO` is clear. -/
theorem State.mbxWord_of_idle {s : State} (off v : Nat) (hgo : s.mbx.go = false) :
    s.mbxWord off v = { s with mbx := { s.mbx with
      req := [0, 1, 2, 3].foldl (fun m i => Tbl.set 0 m (off + i) (v / 256 ^ i % 256)) s.mbx.req } } := by
  simp only [State.mbxWord, hgo, Bool.false_eq_true, if_false]

theorem State.mbxReg_buffer (s : State) {off : Nat} (v : Nat) (hoff : off < 0x1000) :
    s.mbxReg (0x1000 + off) v = s.mbxWord off v := by
  unfold State.mbxReg
  rw [if_neg (by omega), if_neg (by omega), if_neg (by omega), if_pos (by omega), Nat.add_sub_cancel_left]

end Sys2Proof.Machine

open Sys2Proof Sys2Proof.Machine

/-- Settles O6: each write is posted and served at once, and then does what the lemma of its register says. -/
theorem mailboxCommands : Obligations.MailboxCommands := by
  unfold Obligations.MailboxCommands
  refine ⟨fun s queued b w w1 hopen hgo hwait hb hw hw1 => ?go, fun s hopen hwait hgo => ?rspFree,
    fun s m r hopen hwait hgo => ?rspNext, fun s hopen hsubs => ?ntf, fun s v hopen => ?len, fun s k v hopen hk hgo => ?word⟩
  case go =>
    subst hw hw1
    refine exec_posted (exec_mailboxGo queued s) hopen ((State.mbxGo_of_idle queued hgo hwait).trans ?_)
    rw [s.mbxTake_eq hb, State.clearGo_of_clear hgo]
    rfl
  case rspFree =>
    exact exec_posted (exec_mailboxRspClear s) hopen ((State.mbxRspClear_of_idle hgo).trans (State.rspClear_of_empty hwait))
  case rspNext =>
    exact exec_posted (exec_mailboxRspClear s) hopen ((State.mbxRspClear_of_idle hgo).trans (State.rspClear_of_waiting hwait))
  case ntf => exact exec_posted (exec_mailboxNtfClear s) hopen (State.ntfClear_without_subs hsubs)
  case len =>
    refine exec_posted (exec_registerWrite 0 0x4008 v s) hopen ?_
    exact s.regWrite_mailbox v.toNat (by decide) (by decide) (by decide)
  case word =>
    have hoff : 0x5000 + 4 * k - 0x4000 = 0x1000 + 4 * k := by omega
    refine exec_posted (exec_registerWrite 0 (0x5000 + 4 * k) v s) hopen ?_
    calc s.regWrite 0 (0x5000 + 4 * k) v.toNat
        = s.mbxReg (0x1000 + 4 * k) v.toNat := by rw [s.regWrite_mailbox v.toNat (by omega) (by omega) (by omega), hoff]
      _ = s.mbxWord (4 * k) v.toNat := s.mbxReg_buffer v.toNat (by omega)
      _ = _ := State.mbxWord_of_idle (4 * k) v.toNat hgo
end

section
/-!
PROOFS. The SMBus target (R70, R71, Table 2-10).
-/

namespace Sys2Proof.Machine

/-- In S7 the commands that service opens are answered. -/
theorem if_below_s7 {s : State} (t u : State) (h7 : s.inS7 = true) : (if s.inS7 = false then t else u) = u :=
  if_neg (by simp [h7])

theorem State.smbSelect_taken {s : State} {idx sub flags row : Nat} (h7 : s.inS7 = true) (hidx : idx < 65536) (hsub : sub < 256)
    (hflags : flags < 256) (hrow : row < 4294967296) :
    s.smbSelect idx sub flags row false = { s with smb := { s.smb with sel := ⟨idx, sub, flags, row, 0, 0, []⟩ } } := by
  simp only [State.smbSelect, h7, Nat.mod_eq_of_lt hidx, Nat.mod_eq_of_lt hsub, Nat.mod_eq_of_lt hflags, Nat.mod_eq_of_lt hrow,
    Bool.true_eq_false, Bool.false_eq_true, or_self, if_false]

/-- The selected object is read with status 0 and its value where that is at most 31 bytes (R71). -/
theorem State.smbObject_readable {s : State} {r : ItemRes} (h7 : s.inS7 = true)
    (hr : r = s.readItem (bit s.smb.sel.flags 1) observer { s.smb.sel with flags := s.smb.sel.flags % 2 }) (hstat : r.stat = 0)
    (hlen : r.value.length ≤ 31) : s.smbObject = s.smbSend (0 :: r.value) := by
  unfold State.smbObject
  rw [if_below_s7 _ _ h7, ← hr]
  simp only [hstat, hlen, and_self, if_true]

end Sys2Proof.Machine

open Sys2Proof Sys2Proof.Machine

/-- Settles O7: each read sends its bytes once the stage or `ALERT_N` allows it. -/
theorem smbusCommands : Obligations.SmbusCommands := by
  unfold Obligations.SmbusCommands
  refine ⟨fun s hvaux => ?stage, fun s h7 => ?identity, fun s h7 => ?events,
    fun s idx sub flags row h7 hidx hsub hflags hrow => ?select, fun s r h7 hr hstat hlen => ?object, fun s halert => ?alert⟩
  case stage => exact exec_ends (exec_smbReadStage s) (if_pos hvaux)
  case identity => exact exec_ends (exec_smbReadIdentity s) (if_below_s7 _ _ h7)
  case events => exact exec_ends (exec_smbReadEvents s) (if_below_s7 _ _ h7)
  case select =>
    exact exec_ends (exec_smbSelectObject idx sub flags row false s) (State.smbSelect_taken h7 hidx hsub hflags hrow)
  case object => exact exec_ends (exec_smbReadObject s) (State.smbObject_readable h7 hr hstat hlen)
  case alert => exact exec_ends (exec_smbAlertResponse s) (if_pos halert)
end

section
/-!
PROOFS. Geometries, the array and the map copies (R78 to R81, R84, Table 3-3; the tables are a free value: log entry 14; the digest's
encoding and detail 1 of a geometry that is not FREE: log entry 45).
-/

namespace Sys2Proof.Machine

theorem not_any_decide {α : Type} {p : α → Prop} [DecidablePred p] {l : List α} (h : ∀ x ∈ l, ¬ p x) :
    ¬ l.any (fun x => decide (p x)) = true := fun hany =>
  have ⟨x, hx, hp⟩ := List.any_eq_true.mp hany
  h x hx (of_decide_eq_true hp)

/-- No array yet, or two valid map copies: the placement actions are taken (R79). -/
theorem State.maps_suffice {s : State} (h : s.place.array = none ∨ 2 ≤ s.validMaps) : ¬ (s.place.array ≠ none ∧ s.validMaps < 2) := by
  rintro ⟨harray, hfew⟩
  rcases h with hnone | hmaps
  · exact harray hnone
  · omega

/-! ### Activation and retirement -/

/-- A FREE geometry that meets R81 starts GENERATING; the first one makes the array (R80). -/
theorem State.geoActivateOp_starts {s : State} {g : Nat} (hmaps : s.place.array = none ∨ 2 ≤ s.validMaps)
    (hidle : ∀ e ∈ s.place.geos, e.2.st ≠ 1) (hfree : (s.geo g).st = 0) (h81 : s.r81 (s.geoWanted g) = true) :
    s.geoActivateOp g = ((s.createArray.putGeo g { s.geoWanted g with st := 1 }).actRun Obj.geoActivate g, 0) := by
  unfold State.geoActivateOp
  rw [if_neg (State.maps_suffice hmaps), if_neg (not_any_decide hidle), if_neg (by simp [hfree, h81])]

theorem State.geoActivateOp_breaks_r81 {s : State} {g : Nat} (hmaps : s.place.array = none ∨ 2 ≤ s.validMaps)
    (hidle : ∀ e ∈ s.place.geos, e.2.st ≠ 1) (h81 : s.r81 (s.geoWanted g) = false) :
    s.geoActivateOp g = (s.actFail Obj.geoActivate g 1, 0) := by
  unfold State.geoActivateOp
  rw [if_neg (State.maps_suffice hmaps), if_neg (not_any_decide hidle), if_pos (.inr h81)]

/-- The rows of a geometry are written to every map copy as its block above the bolt map. -/
def State.sendGeo (s : State) (g : Nat) : State :=
  s.place.maps.foldl (fun u c => if c.pos ≠ 0x3F then u.emit (.mapWrite c.pos (2 ^ 20 + g)) else u) s

/-- An ACTIVE geometry without slots, which no migration has as its target, becomes FREE. -/
theorem State.geoRetireOp_frees {s : State} {g : Nat} (hmaps : s.place.array = none ∨ 2 ≤ s.validMaps) (hst : (s.geo g).st = 2)
    (hslots : s.geoBolts g = 0) (hmigs : ∀ m ∈ s.place.waiting ++ s.place.active, m.geo ≠ g) :
    s.geoRetireOp g = (((s.putGeo g {}).actDone Obj.geoActivate g).sendGeo g, 0) := by
  unfold State.geoRetireOp
  rw [if_neg (State.maps_suffice hmaps), if_pos ⟨hst, hslots, not_any_decide hmigs⟩]
  rfl

/-! ### The tables and their acknowledgment -/

theorem State.geoAck_written {s : State} {g : Nat} (hst : (s.geo g).st = 1) (hw : (s.geo g).writing = true) :
    s.geoAck g true = ((s.putGeo g { s.geo g with st := 2, writing := false }).actDone Obj.geoActivate g).note 0xC0A 0 0 5 g := by
  unfold State.geoAck
  rw [if_neg (by simp [hst, hw]), if_pos rfl]

theorem State.geoAck_failed {s : State} {g : Nat} (hst : (s.geo g).st = 1) (hw : (s.geo g).writing = true) :
    s.geoAck g false = (s.putGeo g {}).actFail Obj.geoActivate g 3 := by
  unfold State.geoAck
  rw [if_neg (by simp [hst, hw]), if_neg Bool.false_ne_true]

/-! ### Map blocks and map copies -/

/-- Without a migration in progress nothing follows the update of an entry. -/
theorem State.migApplied_without_migrations {s : State} (e : Nat) (old : Bolt) (h : s.place.active = []) : s.migApplied e old = s := by
  simp only [State.migApplied, State.mig, h, List.find?_nil]

/-- An update applied while no migration is in progress: the entry, and what leaves the ZERO initialisation with it (R78, R99). -/
theorem State.applyMap_without_migrations {s : State} (w : MapWrite) (h : s.place.active = []) :
    s.applyMap w = { s with place := { s.place with
      bolts := Tbl.set {} s.place.bolts w.entry w.bolt
      zeroing := if w.bolt.st ≠ .zero then s.place.zeroing.filter (fun e => e ≠ w.entry) else s.place.zeroing } } := by
  by_cases hz : w.bolt.st ≠ .zero
  · simp only [State.applyMap, if_pos hz]
    exact State.migApplied_without_migrations w.entry _ h
  · simp only [State.applyMap, if_neg hz]
    exact State.migApplied_without_migrations w.entry _ h

/-- A namespace that has all its bolts has nothing to settle (R95). -/
theorem State.nsSettle_settled {s : State} {n : Nat} (h : (s.nsp n).bolts = (s.nsp n).target) : s.nsSettle n = s := by
  unfold State.nsSettle
  exact if_pos (.inl h)

theorem State.nsSettle_all_settled {s t : State} (h : ∀ n, (s.nsp n).bolts = (s.nsp n).target) (hnss : t.place.nss = s.place.nss)
    (ns : List Nat) : ns.foldl (fun v n => v.nsSettle n) t = t := by
  have hall : ∀ n, (t.nsp n).bolts = (t.nsp n).target := by simpa only [State.nsp, hnss] using h
  induction ns with
  | nil => rfl
  | cons n ns ih => rw [List.foldl_cons, State.nsSettle_settled (hall n), ih]

/-- The only update that waits is applied when the map copies acknowledge its block. -/
theorem State.mapAck_only {s : State} {w : MapWrite} (hpend : s.place.mapPend = [w]) (hactive : s.place.active = [])
    (hns : ∀ n, (s.nsp n).bolts = (s.nsp n).target) :
    s.mapAck (mapBlock w.entry) = { s with place := { s.place with
      mapPend := [], bolts := Tbl.set {} s.place.bolts w.entry w.bolt
      zeroing := if w.bolt.st ≠ .zero then s.place.zeroing.filter (fun e => e ≠ w.entry) else s.place.zeroing } } := by
  have happly := State.applyMap_without_migrations (s := { s with place := { s.place with mapPend := [] } }) w hactive
  simp only [State.mapAck, hpend, List.filter_cons, List.filter_nil, decide_true, ne_eq, not_true_eq_false, decide_false,
    Bool.false_eq_true, if_true, if_false, List.foldl_cons, List.foldl_nil, happly]
  refine State.nsSettle_all_settled hns ?_ _
  rfl

theorem State.mapCopyDone_of_rehoming {s : State} {r : Nat} (h : s.place.rehome = some r) :
    s.mapCopyDone = ((State.headers { s with place := { s.place with
      rehome := none, maps := updAt r (fun c => { c with valid := true }) s.place.maps } }).note 0xC01 0 0 0 0).mapCheck := by
  simp only [State.mapCopyDone, h]

end Sys2Proof.Machine

open Sys2Proof Sys2Proof.Machine

/-- Settles O8: the two actions and each acknowledgment through the lemma of its case; the generated tables past the guard of
`geoGenerated`. -/
theorem geometryCommands : Obligations.GeometryCommands := by
  unfold Obligations.GeometryCommands
  refine ⟨fun h g => ?starts, fun h g => ?breaks, fun s g hst hw => ?tables, fun s g hst hw => ⟨?written, ?failed⟩,
    fun h g => ?retire, fun s w hpend hactive hns => ?block, fun s r hr => ?copy⟩
  case starts =>
    exact ActionRuns.of _ (exec_geoActivate h g) fun _ ⟨hmaps, hidle, hfree, h81⟩ =>
      State.geoActivateOp_starts hmaps hidle hfree h81
  case breaks =>
    exact ActionRuns.of _ (exec_geoActivate h g) fun _ ⟨hmaps, hidle, h81⟩ => State.geoActivateOp_breaks_r81 hmaps hidle h81
  case tables =>
    have hgenerating : ¬ ((s.geo g).st ≠ 1 ∨ (s.geo g).writing = true) := by simp [hst, hw]
    exact exec_ends (exec_geoTablesGenerated g s) (if_neg hgenerating)
  case written => exact exec_ends (exec_geoMapAck g true s) (State.geoAck_written hst hw)
  case failed => exact exec_ends (exec_geoMapAck g false s) (State.geoAck_failed hst hw)
  case retire =>
    exact ActionRuns.of _ (exec_geoRetire h g) fun _ ⟨hmaps, hst, hslots, hmigs⟩ =>
      State.geoRetireOp_frees hmaps hst hslots hmigs
  case block => exact exec_ends (exec_mapCopyAck (mapBlock w.entry) s) (State.mapAck_only hpend hactive hns)
  case copy => exact exec_ends (exec_mapCopyDone s) (State.mapCopyDone_of_rehoming hr)
end

section
/-!
PROOFS. Slots and ZERO bolts (R95, R99, R111).
-/

namespace Sys2Proof.Machine

/-- A namespace without writes and reads in progress does not hold its slots back (R95, R111). -/
theorem State.no_commands_of_ns {s : State} {ns : Nat} (hwrites : ∀ c ∈ s.hoop.writes, c.ns ≠ ns)
    (hreads : ∀ c ∈ s.hoop.reads, c.ns ≠ ns) :
    ¬ (s.hoop.writes.any (fun c => decide (c.ns = ns)) || s.hoop.reads.any (fun c => decide (c.ns = ns))) = true := by
  simpa using ⟨hwrites, hreads⟩

theorem State.slotsFreed_of_idle {s : State} {ns : Nat} (hwrites : ∀ c ∈ s.hoop.writes, c.ns ≠ ns)
    (hreads : ∀ c ∈ s.hoop.reads, c.ns ≠ ns) :
    s.slotsFreed ns = { s with place := { s.place with slots := s.place.slots.filter (fun p => !(p.ns = ns && p.freeing)) } } :=
  if_neg (State.no_commands_of_ns hwrites hreads)

theorem State.migSourceFree_of_idle {s : State} {e : Nat} (hwrites : ∀ c ∈ s.hoop.writes, c.ns ≠ (s.bolt e).ns)
    (hreads : ∀ c ∈ s.hoop.reads, c.ns ≠ (s.bolt e).ns) :
    s.migSourceFree e = { s with place := { s.place with slots := s.place.slots.filter (fun p => !(p.entry = e && p.freeing)) } } :=
  if_neg (State.no_commands_of_ns hwrites hreads)

theorem State.zeroDone_of_zeroing {s : State} {e : Nat} (hz : e ∈ s.place.zeroing) (hst : (s.bolt e).st = .zero)
    (hnext : (s.boltNext e).st = .zero) :
    s.zeroDone e = (s.emit (.zeroSlot (s.bolt e).geo (s.bolt e).base)).mapUpdate e { s.bolt e with st := .mapped } :=
  if_pos ⟨List.contains_iff_mem.mpr hz, hst, hnext⟩

/-- The background walk takes the first ZERO bolt at or after its place. -/
theorem State.zeroWalk_takes {s : State} {e : Nat}
    (h : ((s.place.bolts.filter (fun x => x.2.st = .zero && !s.place.zeroing.contains x.1)).map (fun x => x.1)).find?
      (fun x => s.place.zeroNext ≤ x) = some e) :
    s.zeroWalk = { s with place := { s.place with zeroing := s.place.zeroing ++ [e], zeroNext := e + 1 } } := by
  simp only [State.zeroWalk, h]

end Sys2Proof.Machine

open Sys2Proof Sys2Proof.Machine

/-- Settles O9: each command through the lemma of what it frees or takes. -/
theorem slotCommands : Obligations.SlotCommands := by
  unfold Obligations.SlotCommands
  refine ⟨fun s ns hwrites hreads => ?freed, fun s e hz hst hnext => ?zeroed, fun s e hfirst => ?walk,
    fun s e hwrites hreads => ?source⟩
  case freed => exact exec_ends (exec_nsSlotsFreed ns s) (State.slotsFreed_of_idle hwrites hreads)
  case zeroed => exact exec_ends (exec_zeroInitDone e s) (State.zeroDone_of_zeroing hz hst hnext)
  case walk => exact exec_ends (exec_zeroWalkStep s) (State.zeroWalk_takes hfirst)
  case source => exact exec_ends (exec_migrationSourceFree e s) (State.migSourceFree_of_idle hwrites hreads)
end

section
/-!
PROOFS. Migration and copy-back (R107 to R114).
-/

namespace Sys2Proof.Machine

/-! ### A migration queued and started -/

/-- An entry that neither waits nor migrates joins the queue. -/
theorem State.askMigrate_new {s : State} {e : Nat} (g : Nat) (h : ∀ m ∈ s.place.waiting ++ s.place.active, m.entry ≠ e) :
    s.askMigrate e g = { s with place := { s.place with waiting := s.place.waiting ++ [{ entry := e, geo := g }] } } :=
  if_neg (not_any_decide h)

theorem State.boltMigrateOp_queues {s : State} {e g : Nat} (hmaps : s.place.array = none ∨ 2 ≤ s.validMaps)
    (hbolt : (s.bolt e).st = .mapped ∨ (s.bolt e).st = .zero) (hgeo : (s.geo g).st = 2) :
    s.boltMigrateOp e g = ((s.askMigrate e g).actRun Obj.boltMigrate e, 0) := by
  have henough : ¬ (s.place.array.isSome = true ∧ s.validMaps < 2) := fun ⟨harray, hfew⟩ =>
    State.maps_suffice hmaps ⟨Option.isSome_iff_ne_none.mp harray, hfew⟩
  unfold State.boltMigrateOp
  rw [if_neg henough, if_neg (not_not_intro hbolt), if_neg (not_not_intro hgeo)]

/-- The entry of a bolt whose migration starts in the slot at `base` of geometry `g` (Table 3-8, step 1): a ZERO bolt simply has its
slot there. -/
def Bolt.migrationStarted (b : Bolt) (base g : Nat) : Bolt :=
  if b.st = .zero then { b with base := base, geo := g } else { b with st := .migrating, tbase := base, tgeo := g, cursor := 0 }

/-- A waiting migration that an active place and a target slot are free for leaves the queue and starts. -/
theorem State.migStart_in_slot {s t : State} {e base : Nat} {m : Mig} (hm : s.place.waiting.find? (fun m => m.entry = e) = some m)
    (hplace : s.place.active.length < s.rw Obj.migrateActive 0) (hmaps : 2 ≤ s.validMaps)
    (hbolt : (s.bolt e).st = .mapped ∨ (s.bolt e).st = .zero) (howner : (s.nsp (s.bolt e).ns).owner = s.skn.side)
    (hz : e ∉ s.place.zeroing) (hslot : s.takeSlot m.geo e (s.bolt e).ns = (t, some base)) :
    s.migStart e = State.mapUpdate { t with place := { t.place with
      waiting := t.place.waiting.filter (fun x => x.entry ≠ e), active := t.place.active ++ [{ m with noSlot := false }] } } e
      ((s.bolt e).migrationStarted base m.geo) := by
  have hgo : ¬ (s.rw Obj.migrateActive 0 ≤ s.place.active.length ∨ s.validMaps < 2 ∨ ¬ ((s.bolt e).st = .mapped ∨ (s.bolt e).st = .zero)
      ∨ (s.nsp (s.bolt e).ns).owner ≠ s.skn.side ∨ s.place.zeroing.contains e = true) := by
    rintro (h | h | h | h | h)
    · omega
    · omega
    · exact h hbolt
    · exact h howner
    · exact hz (List.contains_iff_mem.mp h)
  simp only [State.migStart, hm, if_neg hgo, hslot, Bolt.migrationStarted]
  split <;> rfl

/-! ### A stripe copied, its record retired -/

/-- The record of a copied stripe retires once no write to its source waits to be placed; the dirty sectors move and the cursor
advances. -/
theorem State.migRetire_of_copied {s : State} {e : Nat} {m : Mig} (hm : s.mig e = some m) (hcopied : m.copied = true)
    (hst : (s.bolt e).st = .migrating) (hnext : s.boltNext e = s.bolt e)
    (hplaced : ∀ c ∈ s.hoop.writes, ∀ r ∈ c.ranges, r.st ≠ 1 ∨ r.key ∉ s.migSources e) :
    s.migRetire e = ((s.jRetire m.jseq).migRehome e).mapUpdate e { s.bolt e with cursor := (s.bolt e).cursor + 1 } := by
  have hopen : s.hoop.writes.any (fun c => c.ranges.any (fun r => decide (r.st = 1) && (s.migSources e).contains r.key)) = false := by
    refine Bool.eq_false_iff.mpr fun hany => ?_
    obtain ⟨c, hc, hranges⟩ := List.any_eq_true.mp hany
    obtain ⟨r, hr, hwaits⟩ := List.any_eq_true.mp hranges
    obtain ⟨hst1, hkey⟩ : r.st = 1 ∧ r.key ∈ s.migSources e := by simpa using hwaits
    exact (hplaced c hc r hr).elim (· hst1) (· hkey)
  simp only [State.migRetire, hm, hopen]
  exact if_neg (by simp [hcopied, hst, hnext])

/-- A bolt whose target stripe comes next may be copied: no record on the stripe or its sources, an engine in service. -/
theorem State.migCopy_ready {s : State} {e : Nat} {m : Mig} (hst : (s.bolt e).st = .migrating) (hnext : s.boltNext e = s.bolt e)
    (hcopied : m.copied = false) (hmore : (s.bolt e).cursor < (s.geo (s.bolt e).tgeo).sb)
    (hlive : s.stripeLive ⟨e, 1, (s.bolt e).cursor⟩ = false) (hsources : ∀ x ∈ s.migSources e, s.stripeLive x = false)
    (heng : s.engines ≠ []) :
    ¬ ((s.bolt e).st ≠ .migrating ∨ s.boltNext e ≠ s.bolt e ∨ m.copied = true ∨ (s.geo (s.bolt e).tgeo).sb ≤ (s.bolt e).cursor
      ∨ (s.stripeLive ⟨e, 1, (s.bolt e).cursor⟩ || (s.migSources e).any (fun x => s.stripeLive x)) = true ∨ s.engines = []) := by
  have hbusy : (s.migSources e).any (fun x => s.stripeLive x) = false := by simpa using hsources
  rintro (h | h | h | h | h | h)
  · exact h hst
  · exact h hnext
  · simp [hcopied] at h
  · omega
  · simp [hlive, hbusy] at h
  · exact heng h

/-! ### Copy-back -/

/-- Copy-back of position `a` past stripe `k`: its cursor, its stripes since a checkpoint, and the positions `pos` no longer
skipped there (R107, R193). -/
def State.copybackPast (u : State) (a : Nat) (k : SKey) (pos : List Nat) : State :=
  { u with
    place := { u.place with copyback := Tbl.set none u.place.copyback a (some (k.num + 1)) }
    darn := { u.darn with cbSince := Tbl.set 0 u.darn.cbSince a (Tbl.get 0 u.darn.cbSince a + 1)
                          skipped := u.darn.skipped.filter (fun e => !(e.1 = k && pos.contains e.2)) } }

/-- Copy-back ends once no stripe of its member is left (R108). -/
def State.copybackEnd (v : State) (a from_ : Nat) : State :=
  if (v.nextEntry from_ (fun w => a < w.g.w)).isNone then v.copybackDone a else v

/-- The next stripe of a copy-back, with what it needs read, no lane of another column on the member and no checkpoint due, has the
member's own column written home. -/
theorem State.copybackStripe_home {s t : State} {a cur c i : Nat} {k : SKey} {g : Geo} {cells : List Cell}
    (hcur : Tbl.get none s.place.copyback a = some cur) (hst : s.posState a = .rebuilding)
    (hk : s.nextEntry cur (fun w => a < w.g.w) = some (k, g)) (hlive : s.stripeLive k = false) (heng : s.engines ≠ [])
    (hcol : findAt (fun (e : Nat × Nat) => e.1 = a) (g.patRow k.stripe) = some (c, (a, i))) (hlanes : s.laneColsOn k a = [])
    (hmore : s.syncMore k cells = false) (hsync : s.syncFirst k cells = (t, true)) (hread : t.moreToRead k cells [c] = false)
    (hsince : Tbl.get 0 (t.cbWrite k cells [(c, a, g.homeOff (s.slotOf k).2 k.stripe i)]).darn.cbSince a < 255) :
    s.copybackStripe a cells = ((t.cbWrite k cells [(c, a, g.homeOff (s.slotOf k).2 k.stripe i)]).copybackPast a k
      (g.colPos k.stripe [c])).copybackEnd a (k.num + 1) := by
  have hgo : ¬ (s.stripeLive k = true ∨ s.engines = [] ∨ s.syncMore k cells = true) := by simp [hlive, heng, hmore]
  have hstay : ¬ s.posState a ≠ .rebuilding := not_not_intro hst
  generalize hu : t.cbWrite k cells [(c, a, g.homeOff (s.slotOf k).2 k.stripe i)] = u at hsince ⊢
  have hmod : (Tbl.get 0 u.darn.cbSince a + 1) % 256 = Tbl.get 0 u.darn.cbSince a + 1 := Nat.mod_eq_of_lt (by omega)
  have hnone : ¬ Tbl.get 0 u.darn.cbSince a + 1 = 256 := by omega
  simp only [State.copybackStripe, hcur, if_neg hstay, hk, if_neg hgo, hcol, hlanes, hsync, List.cons_append, List.nil_append, List.map_cons,
    List.map_nil, hread, Bool.and_false, Bool.false_eq_true, Bool.true_eq_false, reduceCtorEq, if_false, hu, hmod, if_neg hnone]
  rfl

theorem State.copybackStripe_none_left {s : State} {a cur : Nat} (cells : List Cell)
    (hcur : Tbl.get none s.place.copyback a = some cur) (hst : s.posState a = .rebuilding)
    (hk : s.nextEntry cur (fun w => a < w.g.w) = none) : s.copybackStripe a cells = s.copybackDone a := by
  simp only [State.copybackStripe, hcur, if_neg (not_not_intro hst), hk]

end Sys2Proof.Machine

open Sys2Proof Sys2Proof.Machine

/-- Settles O10: each step of a migration and of copy-back through the lemma of its case; a stripe is copied past the guard of
`migCopy`. -/
theorem migrationCommands : Obligations.MigrationCommands := by
  unfold Obligations.MigrationCommands
  refine ⟨fun h e g => ?queue, fun s t e base m hm hplace hmaps hbolt howner hz hslot => ?start,
    fun s e cells m b gt j hm hb hgt hst hnext hcopied hmore hlive hsources heng hj => ?copy,
    fun s e m hm hcopied hst hnext hplaced => ?retire,
    fun s t u a cur c i k g cells hcur hst hk hlive heng hcol hlanes hmore hsync hread hsince hu => ?stripe,
    fun s a cur cells hcur hst hk => ?done⟩
  case queue =>
    refine ActionRuns.of _ (exec_boltMigrate h e g) fun u ⟨hg, hmaps, hbolt, hgeo, hnew⟩ => ?_
    rw [State.actMigrate, if_pos hg, State.boltMigrateOp_queues hmaps hbolt hgeo, State.askMigrate_new g hnew]
  case start =>
    exact exec_ends (exec_migrationStart e s) (State.migStart_in_slot hm hplace hmaps hbolt howner hz hslot)
  case copy =>
    subst hb hgt hj
    refine exec_ends (exec_migrationStripeCopy e cells s) ?_
    simp only [State.migCopy, hm]
    exact if_neg (State.migCopy_ready hst hnext hcopied hmore hlive hsources heng)
  case retire => exact exec_ends (exec_migrationRecordRetire e s) (State.migRetire_of_copied hm hcopied hst hnext hplaced)
  case stripe =>
    subst hu
    exact exec_ends (exec_copybackStripe a cells s)
      (State.copybackStripe_home hcur hst hk hlive heng hcol hlanes hmore hsync hread hsince)
  case done => exact exec_ends (exec_copybackStripe a cells s) (State.copybackStripe_none_left cells hcur hst hk)
end

section
/-!
PROOFS. The device RAM (R125, R259, R274): what a read returns after a write.
-/

namespace Sys2Proof.Machine

/-- Each address of a write holds its byte of the number, every other address what it held. -/
theorem Tbl.get_memWrite {m : Tbl Nat} (hm : Memory.wf m = true) (a n v b : Nat) :
    Tbl.get 0 (memWrite m a n v) b = if a ≤ b ∧ b < a + n then v / 256 ^ (b - a) % 256 else Tbl.get 0 m b := by
  induction n generalizing m a v with
  | zero => rw [memWrite, if_neg (by omega)]
  | succ n ih =>
    rw [memWrite, ih (Tbl.wf_set 0 m a _ hm)]
    rcases Nat.lt_trichotomy b a with hlt | rfl | hgt
    · rw [if_neg (by omega), if_neg (by omega), Tbl.get_set_of_ne 0 m _ (by omega)]
    · rw [if_neg (by omega), if_pos (by omega), Tbl.get_set_self 0 m b _ hm, Nat.sub_self, Nat.pow_zero, Nat.div_one]
    · have hbyte : v / 256 / 256 ^ (b - (a + 1)) = v / 256 ^ (b - a) := by
        rw [Nat.div_div_eq_div_mul, ← Nat.pow_succ', Nat.succ_eq_add_one, show b - (a + 1) + 1 = b - a by omega]
      rw [hbyte, Tbl.get_set_of_ne 0 m _ (by omega)]
      have hrange : (a + 1 ≤ b ∧ b < a + 1 + n) = (a ≤ b ∧ b < a + (n + 1)) := propext (by omega)
      exact ite_congr hrange (fun _ => rfl) (fun _ => rfl)

theorem memRead_one (m : Tbl Nat) (b : Nat) : memRead m b 1 = Tbl.get 0 m b % 256 := rfl

/-- A number whose bytes stand at the addresses from `a` on is read back from them. -/
theorem memRead_of_bytes {m : Tbl Nat} {a n v : Nat} (h : ∀ i < n, Tbl.get 0 m (a + i) % 256 = v / 256 ^ i % 256) :
    memRead m a n = v % 256 ^ n := by
  induction n generalizing a v with
  | zero => exact (Nat.mod_one v).symm
  | succ n ih =>
    have hfirst : Tbl.get 0 m a % 256 = v % 256 := by simpa using h 0 (Nat.succ_pos n)
    have hrest : memRead m (a + 1) n = v / 256 % 256 ^ n := ih fun i hi => by
      rw [Nat.div_div_eq_div_mul, ← Nat.pow_succ', Nat.add_assoc, Nat.add_comm 1 i]
      exact h (i + 1) (Nat.succ_lt_succ hi)
    calc memRead m a (n + 1)
        = v % 256 + 256 * (v / 256 % 256 ^ n) := by rw [memRead, hfirst, hrest]
      _ = v % 256 ^ (n + 1) := by rw [Nat.pow_succ', Nat.mod_mul]

theorem memRead_memWrite_self {m : Tbl Nat} (hm : Memory.wf m = true) (a n v : Nat) :
    memRead (memWrite m a n v) a n = v % 256 ^ n :=
  memRead_of_bytes fun i hi => by
    rw [Tbl.get_memWrite hm, if_pos (by omega), Nat.add_sub_cancel_left, Nat.mod_mod]

end Sys2Proof.Machine

open Sys2Proof Sys2Proof.Machine

/-- Settles O54: by induction on the number of bytes written, and on the number read. -/
theorem ramReadsWhatWasWritten : Obligations.RamReadsWhatWasWritten := by
  unfold Obligations.RamReadsWhatWasWritten
  refine ⟨fun s a n v b hm => ?byte, fun s a n v hm => memRead_memWrite_self hm a n v, fun _ _ _ _ => rfl⟩
  case byte =>
    simp only [memRead_one, State.ramWrite, Tbl.get_memWrite hm, apply_ite (· % 256), Nat.mod_mod]
end

section
/-!
PROOFS. The hoop's frames (R116, R121, R122, R126 to R129): reservation, fill reads, hold timers and the start of a destage.
-/

namespace Sys2Proof.Machine

/-! ### A frame reserved (R121, R122) -/

theorem findAt_singleton {α : Type} {p : α → Bool} {x : α} (h : p x = true) : findAt p [x] = some (0, x) := by
  simp only [findAt, List.zipIdx_singleton, List.find?_singleton, h, if_true, Option.map_some]

theorem State.findWrite_only {s : State} {c : WCmd} (h : s.hoop.writes = [c]) : s.findWrite c.id = some c := by
  simp only [State.findWrite, h, List.find?_singleton, decide_true, if_true]

/-- The hoop with a frame of a stripe RESERVED for a write; a CLEAN stripe is FILLING with it (R116, Table 4-2). -/
def State.withFrame (s : State) (k : SKey) (col id : Nat) : State :=
  s.putStripe k { s.stripe k with
    frames := Tbl.set none (s.stripe k).frames col (some { owner := id })
    st := if (s.stripe k).st = .clean then .filling else (s.stripe k).st }

/-- A range whose data is asked for, with a new frame outside the successor. -/
def Range.reserved (r : Range) : Range := { r with st := 1, newFrame := true, shadow := false }

/-- A range of a stripe that takes frames, without one yet and with room for it, gets its frame, and its data is asked for. -/
theorem State.reserveRange_of_room {s : State} {c : WCmd} {r : Range} (idx : Nat) (hshadow : (s.stripe r.key).shadowed = false)
    (hfree : Tbl.get none (s.stripe r.key).frames r.col = none) (hroom : s.blockedBy c (s.slotOf r.key).1.uBytes = 0) :
    s.reserveRange c idx r
      = (((s.withFrame r.key r.col c.id).updRange c.id idx Range.reserved).later (.fetch c.req c.id idx), 0) := by
  simp only [State.reserveRange, hshadow, hfree, hroom, Bool.false_eq_true, ne_eq, not_true_eq_false, if_false]
  rfl

/-- The only write in progress, with its only range reserved. -/
theorem State.updRange_only {s : State} {c : WCmd} {r : Range} (f : Range → Range) (hw : s.hoop.writes = [c]) (hr : c.ranges = [r]) :
    s.updRange c.id 0 f = { s with hoop := { s.hoop with writes := [{ c with ranges := [f r] }] } } := by
  simp [State.updRange, State.updWrite, updWhere, updAt, hw, hr]

/-- The state in which the only range of the write `c` has its frame and its data is asked for. -/
def State.frameAsked (s : State) (c : WCmd) (r : Range) : State :=
  { s with
    hoop := { (s.withFrame r.key r.col c.id).hoop with writes := [{ c with ranges := [r.reserved] }] }
    todo := s.todo ++ [.fetch c.req c.id 0] }

section
variable {s : State} {c : WCmd} {r : Range} (hw : s.hoop.writes = [c]) (hr : c.ranges = [r]) (hst : r.st = 0)
  (hshadow : (s.stripe r.key).shadowed = false) (hfree : Tbl.get none (s.stripe r.key).frames r.col = none)
  (hroom : s.blockedBy c (s.slotOf r.key).1.uBytes = 0)
include hw hr hst hshadow hfree hroom

theorem State.reserveAll_only : s.reserveAll c.id 1 = (s.frameAsked c r, 0) := by
  have hfirst : findAt (fun g : Range => decide (g.st = 0)) c.ranges = some (0, r) := by
    rw [hr]; exact findAt_singleton (decide_eq_true hst)
  have hframe : (s.withFrame r.key r.col c.id).hoop.writes = [c] := hw
  simp only [State.reserveAll, State.findWrite_only hw, hfirst, State.reserveRange_of_room 0 hshadow hfree hroom,
    State.updRange_only Range.reserved hframe hr]
  rfl

theorem State.serveList_only : State.serveList c.ns [c.id] s = s.frameAsked c r := by
  have hall : s.reserveAll c.id c.ranges.length = (s.frameAsked c r, 0) := by
    rw [hr]; exact State.reserveAll_only hw hr hst hshadow hfree hroom
  simp [State.serveList, State.findWrite_only hw, hall]

/-- The write waits no longer once it is served. -/
theorem State.serveFrames_only (hq : s.hoop.queue = [c.id]) :
    s.serveFrames c.ns = { s.frameAsked c r with hoop := { (s.frameAsked c r).hoop with queue := [] } } := by
  have hserved : (s.frameAsked c r).waits c.id = false := by
    simp [State.waits, State.findWrite, State.frameAsked, Range.reserved]
  have hqueue : (s.frameAsked c r).hoop.queue = [c.id] := hq
  rw [State.serveFrames, hq, State.serveList_only hw hr hst hshadow hfree hroom]
  simp only [hqueue, List.filter_cons, hserved, List.filter_nil, Bool.false_eq_true, if_false]

end

/-! ### A fill read (R126) -/

/-- A fill read that ends, with nothing newer of the block in the hoop, is merged with the write's bytes into the frame. -/
theorem State.fillReadDone_merged {s t : State} {f : FillWait} {c : WCmd} {r : Range} (b : Blk)
    (hf : s.hoop.fills.find? (fun g => g.cmd = f.cmd && g.range = f.range && g.row = f.row) = some f)
    (hc : s.findWrite f.cmd = some c) (hr : c.ranges[f.range]? = some r) (hnew : (s.stripe r.key).newest r.col f.row = none)
    (ht : t = { s with hoop := { s.hoop with
      fills := s.hoop.fills.filter (fun g => !(g.cmd = f.cmd && g.range = f.range && g.row = f.row)) } }) :
    s.fillReadDone f.cmd f.range f.row (some b) = (t.putBlk r.key r.shadow r.col f.row
      (t.mergeBlk (s.bolt r.key.entry).ns (s.blkNo r.key r.col f.row) b f.lo f.len f.data)).rangePlaced f.cmd f.range := by
  subst ht
  have hnew' : ∀ fills, (State.stripe { s with hoop := { s.hoop with fills := fills } } r.key).newest r.col f.row = none :=
    fun _ => hnew
  simp only [State.fillReadDone, hf, hc, hr, hnew', Option.orElse_none]
  rfl

/-! ### Triggers and the start of a destage (R127 to R129) -/

theorem State.trigger_of_filling {s : State} {k : SKey} (h : (s.stripe k).st = .filling) :
    s.trigger k = s.putStripe k { s.stripe k with trig := true } := if_pos h

theorem State.holdOver_of_expired {s : State} {k : SKey} {tm : Nat} (htm : (s.stripe k).timer = some tm)
    (hover : tm + (s.stripe k).hold ≤ s.clk.ns) : s.holdOver k = s.trigger k := by
  simp only [State.holdOver, htm, if_pos hover]

/-- A triggered stripe of a bolt that is not ZERO, without a live record and not held, starts fill-in. -/
theorem State.destageStart_of_triggered {s : State} {k : SKey} (hst : (s.stripe k).st = .filling) (htrig : (s.stripe k).trig = true)
    (hfill : (s.stripe k).fillIn = false) (hlive : s.stripeLive k = false) (hvault : s.vault.state ≠ 1) (hheld : s.migHeld k = false)
    (hbolt : (s.bolt k.entry).st ≠ .zero) : s.destageStart k = s.putStripe k { s.stripe k with fillIn := true } := by
  have hgo : ¬ ((s.stripe k).st ≠ .filling ∨ (s.stripe k).trig = false ∨ (s.stripe k).fillIn = true ∨ s.stripeLive k = true
      ∨ s.vault.state = 1 ∨ s.migHeld k = true) := by simp [hst, htrig, hfill, hlive, hvault, hheld]
  simp only [State.destageStart, if_neg hgo, if_neg hbolt]

end Sys2Proof.Machine

open Sys2Proof Sys2Proof.Machine

/-- Settles O11: each command through the lemma of what it reserves, merges, triggers or starts. -/
theorem hoopFillCommands : Obligations.HoopFillCommands := by
  unfold Obligations.HoopFillCommands
  refine ⟨fun s c r hq hw hr hst hshadow hfree hroom => ?reserve, fun s t f c r data pi hf hc hr hnew ht => ?fill,
    fun s entry sel stripe tm htm hover hst => ?hold, fun s entry sel stripe x hx hst htrig hfill hlive hvault hheld hbolt => ?start⟩
  case reserve =>
    exact exec_ends (exec_frameReserve c.ns s) (State.serveFrames_only hw hr hst hshadow hfree hroom hq)
  case fill =>
    exact exec_ends (exec_fillReadDone f.cmd f.range f.row true data pi s) (State.fillReadDone_merged ⟨data, pi⟩ hf hc hr hnew ht)
  case hold =>
    exact exec_ends (exec_holdTimerExpiry entry sel stripe s)
      ((State.holdOver_of_expired htm hover).trans (State.trigger_of_filling hst))
  case start =>
    subst hx
    exact exec_ends (exec_destageStart entry sel stripe s)
      (State.destageStart_of_triggered hst htrig hfill hlive hvault hheld hbolt)
end

section
/-!
PROOFS. Mirror resync, the region's shrink, journal pages and copies, and parity resync (R120, R139 to R141, R145, R150).
-/

namespace Sys2Proof.Machine

/-! ### The mirror (R120, R139) -/

@[simp] theorem State.writeSolo_hoop (s : State) (r : Option SoloRec) : (s.writeSolo r).hoop = s.hoop := by
  unfold State.writeSolo; split <;> rfl

/-- No range satisfies `p`: nothing is acknowledged. -/
theorem State.ackWhere_none {s : State} {p : WCmd → Range → Bool} (h : ∀ c ∈ s.hoop.writes, ∀ r ∈ c.ranges, p c r = false) :
    s.ackWhere p = s := by
  have hnone : s.rangesWhere p = [] := by
    refine List.flatMap_eq_nil_iff.mpr fun c hc => List.map_eq_nil_iff.mpr (List.filter_eq_nil_iff.mpr fun e he => ?_)
    rw [h c hc e.1 (List.fst_mem_of_mem_zipIdx he)]
    exact Bool.false_ne_true
  rw [State.ackWhere, hnone, List.foldl_nil]

/-- With every DIRTY frame acknowledged and no range that waits for it, the mirror is whole again. -/
theorem State.resyncDone_of_acked {s : State} (hst : s.hoop.mirrorState = 2)
    (hacked : ∀ e ∈ s.hoop.stripes, ∀ f ∈ e.2.all, f.blks = [] ∨ f.acked = true)
    (hranges : ∀ c ∈ s.hoop.writes, ∀ r ∈ c.ranges, r.st ≠ 2) :
    s.resyncDone = State.writeSolo { s with hoop := { s.hoop with mirrorState := 0 } } none := by
  have hall : s.hoop.stripes.all (fun e => e.2.all.all (fun f => f.blks = [] || f.acked)) = true := by simpa using hacked
  simp only [State.resyncDone, hst, hall, ne_eq, not_true_eq_false, Bool.true_eq_false, or_self, if_false]
  refine State.ackWhere_none fun c hc r hr => ?_
  rw [State.writeSolo_hoop] at hc
  rw [decide_eq_false (hranges c hc r hr), Bool.false_and]

theorem State.regionShrink_of_low {s : State} {n dirty : Nat} (hlow : s.hoop.lowering = some n) (hn : dirty ≤ n * 1048576) :
    s.regionShrink dirty = { s with hoop := { s.hoop with lowering := none } } := by
  simp only [State.regionShrink, hlow, if_pos hn]

/-! ### Journal pages (R141) -/

/-- The waiting records that fit a page go to both journal members; where none of them is stale, that is all. -/
theorem State.writePage_to_both {s t : State} (hwait : s.jour.waiting ≠ []) (h0 : s.journalAt s.jour.pos0 = true)
    (h1 : s.journalAt s.jour.pos1 = true)
    (ht : t = { s with
      jour := { s.jour with
        waiting := s.jour.waiting.drop 63, page := wrapAdd 64 s.jour.page 1
        pages := s.jour.pages ++ [⟨s.jour.page, s.jour.waiting.take 63, true, true⟩]
        recs := s.jour.recs.map (fun r => if (s.jour.waiting.take 63).contains r.jseq then { r with page := s.jour.page } else r) }
      outbox := .journalPage s.jour.pos1 s.jour.page :: .journalPage s.jour.pos0 s.jour.page :: s.outbox })
    (hstale : t.staleRecs = []) : s.writePage = t := by
  subst ht
  simp only [State.writePage, if_neg hwait, h0, h1, Bool.or_self, if_true, State.emit]
  rw [hstale, List.foldl_nil]

/-- A page that copy 0 has taken: it leaves the pages once copy 1 has it too, and its records stand in copy 0. -/
theorem State.pageDone_copy0 {s : State} {p : JPage} (hp : s.jour.pages.find? (fun q => q.seq = p.seq && q.out0) = some p) :
    s.pageDone p.seq 0 true = { s with jour := { s.jour with
      pages := (updWhere (fun (q : JPage) => q.seq = p.seq) (fun q => { q with out0 := false }) s.jour.pages).filter (fun q => q.out0 || q.out1)
      recs := s.jour.recs.map (fun r => if p.recs.contains r.jseq then { r with on0 := true } else r) } } := by
  simp only [State.pageDone, if_true, hp, Bool.true_and, Bool.true_eq_false, false_and, if_false]
  split <;> rfl

/-! ### Journal copies (R145) -/

/-- The second copy is whole at its new member. -/
theorem State.rehomeDone_copy1 {s u : State} {a : Nat} (hre : s.jour.rehome = some (1, a))
    (hu : u = ((State.sendMapBlock { s with jour := { s.jour with
      rehome := none, recs := s.jour.recs.map (fun r => { r with on1 := true }) } } 0).note 0xC04 0 0 0 0).setCnt Obj.bastRehomeDone 0 100) :
    s.rehomeDone = (if u.actAt Obj.bastJournalMove 0 % 256 = 1 then u.actDone Obj.bastJournalMove 0 else u).journalCheck := by
  subst hu
  simp only [State.rehomeDone, hre, Nat.one_ne_zero, if_false]

/-- A member IN_SERVICE of this side's parity that is not the first copy's takes the second copy. -/
theorem State.journalMove_starts {s : State} {a : Nat} (hidle : s.jour.rehome = none) (hside : a % 2 = s.skn.side)
    (hserv : s.inService a = true) (hpos : a ≠ s.jour.pos0) :
    s.journalMove a = (State.setCnt { s with jour := { s.jour with
        pos1 := a, rehome := some (1, a), recs := s.jour.recs.map (fun r => { r with on1 := false }) } }
      Obj.bastRehomeDone 0 0).actRun Obj.bastJournalMove 0 := by
  have hok : ¬ (a % 2 ≠ s.skn.side ∨ s.inService a = false ∨ a = s.jour.pos0) := by simp [hside, hserv, hpos]
  rw [State.journalMove, if_neg (not_not_intro hidle), if_neg hok]

/-! ### Parity resync (R150) -/

/-- The next stripe of a SUSPECT bolt, not its last one and with no checkpoint due, gets its parity; the walk moves on. -/
theorem State.resyncStripe_synced {s t : State} {k : SKey} {g : Geo} {cells : List Cell}
    (hk : s.nextEntry s.jour.resync (fun w => (s.bolt w.key.entry).suspect) = some (k, g)) (hlive : s.stripeLive k = false)
    (heng : s.engines ≠ []) (hmore : s.syncMore k cells = false) (hsync : s.syncFirst k cells = (t, true)) (hsince : t.darn.rsSince < 255)
    (hlast : k.stripe + 1 ≠ g.sb) :
    s.resyncStripe cells = { t with
      jour := { t.jour with resync := k.num + 1 }, darn := { t.darn with rsSince := t.darn.rsSince + 1 } } := by
  have hgo : ¬ (s.stripeLive k = true ∨ s.engines = [] ∨ s.syncMore k cells = true) := by simp [hlive, heng, hmore]
  have hmod : (t.darn.rsSince + 1) % 256 = t.darn.rsSince + 1 := Nat.mod_eq_of_lt (by omega)
  have hnone : ¬ t.darn.rsSince + 1 = 256 := by omega
  simp only [State.resyncStripe, hk, if_neg hgo, hsync, if_true, hmod, if_neg hnone, hlast, decide_false, Bool.false_and,
    Bool.false_eq_true, if_false]

end Sys2Proof.Machine

open Sys2Proof Sys2Proof.Machine

/-- Settles O13: each command through the lemma of what it ends, writes or starts. -/
theorem mirrorAndJournalCommands : Obligations.MirrorAndJournalCommands := by
  unfold Obligations.MirrorAndJournalCommands
  refine ⟨fun s hst hacked hranges => ?resynced, fun s n hlow hn => ?shrunk, fun s t hwait h0 h1 ht hstale => ?page,
    fun s p hp => ?pageDone, fun s u a hre hu => ?rehomed, fun h a => ?move,
    fun s t k g cells hk hlive heng hmore hsync hsince hlast => ?parity⟩
  case resynced => exact exec_ends (exec_mirrorResyncDone s) (State.resyncDone_of_acked hst hacked hranges)
  case shrunk => exact exec_ends (exec_mirrorRegionShrink s) (State.regionShrink_of_low hlow hn)
  case page => exact exec_ends (exec_journalPageTimer s) (State.writePage_to_both hwait h0 h1 ht hstale)
  case pageDone => exact exec_ends (exec_journalPageWriteDone p.seq 0 true s) (State.pageDone_copy0 hp)
  case rehomed => exact exec_ends (exec_journalRehomeDone s) (State.rehomeDone_copy1 hre hu)
  case move =>
    refine ActionRuns.of _ (exec_bastJournalMove h a) fun u ⟨ha, hidle, hside, hserv, hpos⟩ => ?_
    rw [State.actJournalMove, if_pos ha, State.journalMove_starts hidle hside hserv hpos]
  case parity =>
    exact exec_ends (exec_resyncStripe cells s) (State.resyncStripe_synced hk hlive heng hmore hsync hsince hlast)
end

section
/-!
PROOFS. What accepted twin link frames carry (R133, R136, R137, R140, R156, R363, R364, R373; the encodings of the messages and what
comes back after a reboot: log entries 39 and 41).
-/

namespace Sys2Proof.Machine

/-- A frame that is accepted, and whose own effect makes `t` of what every accepted frame leaves, ends in `t`. -/
theorem exec_frame {i : Instr} {s u t : State} {h : TwHdr} {f : State → State} (hi : exec i s = s.act (fun v => v.twinIn h f))
    (hhears : s.twHears h) (hu : u = s.twHeard h) (hf : f u = t) : exec i s = .next (Ends s t) := by
  subst hu hf; exact exec_twin hi hhears

/-! ### Mirror writes, acknowledgments and releases (R133, R136, R137, R156) -/

/-- The frame that a mirror write carries. -/
def mirrorFrameOf (k : FKey) (epoch mseq : Nat) (blks : List Cell) : MirrorFrame :=
  ⟨k.ns, ⟨k.entry, k.sel, k.stripe⟩, k.col, k.gen, mseq, epoch, cellBlks blks⟩

theorem State.mirrorWriteIn_partner {s : State} {k : FKey} (epoch mseq : Nat) (blks : List Cell) (howner : (s.nsp k.ns).owner ≠ s.skn.side) :
    s.mirrorWriteIn epoch k mseq blks = State.twinSend { s with hoop := { s.hoop with
      region := regionWrite s.hoop.region (mirrorFrameOf k epoch mseq blks) } } (.mirrorAck [mseq]) := if_neg howner

theorem State.mirrorWriteIn_own {s : State} {k : FKey} (epoch mseq : Nat) (blks : List Cell) (howner : (s.nsp k.ns).owner = s.skn.side) :
    s.mirrorWriteIn epoch k mseq blks = s.takeBack (mirrorFrameOf k epoch mseq blks) := if_pos howner

theorem regionWrite_new {l : List MirrorFrame} {f : MirrorFrame} (h : ∀ x ∈ l, x.fkey ≠ f.fkey) : regionWrite l f = l ++ [f] := by
  have hnone : l.find? (fun x => x.fkey = f.fkey) = none :=
    List.find?_eq_none.mpr fun x hx => by simpa using h x hx
  simp only [regionWrite, hnone]

/-- A write that a later one of its epoch has overtaken changes nothing. -/
theorem regionWrite_overtaken {l : List MirrorFrame} {f x : MirrorFrame} (hx : l.find? (fun x => x.fkey = f.fkey) = some x)
    (hepoch : x.epoch = f.epoch) (hseq : f.seq < x.seq) : regionWrite l f = l := by
  simp only [regionWrite, hx, if_pos (And.intro hepoch hseq)]

/-- The frame with its write acknowledged where its sequence is among those named. -/
def Frame.ackedBy (seqs : List Nat) (f : Frame) : Frame := if seqs.contains f.mseq then { f with acked := true } else f

/-- The state with every frame acknowledged whose sequence is among those named. -/
def State.framesAcked (s : State) (seqs : List Nat) : State :=
  { s with hoop := { s.hoop with stripes := Tbl.mapRows {} (fun _ (x : Stripe) => { x with
      frames := Tbl.mapRows none (fun _ o => o.map (Frame.ackedBy seqs)) x.frames
      succ := Tbl.mapRows none (fun _ o => o.map (Frame.ackedBy seqs)) x.succ }) s.hoop.stripes } }

/-- A FILLING stripe that is whole in the hoop and acknowledged is triggered (Table 4-1). -/
def State.triggerWhole (s : State) : State :=
  (s.hoop.stripes.filter (fun e => e.2.st = .filling && !e.2.trig)).foldl
    (fun v e => if v.allDirty (skeyOf e.1) then v.trigger (skeyOf e.1) else v) s

/-- In write-through no range waits for the partner; else those that waited for a named sequence are acknowledged. -/
theorem State.mirrorAcked_eq (s : State) (seqs : List Nat) :
    s.mirrorAcked seqs = if (s.framesAcked seqs).writeThrough = true then s.framesAcked seqs
      else ((s.framesAcked seqs).ackWhere (fun _ r => r.st = 2 && seqs.contains r.mseq)).triggerWhole := rfl

/-- The region without the named frames. -/
def State.regionWithout (s : State) (keys : List FKey) : State :=
  { s with hoop := { s.hoop with
    region := s.hoop.region.filter (fun f => !keys.any (fun k => f.fkey = (k.ns, ⟨k.entry, k.sel, k.stripe⟩, k.col, k.gen))) } }

/-- In solo mode a release says that every frame has come back (R139, R156). -/
theorem State.releaseIn_eq (s : State) (keys : List FKey) :
    s.releaseIn keys = if s.hoop.mirrorState = 1 then (s.regionWithout keys).framesBack.startResync else s.regionWithout keys := rfl

/-! ### The keeper's messages (R363, R373) -/

theorem State.keeperIn_criterion_fails {s : State} (b : Nat) {r : Nat} (hk : s.keeper = true) (hr : r ∉ [7, 11, 12, 13]) :
    s.keeperIn (.criterion b r) = s.memFail b r := by simp only [State.keeperIn, hk, if_true, if_neg hr]

theorem State.keeperIn_criterion_failing {s : State} (b : Nat) {r : Nat} (hk : s.keeper = true) (hr : r ∈ [7, 11, 12, 13]) :
    s.keeperIn (.criterion b r) = s.memFailing b r := by simp only [State.keeperIn, hk, if_true, if_pos hr]

/-! ### Proxied commands (R364) -/

/-- Where this path is down too the command fails. -/
theorem State.proxyCmdIn_down {s : State} {bay : Nat} (tag kind lba count : Nat) (data : List (Nat × Nat)) (hlink : (s.link bay).st ≠ 2) :
    s.proxyCmdIn tag bay kind lba count data = s.twinSend (.proxyCpl tag 2 []) := if_pos (.inl hlink)

theorem State.proxyCmdIn_up {s : State} {bay : Nat} (tag kind lba count : Nat) (data : List (Nat × Nat)) {c : MCmd}
    (hlink : (s.link bay).st = 2) (hpath : (s.link bay).path = 0)
    (hc : c = { tag := s.drv.tag, bay := bay, kind := mkindOf kind, lba := lba, count := count, data := data.map (fun d => ⟨d.1, d.2⟩)
                owner := .proxy tag }) :
    s.proxyCmdIn tag bay kind lba count data
      = State.sendCmd { s with drv := { s.drv with cmds := s.drv.cmds ++ [c], tag := s.drv.tag + 1 } } c := by
  subst hc
  exact if_neg (not_or.mpr ⟨not_not_intro hlink, not_not_intro hpath⟩)

section
variable {s : State} {tag : Nat} {c : MCmd} (hc : s.findCmd tag = some c) (hheld : c.held = false)
include hc hheld

/-- A stitch write that succeeds ends for its stripe's destage. -/
theorem State.memberCpl_destage {k : SKey} {col : Nat} (data : List Blk) (howner : c.owner = .destage k col) :
    s.memberCpl tag 0 data = (s.dropCmd tag).destageWritten k col true := by
  simp only [State.memberCpl, hc, hheld, howner, Bool.false_eq_true, if_false, if_true]

/-- A read that succeeds gives its block to the read that waits for it. -/
theorem State.memberCpl_read {id i : Nat} (data : List Blk) (howner : c.owner = .read id i) :
    s.memberCpl tag 0 data = (s.dropCmd tag).readGot id i c.bay data.head? true := by
  simp only [State.memberCpl, hc, hheld, howner, Bool.false_eq_true, if_false, if_true]

/-- A read that ends with a media error gives none. -/
theorem State.memberCpl_read_media_error {id i : Nat} (data : List Blk) (howner : c.owner = .read id i) (hkind : c.kind = .read) :
    s.memberCpl tag 1 data = (s.dropCmd tag).readGot id i c.bay none true := by
  simp only [State.memberCpl, hc, hheld, howner, hkind, Bool.false_eq_true, if_false, Nat.one_ne_zero, decide_true]
end

end Sys2Proof.Machine

open Sys2Proof Sys2Proof.Machine

/-- Settles O41: each frame is accepted and then does what the lemma of its body says. -/
theorem twinFrameCommands : Obligations.TwinFrameCommands := by
  unfold Obligations.TwinFrameCommands
  refine ⟨fun s u h k mseq blks f hh hu hf => ?write, fun l f => ?region, fun s u t h seqs hh hu ht => ?ack,
    fun s u t h keys hh hu ht => ?release, fun s u h recs hh hu => ?journal, fun s h hh => ?notice, fun s u h b hh hu => ?keeper,
    fun s u h tag bay kind lba count data hh hu => ?proxy, fun s u h tag c hh hu hc hheld => ?answer⟩
  case write =>
    subst hf
    exact ⟨fun ho => exec_frame (exec_mirrorWrite h k mseq blks s) hh hu (State.mirrorWriteIn_partner h.epoch mseq blks ho),
      fun ho => exec_frame (exec_mirrorWrite h k mseq blks s) hh hu (State.mirrorWriteIn_own h.epoch mseq blks ho)⟩
  case region => exact ⟨regionWrite_new, fun _ hx hepoch hseq => regionWrite_overtaken hx hepoch hseq⟩
  case ack =>
    subst ht
    refine ⟨fun hthrough => ?_, fun v hwait hv => ?_⟩
    · exact exec_frame (exec_mirrorAck h seqs s) hh hu ((State.mirrorAcked_eq _ seqs).trans (if_pos hthrough))
    · subst hv
      exact exec_frame (exec_mirrorAck h seqs s) hh hu ((State.mirrorAcked_eq _ seqs).trans (if_neg (ne_true_of_eq_false hwait)))
  case release =>
    subst ht
    exact exec_frame (exec_mirrorRelease h keys s) hh hu (State.releaseIn_eq _ keys)
  case journal => exact exec_frame (exec_journalFrame h recs s) hh hu rfl
  case notice => exact exec_frame (exec_vaultNotice h s) hh rfl rfl
  case keeper =>
    have told : ∀ {m : KMsg} {t : State}, u.keeperIn m = t → exec (.keeperFrame h m) s = .next (Ends s t) :=
      exec_frame (exec_keeperFrame h _ s) hh hu
    -- what is for the keeper acts in it, what comes from the keeper in the other device
    exact ⟨fun r hk hr => told (State.keeperIn_criterion_fails b hk hr), fun r hk hr => told (State.keeperIn_criterion_failing b hk hr),
      fun st pos reason hk => told (if_neg (ne_true_of_eq_false hk)),
      fun base tbase st geo tgeo su lo cur ns hk => told (if_pos hk), fun hk => told (if_pos hk),
      fun hk => told (if_neg (ne_true_of_eq_false hk)), fun hk => told (if_neg (ne_true_of_eq_false hk)), fun w => told rfl⟩
  case proxy =>
    have asked : ∀ {t : State}, u.proxyCmdIn tag bay kind lba count data = t →
        exec (.proxyCmd h tag bay kind lba count data) s = .next (Ends s t) :=
      exec_frame (exec_proxyCmd h tag bay kind lba count data s) hh hu
    exact ⟨fun hl => asked (State.proxyCmdIn_down tag kind lba count data hl),
      fun c hl hp hc => asked (State.proxyCmdIn_up tag kind lba count data hl hp hc)⟩
  case answer =>
    have answered : ∀ {status : Nat} {data : List (Nat × Nat)} {t : State}, u.memberCpl tag status (blkArgs data) = t →
        exec (.proxyCpl h tag status data) s = .next (Ends s t) := exec_frame (exec_proxyCpl h tag _ _ s) hh hu
    exact ⟨fun k col data ho => answered (State.memberCpl_destage hc hheld _ ho),
      fun id i data ho => answered (State.memberCpl_read hc hheld _ ho),
      fun id i data ho hk => answered (State.memberCpl_read_media_error hc hheld _ ho hk)⟩
end

section
/-!
PROOFS. P over a row of data blocks (R163) and the decode of a row that lacks blocks (R169).
-/

namespace Sys2Proof.Machine

/-! ### P as an exclusive-or -/

theorem foldl_xor_eq (d : List Nat) (a : Nat) : d.foldl (fun p x => p ^^^ x) a = a ^^^ parityP d := by
  induction d generalizing a with
  | nil => exact (Nat.xor_zero a).symm
  | cons b d ih => rw [parityP, List.foldl_cons, List.foldl_cons, ih, ih (0 ^^^ b), Nat.zero_xor, Nat.xor_assoc]

theorem parityP_cons (b : Nat) (d : List Nat) : parityP (b :: d) = b ^^^ parityP d := by
  rw [parityP, List.foldl_cons, foldl_xor_eq, Nat.zero_xor]

/-- P and the P of the row with one block taken out differ by that block. -/
theorem parityP_xor_parityP_set_zero {d : List Nat} {x : Nat} (hx : x < d.length) : parityP d ^^^ parityP (d.set x 0) = d[x] := by
  induction d generalizing x with
  | nil => exact absurd hx (Nat.not_lt_zero x)
  | cons b d ih =>
    cases x with
    | zero => rw [List.set_cons_zero, parityP_cons, parityP_cons, Nat.zero_xor, Nat.xor_assoc, Nat.xor_self, Nat.xor_zero,
        List.getElem_cons_zero]
    | succ x =>
      have hx' : x < d.length := Nat.lt_of_succ_lt_succ hx
      calc parityP (b :: d) ^^^ parityP ((b :: d).set (x + 1) 0)
        _ = (parityP d ^^^ b) ^^^ (b ^^^ parityP (d.set x 0)) := by
          rw [List.set_cons_succ, parityP_cons, parityP_cons, Nat.xor_comm b (parityP d)]
        _ = parityP d ^^^ parityP (d.set x 0) := by
          rw [Nat.xor_assoc, ← Nat.xor_assoc b b, Nat.xor_self, Nat.zero_xor]
        _ = d[x] := ih hx'

/-! ### The cells that lack, and the blocks known -/

/-- No cell of complete data lacks, wherever its columns are counted from. -/
theorem filter_none_zipIdx_map_some (d : List Nat) (n : Nat) : ((d.map some).zipIdx n).filter (fun e => e.1 = none) = [] := by
  induction d generalizing n with
  | nil => rfl
  | cons b d ih => rw [List.map_cons, List.zipIdx_cons, List.filter_cons_of_neg (by simp), ih]

theorem Cells.missing_of_complete (d : List Nat) (p q : Option Nat) : Cells.missing ⟨d.map some, p, q⟩ = [] := by
  rw [Cells.missing, filter_none_zipIdx_map_some, List.map_nil]

theorem Cells.missing_of_one_lost {d : List Nat} {x : Nat} (hx : x < d.length) (p q : Option Nat) :
    Cells.missing ⟨(d.map some).set x none, p, q⟩ = [x] := by
  have hsplit : (d.map some).set x none = (d.take x).map some ++ none :: (d.drop (x + 1)).map some := by
    rw [List.set_eq_take_append_cons_drop, if_pos (by rwa [List.length_map]), List.map_take, List.map_drop]
  have hcol : ((d.take x).map some).length = x := by rw [List.length_map, List.length_take_of_le (Nat.le_of_lt hx)]
  rw [Cells.missing, hsplit, List.zipIdx_append, hcol, List.filter_append, filter_none_zipIdx_map_some, List.zipIdx_cons,
    List.filter_cons_of_pos (by simp), filter_none_zipIdx_map_some, List.nil_append, List.map_singleton, Nat.zero_add]

theorem map_getD_map_some (d : List Nat) : (d.map some).map (fun x => x.getD 0) = d := by
  rw [List.map_map]; exact List.map_id d

/-! ### Decode -/

theorem Cells.decode_complete (d : List Nat) (p q : Option Nat) : Cells.decode ⟨d.map some, p, q⟩ = some d := by
  simp only [Cells.decode, Cells.missing_of_complete, map_getD_map_some]

/-- What P and the other blocks differ by is the block that lacks (R163, R169). -/
theorem Cells.decode_one_lost {d : List Nat} {x : Nat} (hx : x < d.length) (q : Option Nat) :
    Cells.decode ⟨(d.map some).set x none, some (parityP d), q⟩ = some d := by
  have hknown : ((d.map some).set x none).map (fun y => y.getD 0) = d.set x 0 := by
    rw [List.map_set, map_getD_map_some, Option.getD_none]
  simp only [Cells.decode, Cells.missing_of_one_lost hx, hknown, parityP_xor_parityP_set_zero hx, List.set_set,
    List.set_getElem_self]

theorem Cells.decode_of_three_missing {c : Cells} (h : 3 ≤ c.missing.length) : c.decode = none := by
  match hm : c.missing with
  | [] | [_] | [_, _] => simp [hm] at h
  | _ :: _ :: _ :: _ => simp only [Cells.decode, hm]

end Sys2Proof.Machine

open Sys2Proof Sys2Proof.Machine

/-- Settles O56: which cells lack decides the case of the decode; with one lost, P gives it back. -/
theorem parityRestoresOneBlock : Obligations.ParityRestoresOneBlock :=
  ⟨Cells.decode_complete, fun _ _ q hx => Cells.decode_one_lost hx q, fun _ h => Cells.decode_of_three_missing h⟩
end

section
/-!
PROOFS. The walks: reconstruction and proactive copy (R172 to R175, R201, R202), the rate controller (R179, R180), relisting (R192)
and scrub (R198 to R200).
-/

namespace Sys2Proof.Machine

/-! ### Normal passes and proactive copies -/

/-- The next stitch of a pass, with all that its decode needs read and its spare slot writable, is written there, and the pass
moves on. -/
theorem State.passStripe_rebuilt {s t : State} {a c off l : Nat} {k : SKey} {g : Geo} {place : Nat × Nat} {cells : List Cell}
    (hnext : s.nextPass a (s.pass a).cursor = some (k, c, off, g)) (hlane : s.laneOf a = some l) (hlive : s.stripeLive k = false)
    (heng : s.engines ≠ []) (hnew : (s.pass a).st = 1 → s.reconstructed a k = false) (hmore : s.syncMore k cells = false)
    (hsync : s.syncFirst k cells = (t, true)) (hslot : t.laneSlot k c l = some place) (hread : t.moreToRead k cells [c] = false) :
    s.passStripe a cells = ((t.rebuildCols k cells [(c, place)]).passMoved a off g.uBytes).passEnd a := by
  have hgo : ¬ (s.stripeLive k = true ∨ s.engines = []) := by simp [hlive, heng]
  have hdone : ¬ ((s.pass a).st = 1 ∧ s.reconstructed a k = true) := fun ⟨hst, hrec⟩ => by simp [hnew hst] at hrec
  simp only [State.passStripe, hnext, hlane, if_neg hgo, if_neg hdone, hmore, hsync, hslot, hread,
    Bool.false_eq_true, if_false]

/-- A normal pass runs at rank 2 (R182, R184). -/
theorem State.reconstructStripe_at_rank2 {s : State} {a : Nat} (cells : List Cell) (hst : (s.pass a).st = 1)
    (hpause : s.rw Obj.rbPause 0 ≠ 1) (h1 : s.rank1 = false) : s.reconstructStripe a cells = s.passStripe a cells :=
  if_neg (by simp [hst, hpause, h1])

/-- A proactive copy runs at rank 3 (R201). -/
theorem State.copyStripe_at_rank3 {s : State} {a : Nat} (cells : List Cell) (hst : (s.pass a).st = 3)
    (hpause : s.rw Obj.rbPause 0 ≠ 1) (h1 : s.rank1 = false) (h2 : s.rank2 = false) : s.copyStripe a cells = s.passStripe a cells :=
  if_neg (by simp [hst, hpause, h1, h2])

/-- A waiting copy takes the lowest free lane, where enough lanes stay free (R201). -/
theorem State.copyStart_takes_lane {s : State} {a l : Nat} (hst : (s.pass a).st = 5) (hpos : s.posState a = .failing)
    (hfree : s.freeLane = some l) (hkeep : s.rw Obj.rbKeepLanes 0 + 1 ≤ s.freeLanes) :
    s.copyStart a = ((s.jClear 1 a).putLane l ⟨a, 1⟩).putPass a { st := 3, total := s.passTotal a } := by
  rw [State.copyStart, if_pos ⟨hst, hpos⟩]
  simp only [State.startCopy, hfree, if_pos hkeep]

/-! ### Critical passes (R175) -/

/-- The critical pass of `a` and `b` stands before stripe `x` of the slot at `base`. -/
def State.critMoved (t : State) (a b base x : Nat) : State :=
  { t with darn := { t.darn with
      crits := updWhere (fun (d : Crit) => d.a = a && d.b = b) (fun d => { d with base := base, stripe := x }) t.darn.crits } }

/-- Both stitches of the next stripe of a critical pass, each with a lane whose slot is writable, are written. -/
theorem State.criticalStripe_both {s t : State} {c : Crit} {k : SKey} {base la lb ca cb ia ib : Nat} {g : Geo} {pa pb : Nat × Nat}
    {cells : List Cell} (hc : s.darn.crits.find? (fun d => d.a = c.a && d.b = c.b) = some c) (hnext : s.nextCrit c = some (k, base, g))
    (hlive : s.stripeLive k = false) (heng : s.engines ≠ []) (hmore : s.syncMore k cells = false)
    (hsync : s.syncFirst k cells = (t, true)) (hread : t.moreToRead k cells [ca, cb] = false)
    (hcolA : findAt (fun (e : Nat × Nat) => e.1 = c.a) (g.patRow k.stripe) = some (ca, (c.a, ia))) (hlaneA : t.laneOf c.a = some la)
    (hslotA : t.laneSlot k ca la = some pa)
    (hcolB : findAt (fun (e : Nat × Nat) => e.1 = c.b) (g.patRow k.stripe) = some (cb, (c.b, ib))) (hlaneB : t.laneOf c.b = some lb)
    (hslotB : t.laneSlot k cb lb = some pb) :
    s.criticalStripe c.a c.b cells = (t.rebuildCols k cells [(ca, pa), (cb, pb)]).critMoved c.a c.b base (k.stripe + 1) := by
  have hgo : ¬ (s.stripeLive k = true ∨ s.engines = [] ∨ s.syncMore k cells = true) := by simp [hlive, heng, hmore]
  simp only [State.criticalStripe, hc, hnext, if_neg hgo, hsync, List.filterMap_cons, List.filterMap_nil, hcolA, hlaneA, hslotA, hcolB,
    hlaneB, hslotB, Option.map_some, List.map_cons, List.map_nil, hread, Bool.false_eq_true, if_false]
  rfl

/-! ### The rate controller (R179, R180) -/

/-- What a window makes of a rate: it grows by `step` where few host reads came or their latency is well below the target, shrinks
to seven tenths above the target (truncated), and else stays. -/
def State.rateMoved (s : State) (reads p99 r step : Nat) : Nat :=
  if reads < 1000 ∨ 10 * p99 ≤ 8 * s.rw Obj.rbLatTarget 0 then r + step
  else if s.rw Obj.rbLatTarget 0 < p99 then r * 7 / 10 else r

/-- With no ACTIVE geometry the ceiling is 0; with no pass at rank 1 or 2 the window moves `bg.rate` alone, within its bounds. -/
theorem State.rateWindow_idle_without_geometry {s : State} (reads p99 : Nat) (h1 : s.rank1 = false) (h2 : s.rank2 = false)
    (hgeos : s.passGeos = []) :
    s.rateWindow reads p99 = State.scrubCheck { s with darn := { s.darn with
      ceiling := 0, bgRate := min (max (s.rateMoved reads p99 s.darn.bgRate 0) (s.rw Obj.bgFloor 0)) (s.rw Obj.bgMax 0), p99 := p99 } } := by
  have hk : maxOf (([] : List Geo).map (fun g => g.k)) = 0 := rfl
  simp only [State.rateWindow, hgeos, hk, h1, h2, if_true, Bool.or_self, Bool.false_eq_true, if_false, Nat.zero_div]
  rfl

/-! ### Relisting (R192) -/

/-- Relisting ends: the lost block list is complete. -/
def State.relistEnd (s : State) : State :=
  State.setCnt { s with darn := { s.darn with relisting := false } } Obj.lblComplete 0 1

theorem State.relistStripe_none_left {s : State} (cells : List Cell) (hon : s.darn.relisting = true)
    (hnext : s.nextEntry s.darn.relist (fun w => (s.bolt w.key.entry).lost) = none) : s.relistStripe cells = s.relistEnd := by
  rw [State.relistStripe, if_neg (by simp [hon])]
  simp only [hnext]
  rfl

/-- A stripe without poison lists nothing; relisting moves past it, and ends where no stripe is left. -/
theorem State.relistStripe_without_poison {s : State} {k : SKey} {g : Geo} {cells : List Cell} (hon : s.darn.relisting = true)
    (hnext : s.nextEntry s.darn.relist (fun w => (s.bolt w.key.entry).lost) = some (k, g))
    (hread : s.allGiven k cells (List.range g.k) = true) (hclean : s.poisons k cells = []) :
    s.relistStripe cells =
      (let u : State := { s with darn := { s.darn with relist := k.num + 1 } }
       if (u.nextEntry (k.num + 1) (fun w => (u.bolt w.key.entry).lost)).isNone then u.relistEnd else u) := by
  simp only [State.relistStripe, hon, hnext, hread, hclean, List.foldl_nil, Bool.true_eq_false, if_false, if_true]
  rfl

/-! ### Scrub (R198 to R200) -/

/-- Scrub moves past stripe `k`; at a bolt's last stripe it goes on at the next entry, and its cursor is recorded (R200). -/
def State.scrubPast (u : State) (k : SKey) (g : Geo) : State :=
  if k.stripe + 1 = g.sb then State.sendMapBlock { u with darn := { u.darn with scrub := (k.num / 65536 + 1) * 65536 } } 0
  else { u with darn := { u.darn with scrub := k.num + 1 } }

/-- Scrub at rank 8 checks the next stripe, once all of it is read, and moves past it. -/
theorem State.scrubStripe_checked {s : State} {k : SKey} {g : Geo} {cells : List Cell} (hon : s.rw Obj.scrubEnable 0 ≠ 0)
    (h1 : s.rank1 = false) (h2 : s.rank2 = false) (h3 : s.rank3 = false) (heng : s.engines ≠ [])
    (hnext : s.nextEntry s.darn.scrub (fun _ => true) = some (k, g)) (hlive : s.stripeLive k = false) (hsusp : s.suspect k = false)
    (hread : s.allGiven k cells (List.range (g.k + 2)) = true) :
    s.scrubStripe cells = ((s.scrubOutcome k cells).scrubPast k g).scrubCheck := by
  rw [State.scrubStripe, if_neg (by simp [hon, h1, h2, h3, heng])]
  simp only [hnext, hlive, hsusp, hread, Bool.false_eq_true, Bool.true_eq_false, and_false, or_self, if_false, State.scrubPast]
  split <;> rfl

end Sys2Proof.Machine

open Sys2Proof Sys2Proof.Machine

/-- Settles O15: each walk past its guard, then through the lemma of what it does with its stripe. -/
theorem walkCommands : Obligations.WalkCommands := by
  unfold Obligations.WalkCommands
  refine ⟨fun s t a c off l k g place cells hst hpause h1 hnext hlane hlive heng hnew hmore hsync hslot hread => ?reconstruct,
    fun s t c k base la lb ca cb ia ib g pa pb cells hc hnext hlive heng hmore hsync hread hcolA hlaneA hslotA hcolB hlaneB hslotB =>
      ?critical,
    fun s reads p99 ceil r h1 h2 hgeos _ hceil hr => ?rates, fun s cells hon hnext => ?relisted,
    fun s cells k g hon hnext hread hclean => ?relist,
    fun s u cells k g hon h1 h2 h3 heng hnext hlive hsusp hread hu => ?scrub, fun h => ?scrubStart,
    fun s a l hst hpos hfree hkeep => ?copyStart,
    fun s t a c off l k g place cells hst hpause h1 h2 hnext hlane hlive heng hmore hsync hslot hread => ?copy⟩
  case reconstruct =>
    exact exec_ends (exec_reconstructStripe a cells s) ((State.reconstructStripe_at_rank2 cells hst hpause h1).trans
      (State.passStripe_rebuilt hnext hlane hlive heng (fun _ => hnew) hmore hsync hslot hread))
  case critical =>
    exact exec_ends (exec_criticalStripe c.a c.b cells s)
      (State.criticalStripe_both hc hnext hlive heng hmore hsync hread hcolA hlaneA hslotA hcolB hlaneB hslotB)
  case rates =>
    subst hceil hr
    exact exec_ends (exec_rateControllerWindow reads p99 s)
      (congrArg State.throttleRates (State.rateWindow_idle_without_geometry reads p99 h1 h2 hgeos))
  case relisted => exact exec_ends (exec_relistStripe cells s) (State.relistStripe_none_left cells hon hnext)
  case relist => exact exec_ends (exec_relistStripe cells s) (State.relistStripe_without_poison hon hnext hread hclean)
  case scrub =>
    subst hu
    exact exec_ends (exec_scrubStripe cells s) (State.scrubStripe_checked hon h1 h2 h3 heng hnext hlive hsusp hread)
  case scrubStart => exact ActionRuns.of_actionReq State.scrubStartOp (exec_scrubStart h) fun _ _ => rfl
  case copyStart => exact exec_ends (exec_proactiveCopyStart a s) (State.copyStart_takes_lane hst hpos hfree hkeep)
  case copy =>
    have hnormal : (s.pass a).st = 1 → s.reconstructed a k = false := fun h => absurd (hst.symm.trans h) (by decide)
    exact exec_ends (exec_proactiveCopyStripe a cells s) ((State.copyStripe_at_rank3 cells hst hpause h1 h2).trans
      (State.passStripe_rebuilt hnext hlane hlive heng hnormal hmore hsync hslot hread))
end

section
/-!
PROOFS. Ethernet ports (R207, R212, R213, R220, R221, R325): links up and down, address resolution, PAUSE and its watchdog.
-/

namespace Sys2Proof.Machine

/-! ### Links (R207, R325) -/

/-- A port with a sub-port whose link came up: it neither holds frames nor discards them. -/
def Port.linkedUp (sub : Nat) (p : Port) : Port :=
  { p with up := p.up ++ [sub], holding := p.holding.filter (fun x => x ≠ sub), flushed := p.flushed.filter (fun x => x ≠ sub) }

/-- A port with a sub-port whose link went down: its queued frames are held, no priority is paused. -/
def Port.linkedDown (sub : Nat) (p : Port) : Port :=
  { p with
    up := p.up.filter (fun x => x ≠ sub), paused := []
    holding := (p.holding.filter (fun x => x ≠ sub)) ++ [sub]
    queues := Tbl.mapRows [] (fun k l => if k / 8 = sub then l.map (fun f => { f with held := true }) else l) p.queues }

/-- Once training may end, a link comes up where the abilities match and is counted where they do not. -/
theorem State.ethUp_of_trained {s : State} {n sub : Nat} (m : Bool) (hopen : s.boot.svcOpen = true) (hn : n < s.ports)
    (hrate : s.subRate n sub ≠ 0) (hon : (Tbl.get {} s.pd n).st = .on) (hfree : s.blocked 1 n = false) (hdown : sub ∉ (s.port n).up) :
    s.ethUp n sub m =
      if m then ((s.updPort n (Port.linkedUp sub)).linkBits n).fenServe 1 n else s.addCnt 32 Obj.ethAnFail n 1 := by
  have hgo : ¬ (s.boot.svcOpen = false ∨ s.ports ≤ n ∨ s.subRate n sub = 0 ∨ (Tbl.get {} s.pd n).st ≠ .on ∨ s.blocked 1 n = true
      ∨ (s.port n).up.contains sub = true) := by simp [hopen, hn, hrate, hon, hfree, hdown]
  rw [State.ethUp, if_neg hgo]
  cases m <;> rfl

/-- With a hold time the frames of a link that goes down wait for it (R325). -/
theorem State.ethDown_holds {s : State} {n sub : Nat} (hup : sub ∈ (s.port n).up) (hhold : s.rw Obj.holdTime n ≠ 0) :
    s.ethDown n sub = ((s.updPort n (Port.linkedDown sub)).linkBits n).later (.detect 0x402 1 n 0) := by
  rw [State.ethDown, if_neg (by simp [hup]), if_neg hhold]
  rfl

/-! ### Address resolution (R212, R213) -/

/-- The frame that answers an address resolution. -/
def resolutionFrame (k : Pkt) (target : Nat) (v6 : Bool) : EFrame :=
  { port := k.port, sub := k.sub, cls := 0, len := if v6 then 90 else 64, data := false, ect := false
    body := if v6 then .neighbor target else .arp target }

theorem State.resolveAddr_of_own {s : State} {k : Pkt} {target g : Nat} {v6 : Bool} (hport : k.port < s.ports)
    (hlink : s.linkUp k.port k.sub = true) (hfec : k.fecBad = false) (hg : s.gidOf { k with dst := target, v6 := v6 } = some g) :
    s.resolveAddr k target v6 = (s.addCnt 64 Obj.ethRxFrames k.port 1).sendFrame (resolutionFrame k target v6) := by
  have hgo : ¬ (s.ports ≤ k.port ∨ s.linkUp k.port k.sub = false) := by simp [hport, hlink]
  have hok : ¬ k.fecBad = true := by simp [hfec]
  simp only [State.resolveAddr, if_neg hgo, if_neg hok, hg]
  rfl

/-! ### PAUSE (R220, R221) -/

/-- A port after a PAUSE of a priority at a time: the pause that lasts keeps its start, zero quanta end it. -/
def Port.afterPause (prio quanta now wd : Nat) (p : Port) : Port :=
  { p with paused := Tbl.set none p.paused prio (if quanta = 0 then none else some ((Tbl.get none p.paused prio).getD (now, wd))) }

theorem State.pfcPause_of_honoured {s : State} {n prio : Nat} (quanta : Nat) (hn : n < s.ports) (hprio : prio < 8)
    (hup : (s.port n).up ≠ []) (hen : bit (s.rw Obj.ethPfcEnable n) prio = true) (hheed : prio ∉ (s.port n).ignored) :
    s.pfcPause n prio quanta =
      (s.addCnt 64 Obj.ethPfcRx n 1).updPort n (Port.afterPause prio quanta s.clk.ns (s.rw Obj.ethPfcWd n)) := by
  have hthere : ¬ (s.ports ≤ n ∨ 8 ≤ prio ∨ (s.port n).up = []) := by simp [hn, hprio, hup]
  have hgo : ¬ (bit (s.rw Obj.ethPfcEnable n) prio = false ∨ (s.port n).ignored.contains prio = true) := by simp [hen, hheed]
  rw [State.pfcPause, if_neg hthere, if_neg hgo]
  rfl

/-- Over its threshold a priority is paused at the sender. -/
theorem State.pfcRepeat_over_xoff {s : State} {n prio level : Nat} (hen : bit (s.rw Obj.ethPfcEnable n) prio = true)
    (hup : (s.port n).up ≠ []) (hover : s.rw Obj.ethPfcXoff n < level) :
    s.pfcRepeat n prio level = (s.sendPause n prio 0xFFFF).updPort n
      (fun p => { p with pausing := (p.pausing.filter (fun x => x ≠ prio)) ++ [prio] }) := by
  rw [State.pfcRepeat, if_neg (by simp [hen, hup]), if_pos hover]

/-- Under the lower threshold the pause is taken back. -/
theorem State.pfcRepeat_under_xon {s : State} {n prio level : Nat} (hen : bit (s.rw Obj.ethPfcEnable n) prio = true)
    (hup : (s.port n).up ≠ []) (hoff : level ≤ s.rw Obj.ethPfcXoff n) (hon : level < s.rw Obj.ethPfcXon n)
    (hpausing : prio ∈ (s.port n).pausing) :
    s.pfcRepeat n prio level = (s.sendPause n prio 0).updPort n
      (fun p => { p with pausing := p.pausing.filter (fun x => x ≠ prio) }) := by
  rw [State.pfcRepeat, if_neg (by simp [hen, hup]), if_neg (Nat.not_lt.mpr hoff), if_pos ⟨hon, by simp [hpausing]⟩]

/-- A pause that lasted the time of the watchdog trips it: PAUSE of the priority is ignored from now on. -/
theorem State.pfcTrip_of_overdue {s : State} {n prio a wd : Nat} (hp : Tbl.get none (s.port n).paused prio = some (a, wd))
    (hwd : wd ≠ 0) (hover : a + wd * 1000000 ≤ s.clk.ns) :
    s.pfcTrip n prio = ((s.updPort n (fun p => { p with
      paused := Tbl.drop p.paused prio, ignored := (p.ignored.filter (fun x => x ≠ prio)) ++ [prio] })).addCnt 32
      Obj.ethPfcWdTrips n 1).later (.detect 0x403 1 n 0) := by
  have hgo : ¬ (wd = 0 ∨ s.clk.ns < a + wd * 1000000) := by omega
  simp only [State.pfcTrip, hp, if_neg hgo]

end Sys2Proof.Machine

open Sys2Proof Sys2Proof.Machine

/-- Settles O16: each command past its guards, through the lemma of what it does with the port. -/
theorem ethernetPortCommands : Obligations.EthernetPortCommands := by
  unfold Obligations.EthernetPortCommands
  refine ⟨fun s n sub m hopen hn hrate hon hfree hdown => ?up, fun s n sub hup hhold => ?down,
    fun s k target g hport hlink hfec => ⟨fun hg => ?arp, fun hg => ?neighbor⟩,
    fun s n prio quanta hn hprio hup hen hheed => ?pause, fun s n prio => ?quantaOver,
    fun s n prio level hen hup => ⟨fun hover => ?xoff, fun hoff hon hpausing => ?xon⟩,
    fun s n prio a wd hp hwd hover => ?trip, fun s n prio => ?recover⟩
  case up => exact exec_ends (exec_ethLinkUp n sub m s) (State.ethUp_of_trained m hopen hn hrate hon hfree hdown)
  case down => exact exec_ends (exec_ethLinkDown n sub s) (State.ethDown_holds hup hhold)
  case arp => exact exec_ends (exec_arpRequest k target s) (State.resolveAddr_of_own hport hlink hfec hg)
  case neighbor => exact exec_ends (exec_neighborSolicitation k target s) (State.resolveAddr_of_own hport hlink hfec hg)
  case pause => exact exec_ends (exec_pfcPause n prio quanta s) (State.pfcPause_of_honoured quanta hn hprio hup hen hheed)
  case quantaOver => exact exec_ends (exec_pauseQuantaExpiry n prio s) rfl
  case xoff => exact exec_ends (exec_pfcRepeatTimer n prio level s) (State.pfcRepeat_over_xoff hen hup hover)
  case xon => exact exec_ends (exec_pfcRepeatTimer n prio level s) (State.pfcRepeat_under_xon hen hup hoff hon hpausing)
  case trip => exact exec_ends (exec_pfcWatchdogExpiry n prio s) (State.pfcTrip_of_overdue hp hwd hover)
  case recover => exact exec_ends (exec_pfcWatchdogRecovery n prio s) rfl
end

section
/-!
PROOFS. Connection management (R226 to R229, Table 6-3): how a REQ waits, is admitted or refused, and what ends a connection.
-/

namespace Sys2Proof.Machine

theorem State.cmReqIn_of_frame {s t : State} {k : Pkt} (q : CmReq) (hframe : s.frameIn k = (t, true)) :
    s.cmReqIn k q = t.cmReq k q := by
  simp only [State.cmReqIn, hframe]

/-- A REQ whose communication ID is neither queued nor answered waits, while the queue has room (R228). -/
theorem State.cmReq_of_new {s : State} (k : Pkt) {q : CmReq} (hreqs : ∀ w ∈ s.net.reqs, w.q.comm ≠ q.comm)
    (hans : ∀ e ∈ s.net.answered, e.1.q.comm ≠ q.comm) (hroom : s.net.reqs.length < 1024) :
    s.cmReq k q = { s with net := { s.net with reqs := s.net.reqs ++ [⟨k, q⟩] } } := by
  have hqueued : ¬ s.net.reqs.any (fun w => w.q.comm = q.comm && w.k.src = k.src && w.k.port = k.port) = true := by
    simpa using fun w hw h => absurd h (hreqs w hw)
  have hanswered : s.net.answered.find? (fun e => e.1.q.comm = q.comm && e.1.k.src = k.src && e.1.k.port = k.port) = none := by
    simpa using fun a b hab h => absurd h (hans (a, b) hab)
  simp only [State.cmReq, if_neg hqueued, hanswered, if_neg (Nat.not_le.mpr hroom)]

/-- What a connection request says of its sender: the row that its REP or REJ is sent by. -/
def State.reqPeer (s : State) (w : ReqWait) : Qp :=
  { port := w.k.port, sub := w.k.sub, mac := w.k.smac, ip := w.k.src, vlan := w.k.vlan, gid := (s.gidOf w.k).getD 0
    comm := w.q.comm, qpn := w.q.qpn, dscp := w.q.dscp, mtu := 1024 }

/-- The admissions of the last second, which the limit of R226 counts. -/
def State.recentAdmits (s : State) : List Nat := s.net.admits.filter (fun a => s.clk.ns < a + 1000000000)

/-- The oldest REQ fails a check: it is refused, and neither counted against the rate nor kept (R226, log entry 53). -/
theorem State.cmAdmit_refuses {s : State} {w : ReqWait} {rest : List ReqWait} {st : Nat} (hreqs : s.net.reqs = w :: rest)
    (hrate : s.recentAdmits.length < 50000) (hcheck : s.reqCheck w.k w.q = .error st) :
    s.cmAdmit = State.rejectReq { s with net := { s.net with reqs := rest } } (s.reqPeer w) st := by
  have hgo : ¬ 50000 ≤ (s.net.admits.filter (fun a => s.clk.ns < a + 1000000000)).length := Nat.not_le.mpr hrate
  simp only [State.cmAdmit, hreqs, if_neg hgo, hcheck]
  rfl

/-- The row of an admitted connection, with the first PSN drawn for it (R227). -/
def State.reqQp (s : State) (w : ReqWait) (h psn : Nat) : Qp :=
  { s.reqPeer w with
    dscp := if s.rw Obj.dscpTc (w.k.port * 64 + w.q.dscp) = 7 then 0 else w.q.dscp
    st := .connecting, host := h, mtu := s.pathMtu w.k.port w.q.mtu, psn := psn, una := psn, epsn := w.q.psn
    ackTimeout := s.rw Obj.tpAckTimeout 0, retryCnt := s.rw Obj.tpRetryCnt 0, rnrRetry := s.rw Obj.tpRnrRetry 0
    retries := s.rw Obj.tpRetryCnt 0, rnrLeft := s.rw Obj.tpRnrRetry 0, maxReads := w.q.resources
    rc := s.subRate w.k.port w.k.sub, rt := s.subRate w.k.port w.k.sub, used := s.clk.ns, qid := w.q.qid
    depth := w.q.hsq + 1, leftAt := s.clk.ns, rp := s.rw Obj.tpRpEnable 0 = 1 }

/-- The REP of an admitted connection (R227). -/
def Qp.rep (x : Qp) (row : Nat) : CmOut := .rep x.comm (65536 + row) x.psn 16 x.mtu x.ackTimeout x.retryCnt x.rnrRetry

/-- The oldest REQ passes every check: its row is CONNECTING, resident where there is room, and it is answered with a REP. -/
theorem State.cmAdmit_admits {s t y : State} {w : ReqWait} {rest : List ReqWait} {h row : Nat} {x : Qp} (hreqs : s.net.reqs = w :: rest)
    (hrate : s.recentAdmits.length < 50000) (hcheck : s.reqCheck w.k w.q = .ok h) (hrow : s.freeQpRow = some row)
    (ht : t = { s with net := { s.net with reqs := rest, admits := s.recentAdmits ++ [s.clk.ns] } })
    (hx : x = s.reqQp w h (t.fresh % 16777216)) (hroom : t.used.makeRoom (fun _ => false) = some y) :
    s.cmAdmit = ((y.updQp row (fun _ => { x with resident := true })).fenServe 6 row).answerReq w x (x.rep row) := by
  have hgo : ¬ 50000 ≤ (s.net.admits.filter (fun a => s.clk.ns < a + 1000000000)).length := Nat.not_le.mpr hrate
  subst ht hx
  unfold State.recentAdmits at hroom
  simp only [State.cmAdmit, hreqs, if_neg hgo, hcheck, hrow, hroom]
  rfl

/-! ### Messages to a QP (R229, Table 6-3) -/

theorem State.cmIn_of_frame {s t : State} {k : Pkt} {q : Nat} (go : State → State) (hframe : s.frameIn k = (t, true))
    (hsrc : (t.qp q).ip = k.src) (hst : (t.qp q).st ≠ .idle) : s.cmIn k q go = go t := by
  simp only [State.cmIn, hframe, if_pos (And.intro hst hsrc)]

theorem State.toActive_of_connecting {s : State} {q : Nat} (h : (s.qp q).st = .connecting) :
    s.toActive q = s.updQp q (fun x => { x with st := .active }) := if_pos h

theorem State.rejIn_of_connecting {s : State} {q : Nat} (h : (s.qp q).st = .connecting) : s.rejIn q = s.freeQp q := if_pos h

theorem State.dreqIn_of_connecting {s : State} {q : Nat} (h : (s.qp q).st = .connecting) : s.dreqIn q = s.freeQp q := by
  simp only [State.dreqIn, h]

theorem State.dreqIn_of_active {s : State} {q : Nat} (h : (s.qp q).st = .active) :
    s.dreqIn q = (s.updQp q (fun x => { x with dreq := true })).drainQp q := by
  simp only [State.dreqIn, h]

end Sys2Proof.Machine

open Sys2Proof Sys2Proof.Machine

/-- Settles O17: the queue of REQs through `cmReq_of_new` and the two ends of `cmAdmit`, the messages to a QP by its state. -/
theorem connectionCommands : Obligations.ConnectionCommands := by
  unfold Obligations.ConnectionCommands
  refine ⟨fun s t k q hframe hreqs hans hroom => ?wait, fun s t w rest st hreqs hrate hcheck ht => ?refuse,
    fun s t y w rest h row x hreqs hrate hcheck hrow ht hx hroom => ?admits,
    fun s t k q hframe hsrc => ⟨fun hst => ?connecting, fun hst => ?active⟩, fun s q hst => ?timeout⟩
  case wait =>
    exact exec_ends (exec_cmReq k q s) ((State.cmReqIn_of_frame q hframe).trans (State.cmReq_of_new k hreqs hans hroom))
  case refuse =>
    subst ht
    exact exec_ends (exec_cmReqAdmit s) (State.cmAdmit_refuses hreqs hrate hcheck)
  case admits =>
    subst hx
    exact exec_ends (exec_cmReqAdmit s) (State.cmAdmit_admits hreqs hrate hcheck hrow ht rfl hroom)
  case connecting =>
    have hbusy : (t.qp q).st ≠ .idle := by simp [hst]
    refine ⟨exec_ends (exec_cmRtu k q s) ?_, exec_ends (exec_cmRej k q s) ?_, exec_ends (exec_cmDreq k q s) ?_⟩
    · exact (State.cmIn_of_frame _ hframe hsrc hbusy).trans (State.toActive_of_connecting hst)
    · exact (State.cmIn_of_frame _ hframe hsrc hbusy).trans (State.rejIn_of_connecting hst)
    · exact (State.cmIn_of_frame _ hframe hsrc hbusy).trans (State.dreqIn_of_connecting hst)
  case active =>
    have hbusy : (t.qp q).st ≠ .idle := by simp [hst]
    exact exec_ends (exec_cmDreq k q s) ((State.cmIn_of_frame _ hframe hsrc hbusy).trans (State.dreqIn_of_active hst))
  case timeout => exact exec_ends (exec_connectingTimeout q s) (State.rejIn_of_connecting hst)
end

section
/-!
PROOFS. Responses and acknowledgments (R219, R224, R229, R238, R239, R246): what each does at the QP it reaches.
-/

namespace Sys2Proof.Machine

/-- A response that reaches its QP ends in what it does there. -/
theorem exec_response_ends {s u t : State} {i : Instr} {k : Pkt} {q : Nat} (hi : exec i s = s.act (fun t => t.receive i))
    (h : s.responds i k q u) (hf : u.response q i = t) : exec i s = .next (Ends s t) := hf ▸ exec_response hi h

/-- A request that reaches its QP ends in what it does there. -/
theorem exec_request_ends {s u t : State} {i : Instr} {k : Pkt} {q : Nat} (hi : exec i s = s.act (fun t => t.receive i))
    (h : s.reaches i k q u) (hf : u.rxRequest q i = t) : exec i s = .next (Ends s t) := hf ▸ exec_request hi h

/-! ### Acknowledgments (R238) -/

/-- Whether a message sent stays listed when packets up to `psn` are acknowledged: a READ does until its data is here. -/
def Qp.keepsSent (x : Qp) (psn : Nat) (m : TxMsg) : Bool :=
  match m.kind with
  | .read _ _ => true
  | _ => decide (psnDist x.una psn < psnDist x.una (psnAdd m.psn (m.n - 1)))

/-- An acknowledgment of packets sent retires them and restores the retries; what waited may be sent. -/
theorem State.ackTx_of_sent {s : State} {q psn : Nat} (htx : (s.qp q).tx ≠ [])
    (hsent : psnDist (s.qp q).una psn < psnDist (s.qp q).una (s.qp q).psn) :
    s.ackTx q psn = (s.updQp q (fun x => { x with
      una := psnAdd psn 1, retries := x.retryCnt, rnrLeft := x.rnrRetry, used := s.clk.ns
      tx := (s.qp q).tx.filter ((s.qp q).keepsSent psn) })).issueTx q := by
  have hgo : ¬ ((s.qp q).tx = [] ∨ psnDist (s.qp q).una (s.qp q).psn ≤ psnDist (s.qp q).una psn) :=
    not_or.mpr ⟨htx, Nat.not_le.mpr hsent⟩
  rw [State.ackTx, if_neg hgo]
  rfl

/-! ### Retransmission (R238, R239) -/

/-- A retransmission round of an ACTIVE QP with something sent: it takes a retry, or ends in ERROR without one. -/
theorem State.retryFrom_of_active {s : State} {q : Nat} (psn : Nat) (htx : (s.qp q).tx ≠ []) (hst : (s.qp q).st = .active) :
    s.retryFrom q psn = if (s.qp q).retries = 0 then s.errQp q 5
      else (s.updQp q (fun x => { x with retries := x.retries - 1 })).resendFrom q psn := by
  have hgo : ¬ ((s.qp q).tx = [] ∨ ¬ ((s.qp q).st = .active ∨ (s.qp q).st = .draining)) := by simp [htx, hst]
  rw [State.retryFrom, if_neg hgo, if_pos hst]

/-- An RNR NAK of something sent: the wait starts, or the retries of R239 are exhausted. -/
theorem State.rnrRx_of_sent {s v : State} {q psn : Nat} (hv : v = s.ackTx q (psnAdd psn 16777215)) (htx : (v.qp q).tx ≠ []) :
    s.rnrRx q psn = if (v.qp q).rnrRetry ≠ 7 ∧ (v.qp q).rnrLeft ≤ 1 then v.errQp q 5
      else v.updQp q (fun x => { x with rnrWait := some psn, rnrLeft := x.rnrLeft - 1 }) := by
  subst hv
  rw [State.rnrRx, if_neg htx]

/-! ### Data of a READ (R246) -/

/-- Whether a message sent is a READ, which waits for data. -/
def TxMsg.isRead (m : TxMsg) : Bool :=
  match m.kind with
  | .read _ _ => true
  | _ => false

/-- Data of the READ `m` is taken up to `psn`: what was sent before it is acknowledged, the retries are restored, and `f` says
what becomes of the send list. -/
def State.readTaken (s : State) (q psn : Nat) (m : TxMsg) (f : List TxMsg → List TxMsg) : State :=
  (s.ackTx q (psnAdd m.psn 16777215)).updQp q (fun x => { x with
    tx := f x.tx
    una := if psnDist x.una psn < psnDist x.una x.psn then psnAdd psn 1 else x.una
    retries := x.retryCnt, rnrLeft := x.rnrRetry, used := s.clk.ns })

/-- A READ with `len` more bytes of its data. -/
def TxMsg.withData (m : TxMsg) (len data : Nat) : TxMsg :=
  { m with got := m.got + len, data := m.data + (data % 2 ^ (8 * len)) * 2 ^ (8 * m.got) }

section
variable {s : State} {q psn len : Nat} {m : TxMsg} (hread : (s.qp q).tx.find? TxMsg.isRead = some m)
  (hpsn : psn = psnAdd m.psn (m.got / (s.qp q).mtu))
include hread hpsn

theorem State.readResp_of_part (data : Nat) (hpart : m.got + len < m.len) :
    s.readResp q psn len data = s.readTaken q psn m (fun l => l.map (fun y => if y = m then m.withData len data else y)) := by
  have hgo : ¬ m.len ≤ m.got + len := Nat.not_le.mpr hpart
  simp only [State.readResp]
  split
  case h_1 hnone => cases hread.symm.trans hnone
  case h_2 m' hsome =>
    obtain rfl : m = m' := Option.some.inj (hread.symm.trans hsome)
    rw [if_neg (not_not_intro hpsn)]
    simp only [if_neg hgo]
    rfl

/-- The last data of a READ that fetches a range of a write is delivered to it; what waited may be sent. -/
theorem State.readResp_of_whole {cmd idx : Nat} (data : Nat) (hwhole : m.len ≤ m.got + len) (hfor : m.for_ = .fetch cmd idx) :
    s.readResp q psn len data = ((s.readTaken q psn m (fun l => l.filter (fun y => y ≠ m))).deliverTo q cmd idx
      (m.withData len data).data).issueTx q := by
  simp only [State.readResp]
  split
  case h_1 hnone => cases hread.symm.trans hnone
  case h_2 m' hsome =>
    obtain rfl : m = m' := Option.some.inj (hread.symm.trans hsome)
    rw [if_neg (not_not_intro hpsn)]
    simp only [if_pos hwhole, hfor]
    rfl

end

/-! ### Congestion (R219) -/

/-- A CNP cuts the rate of an ACTIVE QP that has not been cut yet. -/
theorem State.cnpRx_cuts {s : State} {q : Nat} (hen : s.rw Obj.tpRpEnable 0 = 1) (hst : (s.qp q).st = .active)
    (hcut : (s.qp q).cutAt = none) : s.cnpRx q = s.updQp q (fun x => { x with
      cnpA := true, cnpR := true, rp := true, rt := x.rc, rc := max (x.rc - x.rc * x.alpha / 8589934592) (s.rw Obj.tpRpMinRate 0)
      alpha := x.alpha * 255 / 256 + 16777216, steps := 0, cutAt := some s.clk.ns }) :=
  State.updQp_congr (by simp [hen, hst, hcut])

theorem State.cnpRx_while_disabled {s : State} {q : Nat} (hen : s.rw Obj.tpRpEnable 0 = 0) :
    s.cnpRx q = s.updQp q (fun x => { x with cnpA := true, cnpR := true, rp := false }) :=
  State.updQp_congr (by simp [hen])

end Sys2Proof.Machine

open Sys2Proof Sys2Proof.Machine

/-- Settles O18: each packet reaches its QP by hypothesis; there it does what the lemma of its operation says. -/
theorem responseCommands : Obligations.ResponseCommands := by
  unfold Obligations.ResponseCommands
  refine ⟨fun s u k q h htx hsent => ?ack, fun s u v k q h hv htx hst => ?sequence, fun s u v k q h hv htx => ?rnr,
    fun s u v k q code h hv hst => ?error, fun s u k q len data m m1 h hread hpsn hpart hm1 => ?part,
    fun s u k q len data cmd idx m h hread hpsn hwhole hfor => ?whole,
    fun s u k q h => ⟨fun hen hst hcut => ?cut, fun hen => ?disabled⟩, fun s u k q op h => ?opcode⟩
  case ack => exact exec_response_ends (exec_ack k s) h (State.ackTx_of_sent htx hsent)
  case sequence =>
    subst hv
    exact exec_response_ends (exec_nakSequenceError k s) h (State.retryFrom_of_active k.psn htx hst)
  case rnr => exact exec_response_ends (exec_rnrNak k s) h (State.rnrRx_of_sent hv htx)
  case error =>
    subst hv
    exact exec_response_ends (exec_nakError k code s) h (if_pos hst)
  case part =>
    subst hm1
    exact exec_response_ends (exec_rdmaReadResponse k len data s) h (State.readResp_of_part hread hpsn data hpart)
  case whole =>
    exact exec_response_ends (exec_rdmaReadResponse k len data s) h (State.readResp_of_whole hread hpsn data hwhole hfor)
  case cut => exact ⟨_, exec_response_ends (exec_cnp k s) h (State.cnpRx_cuts hen hst hcut), rfl⟩
  case disabled => exact exec_response_ends (exec_cnp k s) h (State.cnpRx_while_disabled hen)
  case opcode => exact exec_request_ends (exec_invalidOpcodePacket k op s) h rfl
end

section
/-!
PROOFS. Timers and life of a queue pair (R219, R229 to R239, R247): retransmission, rate recovery, contexts, drains and pins.
-/

namespace Sys2Proof.Machine

/-! ### Retransmission (R239) -/

/-- The RNR wait of an ACTIVE QP ends in sending again from the PSN refused. -/
theorem State.rnrOver_of_waiting {s t : State} {q p : Nat} (hwait : (s.qp q).rnrWait = some p)
    (ht : t = s.updQp q (fun x => { x with rnrWait := none })) (hst : (t.qp q).st = .active) :
    s.rnrOver q = (t.resendFrom q p).issueTx q := by
  subst ht
  simp only [State.rnrOver, hwait, if_pos (Or.inl hst)]

/-! ### Rate control (R219) -/

theorem State.alphaTimer_of_active {s : State} {q : Nat} (hst : (s.qp q).st = .active) (hrp : (s.qp q).rp = true) :
    s.alphaTimer q = s.updQp q (fun x => if x.cnpA then { x with cnpA := false } else { x with alpha := x.alpha * 255 / 256 }) :=
  State.updQp_congr (if_neg (by simp [hst, hrp]))

/-- The target rate after a step of recovery: it rises after the fifth, up to the rate of the sub-port. -/
def State.rtRisen (s : State) (x : Qp) : Nat :=
  if 5 < x.steps + 1 then min (x.rt + s.rw Obj.tpRpAi 0) (s.subRate x.port x.sub) else x.rt

/-- Without a CNP since the last step the rate of an ACTIVE QP moves half way to its target. -/
theorem State.rpTimer_recovers {s : State} {q : Nat} (hst : (s.qp q).st = .active) (hrp : (s.qp q).rp = true)
    (hcnp : (s.qp q).cnpR = false) :
    s.rpTimer q = s.updQp q (fun x => { x with steps := x.steps + 1, rt := s.rtRisen x, rc := (s.rtRisen x + x.rc) / 2 }) := by
  refine State.updQp_congr ?_
  rw [if_neg (by simp [hst, hrp]), if_neg (by simp [hcnp])]
  rfl

/-! ### Contexts (R233, R235) -/

section
variable {s : State} {q : Nat} (hst : (s.qp q).st ≠ .idle) (hout : (s.qp q).resident = false) (hidle : (s.qp q).fetching = false)
  (hqueued : s.queuedQp q = true)
include hst hout hidle hqueued

theorem State.fetch_wanted :
    ¬ ((s.qp q).st = .idle ∨ (s.qp q).resident = true ∨ (s.qp q).fetching = true ∨ (s.queuedQp q = false ∧ (s.qp q).txq = [])) := by
  simp [hst, hout, hidle, hqueued]

/-- The context of a QP with a queued packet is on its way once there is room for it. -/
theorem State.fetchStart_with_room {t : State} (hroom : s.makeRoom s.queuedQp = some t) :
    s.fetchStart q = (t.updQp q (fun x => { x with fetching := true, fetchWait := false })).addCnt 64 Obj.tpMissFetches 0 1 := by
  simp only [State.fetchStart, if_neg (State.fetch_wanted hst hout hidle hqueued), hroom]

/-- Without room the fetch waits, and is counted once. -/
theorem State.fetchStart_without_room (hroom : s.makeRoom s.queuedQp = none) (hnew : (s.qp q).fetchWait = false) :
    s.fetchStart q = (s.updQp q (fun x => { x with fetchWait := true })).addCnt 64 Obj.tpFetchWaits 0 1 := by
  simp only [State.fetchStart, if_neg (State.fetch_wanted hst hout hidle hqueued), hroom, hnew,
    Bool.false_eq_true, if_false]

end

theorem State.fetchDone_of_fetching {s : State} {q : Nat} (h : (s.qp q).fetching = true) :
    s.fetchDone q = (((s.updQp q (fun x => { x with fetching := false, resident := true })).updPort (s.qp q).port (fun p =>
      { p with miss := p.miss.filter (fun i => !isOf q i) })).rerun q ((s.port (s.qp q).port).miss.filter (isOf q))).issueTx q := by
  rw [State.fetchDone, if_neg (by simp [h])]

/-! ### Ends of a QP and of a controller (R229 to R231, R247) -/

theorem State.drainDone_of_idle {s : State} {q : Nat} (hst : (s.qp q).st = .draining ∨ (s.qp q).st = .error)
    (hbusy : s.qpBusy q = false) : s.drainDone q = s.endQp q := if_pos ⟨hst, hbusy⟩

/-- What is left of a QP that drained too long is abandoned: its writes, then its reads. -/
theorem State.drainTimeout_of_overdue {s : State} {q : Nat} (hst : (s.qp q).st = .draining ∨ (s.qp q).st = .error)
    (hover : (s.qp q).leftAt + (s.qp q).drainMs * 1000000 ≤ s.clk.ns) :
    s.drainTimeout q = (((((s.net.accs.filter (fun a => a.who = .qp q)).filterMap (fun a => a.cmd)).foldl
      (fun t id => t.abandonWrite id) s).abandonWrites (ofQp q) false).abandonReads (ofQp q)).endQp q := if_pos ⟨hst, hover⟩

theorem State.kaExpired_of_silent {s : State} {c : Nat} {x : Ctrl} (hx : s.ctrl c = some x)
    (hover : x.kaAt + x.kato * 1000000000 ≤ s.clk.ns) : s.kaExpired c = s.dropCtrl c := by
  simp only [State.kaExpired, hx, if_pos hover]

theorem State.qpCloseOp_of_active {s : State} {q : Nat} (hst : (s.qp q).st = .active) :
    s.qpCloseOp q = (s.leaveActive q .draining).actDone Obj.qpClose q := by
  rw [State.qpCloseOp, if_pos hst, State.drainQp, if_pos hst]

/-- A pin is taken back at any time, and set while fewer than 1,024 are (R236). -/
theorem State.pinSet_of_room {s : State} {v : Nat} (q : Nat) (h : v = 0 ∨ s.pins < 1024) : s.pinSet q v = (s.putRw Obj.qpPin q v, 0) := by
  have hroom : ¬ (v = 1 ∧ s.rw Obj.qpPin q = 0 ∧ 1024 ≤ s.pins) := by omega
  rw [State.pinSet, if_neg hroom]

end Sys2Proof.Machine

open Sys2Proof Sys2Proof.Machine

/-- Settles O19: each timer and each end of a QP past its guard, through the lemma of what it does. -/
theorem qpTimerCommands : Obligations.QpTimerCommands := by
  unfold Obligations.QpTimerCommands
  refine ⟨fun s q htx hst => ?ackTimeout, fun s t q p hwait ht hst => ?rnr, fun s q hsince => ?coalesce,
    fun s q hst hrp => ?alpha, fun s q hst hrp hcnp => ?rate,
    fun s q hst hout hidle hqueued => ⟨fun t hroom => ?fetch, fun hroom hnew => ?fetchWaits⟩, fun s q h => ?fetched,
    fun s q hst hbusy => ?drained, fun s q hst hover => ?overdue, fun s t c x hx hover ht => ?keepAlive, fun h q => ?close,
    fun h q v hv => ?pin⟩
  case ackTimeout => exact exec_ends (exec_ackTimeout q s) (State.retryFrom_of_active (s.qp q).una htx hst)
  case rnr => exact exec_ends (exec_rnrWaitExpiry q s) (State.rnrOver_of_waiting hwait ht hst)
  case coalesce => exact exec_ends (exec_ackCoalesceTimer q s) (if_pos hsince)
  case alpha => exact exec_ends (exec_alphaTimer q s) (State.alphaTimer_of_active hst hrp)
  case rate => exact exec_ends (exec_rpTimer q s) (State.rpTimer_recovers hst hrp hcnp)
  case fetch => exact exec_ends (exec_contextFetchStart q s) (State.fetchStart_with_room hst hout hidle hqueued hroom)
  case fetchWaits => exact exec_ends (exec_contextFetchStart q s) (State.fetchStart_without_room hst hout hidle hqueued hroom hnew)
  case fetched => exact exec_ends (exec_contextFetchDone q s) (State.fetchDone_of_fetching h)
  case drained => exact exec_ends (exec_qpDrainComplete q s) (State.drainDone_of_idle hst hbusy)
  case overdue => exact exec_ends (exec_drainTimeout q s) (State.drainTimeout_of_overdue hst hover)
  case keepAlive =>
    subst ht
    exact exec_ends (exec_keepaliveExpiry c s) (State.kaExpired_of_silent hx hover)
  case close => exact ActionRuns.of_actionReq _ (exec_qpClose h q) fun u hu => State.qpCloseOp_of_active hu
  case pin =>
    refine WriteRuns.of (fun u _ v => u.pinSet q v) (fun s => ?_) fun u _ hu => State.pinSet_of_room q hu
    rw [exec_qpPinWrite, Nat.mod_eq_of_lt hv]
end

section
/-!
PROOFS. Connect and the admin commands (R241, R243, R244, R246 to R248, R250; the codes and constants: log entry 27).
-/

namespace Sys2Proof.Machine

/-! ### Capsules that reach their controller (R246, R247) -/

section
variable {u : State} {q c : Nat} (hc : (u.qp q).ctrl = some c) (k : Pkt) (cid : Nat)
include hc

theorem State.rxRequest_propertyGet {x : Ctrl} (hx : (u.taken q k).ctrl c = some x) (off : Nat) :
    u.rxRequest q (.propertyGet k cid off) = (u.taken q k).propGet q cid off x := by
  rw [State.rxRequest, State.capsule_any cid _ hc]
  simp only [hx]

theorem State.rxRequest_propertySet (off value : Nat) :
    u.rxRequest q (.propertySet k cid off value) = (u.taken q k).propSet q cid off value c := by
  rw [State.rxRequest, State.capsule_any cid _ hc]

theorem State.rxRequest_disconnect :
    u.rxRequest q (.disconnect k cid) = ((u.taken q k).sendCpl q cid 0 0 none).drainQp q := by
  rw [State.rxRequest, State.capsule_any cid _ hc]

variable (hq : (u.qp q).qid = 0)
include hq

theorem State.rxRequest_identify (cns nsid : Nat) (g : Sgl) :
    u.rxRequest q (.identify k cid cns nsid g) = (u.taken q k).identify q cid c cns nsid g := by
  rw [State.rxRequest, State.capsule_admin cid _ hc hq]

theorem State.rxRequest_getLogPage (lid off : Nat) (rae : Bool) (g : Sgl) :
    u.rxRequest q (.getLogPage k cid lid off rae g) = (u.taken q k).getLog q cid c lid off rae g := by
  rw [State.rxRequest, State.capsule_admin cid _ hc hq]

theorem State.rxRequest_setFeatures (fid value : Nat) :
    u.rxRequest q (.setFeatures k cid fid value) = (u.taken q k).setFeature q cid c fid value := by
  rw [State.rxRequest, State.capsule_admin cid _ hc hq]

theorem State.rxRequest_getFeatures (fid : Nat) :
    u.rxRequest q (.getFeatures k cid fid) = (u.taken q k).getFeature q cid c fid := by
  rw [State.rxRequest, State.capsule_admin cid _ hc hq]

theorem State.rxRequest_asynchronousEventRequest :
    u.rxRequest q (.asynchronousEventRequest k cid) = (u.taken q k).aer q cid c := by
  rw [State.rxRequest, State.capsule_admin cid _ hc hq]

theorem State.rxRequest_keepAlive : u.rxRequest q (.keepAlive k cid) =
    ((u.taken q k).updCtrl c (fun x => { x with kaAt := u.clk.ns })).sendCpl q cid 0 0 none := by
  rw [State.rxRequest, State.capsule_admin cid _ hc hq]

theorem State.rxRequest_abort : u.rxRequest q (.abort k cid) = (u.taken q k).sendCpl q cid 1 0 none := by
  rw [State.rxRequest, State.capsule_admin cid _ hc hq]

end

/-! ### Connect (R247, R248) -/

/-- The controller that a Connect of queue `q` creates. -/
def State.newCtrl (s : State) (q kato : Nat) (tb : Bool) (sub hostId : Nat) : Ctrl :=
  { host := (s.qp q).host, admin := q, kato := (kato + 999) / 1000, tbkas := tb, kaAt := s.clk.ns, hostId := hostId
    disc := sub = discNqn }

/-- A Connect of a free admin queue that passes its checks creates the next free controller. -/
theorem State.connect_creates {s : State} {q kato nqn sub : Nat} (cid : Nat) (tb : Bool) (hostId : Nat) (hfree : (s.qp q).ctrl = none)
    (hadmin : (s.qp q).qid = 0) (hsub : sub = s.subsysNqn ∨ sub = discNqn) (hnqn : nqn = s.rw Obj.hostNqn (s.qp q).host)
    (hlo : 1 ≤ kato) (hhi : kato ≤ 3600000) :
    s.connect q cid 0 kato 0xFFFF tb nqn sub hostId =
      (State.updQp { s with net := { s.net with
        ctrls := Tbl.set none s.net.ctrls s.freeCtrl (some (s.newCtrl q kato tb sub hostId)) } }
        q (fun x => { x with ctrl := some s.freeCtrl })).sendCpl q cid s.freeCtrl 0 none := by
  have hknown : ¬ (0 ≠ (s.qp q).qid ∨ (sub ≠ s.subsysNqn ∧ sub ≠ discNqn)) := by
    rw [hadmin]
    rintro (h | ⟨ha, hb⟩)
    · exact h rfl
    · exact hsub.elim ha hb
  have hkato : ¬ (kato = 0 ∨ 3600000 < kato) := by omega
  simp only [State.connect, hfree, Option.isSome_none, Bool.false_eq_true, if_false, if_neg hknown, if_true, hnqn, ne_eq,
    not_true_eq_false, if_neg hkato]
  rfl

/-- A Connect of a free I/O queue joins a controller of its host that is no discovery controller. -/
theorem State.connect_joins {s : State} {q qid cntlid sub : Nat} {y : Ctrl} (cid kato : Nat) (tb : Bool) (nqn hostId : Nat)
    (hfree : (s.qp q).ctrl = none) (hio : qid ≠ 0) (hqid : (s.qp q).qid = qid) (hsub : sub = s.subsysNqn) (hdisc : sub ≠ discNqn)
    (hy : s.ctrl cntlid = some y) (hhost : y.host = (s.qp q).host) (hnone : y.disc = false) :
    s.connect q cid qid kato cntlid tb nqn sub hostId =
      (s.updQp q (fun x => { x with ctrl := some cntlid })).sendCpl q cid cntlid 0 none := by
  have hknown : ¬ (qid ≠ (s.qp q).qid ∨ (sub ≠ s.subsysNqn ∧ sub ≠ discNqn)) := by simp [hqid, hsub]
  have hjoin : ¬ (y.host ≠ (s.qp q).host ∨ y.disc = true ∨ sub = discNqn) := by simp [hhost, hnone, hdisc]
  simp only [State.connect, hfree, Option.isSome_none, Bool.false_eq_true, if_false, if_neg hknown, if_neg hio, hy, if_neg hjoin]

/-! ### Properties (R243) -/

theorem State.propGet_eq (s : State) (q cid off : Nat) (x : Ctrl) :
    s.propGet q cid off x = if off = 0x00 then s.sendCpl q cid Config.nvmeCap 0 none
      else if off = 0x08 then s.sendCpl q cid Config.nvmeVs 0 none else if off = 0x14 then s.sendCpl q cid x.cc 0 none
      else if off = 0x1C then s.sendCpl q cid x.csts 0 none else s.sendCpl q cid 0 0x002 none := by
  unfold State.propGet
  split
  case h_5 h0 h8 h14 h1C =>
    rw [if_neg h0, if_neg h8, if_neg h14, if_neg h1C]
    rfl
  all_goals rfl

/-- A write of CC that enables sets CSTS.RDY, and CSTS.SHST where it asks for a shutdown. -/
theorem State.propSet_enables (s : State) (q cid c : Nat) {value : Nat} (hen : value % 2 = 1) :
    s.propSet q cid 0x14 value c = (s.updCtrl c (fun x => { x with
      cc := value, csts := 1 + (if value / 16384 % 4 = 0 then 0 else 8) })).sendCpl q cid 0 0 none := by
  rw [State.propSet, if_neg (by decide)]
  simp only [hen, Nat.one_ne_zero, if_false]

/-! ### Identify and log pages (R243, R244, R250) -/

theorem State.identify_of_unlisted (s : State) (q cid c nsid : Nat) (g : Sgl) {cns : Nat} (h : cns ∉ [0, 1, 2, 3, 6]) :
    s.identify q cid c cns nsid g = s.sendCpl q cid 0 0x002 (sglInv g) := if_pos h

theorem State.identify_of_data {s : State} {q c cns nsid : Nat} {b : Bytes} (cid : Nat) (g : Sgl) (h : cns ∈ [0, 1, 2, 3, 6])
    (hb : s.identData (s.qp q).host c cns (if cns = 2 then nsid else nsid - 1) = some b) :
    s.identify q cid c cns nsid g = s.sendData q cid g (min g.len 4096) (leNat (b.take g.len)) 0 := by
  rw [State.identify, if_neg (not_not_intro h)]
  simp only [hb]

/-- Identify data of a namespace that the host does not see is answered Invalid Namespace. -/
theorem State.identify_without_data {s : State} {q c cns nsid : Nat} (cid : Nat) (g : Sgl) (h : cns ∈ [0, 1, 2, 3, 6])
    (hnone : s.identData (s.qp q).host c cns (if cns = 2 then nsid else nsid - 1) = none) :
    s.identify q cid c cns nsid g = s.sendCpl q cid 0 0x00B (sglInv g) := by
  rw [State.identify, if_neg (not_not_intro h)]
  simp only [hnone]

section
variable {s : State} {c : Nat} {x : Ctrl} (hx : s.ctrl c = some x) (q cid off : Nat) (rae : Bool) (g : Sgl)
include hx

/-- The Changed Namespace List, cleared by the read unless the event is retained. -/
theorem State.getLog_changed : s.getLog q cid c 4 off rae g =
    (if rae then s else s.updCtrl c (fun x => { x with changed := [] })).sendData q cid g g.len
      (leNat (((((x.changed.take 1024).flatMap (fun n => leBytes 4 n)).drop off) ++ zeros g.len).take g.len)) 0 := by
  simp only [State.getLog, hx]

theorem State.getLog_ana : s.getLog q cid c 0xC off rae g =
    s.sendData q cid g g.len (leNat ((((s.anaLog (s.qp q).host).drop off) ++ zeros g.len).take g.len)) 0 := by
  simp only [State.getLog, hx]

theorem State.getLog_of_unlisted {lid : Nat} (h : lid ∉ [1, 2, 4, 0xC, 0x70]) :
    s.getLog q cid c lid off rae g = s.sendCpl q cid 0 0x109 (sglInv g) := by
  simp only [State.getLog, hx]
  split
  case h_6 => rfl
  all_goals exact absurd (by decide) h

end

/-! ### Features, events and the keep-alive (R243, R247) -/

theorem State.setFeature_eq (s : State) (q cid c fid value : Nat) :
    s.setFeature q cid c fid value =
      if fid = 0x07 then s.sendCpl q cid (min (value % 65536) 127 + min (value / 65536) 127 * 65536) 0 none
      else if fid = 0x0B then (s.updCtrl c (fun x => { x with aecfg := value })).sendCpl q cid 0 0 none
      else if fid = 0x0F then (if value = 0 ∨ 3600000 < value then s.sendCpl q cid 0 0x002 none
        else (s.updCtrl c (fun x => { x with kato := (value + 999) / 1000, kaAt := s.clk.ns })).sendCpl q cid 0 0 none)
      else if fid = 0x81 then (s.updCtrl c (fun x => { x with hostId := value })).sendCpl q cid 0 0 none
      else s.sendCpl q cid 0 0x002 none := by
  unfold State.setFeature
  split
  case h_5 h07 h0B h0F h81 =>
    rw [if_neg h07, if_neg h0B, if_neg h0F, if_neg h81]
    rfl
  all_goals rfl

theorem State.getFeature_eq {s : State} {c : Nat} {x : Ctrl} (hx : s.ctrl c = some x) (q cid fid : Nat) :
    s.getFeature q cid c fid =
      if fid = 0x07 then s.sendCpl q cid (127 + 127 * 65536) 0 none else if fid = 0x0B then s.sendCpl q cid x.aecfg 0 none
      else if fid = 0x0F then s.sendCpl q cid (x.kato * 1000) 0 none else if fid = 0x81 then s.sendCpl q cid x.hostId 0 none
      else s.sendCpl q cid 0 0x002 none := by
  simp only [State.getFeature, hx]
  split
  case h_5 h07 h0B h0F h81 =>
    rw [if_neg h07, if_neg h0B, if_neg h0F, if_neg h81]
    rfl
  all_goals rfl

/-- A fifth Asynchronous Event Request is refused, an earlier one waits for an event. -/
theorem State.aer_eq {s : State} {c : Nat} {x : Ctrl} (hx : s.ctrl c = some x) (q cid : Nat) :
    s.aer q cid c = if 4 ≤ x.aers.length then s.sendCpl q cid 0 0x105 none
      else State.pumpAev 1 c (s.updCtrl c (fun x => { x with aers := x.aers ++ [cid] })) := by
  simp only [State.aer, hx]

end Sys2Proof.Machine

open Sys2Proof Sys2Proof.Machine

/-- Settles O20: each capsule reaches its controller by hypothesis; there it does what the lemma of its command says. -/
theorem adminCommands : Obligations.AdminCommands := by
  unfold Obligations.AdminCommands
  refine ⟨fun s u v w k q cid sq kato hostId c tb nqn sub y h hv hfree hadmin hsub hnqn hlo hhi hc hy hw => ?creates,
    fun s u v k q cid qid sq kato cntlid hostId tb nqn sub y h hv hfree hio hqid hsub hdisc hy hhost hnone => ?joins,
    fun s u v k q cid off c x h hc hv hx => ?propertyGet, fun s u v k q cid value c h hc hv hen => ?propertySet,
    fun s u v k q cid c h hc hv => ?disconnect,
    fun s u v k q cid cns nsid c g h hc hq hv => ⟨fun hcns => ?unlisted, fun b hcns hb => ?data, fun hcns hnone => ?noData⟩,
    fun s u v k q cid lid off c rae g x h hc hq hv hx => ⟨fun hlid => ?changed, fun hlid => ?ana, fun hlid => ?noLog⟩,
    fun s u v k q cid fid value c h hc hq hv => ?setFeatures, fun s u v k q cid fid c x h hc hq hv hx => ?getFeatures,
    fun s u v k q cid c x h hc hq hv hx => ?aer, fun s u v k q cid c h hc hq hv => ?keepAlive,
    fun s u v k q cid c h hc hq hv => ?abort⟩
  all_goals subst hv
  case creates =>
    subst hw hy hc
    exact exec_request_ends (exec_fabricsConnect k cid 0 sq kato 0xFFFF tb nqn sub hostId s) h
      (State.connect_creates cid tb hostId hfree hadmin hsub hnqn hlo hhi)
  case joins =>
    exact exec_request_ends (exec_fabricsConnect k cid qid sq kato cntlid tb nqn sub hostId s) h
      (State.connect_joins cid kato tb nqn hostId hfree hio hqid hsub hdisc hy hhost hnone)
  case propertyGet =>
    exact exec_request_ends (exec_propertyGet k cid off s) h
      ((State.rxRequest_propertyGet hc k cid hx off).trans (State.propGet_eq _ q cid off x))
  case propertySet =>
    exact exec_request_ends (exec_propertySet k cid 0x14 value s) h
      ((State.rxRequest_propertySet hc k cid 0x14 value).trans (State.propSet_enables _ q cid c hen))
  case disconnect => exact exec_request_ends (exec_disconnect k cid s) h (State.rxRequest_disconnect hc k cid)
  case unlisted =>
    exact exec_request_ends (exec_identify k cid cns nsid g s) h
      ((State.rxRequest_identify hc k cid hq cns nsid g).trans (State.identify_of_unlisted _ q cid c nsid g hcns))
  case data =>
    exact exec_request_ends (exec_identify k cid cns nsid g s) h
      ((State.rxRequest_identify hc k cid hq cns nsid g).trans (State.identify_of_data cid g hcns hb))
  case noData =>
    exact exec_request_ends (exec_identify k cid cns nsid g s) h
      ((State.rxRequest_identify hc k cid hq cns nsid g).trans (State.identify_without_data cid g hcns hnone))
  case changed =>
    subst hlid
    exact exec_request_ends (exec_getLogPage k cid 4 off rae g s) h
      ((State.rxRequest_getLogPage hc k cid hq 4 off rae g).trans (State.getLog_changed hx q cid off rae g))
  case ana =>
    subst hlid
    exact exec_request_ends (exec_getLogPage k cid 0xC off rae g s) h
      ((State.rxRequest_getLogPage hc k cid hq 0xC off rae g).trans (State.getLog_ana hx q cid off rae g))
  case noLog =>
    exact exec_request_ends (exec_getLogPage k cid lid off rae g s) h
      ((State.rxRequest_getLogPage hc k cid hq lid off rae g).trans (State.getLog_of_unlisted hx q cid off rae g hlid))
  case setFeatures =>
    exact exec_request_ends (exec_setFeatures k cid fid value s) h
      ((State.rxRequest_setFeatures hc k cid hq fid value).trans (State.setFeature_eq _ q cid c fid value))
  case getFeatures =>
    exact exec_request_ends (exec_getFeatures k cid fid s) h
      ((State.rxRequest_getFeatures hc k cid hq fid).trans (State.getFeature_eq hx q cid fid))
  case aer =>
    exact exec_request_ends (exec_asynchronousEventRequest k cid s) h
      ((State.rxRequest_asynchronousEventRequest hc k cid hq).trans (State.aer_eq hx q cid))
  case keepAlive => exact exec_request_ends (exec_keepAlive k cid s) h (State.rxRequest_keepAlive hc k cid hq)
  case abort => exact exec_request_ends (exec_abort k cid s) h (State.rxRequest_abort hc k cid hq)
end

section
/-!
PROOFS. Block commands of an I/O queue (R243, R246, R250, R251; the codes: log entry 27).
-/

namespace Sys2Proof.Machine

/-! ### The checks of a block command -/

section
variable {s : State} {q nsid : Nat} {c : NCmd} (go : State → State)

/-- A check that fails is answered with its status, and nothing else is done (R250, R251). -/
theorem State.blockCmd_refused (h : s.blockCheck (s.qp q).host nsid c.slba c.nlb c.pr.pract ≠ 0) : s.blockCmd q c nsid go =
    s.sendCpl q c.cid 0 (s.blockCheck (s.qp q).host nsid c.slba c.nlb c.pr.pract) (sglInv c.sgl) := if_pos h

variable (h : s.blockCheck (s.qp q).host nsid c.slba c.nlb c.pr.pract = 0)
include h

/-- Data in the capsule that the command may not have there is refused (R242, R243). -/
theorem State.blockCmd_in_capsule (hin : c.sgl.inCapsule = true) (hbad : 8192 < c.sgl.len ∨ c.op = 2) :
    s.blockCmd q c nsid go = s.sendCpl q c.cid 0 0x002 none :=
  (if_neg (not_not_intro h)).trans (if_pos ⟨hin, hbad⟩)

theorem State.blockCmd_passed (hsgl : c.sgl.inCapsule = false ∨ (c.sgl.len ≤ 8192 ∧ c.op ≠ 2)) : s.blockCmd q c nsid go = go s := by
  have hdata : ¬ (c.sgl.inCapsule = true ∧ (8192 < c.sgl.len ∨ c.op = 2)) := by
    rintro ⟨hin, hbad⟩
    rcases hsgl with hout | ⟨hlen, hop⟩
    · simp [hin] at hout
    · exact hbad.elim (Nat.not_lt.mpr hlen) hop
  exact (if_neg (not_not_intro h)).trans (if_neg hdata)

end

/-! ### Capsules that reach their I/O queue (R246) -/

/-- The commands as their queue keeps them: Read, Write, Write Zeroes, Flush. -/
def readCmd (cid nsid slba nlb : Nat) (pr : PrInfo) (g : Sgl) : NCmd := ⟨cid, 2, nsid - 1, slba, nlb, g, pr⟩
def writeCmd (cid nsid slba nlb : Nat) (pr : PrInfo) (g : Sgl) : NCmd := ⟨cid, 1, nsid - 1, slba, nlb, g, pr⟩
def zeroesCmd (cid nsid slba nlb : Nat) : NCmd := ⟨cid, 8, nsid - 1, slba, nlb, ⟨0, 0, 0, false, false, 0⟩, ⟨false, 0, 0, 0, 0⟩⟩
def flushCmd (cid nsid : Nat) : NCmd := ⟨cid, 0, nsid - 1, 0, 0, ⟨0, 0, 0, false, false, 0⟩, ⟨false, 0, 0, 0, 0⟩⟩

section
variable {u : State} {q c : Nat} (hc : (u.qp q).ctrl = some c) (hq : (u.qp q).qid ≠ 0) (k : Pkt) (cid nsid slba nlb : Nat)
include hc hq

theorem State.rxRequest_nvmeRead (pr : PrInfo) (g : Sgl) : u.rxRequest q (.nvmeRead k cid nsid slba nlb pr g) =
    (u.taken q k).blockCmd q (readCmd cid nsid slba nlb pr g) nsid (fun t => t.nvmeRead q (readCmd cid nsid slba nlb pr g)) := by
  rw [State.rxRequest, State.capsule_io cid _ hc hq]
  rfl

theorem State.rxRequest_nvmeWrite (pr : PrInfo) (g : Sgl) : u.rxRequest q (.nvmeWrite k cid nsid slba nlb pr g) =
    (u.taken q k).blockCmd q (writeCmd cid nsid slba nlb pr g) nsid (fun t => t.nvmeWrite q (writeCmd cid nsid slba nlb pr g)) := by
  rw [State.rxRequest, State.capsule_io cid _ hc hq]
  rfl

theorem State.rxRequest_writeZeroes : u.rxRequest q (.writeZeroes k cid nsid slba nlb) =
    (u.taken q k).blockCmd q (zeroesCmd cid nsid slba nlb) nsid (fun t => t.nvmeWrite q (zeroesCmd cid nsid slba nlb)) := by
  rw [State.rxRequest, State.capsule_io cid _ hc hq]
  rfl

/-- A Flush is answered at once with the status of its checks: completed writes are durable already. -/
theorem State.rxRequest_nvmeFlush : u.rxRequest q (.nvmeFlush k cid nsid) = (u.taken q k).sendCpl q cid 0
    ((u.taken q k).blockCheck ((u.taken q k).qp q).host nsid 0 0 false) none := by
  have hrx : u.rxRequest q (.nvmeFlush k cid nsid) =
      (u.taken q k).blockCmd q (flushCmd cid nsid) nsid (fun t => t.sendCpl q cid 0 0 none) := by
    rw [State.rxRequest, State.capsule_io cid _ hc hq]
    rfl
  by_cases hok : (u.taken q k).blockCheck ((u.taken q k).qp q).host nsid 0 0 false = 0
  · rw [hrx, State.blockCmd_passed (c := flushCmd cid nsid) _ hok (.inl rfl), hok]
  · rw [hrx, State.blockCmd_refused (c := flushCmd cid nsid) _ hok]
    rfl

end

end Sys2Proof.Machine

open Sys2Proof Sys2Proof.Machine

/-- Settles O21: each capsule reaches its queue by hypothesis; what it does there follows from its checks. -/
theorem blockCommands : Obligations.BlockCommands := by
  unfold Obligations.BlockCommands
  refine ⟨fun s u v k q cid nsid slba nlb c pr g h hc hq hv =>
      ⟨fun hbad => ?refused, fun hok hin => ?readInCapsule, fun hok hout => ?read⟩,
    fun s u v k q cid nsid slba nlb c pr g h hc hq hv hok => ⟨fun hin hlen => ?writeInCapsule, fun hsgl => ?write⟩,
    fun s u v k q cid nsid slba nlb c h hc hq hv hok => ?zeroes, fun s u v k q cid nsid c h hc hq hv => ?flush⟩
  all_goals subst hv
  case refused =>
    exact exec_request_ends (exec_nvmeRead k cid nsid slba nlb pr g s) h
      ((State.rxRequest_nvmeRead hc hq k cid nsid slba nlb pr g).trans (State.blockCmd_refused _ hbad))
  case readInCapsule =>
    exact exec_request_ends (exec_nvmeRead k cid nsid slba nlb pr g s) h
      ((State.rxRequest_nvmeRead hc hq k cid nsid slba nlb pr g).trans (State.blockCmd_in_capsule _ hok hin (.inr rfl)))
  case read =>
    exact exec_request_ends (exec_nvmeRead k cid nsid slba nlb pr g s) h
      ((State.rxRequest_nvmeRead hc hq k cid nsid slba nlb pr g).trans (State.blockCmd_passed _ hok (.inl hout)))
  case writeInCapsule =>
    exact exec_request_ends (exec_nvmeWrite k cid nsid slba nlb pr g s) h
      ((State.rxRequest_nvmeWrite hc hq k cid nsid slba nlb pr g).trans (State.blockCmd_in_capsule _ hok hin (.inl hlen)))
  case write =>
    exact exec_request_ends (exec_nvmeWrite k cid nsid slba nlb pr g s) h
      ((State.rxRequest_nvmeWrite hc hq k cid nsid slba nlb pr g).trans
        (State.blockCmd_passed _ hok (hsgl.imp_right fun hlen => ⟨hlen, show 1 ≠ 2 by decide⟩)))
  case zeroes =>
    exact exec_request_ends (exec_writeZeroes k cid nsid slba nlb s) h
      ((State.rxRequest_writeZeroes hc hq k cid nsid slba nlb).trans (State.blockCmd_passed _ hok (.inl rfl)))
  case flush => exact exec_request_ends (exec_nvmeFlush k cid nsid s) h (State.rxRequest_nvmeFlush hc hq k cid nsid)
end

section
/-!
PROOFS. Accesses of eyelets (R237, R260 to R266, R268, R276): first and later packets of writes, reads, flushes, triggers, placing.
-/

namespace Sys2Proof.Machine

/-- A request that opens or carries on an access at its QP, after which the QP's accesses move on. -/
theorem exec_access {s u t : State} {i : Instr} {k : Pkt} {q : Nat} (hi : exec i s = s.act (fun t => t.receive i))
    (h : s.reaches i k q u) {f : State} (hrx : u.rxRequest q i = f.moveAccs (.qp q)) (hf : f = t) :
    exec i s = .next (Ends s (t.moveAccs (.qp q))) := exec_request_ends hi h (hf ▸ hrx)

/-! ### The first packet of a write (R260, R261, R263) -/

theorem State.rxRequest_rdmaWrite_first (u : State) (q : Nat) (k : Pkt) (last : Bool) (key va len plen payload : Nat) :
    u.rxRequest q (.rdmaWrite k true last key va len plen payload) =
      (u.writeFirst q k false key va len plen payload).moveAccs (.qp q) := by
  rw [State.rxRequest, if_pos rfl]

theorem State.rxRequest_knotWrite {u : State} {q len : Nat} (k : Pkt) (key va payload : Nat) (hmtu : len ≤ (u.qp q).mtu)
    (hlen : len ≤ 4096) :
    u.rxRequest q (.knotWrite k key va len payload) = (u.writeFirst q k true key va len len payload).moveAccs (.qp q) := by
  rw [State.rxRequest, if_neg (by omega)]

/-- A KNOT WRITE is one packet of at most 4,096 bytes; a longer one is an invalid request. -/
theorem State.rxRequest_knotWrite_too_long {u : State} {q len : Nat} (k : Pkt) (key va payload : Nat)
    (hlen : (u.qp q).mtu < len ∨ 4096 < len) :
    u.rxRequest q (.knotWrite k key va len payload) = (u.sendNak q 0x61 k.psn).errQp q 3 := by
  rw [State.rxRequest, if_pos hlen]

section
variable {s : State} {q key va len : Nat} (k : Pkt) (knot : Bool) (plen payload : Nat)

/-- A write that fails a check of Table 7-3 is reported with its cause, and nothing is placed. -/
theorem State.writeFirst_refused (hbad : s.eyeCheck key (s.qp q).host 0 va len true ≠ 0) :
    s.writeFirst q k knot key va len plen payload = s.nakViolation q k.psn (key % 16384)
      (s.eyeCheck key (s.qp q).host 0 va len true) (if knot then 0xC0 else 0x0A) va := if_pos hbad

variable {v : State} {id : Nat} (hok : s.eyeCheck key (s.qp q).host 0 va len true = 0)
  (hadmit : s.admitAcc (.qp q) (if knot then .knot else .write) (key % 16384) va len k.psn 1 = (v, id))
include hok hadmit

theorem State.writeFirst_without_frames (hnone : v.takeFrames id = none) :
    s.writeFirst q k knot key va len plen payload = s.sendRnr q k.psn := by
  simp only [State.writeFirst, if_neg (not_not_intro hok), hadmit, hnone]

/-- A write that passes and has its frames takes its bytes; a knot is not issued yet, and is counted where it waits. -/
theorem State.writeFirst_admitted {t : State} (ht : v.takeFrames id = some t) :
    s.writeFirst q k knot key va len plen payload =
      (((((t.updAcc id (fun a => { a with issued := !knot })).addCnt 64 Obj.ordKnotWaits 0
        (b2n (knot && s.net.accs.any (fun b => b.who = .qp q && b.isRdma && !b.placed)))).updQp q (fun x => { x with
          writes := x.writes + 1, scratch := x.scratch || decide ((s.eye (key % 16384)).kind ≠ 0) })).accData id plen payload).acceptPsn
        q 1 k.ackReq (decide (len ≤ plen))) := by
  simp only [State.writeFirst, if_neg (not_not_intro hok), hadmit, ht]

end

/-! ### Later packets of a write (R261) -/

theorem State.rxRequest_rdmaWrite_next (u : State) (q : Nat) (k : Pkt) (last : Bool) (key va len plen payload : Nat) :
    u.rxRequest q (.rdmaWrite k false last key va len plen payload) = (u.writeNext q k plen payload).moveAccs (.qp q) := by
  rw [State.rxRequest, if_neg Bool.false_ne_true]

/-- Bytes of a write whose frames are all reserved are added to it. -/
theorem State.writeNext_of_reserved {s : State} {q : Nat} {a : EyeAcc} {c : WCmd} (k : Pkt) (plen payload : Nat)
    (ha : s.net.accs.find? (fun a => a.who = .qp q && a.kind = .write && decide (a.got < a.len)) = some a)
    (hc : a.cmd.bind s.findWrite = some c) (hres : ∀ r ∈ c.ranges, 1 ≤ r.st) :
    s.writeNext q k plen payload = (s.accData a.id plen payload).acceptPsn q 1 k.ackReq (decide (a.len ≤ a.got + plen)) := by
  have hready : ¬ (c.ranges.filter (fun r => decide (r.off < a.got + plen) && decide (a.got < r.off + r.len))).all
      (fun r => decide (1 ≤ r.st)) = false := by
    rw [Bool.not_eq_false, List.all_eq_true]
    exact fun r hr => decide_eq_true (hres r ((List.mem_filter.mp hr).1))
  simp only [State.writeNext, ha, hc, if_neg hready]

/-! ### Reads, flushes and triggers (R264 to R266, R276) -/

theorem State.rxRequest_rdmaRead (u : State) (q : Nat) (k : Pkt) (key va len : Nat) :
    u.rxRequest q (.rdmaRead k key va len) = (u.readReq q k key va len).moveAccs (.qp q) := by rw [State.rxRequest]

theorem State.rxRequest_eyeletFlush (u : State) (q : Nat) (k : Pkt) :
    u.rxRequest q (.eyeletFlush k) = (u.flushReq q k).moveAccs (.qp q) := by rw [State.rxRequest]

/-- A READ that passes its check is admitted, with as many response packets to come as its length takes. -/
theorem State.readReq_admitted {s : State} {q key va len n : Nat} (k : Pkt) (hroom : s.rspFull q = false)
    (hok : s.eyeCheck key (s.qp q).host 1 va len false = 0) (hn : n = max 1 ((len + (s.qp q).mtu - 1) / (s.qp q).mtu)) :
    s.readReq q k key va len =
      (((s.addRsp q { psn := k.psn, n := n, kind := .read, key := key, off := va, len := len }).admitAcc (.qp q) .read (key % 16384)
        va len k.psn n).1).updQp q (fun x => { x with
          epsn := psnAdd x.epsn n, nak := false, msn := psnAdd x.msn 1, used := s.clk.ns }) := by
  subst hn
  rw [State.readReq, if_neg (not_not_intro hok), if_neg (by simp [hroom])]

/-- A FLUSH is admitted for the writes since the last one. -/
theorem State.flushReq_admitted {s : State} {q : Nat} (k : Pkt) (hroom : s.rspFull q = false) :
    s.flushReq q k =
      (((s.addRsp q { psn := k.psn, n := 1, kind := .flush, off := (s.qp q).writes, len := b2n (s.qp q).scratch }).admitAcc (.qp q)
        .flush 0 (s.qp q).writes (b2n (s.qp q).scratch) k.psn 1).1).updQp q (fun x => { x with
          epsn := psnAdd x.epsn 1, nak := false, msn := psnAdd x.msn 1, used := s.clk.ns, writes := 0, scratch := false }) := by
  rw [State.flushReq, if_neg (by simp [hroom])]

/-- A SEND with Immediate without data that names a chain of its host and the chain's tag check is admitted as a trigger. -/
theorem State.sendImm_triggers {s v : State} {q imm slot id : Nat} (k : Pkt) (payload : Nat) (hslot : slot = imm / 2 ^ 20 % 4096)
    (hst : (s.chain slot).st ≠ .empty) (htag : imm % 2 ^ 20 = (s.chain slot).tagchk) (hhost : (s.qp q).host = (s.chain slot).host)
    (hadmit : s.admitAcc (.qp q) .trigger 16384 0 0 k.psn k.n = (v, id)) :
    s.sendImm q k imm 0 payload = ((v.updAcc id (fun a => { a with
      slot := slot, host := (s.qp q).host })).acceptPsn q k.n k.ackReq true).moveAccs (.qp q) := by
  simp only [State.sendImm, ← hslot, if_neg hst, if_neg (not_not_intro htag), hhost, hadmit, true_or,
    Nat.not_lt_zero, ne_eq, not_true_eq_false, false_and, or_self, if_false, if_true]

/-! ### Placing (R262) -/

theorem State.writePlaced_in_place {s : State} {id : Nat} {a : EyeAcc} (ha : s.acc id = some a) (hwrite : a.isWrite = true)
    (hnew : a.placed = false) (hin : s.inPlace a = true) : s.writePlaced id = ((s.placeAcc a).trigger_ a).moveAccs a.who := by
  simp only [State.writePlaced, ha, hwrite, hnew, hin, Bool.not_false, Bool.and_self, if_true]

end Sys2Proof.Machine

open Sys2Proof Sys2Proof.Machine

/-- Settles O22: each request reaches its QP by hypothesis; there the lemma of its operation says what is admitted or refused. -/
theorem eyeletAccessCommands : Obligations.EyeletAccessCommands := by
  unfold Obligations.EyeletAccessCommands
  refine ⟨fun s u k q key va len plen payload last h => ⟨fun hbad => ?refused, fun hok v id hadmit =>
      ⟨fun hnone => ?noFrames, fun t ht => ?write⟩⟩,
    fun s u k q key va len plen payload last a c h ha hc hres => ?next,
    fun s u v t k q key va len payload id h hmtu hlen hok hadmit ht => ?knot, fun s u k q key va len payload h hlen => ?knotTooLong,
    fun s u k q key va len n h hroom hok hn => ?read, fun s u k q h hroom => ?flush,
    fun s u v k q imm payload slot id h hslot hst htag hhost hadmit => ?trigger, fun s id a ha hwrite hnew hin => ?placed⟩
  case refused =>
    exact exec_access (exec_rdmaWrite k true last key va len plen payload s) h
      (State.rxRequest_rdmaWrite_first u q k last key va len plen payload) (State.writeFirst_refused k false plen payload hbad)
  case noFrames =>
    exact exec_access (exec_rdmaWrite k true last key va len plen payload s) h
      (State.rxRequest_rdmaWrite_first u q k last key va len plen payload)
      (State.writeFirst_without_frames k false plen payload hok hadmit hnone)
  case write =>
    exact exec_access (exec_rdmaWrite k true last key va len plen payload s) h
      (State.rxRequest_rdmaWrite_first u q k last key va len plen payload)
      (State.writeFirst_admitted k false plen payload hok hadmit ht)
  case next =>
    exact exec_access (exec_rdmaWrite k false last key va len plen payload s) h
      (State.rxRequest_rdmaWrite_next u q k last key va len plen payload) (State.writeNext_of_reserved k plen payload ha hc hres)
  case knot =>
    have hwhole : decide (len ≤ len) = true := decide_eq_true (Nat.le_refl len)
    exact exec_access (exec_knotWrite k key va len payload s) h (State.rxRequest_knotWrite k key va payload hmtu hlen)
      ((State.writeFirst_admitted k true len payload hok hadmit ht).trans (by rw [hwhole]; rfl))
  case knotTooLong =>
    exact exec_request_ends (exec_knotWrite k key va len payload s) h (State.rxRequest_knotWrite_too_long k key va payload hlen)
  case read =>
    exact exec_access (exec_rdmaRead k key va len s) h (State.rxRequest_rdmaRead u q k key va len)
      (State.readReq_admitted k hroom hok hn)
  case flush =>
    exact exec_access (exec_eyeletFlush k s) h (State.rxRequest_eyeletFlush u q k) (State.flushReq_admitted k hroom)
  case trigger =>
    exact exec_request_ends (exec_sendWithImmediate k imm 0 payload s) h
      (State.sendImm_triggers k payload hslot hst htag hhost hadmit)
  case placed => exact exec_ends (exec_eyeletWritePlaced id s) (State.writePlaced_in_place ha hwrite hnew hin)
end

section
/-!
PROOFS. Triggered chains (R274 to R280, Tables 7-6 to 7-8): arming, disarming, held triggers, and the issue and the end of work
requests.
-/

namespace Sys2Proof.Machine

/-! ### CHAIN ARM and CHAIN DISARM (R275, R280, Table 7-7) -/

section
variable {u : State} {q slot : Nat} {c : Ceth} (k : Pkt) (hkey : u.ceCheck (u.qp q).host c = 0) (hroom : u.rspFull q = false)
  (hslot : slot = (u.eye (c.ckey % 16384)).base + c.slot)
include hkey hroom hslot

section
variable (hfree : (u.chain slot).st = .empty ∨ (u.chain slot).st = .done ∨ (u.chain slot).st = .failed)
include hfree

/-- An ARM whose work requests are well-formed and whose landing window passes its check arms the slot: status 0. -/
theorem State.chainArm_arms (hgood : ∀ i, i < c.count → (u.wrAt slot i).bad = false)
    (hland : c.landKey = 0 ∨ u.eyeCheck c.landKey (u.qp q).host 0 c.landOff c.landLen true = 0) :
    u.chainArm q k c = ((u.takeRsp q k .arm).updChain slot (fun _ => {
      st := .armed, eye := c.ckey % 16384, host := (u.qp q).host, count := c.count, rearm := c.rearm, scope := c.scope
      tagchk := c.tagchk, landKey := c.landKey, landOff := c.landOff, landLen := c.landLen })).chainResp q k.psn (slot * 65536) := by
  have hmem : (u.chain slot).st ∈ [ChainSt.empty, .done, .failed] := by simp [hfree]
  have hnone : (List.range c.count).find? (fun i => (u.wrAt slot i).bad) = none := by
    simpa [List.find?_range_eq_none] using hgood
  have hlands : ¬ (c.landKey ≠ 0 ∧ u.eyeCheck c.landKey (u.qp q).host 0 c.landOff c.landLen true ≠ 0) :=
    fun ⟨hkey0, hcheck⟩ => hland.elim hkey0 hcheck
  subst hslot
  rw [State.chainArm, if_neg (not_not_intro hkey), if_neg (Bool.eq_false_iff.mp hroom)]
  simp only [if_neg (not_not_intro hmem), hnone, if_neg hlands]

/-- An ARM reports its first malformed work request and leaves the slot: status 3 and the request's number. -/
theorem State.chainArm_malformed {i : Nat} (hi : i < c.count) (hbad : (u.wrAt slot i).bad = true)
    (hfirst : ∀ j, j < i → (u.wrAt slot j).bad = false) :
    u.chainArm q k c = (u.takeRsp q k .arm).chainResp q k.psn (3 + i * 256 + slot * 65536) := by
  have hmem : (u.chain slot).st ∈ [ChainSt.empty, .done, .failed] := by simp [hfree]
  have hsome : (List.range c.count).find? (fun i => (u.wrAt slot i).bad) = some i := by
    simpa [List.find?_range_eq_some] using ⟨hbad, hi, hfirst⟩
  subst hslot
  rw [State.chainArm, if_neg (not_not_intro hkey), if_neg (Bool.eq_false_iff.mp hroom)]
  simp only [if_neg (not_not_intro hmem), hsome]

end

/-- A DISARM of an empty slot is answered at once, any other waits for the slot to be empty. -/
theorem State.chainDisarmReq_of_key : u.chainDisarmReq q k c =
    if (u.chain slot).st = .empty then (u.takeRsp q k .disarm).chainResp q k.psn (slot * 65536)
    else State.disarm slot ((u.takeRsp q k .disarm).updChain slot (fun c => { c with waiting := c.waiting ++ [(q, k.psn)] })) := by
  subst hslot
  rw [State.chainDisarmReq, if_neg (not_not_intro hkey), if_neg (Bool.eq_false_iff.mp hroom)]

end

/-! ### Held triggers (R279) -/

theorem State.startHeld_first {s : State} {n slot : Nat} {rest : List (Nat × Nat)} (hroom : s.running < 512)
    (hheld : sortBy (fun a b => a.1 ≤ b.1) (s.net.chains.filterMap (fun e => e.2.held.map (fun n => (n, e.1)))) = (n, slot) :: rest) :
    s.startHeld = s.startChain slot := by
  simp only [State.startHeld, if_neg (Nat.not_le.mpr hroom), hheld, List.head?_cons]

/-! ### Issue of work requests (R277, R278) -/

@[simp] theorem State.admitAcc_snd (s : State) (who : Accessor) (kind : EyeAccKind) (row off len psn n : Nat) :
    (s.admitAcc who kind row off len psn n).2 = s.net.nextAcc := rfl

@[simp] theorem State.admitAcc_nextAcc (s : State) (who : Accessor) (kind : EyeAccKind) (row off len psn n : Nat) :
    (s.admitAcc who kind row off len psn n).1.net.nextAcc = s.net.nextAcc + 1 := rfl

section
variable {s : State} {slot : Nat} {c : Chain} {w : Wr} (hc : c = s.chain slot) (hw : w = s.wrAt slot c.next)
include hc hw

theorem State.wrRead_violates (hissue : s.mayIssue slot [1] = true)
    (hbad : s.eyeCheck w.target c.host 2 w.roff w.len false ≠ 0) :
    s.wrRead slot = s.wrViolation slot (w.target % 16384) (s.eyeCheck w.target c.host 2 w.roff w.len false) w.roff := by
  subst hc hw
  simp only [State.wrRead, hissue, Bool.true_eq_false, if_false, if_pos hbad]

variable {t : State} {a : EyeAcc}

/-- A READ between two eyelets moves its bytes at once, or asks the hoop for them when its source is a namespace. -/
theorem State.wrRead_issues {b : EyeAcc} (hissue : s.mayIssue slot [1] = true)
    (hsrc : s.eyeCheck w.target c.host 2 w.roff w.len false = 0) (hdst : s.eyeCheck w.lkey c.host 3 w.loff w.len true = 0)
    (hrows : w.target % 16384 ≠ w.lkey % 16384)
    (ht : t = (((s.admitAcc (.chain slot c.next) .read (w.target % 16384) w.roff w.len 0 0).1.admitAcc (.chain slot c.next) .write
      (w.lkey % 16384) w.loff w.len 0 0).1).issueWr slot false 1)
    (ha : t.acc s.net.nextAcc = some a) (hb : t.acc (s.net.nextAcc + 1) = some b) :
    s.wrRead slot = if a.ekind = 0 then t.chainRead slot c.next a 0
      else (t.ramWrite b.addr b.len (memRead t.net.ram a.addr a.len)).updChain slot (fun x => x.ended c.next 1) := by
  subst hc hw ht
  simp only [State.wrRead, hissue, Bool.true_eq_false, if_false, hsrc, hdst, hrows, ne_eq, not_true_eq_false, false_and]
  rw [State.admitAcc_snd, State.admitAcc_snd, State.admitAcc_nextAcc, ha, hb]

/-- A WRITE or SEND whose destination is an ACTIVE QP of its group sends its bytes at once, or asks the hoop for them when its
source is a namespace. -/
theorem State.wrOut_issues {ops : List Nat} (hissue : s.mayIssue slot ops = true)
    (hsrc : s.eyeCheck w.lkey c.host 2 w.loff w.len false = 0) (hactive : (s.qp (w.target % 65536)).st = .active)
    (hgroup : s.sameGroup (s.qp (w.target % 65536)).host c.host = true)
    (ht : t = (s.admitAcc (.chain slot c.next) .read (w.lkey % 16384) w.loff w.len 0 0).1.issueWr slot false 1)
    (ha : t.acc s.net.nextAcc = some a) :
    s.wrOut slot ops = if a.ekind = 0 then t.chainRead slot c.next a 0
      else t.wrPost slot c.next w (memRead t.net.ram a.addr a.len) := by
  subst hc hw ht
  simp only [State.wrOut, hissue, Bool.true_eq_false, if_false, hsrc, hactive, hgroup, ne_eq, not_true_eq_false, or_self]
  rw [State.admitAcc_snd, ha]

end

theorem State.wrLink_issues {s : State} {slot n : Nat} (hissue : s.mayIssue slot [6] = true)
    (hn : n = (s.wrAt slot (s.chain slot).next).target % 4096) :
    s.wrLink slot = if (s.chain n).st = .armed then (s.issueWr slot false 1).trigChain n (some (slot, (s.chain slot).next))
      else s.issueWr slot true 7 := by
  subst hn
  simp only [State.wrLink, hissue, Bool.true_eq_false, if_false, ne_eq, ite_not]

/-! ### The end of a work request (R277, R279, Table 7-8) -/

section
variable {s t : State} {slot wr : Nat} {c : Chain} {f : WrRun} (hc : c = s.chain slot) (hrun : c.st = .running)
  (hf : c.flight.find? (fun f => f.idx = wr && f.ended) = some f)
  (ht : t = ((s.setWr slot wr f.status s.clk.ns).endWrAccs slot wr).updChain slot (fun c => { c with
    flight := c.flight.filter (fun f => f.idx ≠ wr) }))
include hc hrun hf ht

/-- A work request of a RUNNING chain that is over writes its STATUS and TIME and leaves the flight; then the chain fails, ends its
run, or goes on. -/
theorem State.wrComplete_of_running : s.wrComplete slot wr =
    if f.status ≠ 1 then
      ((((t.unissued slot c.next c.count).updChain slot (fun c => { c with st := .failed })).ownerNotice (s.eye c.eye).owner 0xE1
        c.eye 0).later (.detect 0x805 7 c.eye 0))
    else if (t.chain slot).flight = [] ∧ c.count ≤ c.next then
      t.updChain slot (fun c => { c with st := if c.rearm then .armed else .done, next := 0 })
    else t := by
  subst hc ht
  simp only [State.wrComplete, hf, hrun, true_and, reduceCtorEq, false_and, if_false]

theorem State.wrComplete_ends_run (hok : f.status = 1) (hflight : (t.chain slot).flight = []) (hlast : c.count ≤ c.next) :
    s.wrComplete slot wr = t.updChain slot (fun c => { c with st := if c.rearm then .armed else .done, next := 0 }) := by
  rw [State.wrComplete_of_running hc hrun hf ht, if_neg (not_not_intro hok), if_pos ⟨hflight, hlast⟩]

theorem State.wrComplete_goes_on (hok : f.status = 1) (hmore : (t.chain slot).flight ≠ [] ∨ c.next < c.count) :
    s.wrComplete slot wr = t := by
  have hnotlast : ¬ ((t.chain slot).flight = [] ∧ c.count ≤ c.next) :=
    fun ⟨hflight, hlast⟩ => hmore.elim (· hflight) (Nat.not_lt.mpr hlast)
  rw [State.wrComplete_of_running hc hrun hf ht, if_neg (not_not_intro hok), if_neg hnotlast]

theorem State.wrComplete_fails (hbad : f.status ≠ 1) :
    s.wrComplete slot wr = ((((t.unissued slot c.next c.count).updChain slot (fun c => { c with st := .failed })).ownerNotice
      (s.eye c.eye).owner 0xE1 c.eye 0).later (.detect 0x805 7 c.eye 0)) := by
  rw [State.wrComplete_of_running hc hrun hf ht, if_pos hbad]

end

end Sys2Proof.Machine

open Sys2Proof Sys2Proof.Machine

/-- Settles O23: the requests reach their QP by hypothesis; each command then does what the lemma of its case says. -/
theorem chainCommands : Obligations.ChainCommands := by
  unfold Obligations.ChainCommands
  refine ⟨fun s u k q slot c h hkey hroom hslot hfree => ⟨fun hgood hland => ?armed, fun i hi hbad hfirst => ?malformed⟩,
    fun s u k q slot c h hkey hroom hslot => ⟨fun hempty => ?disarmedAtOnce, fun hbusy => ?disarms⟩,
    fun s n slot rest hroom hheld => ?held,
    fun s t slot c w a b hc hw hissue => ⟨fun hbad => ?readViolates, fun hsrc hdst hrows ht ha hb => ?read⟩,
    fun s t slot c w a hc hw hsrc hactive hgroup ht ha => ⟨fun hissue => ?write, fun hissue => ?send⟩,
    fun s slot n hissue hn => ?link, fun s slot hissue => ?nop,
    fun s t slot wr c f hc hrun hf ht => ⟨fun hok hflight hlast => ?ends, fun hok hmore => ?goesOn, fun hbad => ?fails⟩,
    fun h slot => ?disarmAction⟩
  case armed =>
    exact exec_request_ends (exec_chainArm k c s) h (State.chainArm_arms k hkey hroom hslot hfree hgood hland)
  case malformed =>
    exact exec_request_ends (exec_chainArm k c s) h (State.chainArm_malformed k hkey hroom hslot hfree hi hbad hfirst)
  case disarmedAtOnce =>
    exact exec_request_ends (exec_chainDisarm k c s) h ((State.chainDisarmReq_of_key k hkey hroom hslot).trans (if_pos hempty))
  case disarms =>
    exact exec_request_ends (exec_chainDisarm k c s) h ((State.chainDisarmReq_of_key k hkey hroom hslot).trans (if_neg hbusy))
  case held => exact exec_ends (exec_chainHeldTriggerStart s) (State.startHeld_first hroom hheld)
  case readViolates => exact exec_ends (exec_wrRead slot s) (State.wrRead_violates hc hw hissue hbad)
  case read => exact exec_ends (exec_wrRead slot s) (State.wrRead_issues hc hw hissue hsrc hdst hrows ht ha hb)
  case write => exact exec_ends (exec_wrWrite slot s) (State.wrOut_issues hc hw hissue hsrc hactive hgroup ht ha)
  case send => exact exec_ends (exec_wrSend slot s) (State.wrOut_issues hc hw hissue hsrc hactive hgroup ht ha)
  case link => exact exec_ends (exec_wrLink slot s) (State.wrLink_issues hissue hn)
  case nop => exact exec_ends (exec_wrNop slot s) (if_pos hissue)
  case ends => exact exec_ends (exec_workRequestComplete slot wr s) (State.wrComplete_ends_run hc hrun hf ht hok hflight hlast)
  case goesOn => exact exec_ends (exec_workRequestComplete slot wr s) (State.wrComplete_goes_on hc hrun hf ht hok hmore)
  case fails => exact exec_ends (exec_workRequestComplete slot wr s) (State.wrComplete_fails hc hrun hf ht hbad)
  case disarmAction => exact ActionRuns.of_actionReq _ (exec_chainDisarmAction h slot) fun _ _ => rfl
end

section
/-!
PROOFS. Life of an eyelet row (R255 to R259, R271 to R273, Table 7-2): registration, revocation and window commits. The check value
of a registration is a free value (log entry 2).
-/

namespace Sys2Proof.Machine

/-! ### Registration (R257) -/

theorem State.eyeRegister_taken {u : State} {row : Nat} (hst : (u.eye row).st = 0 ∨ (u.eye row).st = 3)
    (howner : u.rw Obj.eyeOwner row < 2048) (henabled : u.rw Obj.hostEnable (u.rw Obj.eyeOwner row) = 1)
    (hwindow : u.windowDetail row (u.rw Obj.eyeKind row) (u.rw Obj.eyeOwner row) (u.rw Obj.eyeNs row) (u.rw Obj.eyeBase row)
      (u.rw Obj.eyeLen row) (u.rw Obj.eyePerm row) = 0) (hkgen : (u.eye row).kgen ≠ 0) :
    u.eyeRegister row = ((((u.used.updEye row (fun x => { x with
      st := 1, kind := u.rw Obj.eyeKind row, perm := u.rw Obj.eyePerm row, kgen := (u.eye row).kgen % 255 + 1
      owner := u.rw Obj.eyeOwner row, access := u.rw Obj.eyeAccess row, ns := if u.rw Obj.eyeKind row = 0 then u.rw Obj.eyeNs row else 0
      check := u.fresh % 1024, base := u.rw Obj.eyeBase row, len := u.rw Obj.eyeLen row, wgen := 0, svalid := false })).actDone
      Obj.eyeRegister row).fenLet 7 row)).fenServe 7 row := by
  have hhost : ¬ (2048 ≤ u.rw Obj.eyeOwner row ∨ u.rw Obj.hostEnable (u.rw Obj.eyeOwner row) ≠ 1) :=
    fun h => h.elim (Nat.not_le.mpr howner) (· henabled)
  have hwrap : ¬ (u.eye row).kgen % 255 + 1 = 256 := by omega
  simp only [State.eyeRegister, if_neg (not_not_intro hst), if_neg hhost, hwindow, ne_eq, not_true_eq_false, if_false, hkgen, hwrap]

theorem State.eyeRegister_refused {u : State} {row : Nat} (hst : (u.eye row).st = 1 ∨ (u.eye row).st = 2) :
    u.eyeRegister row = u.actFail Obj.eyeRegister row 1 := by
  have hbusy : ¬ ((u.eye row).st = 0 ∨ (u.eye row).st = 3) := by omega
  simp only [State.eyeRegister, if_pos hbusy, ne_eq, Nat.one_ne_zero, not_false_eq_true, if_true]

/-! ### Revocation (R271) -/

/-- Revoking a LIVE row stops it at once; chains of a chain eyelet are disarmed, and the row may be DEAD already. -/
theorem State.eyeRevokeOp_of_live {u : State} {row : Nat} (hst : (u.eye row).st = 1) (disarm : Nat → State → State) :
    u.eyeRevokeOp disarm row = (((u.actRun Obj.eyeRevoke row).updEye row (fun x => { x with
      st := 2, since := u.clk.ns })).chainsOff disarm row).rowSettle row := by
  rw [State.eyeRevokeOp, if_neg (not_not_intro hst)]
  exact if_neg (not_not_intro hst)

theorem State.revokeTimeout_forced {s : State} {row : Nat} (hst : (s.eye row).st = 2)
    (hlate : (s.eye row).since + 64000 ≤ s.clk.ns) (hadmitted : s.admitted row ≠ []) :
    s.revokeTimeout row = ((((((s.admitted row).foldl (fun u a => u.abortAcc 12 a) s).updEye row
      (fun x => { x with st := 3 })).setAct Obj.eyeRevoke row 2 1).ownerNotice (s.eye row).owner 0xE3 row 0).later
      (.detect 0x804 7 row 0)).commitSettle row := if_pos ⟨hst, hlate, hadmitted⟩

/-! ### Window commits (R272, R273) -/

/-- A commit takes the staged window as a new generation, while the key cache is updated. -/
theorem State.eyeCommitOp_taken {u : State} {row : Nat} (hst : (u.eye row).st = 1) (hstaged : (u.eye row).svalid = true)
    (hidle : (u.eye row).committing = false)
    (hwindow : u.windowDetail row (u.eye row).kind (u.eye row).owner (u.eye row).ns (u.rw Obj.eyeSbase row) (u.rw Obj.eyeSlen row)
      (u.rw Obj.eyeSperm row) = 0) :
    u.eyeCommitOp row = (u.updEye row (fun x => { x with
      base := u.rw Obj.eyeSbase row, len := u.rw Obj.eyeSlen row, perm := u.rw Obj.eyeSperm row, access := u.rw Obj.eyeSaccess row
      wgen := wrapAdd 16 x.wgen 1, svalid := false, updating := true, committing := true, commitAt := u.clk.ns })).actRun
      Obj.eyeCommit row := by
  simp only [State.eyeCommitOp, hst, hstaged, hidle, hwindow, ne_eq, not_true_eq_false, Bool.true_eq_false, Bool.false_eq_true,
    or_self, if_false]

theorem State.cacheDone_of_updating {s t : State} {row : Nat} (hupd : (s.eye row).updating = true)
    (ht : t = (s.updEye row (fun x => { x with updating := false })).rowSettle row) :
    s.cacheDone row = t.heldQps.foldl (fun u q => u.later (.rxMore q)) t := by
  subst ht
  exact if_pos hupd

theorem State.commitTimeout_forced {s : State} {row : Nat} (hcommit : (s.eye row).committing = true)
    (hlate : (s.eye row).commitAt + 64000 ≤ s.clk.ns) :
    s.commitTimeout row = (((((s.admitted row).filter (fun a => a.wgen ≠ (s.eye row).wgen)).foldl
      (fun u a => u.abortAcc 13 a) s).updEye row (fun x => { x with committing := false })).setAct Obj.eyeCommit row 2 1).rowSettle row :=
  if_pos ⟨hcommit, hlate⟩

end Sys2Proof.Machine

open Sys2Proof Sys2Proof.Machine

/-- Settles O24: each action and each end of an update, a revocation or a commit through the lemma of its case. -/
theorem eyeletCommands : Obligations.EyeletCommands := by
  unfold Obligations.EyeletCommands
  refine ⟨fun h row => ?register, fun h row => ?registerBusy, fun h row => ?revoke, fun s row hst hlate hadmitted => ?revokeTimeout,
    fun h row => ?commit, fun s t row hupd ht => ?cacheUpdated, fun s row hcommit hlate => ?commitTimeout⟩
  case register =>
    exact ActionRuns.of_actionReq _ (exec_eyeRegister h row) fun _ ⟨hst, howner, henabled, hwindow, hkgen⟩ =>
      State.eyeRegister_taken hst howner henabled hwindow hkgen
  case registerBusy => exact ActionRuns.of_actionReq _ (exec_eyeRegister h row) fun _ hst => State.eyeRegister_refused hst
  case revoke => exact ActionRuns.of_actionReq _ (exec_eyeRevoke h row) fun _ hst => State.eyeRevokeOp_of_live hst State.disarm
  case revokeTimeout => exact exec_ends (exec_eyeRevokeTimeout row s) (State.revokeTimeout_forced hst hlate hadmitted)
  case commit =>
    exact ActionRuns.of_actionReq _ (exec_eyeCommit h row) fun _ ⟨hst, hstaged, hidle, hwindow⟩ =>
      State.eyeCommitOp_taken hst hstaged hidle hwindow
  case cacheUpdated => exact exec_ends (exec_keyCacheUpdateDone row s) (State.cacheDone_of_updating hupd ht)
  case commitTimeout => exact exec_ends (exec_eyeCommitTimeout row s) (State.commitTimeout_forced hcommit hlate)
end

section
/-!
PROOFS. Selvedge fences (R294 to R299, Table 8-3): release through DRAINING, its ends, and the operator's engagement.
-/

namespace Sys2Proof.Machine

/-! ### Release (R295, R297) -/

/-- The fence of a namespace that is FENCED, its detector's condition gone, has nothing against its release. -/
theorem State.releaseDetail_of_namespace {u : State} {row : Nat} (hst : (Tbl.get {} u.fen.rows row).st = .fenced)
    (hscope : (Tbl.get {} u.fen.rows row).scope = 4) : u.releaseDetail row true = 0 := by
  have howner (id : Nat) : ownerOnly 4 id = false := rfl
  simp [State.releaseDetail, hst, hscope, howner]

theorem State.releaseDetail_of_not_fenced {u : State} {row : Nat} (clear : Bool) (hst : (Tbl.get {} u.fen.rows row).st ≠ .fenced) :
    u.releaseDetail row clear = 1 := if_pos hst

/-- A failed release reaches the endpoint's `REL_FAIL` only from a port's fence (R420). -/
theorem State.releaseRow_of_not_port {u : State} {row : Nat} (clear : Bool) (hscope : (Tbl.get {} u.fen.rows row).scope ≠ 1) :
    u.releaseRow row clear = u.releaseOp row clear := if_neg fun h => hscope h.1

/-- A release that nothing stands against drains the scope, whose fence is no group's. -/
theorem State.releaseOp_drains {u : State} {row : Nat} {clear : Bool} (hdetail : u.releaseDetail row clear = 0)
    (hscope : (Tbl.get {} u.fen.rows row).scope ≠ 11) : u.releaseOp row clear = u.fenDrain row := by
  simp only [State.releaseOp, hdetail, ne_eq, not_true_eq_false, if_false, hscope]

theorem State.releaseOp_fails {u : State} {row : Nat} {clear : Bool} (hdetail : u.releaseDetail row clear ≠ 0) :
    u.releaseOp row clear = u.actFail Obj.fenRelease row (u.releaseDetail row clear) := if_pos hdetail

theorem State.releaseRow_drains_namespace {u : State} {row : Nat} (hst : (Tbl.get {} u.fen.rows row).st = .fenced)
    (hscope : (Tbl.get {} u.fen.rows row).scope = 4) : u.releaseRow row true = u.fenDrain row := by
  rw [State.releaseRow_of_not_port true (by omega),
    State.releaseOp_drains (State.releaseDetail_of_namespace hst hscope) (by omega)]

theorem State.releaseRow_refused {u : State} {row : Nat} (clear : Bool) (hst : (Tbl.get {} u.fen.rows row).st ≠ .fenced)
    (hscope : (Tbl.get {} u.fen.rows row).scope ≠ 1) : u.releaseRow row clear = u.actFail Obj.fenRelease row 1 := by
  have hdetail := State.releaseDetail_of_not_fenced clear hst
  rw [State.releaseRow_of_not_port clear hscope, State.releaseOp_fails (by omega), hdetail]

/-! ### Ends of DRAINING and RELEASED (Table 8-3) -/

theorem State.fenDrainOver_releases {s : State} {row : Nat} (hst : (Tbl.get {} s.fen.rows row).st = .draining)
    (hidle : s.scopeBusy (Tbl.get {} s.fen.rows row).scope (Tbl.get {} s.fen.rows row).id = false) :
    s.fenDrainOver row = s.fenReleased row := if_pos ⟨hst, hidle⟩

theorem State.fenDrainTimeout_of_draining {s : State} {row : Nat} (hst : (Tbl.get {} s.fen.rows row).st = .draining) :
    s.fenDrainTimeout row = ((s.putFen row { Tbl.get {} s.fen.rows row with st := .fenced }).actFail Obj.fenRelease row 4).note 0xE0B
      (Tbl.get {} s.fen.rows row).scope (Tbl.get {} s.fen.rows row).id 5 0 := if_pos hst

theorem State.fenForget_of_released {s : State} {row : Nat} (hst : (Tbl.get {} s.fen.rows row).st = .released) :
    s.fenForget row = s.putFen row {} := if_pos hst

/-! ### The operator's engagement (R298) -/

theorem State.selEngageOp_engages {u : State}
    (hhere : u.scopePresent (u.rw Obj.selEngageType 0) (u.rw Obj.selEngageId 0) = true) (hcopy : u.rw Obj.selEngageType 0 ≠ 10) :
    u.selEngageOp = ((u.engage (u.rw Obj.selEngageType 0) (u.rw Obj.selEngageId 0) 0xFFFF).note 0xE09 (u.rw Obj.selEngageType 0)
      (u.rw Obj.selEngageId 0) 5 0xFFFF).actDone Obj.selEngage 0 := by
  rw [State.selEngageOp, if_neg (ne_false_of_eq_true hhere)]
  exact if_neg fun h => hcopy h.1

theorem State.selEngageOp_of_absent {u : State}
    (habsent : u.scopePresent (u.rw Obj.selEngageType 0) (u.rw Obj.selEngageId 0) = false) :
    u.selEngageOp = u.actFail Obj.selEngage 0 1 := if_pos habsent

end Sys2Proof.Machine

open Sys2Proof Sys2Proof.Machine

/-- Settles O25: the release by what stands against it, each end of a row's state and the engagement through the lemma of its case. -/
theorem fenceCommands : Obligations.FenceCommands := by
  unfold Obligations.FenceCommands
  refine ⟨fun h row clear => ?release, fun h row clear => ?releaseRefused, fun s t row f hf hst hidle ht => ?drained,
    fun s row f hf hst => ?drainTimeout, fun s row hst => ?forgotten, fun h => ?engage, fun h => ?engageAbsent⟩
  case release =>
    exact ActionRuns.of_actionReq _ (exec_fenceRelease h row clear) fun u ⟨hst, hscope, hclear⟩ => by
      rw [hclear, State.releaseRow_drains_namespace hst hscope, ← hscope]
      rfl
  case releaseRefused =>
    exact ActionRuns.of_actionReq _ (exec_fenceRelease h row clear) fun _ ⟨hst, hscope⟩ => State.releaseRow_refused clear hst hscope
  case drained =>
    subst hf ht
    exact exec_ends (exec_fenceDrainDone row s) (State.fenDrainOver_releases hst hidle)
  case drainTimeout =>
    subst hf
    exact exec_ends (exec_fenceDrainTimeout row s) (State.fenDrainTimeout_of_draining hst)
  case forgotten => exact exec_ends (exec_fenceReleasedTimeout row s) (State.fenForget_of_released hst)
  case engage =>
    exact ActionRuns.of_actionReq _ (exec_selEngage h) fun _ ⟨hhere, hcopy⟩ => State.selEngageOp_engages hhere hcopy
  case engageAbsent => exact ActionRuns.of_actionReq _ (exec_selEngage h) fun _ habsent => State.selEngageOp_of_absent habsent
end

section
/-!
PROOFS. The MSQ pair (R302 to R311, Tables 8-4 to 8-6): switch-over, repair and the tests. The gap is a free value of at most 48
cycles (log entry 2); a comparator test ends in the command that starts it (log entry 32).
-/

namespace Sys2Proof.Machine

/-! ### Switch-over (R302 to R305) -/

/-- What a mismatch of `slices` latches at cycle 0 with its cause, and the count of switch-overs (R302). -/
def State.mismatchLatched (s : State) (slices cause : Nat) : State :=
  ({ s with msq := { s.msq with lastMismatch := s.clk.ns, lastSlices := slices, lastCause := cause } } : State).addCnt 32
    Obj.msqSwitchovers 0 1

/-- The copy whose engine is `eng` is blamed: the other goes on in `st`, the fence engages, the gap is drawn. -/
def State.copyBlamed (s : State) (st : MsqState) (eng : Nat) : State :=
  let v := State.engageList engageBound [⟨10, eng, 0xFFFF, 0x701, false⟩] ((s.msqTo st).noteInj false 0x701 10 eng 1 0)
  ({ v with msq := { v.msq with lastGap := v.fresh % 49 } } : State).used

section
variable {s : State} {slices : Nat} (hpaired : s.msq.st = .paired) (hsome : slices ≠ 0)
include hpaired hsome

/-- While PAIRED any mismatch switches over, whoever is at fault. -/
theorem State.msqFault_of_paired (inj fa fb : Bool) : s.msqFault inj slices fa fb = s.msqSwitch inj slices fa fb 0x701 := by
  simp only [State.msqFault, hpaired, hsome, false_and, if_false]

/-- When one copy alone is at fault (MSQ-A if `a`, else MSQ-B), the other goes on. -/
theorem State.msqFault_blames (a : Bool) : s.msqFault false slices a (!a) =
    (s.mismatchLatched slices (if a then 1 else 2)).copyBlamed (if a then .singleB else .singleA) (if a then 68 else 69) := by
  rw [State.msqFault_of_paired hpaired hsome]
  cases a <;> simp only [State.msqSwitch, hsome, if_false] <;> rfl

/-- When both copies are at fault, or neither can be blamed, the pair halts. -/
theorem State.msqFault_halts (both : Bool) : s.msqFault false slices both both =
    ((s.mismatchLatched slices (if both then 4 else 3)).msqTo .halted).detectInj false 0x701 0 0 0 := by
  rw [State.msqFault_of_paired hpaired hsome]
  cases both <;> simp only [State.msqSwitch, hsome, if_false] <;> rfl

end

/-- The number of slices a mismatch carries is one of 64 bits. -/
theorem exec_msqMismatch_ends {s t : State} {slices : Nat} {fa fb : Bool} (hslices : slices < 2 ^ 64)
    (ht : s.msqFault false slices fa fb = t) : exec (.msqMismatch slices fa fb) s = .next (Ends s t) :=
  exec_ends (exec_msqMismatch slices fa fb s) ((congrArg (s.msqFault false · fa fb) (Nat.mod_eq_of_lt hslices)).trans ht)

/-! ### Repair (R306, R307) -/

theorem State.msqRepairOp_of_single {u : State} (hst : u.msq.st = .singleA ∨ u.msq.st = .singleB) (ok : Bool) :
    u.msqRepairOp ok = if ok then (({ u with msq := { u.msq with before := u.msq.st } }).msqTo .resync).actRun Obj.msqRepair 0
      else u.actFail Obj.msqRepair 0 2 := by
  rw [State.msqRepairOp, if_neg (not_not_intro hst)]
  cases ok <;> rfl

theorem State.msqResyncDone_equal {s : State} (hst : s.msq.st = .resync) (inj : Bool) :
    s.msqResyncDone inj true = ((((s.fenOwner 10 s.msq.fencedCopy).fenServe 10 s.msq.fencedCopy).msqTo .paired).actDone
      Obj.msqRepair 0).note 0x706 0 0 5 0 := if_neg (not_not_intro hst)

theorem State.msqResyncDone_unequal {s : State} (hst : s.msq.st = .resync) (inj : Bool) :
    s.msqResyncDone inj false = (((s.msqTo s.msq.before).actFail Obj.msqRepair 0 3).noteInj inj 0x704 10 s.msq.fencedCopy 2 0).engage
      10 s.msq.fencedCopy 0x704 := if_neg (not_not_intro hst)

/-! ### Tests (R310, R311) -/

theorem State.cmpTestOp_of_paired {u : State} (hst : u.msq.st = .paired) (pass : Bool) :
    u.cmpTestOp pass = if pass then (u.sliceTest true).actDone Obj.msqCmpTest 0 else (u.sliceTest false).actFail Obj.msqCmpTest 0 2 :=
  if_neg (not_not_intro hst)

/-- A switch-over test of either copy fails at once outside PAIRED. -/
theorem State.actSwitchTest_refused {u : State} {arg : Nat} (harg : arg = 1 ∨ arg = 2) (hst : u.msq.st ≠ .paired) :
    u.actSwitchTest arg = (u.actFail Obj.msqSwitchTest 0 1, 0) := by
  rw [State.actSwitchTest, if_pos harg, State.switchTestOp, if_pos hst]

end Sys2Proof.Machine

open Sys2Proof Sys2Proof.Machine

/-- Settles O26: a mismatch by who is blamed, the repair and the tests through the lemma of each case. -/
theorem msqCommands : Obligations.MsqCommands := by
  unfold Obligations.MsqCommands
  refine ⟨fun s t v slices hpaired hslices hsome ht hv => ?blamesA, fun s t v slices hpaired hslices hsome ht hv => ?blamesB,
    fun s slices both hpaired hslices hsome => ?halts, fun h ok => ?repair, fun s hst => ⟨?resyncEqual, ?resyncUnequal⟩,
    fun h pass => ?cmpTest, fun s hpaired hperiod => ⟨?periodPass, ?periodFail⟩, fun h arg harg => ?switchTest⟩
  case blamesA =>
    subst hv ht
    exact exec_msqMismatch_ends hslices (State.msqFault_blames hpaired hsome true)
  case blamesB =>
    subst hv ht
    exact exec_msqMismatch_ends hslices (State.msqFault_blames hpaired hsome false)
  case halts => exact exec_msqMismatch_ends hslices (State.msqFault_halts hpaired hsome both)
  case repair => exact ActionRuns.of_actionReq _ (exec_msqRepair h ok) fun _ hst => State.msqRepairOp_of_single hst ok
  case resyncEqual => exact exec_ends (exec_msqResyncDone true s) (State.msqResyncDone_equal hst false)
  case resyncUnequal => exact exec_ends (exec_msqResyncDone false s) (State.msqResyncDone_unequal hst false)
  case cmpTest => exact ActionRuns.of_actionReq _ (exec_msqCmpTest h pass) fun _ hst => State.cmpTestOp_of_paired hst pass
  case periodPass => exact exec_ends (exec_cmpTestPeriodExpiry true s) (if_pos ⟨hpaired, hperiod⟩)
  case periodFail => exact exec_ends (exec_cmpTestPeriodExpiry false s) (if_pos ⟨hpaired, hperiod⟩)
  case switchTest =>
    exact ActionRuns.of (fun u => u.actSwitchTest arg) (exec_msqSwitchTest h arg) fun _ hst => State.actSwitchTest_refused harg hst
end

section
/-!
PROOFS. The bobbin crossbar and frame assembly (R316 to R320, R324, R327, R332, Table 9-6): cells at the hem, receipts, gaps, frames
by depth, the end of a hold, plane tests.
-/

namespace Sys2Proof.Machine

/-! ### Cells at the hem (R318, R320) -/

section
variable {s : State} {src dst cls seq plane : Nat} (hplane : plane < 4) (hfence : s.isFenced 2 plane = false)
  (hpower : (Tbl.get {} s.pd (40 + plane)).st ≠ .off)
include hplane hfence hpower

/-- A plane that is there, not fenced and not OFF delivers its cells. -/
theorem State.plane_delivers : ¬ (4 ≤ plane ∨ s.isFenced 2 plane = true ∨ (Tbl.get {} s.pd (40 + plane)).st = .off) := by
  rintro (h | h | h)
  · omega
  · exact Bool.false_ne_true (hfence.symm.trans h)
  · exact hpower h

theorem State.cellArrival_bad : s.cellArrival src dst cls seq plane false =
    ((s.addCnt 64 Obj.planeCells plane 1).addCnt 64 Obj.planeCrcErrors plane 1).planeErr plane :=
  if_neg (State.plane_delivers hplane hfence hpower)

/-- A cell behind the window of its flow is a copy of one linked before: it is dropped. -/
theorem State.cellArrival_behind
    (hbehind : 32768 ≤ (seq + 65536 - Tbl.get 0 s.net.xbar.rxSeq (flowKey src dst cls)) % 65536) :
    s.cellArrival src dst cls seq plane true = s.addCnt 64 Obj.planeCells plane 1 := by
  rw [State.cellArrival, if_neg (State.plane_delivers hplane hfence hpower)]
  exact if_pos (Or.inl hbehind)

/-- A cell within the window, sent and not stored yet, is stored; what then follows without a gap is linked. -/
theorem State.cellArrival_new {t u : State} {c : SentCell} (ht : t = s.addCnt 64 Obj.planeCells plane 1)
    (hwindow : (seq + 65536 - Tbl.get 0 t.net.xbar.rxSeq (flowKey src dst cls)) % 65536 < 32768)
    (hnew : ∀ h ∈ t.net.xbar.hem, ¬ (h.flow = flowKey src dst cls ∧ h.seq = seq))
    (hsent : t.net.xbar.sent.find? (fun c => c.src = src && c.dst = dst && c.cls = cls && c.seq = seq) = some c)
    (hu : u = t.setX { t.net.xbar with hem := t.net.xbar.hem ++ [⟨flowKey src dst cls, seq, c.tag, c.eop⟩] }) :
    s.cellArrival src dst cls seq plane true =
      (State.linkRun (t.net.xbar.hem.length + 1) dst (flowKey src dst cls) u).gapSeen (flowKey src dst cls)
        (Tbl.get 0 t.net.xbar.rxSeq (flowKey src dst cls)) := by
  have hstore : ¬ (32768 ≤ (seq + 65536 - Tbl.get 0 t.net.xbar.rxSeq (flowKey src dst cls)) % 65536
      ∨ t.net.xbar.hem.any (fun h => h.flow = flowKey src dst cls && h.seq = seq) = true) := by
    rintro (h | h)
    · omega
    · obtain ⟨x, hx, hsame⟩ := List.any_eq_true.mp h
      exact hnew x hx (by simpa using hsame)
  have hlen : u.net.xbar.hem.length = t.net.xbar.hem.length + 1 := by
    subst hu
    exact List.length_append
  rw [State.cellArrival, if_neg (State.plane_delivers hplane hfence hpower), ← ht]
  refine (if_neg hstore).trans ?_
  rw [hsent, ← hlen, hu]
  rfl

end

/-! ### Receipts and gaps (R316, R319) -/

theorem State.receipt_of_linked {s : State} {src dst cls seq : Nat}
    (hlinked : 32768 ≤ (seq + 65536 - Tbl.get 0 s.net.xbar.rxSeq (flowKey src dst cls)) % 65536) :
    s.receipt src dst cls seq = (s.setX { s.net.xbar with
      sent := s.net.xbar.sent.filter (fun c => !(c.src = src && c.dst = dst && c.cls = cls && c.seq = seq)) }).pumpIn src :=
  if_neg (Nat.not_lt.mpr hlinked)

theorem Xbar.any_hem_of_exists {x : Xbar} {k : Nat} (hgap : ∃ h ∈ x.hem, h.flow = k) : x.hem.any (fun h => h.flow = k) = true := by
  simpa using hgap

section
variable {s : State} {src dst cls n : Nat} (hmax : Tbl.get none s.net.xbar.gapMax (flowKey src dst cls) = some n)
  (hgap : ∃ h ∈ s.net.xbar.hem, h.flow = flowKey src dst cls)
include hmax hgap

/-- An open gap is replayed while its limit allows; the plane that carried the missing cell is charged. -/
theorem State.gapTimeout_replays {t : State} {c : SentCell} (hleft : Tbl.get 0 s.net.xbar.retries (flowKey src dst cls) < n)
    (ht : t = (s.setX { s.net.xbar with retries := Tbl.upd 0 s.net.xbar.retries (flowKey src dst cls) (· + 1) }).addCnt 64
      Obj.fportGapTimeouts dst 1)
    (hsent : s.net.xbar.sent.find? (fun c => c.src = src && c.dst = dst && c.cls = cls
      && c.seq = Tbl.get 0 s.net.xbar.rxSeq (flowKey src dst cls)) = some c) :
    s.gapTimeout src dst cls = (t.resend c).planeErr c.plane := by
  simp only [State.gapTimeout, Xbar.any_hem_of_exists hgap, hmax, Option.getD_some, hleft, hsent, ht, Bool.true_eq_false, if_false, if_true]

theorem State.gapTimeout_gives_up (hspent : n ≤ Tbl.get 0 s.net.xbar.retries (flowKey src dst cls)) :
    s.gapTimeout src dst cls = s.gapLost src dst cls := by
  simp only [State.gapTimeout, Xbar.any_hem_of_exists hgap, hmax, Option.getD_some, Nat.not_lt.mpr hspent, Bool.true_eq_false, if_false]

end

/-! ### Frame assembly (R324) -/

section
variable {s t : State} {n sub : Nat} {f : EFrame} {r : List EFrame} (hasm : Tbl.get [] (s.port n).asm sub = f :: r)
  (ht : t = s.updPort n (fun p => { p with asm := Tbl.set [] p.asm sub r })) (hkept : (t.port n).flushed.contains sub = false)
include hasm ht hkept

/-- While no hold of the sub-port has expired, its oldest transfer is queued, marked or dropped. -/
theorem State.assemble_oldest : s.assemble n sub =
    if f.data && decide (s.rw Obj.eclEcnThresh (n * 8 + f.cls) * 1024 < s.depthOf n sub f.cls) then
      if f.ect then (t.enqueue { f with ce := true }).addCnt 64 Obj.eclMarked (n * 8 + f.cls) 1
      else (t.freeSpace f).addCnt 64 Obj.eclThreshDrops (n * 8 + f.cls) 1
    else t.enqueue f := by
  subst ht
  simp only [State.assemble, hasm, hkept, Bool.false_eq_true, if_false]

theorem State.assemble_below_threshold
    (hbelow : f.data = false ∨ s.depthOf n sub f.cls ≤ s.rw Obj.eclEcnThresh (n * 8 + f.cls) * 1024) :
    s.assemble n sub = t.enqueue f := by
  rw [State.assemble_oldest hasm ht hkept, if_neg]
  rw [Bool.and_eq_true, decide_eq_true_eq]
  rintro ⟨hdata, hdeep⟩
  exact hbelow.elim (fun h => Bool.false_ne_true (h.symm.trans hdata)) (Nat.not_le.mpr hdeep)

theorem State.assemble_above_threshold (hdata : f.data = true)
    (hdeep : s.rw Obj.eclEcnThresh (n * 8 + f.cls) * 1024 < s.depthOf n sub f.cls) :
    s.assemble n sub = if f.ect then (t.enqueue { f with ce := true }).addCnt 64 Obj.eclMarked (n * 8 + f.cls) 1
      else (t.freeSpace f).addCnt 64 Obj.eclThreshDrops (n * 8 + f.cls) 1 := by
  rw [State.assemble_oldest hasm ht hkept, if_pos]
  rw [hdata, decide_eq_true hdeep, Bool.true_and]

end

/-! ### Plane tests (R332) -/

theorem State.planeTestOp_of_on {u : State} {p : Nat} (hon : (Tbl.get {} u.pd (40 + p)).st = .on) :
    u.planeTestOp p = u.actFail Obj.planeTest p 1 := if_pos hon

theorem State.planeTestOp_of_not_on {u : State} {p : Nat} (hnot : (Tbl.get {} u.pd (40 + p)).st ≠ .on) :
    u.planeTestOp p = ({ u with net := { u.net with plane := u.net.plane ++ [p] } } : State).actRun Obj.planeTest p := if_neg hnot

/-- A test that is under way ends and notes its result. -/
theorem State.planeTestDone_of_running {s t : State} {p : Nat} (hrun : s.net.plane.contains p = true)
    (ht : t = { s with net := { s.net with plane := s.net.plane.filter (fun q => q ≠ p) } }) (pass : Bool) :
    s.planeTestDone p pass = if pass then (t.setCnt Obj.planeTestOk p (b2n pass)).actDone Obj.planeTest p
      else ((t.setCnt Obj.planeTestOk p (b2n pass)).actFail Obj.planeTest p 2).later (.detect 0x504 2 p 0) := by
  subst ht
  exact if_neg (ne_false_of_eq_true hrun)

end Sys2Proof.Machine

open Sys2Proof Sys2Proof.Machine

/-- Settles O27: each event at a hem, a port or a plane through the lemma of its case. -/
theorem fabricCommands : Obligations.FabricCommands := by
  unfold Obligations.FabricCommands
  refine ⟨fun s t src dst cls seq plane hplane hfence hpower ht => ⟨?badCell, fun hbehind => ?copy,
      fun c u hwindow hnew hsent hu => ?newCell⟩,
    fun s src dst cls seq hlinked => ?receipt,
    fun s t src dst cls n c hmax hgap => ⟨fun hleft ht hsent => ?replay, fun hspent => ?lost⟩,
    fun s t n sub f r hasm ht hkept => ⟨fun hbelow => ?queued, fun hdata hdeep => ?markedOrDropped⟩,
    fun s n sub hhold => ?holdOver, fun h p => ?testStarts, fun h p => ?testRefused,
    fun s t p hrun ht => ⟨?testPassed, ?testFailed⟩⟩
  case badCell =>
    subst ht
    exact exec_ends (exec_cellArrival src dst cls seq plane false s) (State.cellArrival_bad hplane hfence hpower)
  case copy =>
    subst ht
    exact exec_ends (exec_cellArrival src dst cls seq plane true s) (State.cellArrival_behind hplane hfence hpower hbehind)
  case newCell =>
    exact exec_ends (exec_cellArrival src dst cls seq plane true s)
      (State.cellArrival_new hplane hfence hpower ht hwindow hnew hsent hu)
  case receipt => exact exec_ends (exec_receiptCredit src dst cls seq s) (State.receipt_of_linked hlinked)
  case replay => exact exec_ends (exec_hemGapTimeout src dst cls s) (State.gapTimeout_replays hmax hgap hleft ht hsent)
  case lost => exact exec_ends (exec_hemGapTimeout src dst cls s) (State.gapTimeout_gives_up hmax hgap hspent)
  case queued => exact exec_ends (exec_frameAssembly n sub s) (State.assemble_below_threshold hasm ht hkept hbelow)
  case markedOrDropped => exact exec_ends (exec_frameAssembly n sub s) (State.assemble_above_threshold hasm ht hkept hdata hdeep)
  case holdOver => exact exec_ends (exec_holdExpiry n sub s) (if_pos hhold)
  case testStarts => exact ActionRuns.of_actionReq _ (exec_planeTest h p) fun _ hnot => State.planeTestOp_of_not_on hnot
  case testRefused => exact ActionRuns.of_actionReq _ (exec_planeTest h p) fun _ hon => State.planeTestOp_of_on hon
  case testPassed => exact exec_ends (exec_planeTestDone p true s) (State.planeTestDone_of_running hrun ht true)
  case testFailed => exact exec_ends (exec_planeTestDone p false s) (State.planeTestDone_of_running hrun ht false)
end

section
/-!
PROOFS. The Tension unit and the policers (R333, R336 to R339, R341, R345): what a frame that leaves is counted for, calendar slots and
bucket refills, the way back to the calendar.
-/

namespace Sys2Proof.Machine

/-! ### A frame leaves (R333) -/

/-- The state once frame `f`, picked with `deficit` and class `cur`, has been sent: it has left its queue, its shapers are debited, it is
emitted and counted for its port and class. -/
def State.frameSent (s : State) (n sub : Nat) (f : EFrame) (deficit : Tbl Nat) (cur : Nat) : State :=
  let t := s.updPort n (fun p => { p.take f with
    deficit := deficit, last := Tbl.set 0 (Tbl.set 0 p.last sub cur) (64 + sub * 8 + f.cls) (f.flow + 1) })
  let u := (s.path f).foldl (fun v k => v.debit n k (s.counted f)) t
  ((u.emit (.frame f)).addCnt 64 Obj.ethTxFrames n 1).addCnt 64 Obj.eclFrames (n * 8 + f.cls) 1

/-- What the held mark, the QP and the work request of a frame `f` of `l` counted bytes add when it leaves port `n`. -/
def State.frameTallied (v : State) (n l : Nat) (f : EFrame) : State :=
  let w := if f.held then v.addCnt 64 Obj.holdSent n 1 else v
  let x := match f.qp with
    | some q => w.addCnt 64 Obj.tflowBytes q l
    | none => w
  match f.wr with
  | some (slot, idx) => x.wrLeft slot idx
  | none => x

/-- On a link that is up the picked frame is sent, tallied and gives its space back. `hbody` rules out the branch of a CNP, which is
counted besides. -/
theorem State.transmit_picked {s : State} {n sub cur : Nat} {f : EFrame} {deficit : Tbl Nat} (hup : s.linkUp n sub = true)
    (hpick : s.pick n sub = some (f, deficit, cur)) (hbody : ∀ x, f.body ≠ .cnp x) :
    s.transmit n sub = ((s.frameSent n sub f deficit cur).frameTallied n (s.counted f) f).freeSpace f := by
  simp only [State.transmit, hup, hpick, Bool.true_eq_false, if_false]
  rfl

section
variable {v : State} {n l : Nat} {f : EFrame}

theorem State.frameTallied_of_port (hheld : f.held = false) (hqp : f.qp = none) (hwr : f.wr = none) : v.frameTallied n l f = v := by
  simp only [State.frameTallied, hheld, hqp, hwr, Bool.false_eq_true, if_false]

theorem State.frameTallied_of_held {q : Nat} (hheld : f.held = true) (hqp : f.qp = some q) (hwr : f.wr = none) :
    v.frameTallied n l f = (v.addCnt 64 Obj.holdSent n 1).addCnt 64 Obj.tflowBytes q l := by
  simp only [State.frameTallied, hheld, hqp, hwr, if_true]

theorem State.frameTallied_of_chain {q slot idx : Nat} (hheld : f.held = false) (hqp : f.qp = some q) (hwr : f.wr = some (slot, idx)) :
    v.frameTallied n l f = (v.addCnt 64 Obj.tflowBytes q l).wrLeft slot idx := by
  simp only [State.frameTallied, hheld, hqp, hwr, Bool.false_eq_true, if_false]

end

theorem exec_frameTransmit_ends {s w : State} {n sub cur : Nat} {f : EFrame} {deficit : Tbl Nat} (hup : s.linkUp n sub = true)
    (hpick : s.pick n sub = some (f, deficit, cur)) (hbody : ∀ x, f.body ≠ .cnp x)
    (hw : (s.frameSent n sub f deficit cur).frameTallied n (s.counted f) f = w) :
    exec (.frameTransmit n sub) s = .next (Ends s (w.freeSpace f)) := by
  subst hw
  exact exec_ends (exec_frameTransmit n sub s) (State.transmit_picked hup hpick hbody)

/-! ### Calendar and buckets (R336 to R339) -/

/-- Within a revolution a port in calendar mode brings the shapers of the slot that wait with laps left to their rate. -/
theorem State.calendarSlot_within_revolution {s : State} {n : Nat} (hmode : (s.port n).bucket = false) (hslot : s.slotNow % 4096 ≠ 0) :
    s.calendarSlot n = (((s.port n).shapers.filter (fun e => match e.2 with
      | some x => decide (x.next / 256 % 4096 = s.slotNow % 4096) && decide (s.slotNow < x.next / 256)
      | none => false)).map (fun e => e.1)).foldl (fun u k => u.refreshShaper n k) s := by
  have hinside (switching : Bool) : ¬ (decide (s.slotNow % 4096 = 0) && switching) = true := by
    rw [decide_eq_false hslot]
    exact Bool.false_ne_true
  rw [State.calendarSlot, if_neg (ne_true_of_eq_false hmode)]
  exact if_neg (hinside _)

theorem State.bucketRefill_of_bucket {s t : State} {n : Nat} (hmode : (s.port n).bucket = true)
    (ht : t = ((s.port n).shapers.map (fun e => e.1)).foldl (fun u k => u.refreshShaper n k) s) :
    s.bucketRefill n = t.updPort n (fun p => { p with
      overhead := s.rw Obj.tnsOverhead n
      shapers := Tbl.mapRows none (fun _ o => o.map (fun x => { x with
        tokens := min (x.tokens + refill256 x.rate) (depth256 x.rate x.burst) })) p.shapers }) := by
  subst ht
  exact if_neg (ne_false_of_eq_true hmode)

theorem State.switchBack_of_low {s : State} {n a : Nat} (hlow : (s.port n).lowSince = some a) (hmode : (s.port n).bucket = true)
    (hlong : a + 10000000 ≤ s.clk.ns) : s.switchBack n = s.setBucket n false := by
  simp only [State.switchBack, hlow, hmode, hlong, decide_true, Bool.and_true, if_true]

/-! ### Policers (R345) -/

/-- The value a policer write carries is one byte. -/
theorem exec_policerModeWrite_byte {v : Nat} (hv : v < 256) (h : Hdr) (row : Nat) (aware : Bool) (s : State) :
    exec (.policerModeWrite h row aware v) s = s.act (fun t => t.writeReq h (if aware then Obj.polAware else Obj.polMode) row [v]
      (fun u _ w => u.polSet (if aware then Obj.polAware else Obj.polMode) row w)) := by
  rw [exec_policerModeWrite, Nat.mod_eq_of_lt hv]

end Sys2Proof.Machine

open Sys2Proof Sys2Proof.Machine

/-- Settles O28: a frame by what it is tallied for, then the calendar, the buckets and the policers each through its lemma. -/
theorem tensionCommands : Obligations.TensionCommands := by
  unfold Obligations.TensionCommands
  refine ⟨fun s t u v n sub cur slot idx q f deficit hup hpick ht hu hv => ?frame, fun s n hmode hslot => ?slot,
    fun s t n hmode ht => ?refill, fun s n a hlow hmode hlong => ?switchBack, fun h row v hv => ⟨?mode, ?aware⟩⟩
  case frame =>
    subst hv hu ht
    exact ⟨fun hheld hqp hbody hwr => exec_frameTransmit_ends hup hpick hbody (State.frameTallied_of_port hheld hqp hwr),
      fun hheld hqp hbody hwr => exec_frameTransmit_ends hup hpick hbody (State.frameTallied_of_held hheld hqp hwr),
      fun hheld hqp hbody hwr => exec_frameTransmit_ends hup hpick hbody (State.frameTallied_of_chain hheld hqp hwr)⟩
  case slot => exact exec_ends (exec_calendarSlot n s) (State.calendarSlot_within_revolution hmode hslot)
  case refill => exact exec_ends (exec_bucketRefill n s) (State.bucketRefill_of_bucket hmode ht)
  case switchBack => exact exec_ends (exec_tensionModeSwitchBack n s) (State.switchBack_of_low hlow hmode hlong)
  case mode => exact WriteRuns.of _ (exec_policerModeWrite_byte hv h row false) fun _ _ _ => rfl
  case aware => exact WriteRuns.of _ (exec_policerModeWrite_byte hv h row true) fun _ _ _ => rfl
end

section
/-!
PROOFS. Members (R359 to R361, R511, Tables 10-3 and 10-4): commands that time out, controller resets, health readings and the end of an
absence. What an Abort and a reset leave of the commands and Aborts of their bay is the model's choice (log entry 25).
-/

namespace Sys2Proof.Machine

/-! ### Command timeouts (R359) -/

/-- A timeout of `c` is entered after the `recent` ones of its member, counted and reported, and the Abort is sent. -/
def State.timeoutNoted (s : State) (c : MCmd) (recent : List Nat) : State :=
  (((s.putMem c.bay { s.mem c.bay with timeouts := recent ++ [s.clk.ns] }).addCnt 32 Obj.memTimeouts c.bay 1).note 0xB09 3 c.bay 0 0).emit
    (.memAbort c.bay c.tag)

/-- What an aborted command leaves to be done: a read is served without its member, a write is issued once more. -/
def State.abortedServed (t : State) (c : MCmd) : State :=
  match c.kind with
  | .read => t.cmdAbandoned c
  | _ => if c.reissued then t.writeFailed { c with reissued := true }
         else (t.updCmd c.tag (fun x => { x with reissued := true })).sendCmd { c with reissued := true }

theorem State.abortedServed_of_read {c : MCmd} (hread : c.kind = .read) (t : State) : t.abortedServed c = t.cmdAbandoned c := by
  simp only [State.abortedServed, hread]

theorem State.abortedServed_of_write {c : MCmd} (hwrite : c.kind = .write) (hfirst : c.reissued = false) (t : State) :
    t.abortedServed c = (t.updCmd c.tag (fun x => { x with reissued := true })).sendCmd { c with reissued := true } := by
  simp only [State.abortedServed, hwrite, hfirst, Bool.false_eq_true, if_false]

section
variable {s v : State} {c : MCmd} {recent : List Nat} (hfind : s.findCmd c.tag = some c)
  (hrecent : (s.mem c.bay).timeouts.filter (fun t => s.clk.ns < t + 60000000000) = recent)
  (hserved : (s.timeoutNoted c recent).abortedServed c = v)
include hfind hrecent hserved

theorem State.cmdTimeout_of_found : s.cmdTimeout c.tag =
    if recent = [] then { v with drv := { v.drv with aborts := v.drv.aborts ++ [(c.tag, c.bay)] } } else v.ctrlReset c.bay := by
  subst hserved hrecent
  simp only [State.cmdTimeout, hfind]
  rfl

/-- With no other timeout of its member in the last 60 s the Abort's answer is awaited. -/
theorem exec_commandTimeout_of_first (hnone : recent = []) : exec (.commandTimeout c.tag) s = .next (Ends s
    { v with drv := { v.drv with aborts := v.drv.aborts ++ [(c.tag, c.bay)] } }) :=
  exec_ends (exec_commandTimeout c.tag s) ((State.cmdTimeout_of_found hfind hrecent hserved).trans (if_pos hnone))

/-- A further timeout within 60 s resets the controller. -/
theorem exec_commandTimeout_of_further (hsome : recent ≠ []) :
    exec (.commandTimeout c.tag) s = .next (Ends s (v.ctrlReset c.bay)) :=
  exec_ends (exec_commandTimeout c.tag s) ((State.cmdTimeout_of_found hfind hrecent hserved).trans (if_neg hsome))

end

/-! ### Controller resets (R359) -/

theorem State.abortTimeout_of_pending {s : State} {tag b : Nat} (hpending : s.drv.aborts.find? (fun a => a.1 = tag) = some (tag, b)) :
    s.abortTimeout tag = (s.dropAbort tag).ctrlReset b := by
  simp only [State.abortTimeout, hpending]

section
variable {s t : State} {b : Nat} {rs : List Nat}
  (hrs : rs = (s.mem b).resets.filter (fun t => s.clk.ns < t + 3600000000000) ++ [s.clk.ns])
  (ht : t = (s.putMem b { s.mem b with resets := rs, resetting := true }).addCnt 32 Obj.memResets b 1)
include hrs ht

/-- Within the limit of an hour the controller is reset: all but the reads of the bay are held, its Aborts end. -/
theorem State.ctrlReset_within_limit (hlimit : rs.length ≤ s.rw Obj.arrResetLimit 0) :
    s.ctrlReset b = { t.emit (.memReset b) with
      drv := { t.drv with cmds := updWhere (fun c => c.bay = b && c.kind ≠ .read) (fun c => { c with held := true }) t.drv.cmds
                          aborts := t.drv.aborts.filter (fun a => a.2 ≠ b) } } := by
  subst ht hrs
  exact if_neg (Nat.not_lt.mpr hlimit)

theorem State.ctrlReset_past_limit (hlimit : s.rw Obj.arrResetLimit 0 < rs.length) :
    s.ctrlReset b = (t.putMem b { t.mem b with resetting := false }).memFail b 5 := by
  subst ht hrs
  exact if_pos hlimit

end

theorem State.resetDone_of_resetting {s : State} {b : Nat} (hreset : (s.mem b).resetting = true) (ok : Bool) :
    s.resetDone b ok = if ok then (s.putMem b { s.mem b with resetting := false }).reissue b
      else (s.putMem b { s.mem b with resetting := false }).memFail b 5 := if_neg (ne_false_of_eq_true hreset)

/-! ### Health readings and absence (R360, R361) -/

/-- The state with a reading of bay `b`, kept among those of its last 24 h. -/
def State.healthRead (s : State) (b warn pct media : Nat) : State :=
  s.putMem b { s.mem b with
    warn := warn, pctUsed := min 255 pct, mediaErrors := media
    media := (s.mem b).media.filter (fun e => s.clk.ns < e.1 + 86400000000000) ++ [(s.clk.ns, media)] }

section
variable {s : State} {b warn pct media : Nat}

theorem State.health_critical (hcritical : bit warn 3 = true) :
    s.health b warn pct media = (s.healthRead b warn pct media).memFail b 7 := if_pos hcritical

/-- Short of critical warning bit 3 the failing criteria of Table 10-4 decide. -/
theorem State.health_of_not_critical (hsound : bit warn 3 = false) :
    s.health b warn pct media =
      let t := s.healthRead b warn pct media
      if t.failingNow b ≠ 0 then t.memFailing b (t.failingNow b) else t := if_neg (ne_true_of_eq_false hsound)

theorem State.health_failing (hsound : bit warn 3 = false) (hfailing : (s.healthRead b warn pct media).failingNow b ≠ 0) :
    s.health b warn pct media =
      (s.healthRead b warn pct media).memFailing b ((s.healthRead b warn pct media).failingNow b) :=
  (State.health_of_not_critical hsound).trans (if_pos hfailing)

theorem State.health_good (hsound : bit warn 3 = false) (hgood : (s.healthRead b warn pct media).failingNow b = 0) :
    s.health b warn pct media = s.healthRead b warn pct media :=
  (State.health_of_not_critical hsound).trans (if_neg (not_not_intro hgood))

end

/-- A poll and a SMART event judge the reading alike. -/
theorem exec_health_ends {s u : State} {b warn pct media : Nat} (hu : s.health b warn pct media = u) :
    exec (.healthPoll b warn pct media) s = .next (Ends s u) ∧ exec (.memberAsyncEvent b warn pct media) s = .next (Ends s u) :=
  ⟨exec_ends (exec_healthPoll b warn pct media s) hu, exec_ends (exec_memberAsyncEvent b warn pct media s) hu⟩

theorem State.graceExpired_of_absent {s : State} {b : Nat} (habsent : (s.mem b).st = .absent) (hbound : (s.mem b).pos ≠ 0xFF)
    (hgrace : (s.mem b).grace = true) :
    s.graceExpired b = (((s.putMem b { s.mem b with grace := false, reason := 8 }).unbind b).unboundPos (s.mem b).pos b
      false).autoReplace (s.mem b).pos := if_pos ⟨habsent, hbound, hgrace⟩

end Sys2Proof.Machine

open Sys2Proof Sys2Proof.Machine

/-- Settles O30: a timeout by the kind of its command and the timeouts before it, then each reset, reading and absence through the lemma
of its case. -/
theorem memberCommands : Obligations.MemberCommands := by
  unfold Obligations.MemberCommands
  refine ⟨fun s t c hfind hnone ht => ⟨fun hread => ?readTimeout, fun v hwrite hfirst hv => ?writeTimeout⟩,
    fun s t c a l hfind hread hrecent ht => ?secondTimeout, fun s tag b hpending => ?abortTimeout,
    fun s t b rs hrs ht => ⟨fun hlimit => ?reset, fun hlimit => ?resetsPassed⟩, fun s b hreset => ⟨?resetOk, ?resetFailed⟩,
    fun s t b warn pct media ht => ⟨fun hcritical => ?critical, fun hsound hfailing => ?failing, fun hsound hgood => ?good⟩,
    fun s b temp => exec_ends (exec_memberTempPoll b temp s) rfl, fun s b habsent hbound hgrace => ?graceOver⟩
  case readTimeout =>
    subst ht
    exact exec_commandTimeout_of_first hfind hnone (State.abortedServed_of_read hread _) rfl
  case writeTimeout =>
    subst hv ht
    exact exec_commandTimeout_of_first hfind hnone (State.abortedServed_of_write hwrite hfirst _) rfl
  case secondTimeout =>
    subst ht
    exact exec_commandTimeout_of_further hfind hrecent (State.abortedServed_of_read hread _) (List.cons_ne_nil a l)
  case abortTimeout => exact exec_ends (exec_abortTimeout tag s) (State.abortTimeout_of_pending hpending)
  case reset => exact exec_ends (exec_controllerFatalStatus b s) (State.ctrlReset_within_limit hrs ht hlimit)
  case resetsPassed => exact exec_ends (exec_controllerFatalStatus b s) (State.ctrlReset_past_limit hrs ht hlimit)
  case resetOk => exact exec_ends (exec_controllerResetDone b true s) (State.resetDone_of_resetting hreset true)
  case resetFailed => exact exec_ends (exec_controllerResetDone b false s) (State.resetDone_of_resetting hreset false)
  case critical =>
    subst ht
    exact exec_health_ends (State.health_critical hcritical)
  case failing =>
    subst ht
    exact exec_health_ends (State.health_failing hsound hfailing)
  case good =>
    subst ht
    exact exec_health_ends (State.health_good hsound hgood)
  case graceOver => exact exec_ends (exec_absentGraceExpiry b s) (State.graceExpired_of_absent habsent hbound hgrace)
end

section
/-!
PROOFS. Grants (R372, R373): the power counted against `bpw.budget` before and after the waiting bays are granted. That a LIMITING rail counts
as ON is the model's choice (log entry 34).
-/

namespace Sys2Proof.Machine

/-! ### A sum over the rows of a table -/

/-- The sum of `f` over the listed rows. -/
def Tbl.total {α : Type} (f : Nat → α → Nat) (t : Tbl α) : Nat := (t.map (fun e => f e.1 e.2)).sum

section
variable {α : Type} (f : Nat → α → Nat)

@[simp] theorem Tbl.total_nil : Tbl.total f [] = 0 := rfl

@[simp] theorem Tbl.total_cons (k : Nat) (v : α) (t : Tbl α) : Tbl.total f ((k, v) :: t) = f k v + Tbl.total f t := List.sum_cons

variable {d : α} (hd : ∀ i, f i d = 0)
include hd

theorem Tbl.total_drop (t : Tbl α) (i : Nat) : Tbl.total f (Tbl.drop t i) + f i (Tbl.get d t i) = Tbl.total f t := by
  induction t with
  | nil => simp [Tbl.drop, hd]
  | cons e t ih =>
    obtain ⟨k, v⟩ := e
    simp only [Tbl.drop, Tbl.get]
    split
    case isTrue hk =>
      subst hk
      simp [Nat.add_comm]
    case isFalse => simp only [Tbl.total_cons, ← ih, Nat.add_assoc]

variable [DecidableEq α]

theorem Tbl.total_put {t : Tbl α} {lo : Nat} (hwf : Tbl.wfFrom d lo t = true) (i : Nat) (x : α) :
    Tbl.total f (Tbl.put t i x) + f i (Tbl.get d t i) = Tbl.total f t + f i x := by
  induction t generalizing lo with
  | nil => simp [Tbl.put, hd]
  | cons e t ih =>
    obtain ⟨k, v⟩ := e
    have htail : Tbl.wfFrom d (k + 1) t = true := by
      simp only [Tbl.wfFrom, Bool.and_eq_true] at hwf
      exact hwf.2
    rcases Nat.lt_trichotomy i k with hlt | rfl | hgt
    · have hunlisted : Tbl.get d ((k, v) :: t) i = d := by
        rw [Tbl.get, if_neg hlt.ne]
        exact Tbl.get_below d t htail (by omega)
      rw [hunlisted, hd, Tbl.put, if_pos hlt, Tbl.total_cons]
      omega
    · simp only [Tbl.put, Tbl.get, lt_irrefl, if_false, if_true, Tbl.total_cons]
      omega
    · have hrest := ih htail
      simp only [Tbl.put, Tbl.get, if_neg hgt.not_gt, if_neg hgt.ne', Tbl.total_cons]
      omega

/-- Writing a row puts its share in the place of the old one. -/
theorem Tbl.total_upd {t : Tbl α} (hwf : Tbl.wf d t = true) (i : Nat) (g : α → α) :
    Tbl.total f (Tbl.upd d t i g) + f i (Tbl.get d t i) = Tbl.total f t + f i (g (Tbl.get d t i)) := by
  unfold Tbl.upd Tbl.set
  split
  case isTrue hx => rw [hx, hd, Tbl.total_drop f hd, Nat.add_zero]
  case isFalse => exact Tbl.total_put f hd hwf i _

end

/-! ### A ramp -/

/-- A bay channel whose ramp starts: both rails RAMPING, the 3.3 V ramp's timeout running (R374). -/
def State.rampedBay (s : State) (n : Nat) (x : Bay) : Bay :=
  let y := x.both (fun r => { (s.ftNow (r.to .ramping)) with or_ := 1 })
  { y with r33 := { y.r33 with ramp := some (s.clk.sk + rampTime 3300 (s.rw Obj.baySlew33 n)) }, granted := none, goodAt := none, offing := 0 }

theorem State.rampStart_eq (s : State) (n : Nat) : s.rampStart n = s.updBay n (s.rampedBay n) := rfl

theorem State.rampStart_wf {s : State} (hwf : Tbl.wf {} s.bayCh = true) (n : Nat) : Tbl.wf {} (s.rampStart n).bayCh = true := by
  rw [State.rampStart_eq, State.updBay_bayCh]
  exact Tbl.wf_upd _ _ _ _ hwf

theorem State.rampStart_bay_of_ne (s : State) {n m : Nat} (hne : m ≠ n) : (s.rampStart n).bay m = s.bay m := by
  rw [State.rampStart_eq, State.bay, State.updBay_bayCh, Tbl.get_upd_of_ne _ _ _ hne, State.bay]

theorem State.allocated_eq_total (s : State) : s.allocated = Tbl.total s.bayCounts s.bayCh := List.sum_eq_foldl.symm

theorem State.bayCounts_of_seating {s : State} {n : Nat} {x : Bay} (hseat : x.r12.st = .seating) : s.bayCounts n x = 0 := by
  simp only [State.bayCounts, hseat]

theorem State.bayCounts_rampedBay (s : State) (n : Nat) (x : Bay) :
    s.bayCounts n (s.rampedBay n x) = s.rw Obj.bayAllocW n * 1000 := rfl

/-- A ramp out of SEATING adds the bay's allocation to what is counted. -/
theorem State.rampStart_allocated {s : State} {n : Nat} (hwf : Tbl.wf {} s.bayCh = true) (hseat : (s.bay n).r12.st = .seating) :
    (s.rampStart n).allocated = s.allocated + s.rw Obj.bayAllocW n * 1000 := by
  have hsum : Tbl.total s.bayCounts (s.rampStart n).bayCh + s.bayCounts n (s.bay n)
      = Tbl.total s.bayCounts s.bayCh + s.bayCounts n (s.rampedBay n (s.bay n)) :=
    Tbl.total_upd s.bayCounts (fun _ => rfl) hwf n (s.rampedBay n)
  rw [State.bayCounts_of_seating hseat, State.bayCounts_rampedBay, Nat.add_zero] at hsum
  rw [State.allocated_eq_total, State.allocated_eq_total, ← hsum]
  rfl

/-! ### Grants (R372) -/

theorem State.seating_of_waitsGrant {s : State} {n : Nat} (hwaits : s.waitsGrant n = true) : (s.bay n).r12.st = .seating := by
  simp only [State.waitsGrant, Bool.and_eq_true, decide_eq_true_eq] at hwaits
  obtain ⟨⟨⟨hseat, -⟩, -⟩, -⟩ := hwaits
  exact hseat

theorem State.rw_congr {s t : State} (hdict : t.dict = s.dict) : t.rw = s.rw := by
  funext code row
  rw [State.rw, State.rw, hdict]

/-- Whether a bay waits rests on the dictionary and its own channel. -/
theorem State.waitsGrant_congr {s t : State} {n : Nat} (hdict : t.dict = s.dict) (hbay : t.bay n = s.bay n) :
    t.waitsGrant n = s.waitsGrant n := by
  rw [State.waitsGrant, State.waitsGrant, hbay, State.rw_congr hdict]

theorem State.budget_congr {s t : State} (hdict : t.dict = s.dict) : t.budget = s.budget := by
  rw [State.budget, State.budget, State.rw_congr hdict]

/-- A bay is granted only where it waits and its allocation fits the budget; all else that a grant does is to tell the partner. -/
theorem State.grantOne_cases (s : State) (n : Nat) :
    s.grantOne n = s ∨ (s.waitsGrant n = true ∧ s.allocated + s.rw Obj.bayAllocW n * 1000 ≤ s.budget
      ∧ (s.grantOne n = s.rampStart n ∨ s.grantOne n = (s.rampStart n).later (.twin (.keeper (.rampGrant n))))) := by
  unfold State.grantOne
  split
  case isTrue hgrant =>
    simp only [Bool.and_eq_true, decide_eq_true_eq] at hgrant
    obtain ⟨⟨hwaits, -⟩, hfits⟩ := hgrant
    refine .inr ⟨hwaits, hfits, ?_⟩
    split
    · exact .inr rfl
    · exact .inl rfl
  case isFalse => exact .inl rfl

/-- What holds of every state on the way from `s` as grants are given: settings as they were, the power counted within the budget or no
more than in `s`, a bay that did not wait as it was. -/
structure State.GrantedFrom (s t : State) : Prop where
  dict : t.dict = s.dict
  wf : Tbl.wf {} t.bayCh = true
  within : t.allocated ≤ max s.allocated s.budget
  others : ∀ n, s.waitsGrant n = false → t.bay n = s.bay n

theorem State.GrantedFrom.refl {s : State} (hwf : Tbl.wf {} s.bayCh = true) : s.GrantedFrom s :=
  ⟨rfl, hwf, le_max_left _ _, fun _ _ => rfl⟩

section
variable {s t : State} (h : s.GrantedFrom t)
include h

theorem State.GrantedFrom.later (x : Todo) : s.GrantedFrom (t.later x) := ⟨h.dict, h.wf, h.within, h.others⟩

theorem State.GrantedFrom.rampStart {n : Nat} (hwaits : t.waitsGrant n = true)
    (hfits : t.allocated + t.rw Obj.bayAllocW n * 1000 ≤ t.budget) : s.GrantedFrom (t.rampStart n) where
  dict := h.dict
  wf := State.rampStart_wf h.wf n
  within := by
    rw [State.rampStart_allocated h.wf (State.seating_of_waitsGrant hwaits)]
    exact (hfits.trans_eq (State.budget_congr h.dict)).trans (le_max_right _ _)
  others m hm := by
    have hsame : t.bay m = s.bay m := h.others m hm
    have hne : m ≠ n := by
      rintro rfl
      rw [State.waitsGrant_congr h.dict hsame, hm] at hwaits
      cases hwaits
    exact (t.rampStart_bay_of_ne hne).trans hsame

theorem State.GrantedFrom.grantOne (n : Nat) : s.GrantedFrom (t.grantOne n) := by
  rcases t.grantOne_cases n with hnone | ⟨hwaits, hfits, hgrant | hgrant⟩
  · rwa [hnone]
  · rw [hgrant]
    exact h.rampStart hwaits hfits
  · rw [hgrant]
    exact (h.rampStart hwaits hfits).later _

end

theorem State.grantedFrom_grants {s : State} (hwf : Tbl.wf {} s.bayCh = true) : s.GrantedFrom s.grants := by
  have hself := State.GrantedFrom.refl hwf
  unfold State.grants
  split
  case isTrue => exact hself
  case isFalse =>
    split
    case isTrue =>
      have hreported : s.GrantedFrom (if s.budget < s.allocated then s.later (.detect 0xA0A 0 0 0) else s) := by
        split
        · exact hself.later _
        · exact hself
      exact List.foldlRecOn _ _ hreported fun _ h n _ => h.grantOne n
    case isFalse => exact List.foldlRecOn _ _ hself fun _ h n _ => h.later _

end Sys2Proof.Machine

open Sys2Proof Sys2Proof.Machine

/-- Settles O58: every grant on the way keeps `GrantedFrom`, which says the three things of the end. -/
theorem grantsKeepTheBudget : Obligations.GrantsKeepTheBudget := by
  intro s hwf
  have hgranted := State.grantedFrom_grants hwf
  exact ⟨hgranted.within, State.budget_congr hgranted.dict, hgranted.others⟩
end

section
/-!
PROOFS. Member actions (Tables 10-3 and 10-6), presence of a bay (R371) and the ramp of the partner's path (R373). That time counts on the
Skamo clock from VAUX on, and that an insertion into a LOCKED_OUT bay is reported before its debounce, is the model's choice (log entry 34), as
is that the pins alone move without VAUX (log entry 7).
-/

namespace Sys2Proof.Machine

/-! ### Assigning, retiring and clearing a member -/

/-- An argument of `mem.assign` below 64 is a position, without the force bit (Table 10-6). -/
theorem State.actAssign_of_position {u : State} {a : Nat} (b : Nat) (ha : a < 64) (hpos : a < u.bays) :
    u.actAssign b a = (u.assign b a, 0) := by
  have hmod : a % 64 = a := Nat.mod_eq_of_lt ha
  have hdiv : a / 64 = 0 := Nat.div_eq_of_lt ha
  exact if_pos ⟨hmod.symm ▸ hpos, .inl hdiv⟩

theorem bit_8_of_position {a : Nat} (ha : a < 64) : bit a 8 = false := Nat.testBit_lt_two_pow (by omega)

/-- A SPARE bay takes a FAILED position. -/
theorem State.assign_takes_failed_position {u : State} {b a : Nat} (ha : a < 64) (hspare : u.spareDetail b false = 0)
    (hfailed : u.posState a = .failed) : u.assign b a = (u.replace b a).actDone Obj.memAssign b := by
  simp [State.assign, Nat.mod_eq_of_lt ha, bit_8_of_position ha, hspare, hfailed]

/-- Detail 1 of `mem.assign`: the bay is not SPARE. -/
theorem State.assign_refused {u : State} {b : Nat} (a : Nat) (hst : (u.mem b).st ≠ .spare) :
    u.assign b a = u.actFail Obj.memAssign b 1 := by
  simp [State.assign, State.spareDetail, hst]

theorem State.retire_of_member {u : State} {b : Nat} (hst : (u.mem b).st = .inService) (hpos : (u.mem b).pos ≠ 0xFF) :
    u.retire b = (u.memFailing b 10).actDone Obj.memRetire b := by
  simp only [State.retire, hst, if_neg hpos]

theorem State.retire_of_spare {u : State} {b : Nat} (hst : (u.mem b).st = .spare) (hpos : (u.mem b).pos = 0xFF) :
    u.retire b = ((u.memTo b .retired 10).later (.memDown b)).actDone Obj.memRetire b := by
  simp only [State.retire, hst, if_pos hpos]

theorem State.clearFailing_of_sound {u : State} {b : Nat} (hst : (u.mem b).st = .failing) (hsound : u.failingNow b = 0) :
    u.clearFailing b = (((u.memTo b .inService 0).stopCopy (u.mem b).pos).laneFreed).actDone Obj.memClearFailing b :=
  (if_neg (not_not_intro hst)).trans (if_neg (not_not_intro hsound))

theorem State.clearFailing_refused {u : State} {b : Nat} (hst : (u.mem b).st ≠ .failing) :
    u.clearFailing b = u.actFail Obj.memClearFailing b 2 := if_pos hst

/-! ### Presence and the partner's path -/

section
variable {s : State} {n : Nat}

theorem State.presenceIn_without_vaux (a b : Bool) (hvaux : s.boot.vaux = false) (hbay : n < s.bays) :
    s.presenceIn n a b = s.updBay n (fun x => { x with a := a, b := b }) := by
  simp only [State.presenceIn, hvaux, Bool.false_eq_true, if_false, if_pos hbay]

/-- A drive comes: with both pins low its debounce starts, and a LOCKED_OUT bay says so (R371, R379). -/
theorem State.presenceIn_of_insertion (hvaux : s.boot.vaux = true) (hbay : n < s.bays) (hown : s.bonded n = false)
    (hempty : (s.bay n).a = false) : s.presenceIn n true true =
      let u := (s.updBay n (fun x => { x with a := true, b := true })).updBay n
        (fun x => { x with deb := false, debAt := some (s.clk.sk + s.rw Obj.bayDebounce n * 1000000) })
      if (s.bay n).r12.st = .lockedOut then u.bayEvent n 6 false 0 (s.bay n).r12.src else u.seat n := by
  have hserved : ¬ (s.bays ≤ n ∨ s.bonded n = true) := by simp [hbay, hown]
  simp only [State.presenceIn, hvaux, if_true, State.presence, if_neg hserved, hempty]
  rfl

theorem State.debounced_of_present {t : Nat} (hdeb : (s.bay n).debAt = some t) (ha : (s.bay n).a = true) (hb : (s.bay n).b = true)
    (hover : t ≤ s.clk.sk) : s.debounced n = (s.updBay n (fun x => { x with deb := true, debAt := none })).grants := by
  simp only [State.debounced, hdeb, ha, hb, hover, decide_true, Bool.and_self, if_true]

theorem State.partnerRamp_of_granted (hgranted : (s.bay n).granted.isSome) (hseat : (s.bay n).r12.st = .seating)
    (hdeb : (s.bay n).deb = true) (hmay : s.mayGrant = true) : s.partnerRamp n = s.rampStart n :=
  if_pos ⟨hgranted, hseat, hdeb, hmay⟩

theorem State.partnerRampTimeout_of_overdue {t : Nat} (hgranted : (s.bay n).granted = some t) (hover : t + 500000000 ≤ s.clk.sk) :
    s.partnerRampTimeout n = s.partnerRamp n := by
  simp only [State.partnerRampTimeout, hgranted, if_pos hover]

end

end Sys2Proof.Machine

open Sys2Proof Sys2Proof.Machine

/-- Settles O31: each action on a member through the lemma of its case, then the pins, the debounce and the partner's ramp. -/
theorem memberActionAndPresenceCommands : Obligations.MemberActionAndPresenceCommands := by
  unfold Obligations.MemberActionAndPresenceCommands
  refine ⟨fun h b a ha => ?assign, fun h b a ha => ?assignRefused, fun h b => ?retireMember, fun h b => ?retireSpare,
    fun h b => ⟨?clear, ?clearRefused⟩, fun s t n hvaux hbay hown ht hempty => ?insertion, fun s n a b hvaux hbay => ?pins,
    fun s n t hdeb ha hb hover => ?debounce, fun s n t hgranted hover hseat hdeb hmay => ?partner⟩
  case assign =>
    exact ActionRuns.of _ (exec_memAssign h b a) fun u ⟨hpos, hspare, hfailed⟩ => by
      rw [State.actAssign_of_position b ha hpos, State.assign_takes_failed_position ha hspare hfailed]
  case assignRefused =>
    exact ActionRuns.of _ (exec_memAssign h b a) fun u ⟨hpos, hst⟩ => by
      rw [State.actAssign_of_position b ha hpos, State.assign_refused a hst]
  case retireMember => exact ActionRuns.of_actionReq _ (exec_memRetire h b) fun _ ⟨hst, hpos⟩ => State.retire_of_member hst hpos
  case retireSpare => exact ActionRuns.of_actionReq _ (exec_memRetire h b) fun _ ⟨hst, hpos⟩ => State.retire_of_spare hst hpos
  case clear =>
    exact ActionRuns.of_actionReq _ (exec_memClearFailing h b) fun _ ⟨hst, hsound⟩ => State.clearFailing_of_sound hst hsound
  case clearRefused => exact ActionRuns.of_actionReq _ (exec_memClearFailing h b) fun _ hst => State.clearFailing_refused hst
  case insertion =>
    subst ht
    exact exec_ends (exec_presenceChange n true true s) (State.presenceIn_of_insertion hvaux hbay hown hempty)
  case pins => exact exec_ends (exec_presenceChange n a b s) (State.presenceIn_without_vaux a b hvaux hbay)
  case debounce => exact exec_ends (exec_debounceComplete n s) (State.debounced_of_present hdeb ha hb hover)
  case partner =>
    exact exec_ends (exec_partnerRampTimeout n s) ((State.partnerRampTimeout_of_overdue hgranted hover).trans
      (State.partnerRamp_of_granted (hgranted ▸ rfl) hseat hdeb hmay))
end

section
/-!
PROOFS. Rails of a bay (R374 to R383): ramps, limiting, trips, retries and ORing. How the fault timer counts, what a fault leaves in
`bay.last_fault`, and that the retries allowed are those in force at the trip, are the model's choices (log entry 34).
-/

namespace Sys2Proof.Machine

section
variable {s : State} {n : Nat}

/-! ### Ramps (R374) -/

/-- The 3.3 V rail is ON, and the 12 V ramp starts: 2 × V_nom ÷ slew + 10 ms to its timeout. -/
def State.on33 (s : State) (n : Nat) : State :=
  s.updBay n (fun x => { x with r33 := { (s.bay n).r33 with st := .on, wasOn := true }, r12 := { x.r12 with
    ramp := some (s.clk.sk + (2 * 12000 * 1000000 / s.rw Obj.baySlew12 n + 10000000)) } })

/-- The 12 V rail is ON. -/
def State.on12 (s : State) (n : Nat) : State :=
  s.updBay n (fun x => { x with r12 := { (s.bay n).r12 with st := .on, wasOn := true } })

/-- Both rails are ON: the good time runs, and the drive's clock where the link is so clocked; a link in containment stays there. -/
def State.bothRailsOn (s : State) (n : Nat) : State :=
  (s.updBay n (fun x => { x with goodAt := some (s.clk.sk + s.rw Obj.bayGoodTime n * 1000000000) })).putLink n { s.link n with
    refclk := s.rw Obj.dlinkClocking n = 0, st := if (s.link n).st = 3 then 3 else 0 }

theorem State.railOn_starts_r12 (hst : (s.bay n).r33.st = .ramping) (hramp : (s.bay n).r33.ramp ≠ none)
    (hwait : ((s.on33 n).bay n).r12.st ≠ .on) : s.railOn n true = s.on33 n := by
  have hgoes : ¬ ((s.bay n).r33.st ≠ .ramping ∨ (s.bay n).r33.ramp = none) := by simp [hst, hramp]
  exact (if_neg hgoes).trans (if_neg fun hboth => hwait hboth.1)

theorem State.railOn_completes (hst : (s.bay n).r12.st = .ramping) (hramp : (s.bay n).r12.ramp ≠ none) (hsolo : s.skn.present = false)
    (hon12 : ((s.on12 n).bay n).r12.st = .on) (hon33 : ((s.on12 n).bay n).r33.st = .on) :
    s.railOn n false = (s.on12 n).bothRailsOn n := by
  have hgoes : ¬ ((s.bay n).r12.st ≠ .ramping ∨ (s.bay n).r12.ramp = none) := by simp [hst, hramp]
  have hboth : ((s.on12 n).bay n).r12.st = .on ∧ ((s.on12 n).bay n).r33.st ∈ [RailSt.on, .limiting] := by simp [hon12, hon33]
  have htold : ¬ (s.skn.present = true ∧ s.keeper = true) := by simp [hsolo]
  exact (if_neg hgoes).trans ((if_pos hboth).trans (if_neg htold))

/-! ### Limiting and trips (R375 to R378) -/

variable {r : Bool}

theorem State.limitReached_of_on (hon : ((s.bay n).rail r).st = .on) (hramp : ((s.bay n).rail r).ramp ≠ none) :
    s.limitReached n r = s.updBay n (fun x => x.setRail r { (s.ftNow ((s.bay n).rail r)).calLost with st := .limiting }) :=
  if_neg (by simp [hon, hramp])

theorem State.limitExit_of_limiting (hst : ((s.bay n).rail r).st = .limiting) :
    s.limitExit n r = s.updBay n (fun x => x.setRail r { (s.bay n).rail r with
      st := if ((s.bay n).rail r).wasOn then .on else .ramping
      ftimer := ((s.bay n).rail r).ftimer + (s.clk.sk - ((s.bay n).rail r).ftAt) / 1000, ftAt := s.clk.sk }) :=
  if_neg (not_not_intro hst)

theorem State.rampTimeout_of_overdue {d : Nat} (cur src : Nat) (hst : ((s.bay n).rail r).st = .ramping)
    (hnever : ((s.bay n).rail r).wasOn = false) (hramp : ((s.bay n).rail r).ramp = some d) (hover : d ≤ s.clk.sk) :
    s.rampTimeout n r cur src = s.trip n 4 r cur src := by
  simp only [State.rampTimeout, hramp]
  exact if_pos ⟨.inl hst, hnever, hover⟩

theorem State.faultTimer_of_limiting (cur src : Nat) (hst : ((s.bay n).rail r).st = .limiting) :
    s.faultTimer n r cur src = s.trip n 1 r cur src := if_pos hst

theorem State.fastTrip_of_driven (cur src : Nat) (hdriven : ((s.bay n).rail r).driven = true) :
    s.fastTrip n r cur src = s.trip n 2 r cur src := if_pos hdriven

/-! ### Retry and lockout (R378, R379, R381) -/

/-- After a trip SRC of both rails has fallen below 0.8 V, to a free value. -/
def State.srcFallen (s : State) (n : Nat) : State :=
  s.used.updBay n (fun x => { x with r12 := { x.r12 with src := s.fresh % 800 }, r33 := { x.r33 with src := s.fresh / 800 % 800 } })

section
variable (hst : (s.bay n).r12.st = .tripped) (hoff : (s.bay n).offing ≠ 2)
include hst hoff

/-- The discharge after a trip: with retries left the bay waits to retry, or is OFF where it is no longer enabled; else it is LOCKED_OUT. -/
theorem State.srcDown_of_tripped : s.srcDown n true =
    if (s.bay n).count ≤ (s.bay n).retries ∨ (s.bay n).retries = 255 then
      if s.rw Obj.bayEnable n = 1 then (s.srcFallen n).updBay n (fun x => { x.both (fun r => r.to .retryWait) with
        retryAt := s.clk.sk + s.rw Obj.bayRetryTime n * 1000000 })
      else (s.srcFallen n).updBay n (fun x => x.both (fun r => r.to .off))
    else ((s.srcFallen n).updBay n (fun x => x.both (fun r => r.to .lockedOut))).bayEvent n 5 (bit (s.bay n).last 8) 0
      (((s.srcFallen n).bay n).rail (bit (s.bay n).last 8)).src :=
  (if_neg hoff).trans (if_neg (by simp [hst]))

theorem State.srcDown_retries (hleft : (s.bay n).count ≤ (s.bay n).retries ∨ (s.bay n).retries = 255)
    (hen : s.rw Obj.bayEnable n = 1) : s.srcDown n true = (s.srcFallen n).updBay n (fun x => { x.both (fun r => r.to .retryWait) with
      retryAt := s.clk.sk + s.rw Obj.bayRetryTime n * 1000000 }) :=
  (State.srcDown_of_tripped hst hoff).trans ((if_pos hleft).trans (if_pos hen))

theorem State.srcDown_locks_out (hspent : (s.bay n).retries < (s.bay n).count) (hbounded : (s.bay n).retries ≠ 255) :
    s.srcDown n true = ((s.srcFallen n).updBay n (fun x => x.both (fun r => r.to .lockedOut))).bayEvent n 5 (bit (s.bay n).last 8) 0
      (((s.srcFallen n).bay n).rail (bit (s.bay n).last 8)).src :=
  (State.srcDown_of_tripped hst hoff).trans (if_neg (by omega))

end

section
variable (hst : (s.bay n).r12.st = .retryWait) (hover : (s.bay n).retryAt ≤ s.clk.sk)
include hst hover

/-- A retry timer that has run out: the bay ramps, waits for its debounce or goes OFF (R381). -/
theorem State.retryExpired_of_overdue : s.retryExpired n =
    if (s.bay n).deb ∧ s.rw Obj.bayEnable n = 1 then s.rampStart n
    else if (s.bay n).debAt.isSome then s.updBay n (fun x => x.both (fun r => r.to .seating))
    else s.updBay n (fun x => x.both (fun r => r.to .off)) :=
  if_neg (by simp [hst, hover])

theorem State.retryExpired_ramps (hdeb : (s.bay n).deb = true) (hen : s.rw Obj.bayEnable n = 1) : s.retryExpired n = s.rampStart n :=
  (State.retryExpired_of_overdue hst hover).trans (if_pos ⟨hdeb, hen⟩)

theorem State.retryExpired_seats (hdeb : (s.bay n).deb = false) (hruns : (s.bay n).debAt.isSome = true) :
    s.retryExpired n = s.updBay n (fun x => x.both (fun r => r.to .seating)) :=
  (State.retryExpired_of_overdue hst hover).trans ((if_neg (by simp [hdeb])).trans (if_pos hruns))

end

theorem State.goodTime_of_over {t : Nat} (hgood : (s.bay n).goodAt = some t) (hover : t ≤ s.clk.sk) :
    s.goodTime n = s.updBay n (fun x => { x with count := 0 }) := by
  simp only [State.goodTime, hgood, if_pos hover]

/-! ### Faults of Q1 and Q2 (R382, R383) -/

theorem State.passFault_of_off (cur src : Nat) (hst : ((s.bay n).rail r).st = .off) :
    s.passFault n r cur src = (s.updBay n (fun x =>
      { (x.both (fun r => r.to .lockedOut)).setRail r { (x.both (fun r => r.to .lockedOut)).rail r with src := src } with
        last := 3 + b2n r * 256, goodAt := none, offing := 0, granted := none })).bayEvent n 3 r cur src :=
  if_pos (by simp [hst])

theorem State.orReverse_of_driven (hdriven : ((s.bay n).rail r).driven = true) :
    s.orReverse n r = s.updBay n (fun x => x.setRail r { (s.bay n).rail r with or_ := 2 }) := if_pos hdriven

theorem State.orDrop_of_driven (cur src : Nat) (hdriven : ((s.bay n).rail r).driven = true) :
    s.orDrop n r cur src = s.bayEvent n 7 r cur src := if_pos hdriven

end

end Sys2Proof.Machine

open Sys2Proof Sys2Proof.Machine

/-- Settles O32: each event of a rail past its guard, through the lemma of its case; the three causes of a trip share `trip`. -/
theorem railCommands : Obligations.RailCommands := by
  unfold Obligations.RailCommands
  refine ⟨fun s t n hst hramp ht hwait => ?on33, fun s t u n hst hramp hsolo ht hon12 hon33 hu => ?on12, fun s n r hon hramp => ?limit,
    fun s n r hst => ?limitExit, fun s t n cause cur src d r ht => ⟨fun hc hst hnever hramp hover => ?rampTimeout,
      fun hc hst => ?faultTimer, fun hc hdriven => ?fastTrip⟩,
    fun s t n hst hoff ht => ⟨fun hleft hen => ?retry, fun hspent hbounded => ?lockout⟩,
    fun s n hst hover => ⟨fun hdeb hen => ?retryRamps, fun hdeb hruns => ?retrySeats⟩, fun s n t hgood hover => ?goodTime,
    fun s n cur src r hst => ?passFault, fun s n cur src r hdriven => ⟨?orReverse, ?orDrop⟩⟩
  case on33 =>
    subst ht
    exact exec_ends (exec_railOn n true s) (State.railOn_starts_r12 hst hramp hwait)
  case on12 =>
    subst hu ht
    exact exec_ends (exec_railOn n false s) (State.railOn_completes hst hramp hsolo hon12 hon33)
  case limit => exact exec_ends (exec_currentLimitReached n r s) (State.limitReached_of_on hon hramp)
  case limitExit => exact exec_ends (exec_limitExit n r s) (State.limitExit_of_limiting hst)
  case rampTimeout =>
    subst hc ht
    exact exec_ends (exec_rampTimeout n r cur src s) (State.rampTimeout_of_overdue cur src hst hnever hramp hover)
  case faultTimer =>
    subst hc ht
    exact exec_ends (exec_faultTimerExpiry n r cur src s) (State.faultTimer_of_limiting cur src hst)
  case fastTrip =>
    subst hc ht
    exact exec_ends (exec_fastTrip n r cur src s) (State.fastTrip_of_driven cur src hdriven)
  case retry =>
    subst ht
    exact exec_ends (exec_srcDischarged n true s) (State.srcDown_retries hst hoff hleft hen)
  case lockout =>
    subst ht
    exact exec_ends (exec_srcDischarged n true s) (State.srcDown_locks_out hst hoff hspent hbounded)
  case retryRamps => exact exec_ends (exec_retryTimerExpiry n s) (State.retryExpired_ramps hst hover hdeb hen)
  case retrySeats => exact exec_ends (exec_retryTimerExpiry n s) (State.retryExpired_seats hst hover hdeb hruns)
  case goodTime => exact exec_ends (exec_goodTimeExpiry n s) (State.goodTime_of_over hgood hover)
  case passFault => exact exec_ends (exec_passElementFault n r cur src s) (State.passFault_of_off cur src hst)
  case orReverse => exact exec_ends (exec_oringReverse n r s) (State.orReverse_of_driven hdriven)
  case orDrop => exact exec_ends (exec_oringDropHigh n r cur src s) (State.orDrop_of_driven cur src hdriven)
end

section
/-!
PROOFS. Every command ends in the same way: its own effect, then the end of the step. What follows for INTA (R406), for the commands that
wait (log entries 1 and 4) and for a command that leaves nothing to be done (log entry 47); what the shared operations change.
-/

namespace Sys2Proof.Machine

/-! ### The commands as effects -/

/-- Every command is an effect on the state, ended as every command is. -/
theorem exec_eq_act (c : Instr) : ∃ f : State → State, ∀ s, exec c s = s.act f := by
  cases c <;> exact ⟨_, fun _ => rfl⟩

theorem exec_eq_next_ends (c : Instr) (s : State) : ∃ t, exec c s = .next (Ends s t) := by
  obtain ⟨f, hf⟩ := exec_eq_act c
  exact ⟨f s, hf s⟩

theorem step_of_waiting (c : Instr) (q : List Instr) (s : State) :
    step { s with pending := c :: q } = exec c { s with pending := q } := rfl

theorem step_of_idle {s : State} (h : s.pending = []) : step s = .next s.tick := by
  simp only [step, h]

/-- What a step can leave: a core cycle, or the end of the command in front. -/
theorem step_cases (s : State) : step s = .next s.tick ∨ ∃ u v, step s = .next (Ends u v) := by
  cases hp : s.pending with
  | nil => exact .inl (step_of_idle hp)
  | cons c q =>
    obtain ⟨t, ht⟩ := exec_eq_next_ends c { s with pending := q }
    have hfront : step s = exec c { s with pending := q } := by simp only [step, hp]
    exact .inr ⟨_, t, hfront.trans ht⟩

/-! ### INTA (R406) -/

theorem State.intx_of_right {s : State} (h : s.intaRight) : s.intx = s := if_pos h

theorem State.intx_intaRight (s : State) : s.intx.intaRight := by
  unfold State.intx
  split
  case isTrue h => exact h
  case isFalse => exact .inl rfl

/-- The end of a command puts INTA right, whatever it was before. -/
theorem Ends_intaRight (s t : State) : (Ends s t).intaRight := State.intx_intaRight _

theorem State.tick_intaRight {s : State} (h : s.intaRight) : s.tick.intaRight := h

theorem step_intaRight {s t : State} (h : s.intaRight) (hstep : step s = .next t) : t.intaRight := by
  rcases step_cases s with htick | ⟨u, v, hends⟩
  · cases htick.symm.trans hstep
    exact State.tick_intaRight h
  · cases hends.symm.trans hstep
    exact Ends_intaRight u v

/-! ### A quiet effect (log entry 47) -/

theorem State.pumpOne_of_none_waiting {s : State}
    (h : s.ep.reads.all (fun r => r.issued || r.dead || decide (r.fn = 0xFF)) = true) : s.pumpOne = none := by
  have hnone : s.ep.reads.filter (fun r => !r.issued && !r.dead && decide (r.fn ≠ 0xFF) && (s.fn r.fn).master) = [] := by
    rw [List.filter_eq_nil_iff]
    intro r hr
    have hdone := List.all_eq_true.mp h r hr
    grind
  exact if_pos (.inl hnone)

theorem State.pumpReads_of_none {s : State} (n : Nat) (h : s.pumpOne = none) : State.pumpReads n s = s := by
  cases n with
  | zero => rfl
  | succ n => simp only [State.pumpReads, h]

theorem State.unstall_of_none {s : State} (n : Nat) (h : s.ep.stalled = []) : State.unstall n s = s := by
  cases n with
  | zero => rfl
  | succ n => simp only [State.unstall, h]

theorem State.railsMoved_of_same {s t : State} (h : s.railStates = t.railStates) : s.railsMoved t = t := if_pos h

/-- A quiet state has nothing that goes on by itself. -/
theorem State.goesOn_of_idle {s : State} (hreads : s.pumpOne = none) (hsolo : s.sk.solo = none) (hdepart : s.boot.depart = none)
    (hwait : s.boot.wait = .none) (hvault : s.vault.restored = []) : s.goesOn = s := by
  simp only [State.goesOn, State.pumpReads_of_none 768 hreads, State.soloCheck, hsolo, State.departCheck, hdepart, State.dumpOver,
    hwait, State.vaultCheck, hvault, if_true]

theorem State.clearEnd_of_idle {s : State} (htodo : s.todo = []) (hforce : s.ev.force = none) :
    { s with todo := [], ev := { s.ev with force := none } } = s := by
  rw [← htodo, ← hforce]

theorem State.settle_of_quiet {s : State} (h : s.quiet = true) : s.settle = s := by
  simp only [State.quiet, Bool.and_eq_true, decide_eq_true_eq] at h
  obtain ⟨⟨⟨⟨⟨⟨⟨⟨htodo, hforce⟩, hreads⟩, hsolo⟩, hdepart⟩, hwait⟩, hstalled⟩, hvault⟩, hinta⟩ := h
  have hright : s.intaRight := by simpa [State.intaRight, or_assoc] using hinta
  have hgoes : s.goesOn = s := State.goesOn_of_idle (State.pumpOne_of_none_waiting hreads) hsolo hdepart hwait hvault
  simp only [State.settle, State.settleTodo_nil _ s htodo, hgoes, State.unstall_of_none _ hstalled, State.intx_of_right hright,
    State.clearEnd_of_idle htodo hforce]

/-! ### What a detection changes (R518 to R525) -/

/-- The state without what a detection may change: counts, records, the counters of the ring, and what reports the records. -/
def State.besidesEvents (s : State) : State :=
  { s with ev := {}, cnt := [], smb := {}, rendi := {}, mbx := {}, outbox := [], todo := [] }

/-- Two states that agree besides the events differ in nothing else. -/
theorem State.eq_of_besidesEvents {s t : State} (h : t.besidesEvents = s.besidesEvents) :
    t = { s with ev := t.ev, cnt := t.cnt, smb := t.smb, rendi := t.rendi, mbx := t.mbx, outbox := t.outbox, todo := t.todo } :=
  congrArg (fun u : State => { u with
    ev := t.ev, cnt := t.cnt, smb := t.smb, rendi := t.rendi, mbx := t.mbx, outbox := t.outbox, todo := t.todo }) h

@[simp] theorem State.deliverNtf_besidesEvents (s : State) (x : Session) (m : Bytes) :
    (s.deliverNtf x m).besidesEvents = s.besidesEvents := by
  unfold State.deliverNtf
  split <;> rfl

@[simp] theorem State.sendNtf_besidesEvents (s : State) (id : Nat) : (s.sendNtf id).besidesEvents = s.besidesEvents := by
  unfold State.sendNtf
  split
  · rfl
  · split
    · rfl
    · split
      · rfl
      · exact State.deliverNtf_besidesEvents _ _ _

@[simp] theorem State.sendFull_besidesEvents (s : State) : s.sendFull.besidesEvents = s.besidesEvents :=
  List.foldlRecOn _ _ (motive := fun t : State => t.besidesEvents = s.besidesEvents) rfl
    fun t h b _ => (State.sendNtf_besidesEvents t b.id).trans h

@[simp] theorem State.ringPut_besidesEvents (s : State) (r : Rec) : (s.ringPut r).besidesEvents = s.besidesEvents :=
  State.sendFull_besidesEvents _

theorem State.summarise_besidesEvents (s : State) : s.summarise.besidesEvents = s.besidesEvents := by
  unfold State.summarise
  split
  · rfl
  · exact State.ringPut_besidesEvents s s.overflowSummary

theorem State.record_besidesEvents (s : State) (r : Rec) : (s.record r).besidesEvents = s.besidesEvents := by
  unfold State.record
  split
  · split <;> rfl
  · split
    · rfl
    · have hsummary := State.summarise_besidesEvents s
      dsimp only
      split
      · exact hsummary
      · exact (State.ringPut_besidesEvents _ r).trans hsummary

theorem State.noteInj_besidesEvents (s : State) (inj : Bool) (det stype scope act detail : Nat) :
    (s.noteInj inj det stype scope act detail).besidesEvents = s.besidesEvents := by
  unfold State.noteInj
  dsimp only
  split
  · rfl
  · split
    · exact State.record_besidesEvents _ _
    · exact State.record_besidesEvents _ _

end Sys2Proof.Machine

open Sys2Proof Sys2Proof.Machine

/-- Settles O50: a core cycle leaves what INTA rests on, and the end of a command puts INTA right. -/
theorem intaFollowsItsCauses : Obligations.IntaFollowsItsCauses := fun _ _ h hstep => step_intaRight h hstep

/-- Settles O49, by what the reset state holds. -/
theorem resetIntaRight : Obligations.ResetIntaRight := ⟨.inl rfl, rfl⟩

/-- Settles O46: a step by whether a command waits; a core cycle is a change of the clocks (log entry 1). -/
theorem stepRunsTheFront : Obligations.StepRunsTheFront := ⟨step_of_waiting, fun _ => step_of_idle, fun _ => rfl⟩

/-- Settles O47: every command is an effect that the end of the step follows (log entries 1 and 4). -/
theorem everyCommandAnswers : Obligations.EveryCommandAnswers := by
  intro c s
  obtain ⟨t, ht⟩ := exec_eq_next_ends c s
  exact ⟨Ends s t, ht, Ends_pending s t⟩

/-- Settles O51: no grant is due where no rail moved, and the end of the step leaves a quiet state as it is. -/
theorem quietEffectIsAll : Obligations.QuietEffectIsAll := by
  intro s t hquiet hrails
  rw [Ends, State.railsMoved_of_same hrails, State.settle_of_quiet hquiet]

/-- Settles O52: each operation writes the one part it names; a detection is followed through what it counts and reports. -/
theorem sharedOperationFrames : Obligations.SharedOperationFrames := fun s _ _ _ _ =>
  ⟨fun _ => rfl, fun _ => rfl, rfl, rfl, rfl, fun _ => rfl, fun _ => rfl, fun _ => rfl, fun _ => rfl, fun _ => rfl, fun _ => rfl,
    fun _ => rfl, fun _ => rfl, fun _ => rfl,
    fun det stype scope act detail => State.eq_of_besidesEvents (s.noteInj_besidesEvents (s.forced det) det stype scope act detail)⟩
end

section
/-!
PROOFS. The endpoint's resets, link, configuration and function controls (R397, R399, R405, R416, R417, R420, R422, R485, R492).
-/

namespace Sys2Proof.Machine

variable {s : State}

/-! ### Link and endpoint reset (R397, R492) -/

theorem State.epReset_eq {t v : State} (hv : v = s.fnList.foldl (fun u g => u.flrOne g) { s with ep := { s.ep with
      wins := Tbl.mapRows {} (fun _ x => { x with stalled := [] }) s.ep.wins } })
    (ht : t = { v with ep := { v.ep with fns := [], vfEnable := false, numVfs := 0, stalled := [], inta := false } }) :
    s.epReset = if s.frozen then ((t.setCnt Obj.epLinkSpeed 0 0).setCnt Obj.epLinkWidth 0 0).fenLet 1 9
      else (t.setCnt Obj.epLinkSpeed 0 0).setCnt Obj.epLinkWidth 0 0 := by
  subst ht hv
  rfl

theorem exec_epLinkDown_eq_hotReset (s : State) : exec .epLinkDown s = exec .hotReset s := rfl

theorem State.epLink_trains {speed width : Nat} (hstage : 3 ≤ s.cntAt Obj.bootStage 0) (hon : (Tbl.get {} s.pd 15).st = .on)
    (hperst : s.ep.perst = false) (hlo : 1 ≤ speed) (hhi : speed ≤ 6) (hwidth : width ∈ [1, 2, 4, 8, 16]) :
    s.epLink speed width = (s.setCnt Obj.epLinkSpeed 0 speed).setCnt Obj.epLinkWidth 0 width := by
  refine if_neg ?_
  rintro (h | h | h | h | h | h)
  · omega
  · exact h hon
  · simp [hperst] at h
  · omega
  · omega
  · exact h hwidth

/-! ### Configuration requests (R485) -/

section
variable {f : Nat} {c : CfgField}

theorem State.cfgRequest_below_s7 (hup : s.epUp = true) (h7 : s.inS7 = false) (w : Option Nat) :
    s.cfgRequest f c w = s.emit (.pcie (.cfg f 2 0)) := by
  simp only [State.cfgRequest, hup, h7, Bool.true_eq_false, if_false, if_true]

theorem State.cfgRequest_of_missing (hup : s.epUp = true) (h7 : s.inS7 = true) (hmissing : s.fnThere f = false) (w : Option Nat) :
    s.cfgRequest f c w = s.emit (.pcie (.cfg f 1 0)) := by
  simp only [State.cfgRequest, hup, h7, hmissing, Bool.true_eq_false, if_false, if_true]

section
variable (hup : s.epUp = true) (h7 : s.inS7 = true) (hthere : s.fnThere f = true)
include hup h7 hthere

theorem State.cfgRequest_reads : s.cfgRequest f c none = s.emit (.pcie (.cfg f 0 ((s.cfgRead f c).getD 0))) := by
  simp only [State.cfgRequest, hup, h7, hthere, Bool.true_eq_false, if_false]

theorem State.cfgRequest_writes (v : Nat) : s.cfgRequest f c (some v) = (s.cfgWrite f c v).emit (.pcie (.cfg f 0 0)) := by
  simp only [State.cfgRequest, hup, h7, hthere, Bool.true_eq_false, if_false]

end

/-! ### Function controls (R399, R405, R416, R417) -/

/-- A control of a function that is there acts where configuration requests are served. -/
theorem exec_ifCfg {i : Instr} {t : State} {go : State → State} (hi : exec i s = s.act (fun u => u.ifCfg f go)) (hup : s.epUp = true)
    (h7 : s.inS7 = true) (hthere : s.fnThere f = true) (ht : go s = t) : exec i s = .next (Ends s t) := by
  refine exec_ends hi ?_
  simp only [State.ifCfg, hup, h7, hthere, Bool.and_self, if_true, ht]

theorem State.flr_of_vf (hvf : f ≠ 0) : s.flr f = s.flrOne f := if_neg hvf

theorem State.bmeClear_of_master (hmaster : (s.fn f).master = true) :
    s.bmeClear f = (s.masterStop f).updFn f (fun x => { x with bme := false }) := if_pos hmaster

theorem State.bmeClear_of_idle (hidle : (s.fn f).master = false) : s.bmeClear f = s.updFn f (fun x => { x with bme := false }) :=
  if_neg (ne_true_of_eq_false hidle)

theorem State.d3Entry_of_master (hmaster : (s.fn f).master = true) :
    s.d3Entry f = (s.masterStop f).updFn f (fun x => { x with d3 := true }) := if_pos hmaster

theorem State.d3Entry_of_idle (hidle : (s.fn f).master = false) : s.d3Entry f = s.updFn f (fun x => { x with d3 := true }) :=
  if_neg (ne_true_of_eq_false hidle)

theorem State.fnResume_of_master (hmaster : (s.fn f).master = true) : s.fnResume f =
    (s.fnChans f).foldl (fun u c => u.shResume c)
      ((s.fnRings f).foldl (fun u r => u.ringResume r) (s.updFn f (fun x => { x with bmeStop := false }))) :=
  if_neg (ne_false_of_eq_true hmaster)

end

/-! ### Containment (R420) -/

theorem State.contRelease_of_row {row : Nat} (hrow : s.fenRowOf 1 9 = some row) (clear : Bool) :
    s.contRelease clear = s.releaseRow row clear := by
  simp only [State.contRelease, hrow]

/-- `EP_CONT_CTRL.RELEASE` acts while FROZEN. -/
theorem State.releaseIn_while_frozen (hserves : s.epServes = true) (hfrozen : s.frozen = true) (clear : Bool) :
    s.releaseIn_ none clear = s.contRelease clear := if_pos ⟨hserves, hfrozen⟩

end Sys2Proof.Machine

open Sys2Proof Sys2Proof.Machine

/-- Settles O34: the resets and the link, then each configuration request and control of a function through the lemma of its case. -/
theorem endpointResetCommands : Obligations.EndpointResetCommands := by
  unfold Obligations.EndpointResetCommands
  refine ⟨fun s t v hv ht => ⟨?hotReset, exec_epLinkDown_eq_hotReset s⟩, fun s => ⟨rfl, rfl⟩,
    fun s speed width hstage hon hperst hlo hhi hwidth => ?link,
    fun s f c hup => ⟨fun h7 w => ?retry, fun h7 hmissing w => ?unsupported, fun h7 hthere => ⟨?read, fun v => ?write⟩⟩,
    fun s f hup h7 hthere => ⟨fun hvf => ?flr, fun hmaster => ⟨?bmeStops, ?d3Stops⟩, fun hidle => ⟨?bme, ?d3⟩⟩,
    fun s f hopen hthere hmaster => ?resume, fun s f v hopen hthere hv => ?unmask,
    fun s clear row hserves hfrozen hrow => ?release⟩
  case hotReset => exact exec_ends (exec_hotReset s) (State.epReset_eq hv ht)
  case link => exact exec_ends (exec_endpointLinkUp speed width s) (State.epLink_trains hstage hon hperst hlo hhi hwidth)
  case retry => exact exec_ends (exec_configRequest f c w s) (State.cfgRequest_below_s7 hup h7 w)
  case unsupported => exact exec_ends (exec_configRequest f c w s) (State.cfgRequest_of_missing hup h7 hmissing w)
  case read => exact exec_ends (exec_configRequest f c none s) (State.cfgRequest_reads hup h7 hthere)
  case write => exact exec_ends (exec_configRequest f c (some v) s) (State.cfgRequest_writes hup h7 hthere v)
  case flr => exact exec_ifCfg (exec_functionLevelReset f s) hup h7 hthere (State.flr_of_vf hvf)
  case bmeStops => exact exec_ifCfg (exec_bmeClear f s) hup h7 hthere (State.bmeClear_of_master hmaster)
  case d3Stops => exact exec_ifCfg (exec_d3hotEntry f s) hup h7 hthere (State.d3Entry_of_master hmaster)
  case bme => exact exec_ifCfg (exec_bmeClear f s) hup h7 hthere (State.bmeClear_of_idle hidle)
  case d3 => exact exec_ifCfg (exec_d3hotEntry f s) hup h7 hthere (State.d3Entry_of_idle hidle)
  case resume =>
    exact exec_posted (exec_fnResume f s) hopen ((if_pos hthere).trans (State.fnResume_of_master hmaster))
  case unmask => exact exec_posted (exec_msixUnmask f v s) hopen (if_pos ⟨hthere, hv⟩)
  case release =>
    exact exec_ends (exec_containmentRelease none clear s)
      ((State.releaseIn_while_frozen hserves hfrozen clear).trans (State.contRelease_of_row hrow clear))
end

section
/-!
PROOFS. Peer windows (R408 to R415) and the completions of host reads (R418, R419).
-/

namespace Sys2Proof.Machine

variable {s : State}

/-! ### Window accesses (R408, R409, R412 to R414) -/

/-- A TLP whose window has no commit under way acts at its window. -/
theorem State.peerTlp_of_window {off w o : Nat} (hw : w = off / 2 ^ s.slotBits % 64) (ho : o = off % 2 ^ s.slotBits)
    (hbusy : (s.win w).busy = false) (i : Instr) (go : Nat → Nat → State → State) : s.peerTlp off i go = go w o s := by
  subst hw ho
  exact if_neg (ne_true_of_eq_false hbusy)

section
variable {w rq o len : Nat} {r : WinRegs} (hr : r = (s.win w).act)
include hr

theorem State.peerWriteAt_refused (data : Nat) (ro poison : Bool) (hcheck : r.check rq o true ≠ 0) :
    s.peerWriteAt w rq o len data ro poison = s.winFail w (r.check rq o true) rq o r.key none true := by
  subst hr
  exact if_pos hcheck

theorem State.peerWriteAt_admitted {v : State} {id : Nat} {ro : Bool} (data : Nat) (hcheck : r.check rq o true = 0)
    (heye : s.fnCheck r.func r.key 0 (r.eoff * 4096 + o) len true = 0)
    (hadmit : s.admitAcc (.peer rq) (if ro then .write else .knot) (r.key % 16384) (r.eoff * 4096 + o) len 0 0 = (v, id)) :
    s.peerWriteAt w rq o len data ro false = (((v.updAcc id (fun x => { x with
      slot := w, host := (s.win w).gen, issued := ro, got := len, psn := o, data := data % 2 ^ (8 * len) })).askFrames id).accDeliver
        id).moveAccs (.peer rq) := by
  subst hr
  simp only [State.peerWriteAt, hcheck, heye, hadmit, ne_eq, not_true_eq_false, Bool.false_eq_true, if_false]

theorem State.peerReadAt_refused (tag : Nat) (ro : Bool) (hcheck : r.check rq o false ≠ 0) :
    s.peerReadAt w rq tag o len ro = s.winFail w (r.check rq o false) rq o r.key (some (tag, len, ro)) false := by
  subst hr
  exact if_pos hcheck

theorem State.peerReadAt_admitted {v : State} {id tag : Nat} {ro : Bool} (hcheck : r.check rq o false = 0)
    (heye : s.fnCheck r.func r.key 1 (r.eoff * 4096 + o) len false = 0)
    (hadmit : s.admitAcc (.peer rq) .read (r.key % 16384) (r.eoff * 4096 + o) len tag (b2n ro) = (v, id)) :
    s.peerReadAt w rq tag o len ro =
      (v.updAcc id (fun x => { x with slot := w, host := (s.win w).gen, got := o })).moveAccs (.peer rq) := by
  subst hr
  simp only [State.peerReadAt, hcheck, heye, hadmit, ne_eq, not_true_eq_false, if_false]

end

/-- A read of BAR2 that is served at once does what its TLP does. -/
theorem State.nonPosted_open (i : Instr) (hopen : s.barOpen) (rq tag len : Nat) (ro : Bool) : s.nonPosted i rq tag len ro = s.tlp i := by
  obtain ⟨hserves, hfrozen, -, hstalled⟩ := hopen
  simp only [State.nonPosted, hserves, hfrozen, hstalled, Bool.true_eq_false, Bool.false_eq_true, or_self, if_false, ne_eq,
    not_true_eq_false]

section
variable {off w o rq len : Nat} {ro : Bool} {t : State} (hopen : s.barOpen) (hw : w = off / 2 ^ s.slotBits % 64)
  (ho : o = off % 2 ^ s.slotBits) (hbusy : (s.win w).busy = false)
include hopen hw ho hbusy

theorem exec_peerWrite_at {data : Nat} {poison : Bool} (ht : s.peerWriteAt w rq o len data ro poison = t) :
    exec (.peerWrite rq off len data ro poison) s = .next (Ends s t) :=
  exec_posted (exec_peerWrite rq off len data ro poison s) hopen
    ((State.peerTlp_of_window hw ho hbusy _ fun w o u => u.peerWriteAt w rq o len data ro poison).trans ht)

theorem exec_peerRead_at {tag : Nat} (ht : s.peerReadAt w rq tag o len ro = t) :
    exec (.peerRead rq tag off len ro) s = .next (Ends s t) :=
  exec_ends (exec_peerRead rq tag off len ro s)
    ((State.nonPosted_open _ hopen rq tag len ro).trans
      ((State.peerTlp_of_window hw ho hbusy _ fun w o u => u.peerReadAt w rq tag o len ro).trans ht))

end

/-! ### Window commits (R411) -/

theorem State.winUpdate_of_busy {w : Nat} (hbusy : (s.win w).busy = true) :
    s.winUpdate w = (s.win w).stalled.foldl (fun u i => u.bar2 i) (s.updWin w (fun x => { x with
      act := x.take_, take_ := {}, gen := wrapAdd 16 x.gen 1, busy := false, result := 0, stalled := [] })) :=
  if_neg (ne_false_of_eq_true hbusy)

/-! ### Completions and timeouts (R418, R419) -/

section
variable {id : Nat}

theorem State.completion_unexpected (hnone : s.issuedRead id = none) (f st data : Nat) :
    s.completion id f st data = ((s.addCnt 64 Obj.epUnexpCpl 0 1).fnStatus f 3).epErr f 7 := by
  simp only [State.completion, hnone, State.unexpected]

theorem State.completion_of_issued {r : PRead} (hread : s.issuedRead id = some r) (hlive : r.dead = false) (f st data : Nat) :
    s.completion id f st data = if st = 0 then (s.endRead id).deliverRead r data else (s.endRead id).failRead r st := by
  simp only [State.completion, hread, hlive, Bool.false_eq_true, if_false]

/-- The timeout of a data read of channel `c` is counted, logged with its source and fails the channel's descriptor. -/
theorem State.readTimeout_of_data {t : State} {c : Nat} {r : PRead} (hread : s.issuedRead id = some r) (hlive : r.dead = false)
    (hfn : r.fn ≠ 0xFF) (hon : (s.fn r.fn).ctoDis = false) (hwho : r.who = .data c)
    (ht : t = ((s.endRead id).addCnt 64 Obj.epCto 0 1).updFn r.fn (fun x => { x with
      ctoSrc := 0x800 + c, ctoCount := satAdd 16 x.ctoCount 1 })) :
    s.readTimeout id = ((t.fnStatus r.fn 2).epErr r.fn 6).shHostFail c 1 := by
  subst ht
  simp only [State.readTimeout, hread, hlive, hfn, hon, hwho, Bool.false_eq_true, or_self, if_false, State.failRead]

end

end Sys2Proof.Machine

open Sys2Proof Sys2Proof.Machine

/-- Settles O35: an access at its window by what its checks say, then the commit, its update point, and the completions of reads. -/
theorem peerCommands : Obligations.PeerCommands := by
  unfold Obligations.PeerCommands
  refine ⟨fun s rq off len data w o ro poison r hopen hw ho hbusy hr => ⟨fun hcheck => ?writeRefused,
      fun v id hcheck heye hgood hadmit => ?writeAdmitted⟩,
    fun s rq tag off len w o ro r hopen hw ho hbusy hr => ⟨fun hcheck => ?readRefused, fun v id hcheck heye hadmit => ?readAdmitted⟩,
    fun s w hopen hw => ?commit, fun s w hbusy => ?update,
    fun s id f st data => ⟨fun hnone => ?unexpected, fun r hread hlive => ?completion⟩,
    fun s t id c r hread hlive hfn hon hwho ht => ?timeout⟩
  case writeRefused =>
    exact exec_peerWrite_at hopen hw ho hbusy (State.peerWriteAt_refused hr data ro poison hcheck)
  case writeAdmitted =>
    subst hgood
    exact exec_peerWrite_at hopen hw ho hbusy (State.peerWriteAt_admitted hr data hcheck heye hadmit)
  case readRefused => exact exec_peerRead_at hopen hw ho hbusy (State.peerReadAt_refused hr tag ro hcheck)
  case readAdmitted => exact exec_peerRead_at hopen hw ho hbusy (State.peerReadAt_admitted hr hcheck heye hadmit)
  case commit => exact exec_posted (exec_windowCommit w s) hopen (if_pos hw)
  case update => exact exec_ends (exec_windowUpdatePoint w s) (State.winUpdate_of_busy hbusy)
  case unexpected => exact exec_ends (exec_pcieCompletion id f st data s) (State.completion_unexpected hnone f st data)
  case completion => exact exec_ends (exec_pcieCompletion id f st data s) (State.completion_of_issued hread hlive f st data)
  case timeout => exact exec_ends (exec_completionTimeout id s) (State.readTimeout_of_data hread hlive hfn hon hwho ht)
end

section
/-!
PROOFS. Work rings (R425, R426, R428 to R438): doorbells and turns, jobs and their completions, the ring's control register.
-/

namespace Sys2Proof.Machine

variable {s t : State} {r : Nat}

/-! ### Doorbell and fetch (R428, R432, R433) -/

/-- A doorbell of a function's ring reaches the ring. -/
theorem State.tlp_ringDb {f i : Nat} (hring : s.ringAt f i = some r) : s.tlp (.ringDb f i) = s.doorbell r := by
  simp only [State.tlp, hring]

theorem State.doorbell_of_running (hst : (s.ring r).st = .running) : s.doorbell r = s.updRing r (fun x =>
    if x.active || x.reads ≠ [] then { x with db := true } else { x with active := true }) := by
  simp only [State.doorbell, hst]

theorem State.doorbell_of_stoppedErr (hst : (s.ring r).st = .stoppedErr) : s.doorbell r = s.updRing r (fun x => { x with db := true }) := by
  simp only [State.doorbell, hst]

theorem State.fetchTurn_of_next (hnext : s.nextTurn = some r) : s.fetchTurn = s.fetchTurnOf r := by
  simp only [State.fetchTurn, hnext]

theorem State.fetchIn_of_issued {id : Nat} {p : PRead} (ents : List Nat) (hread : s.issuedRead id = some p) (hlive : p.dead = false)
    (hwho : p.who = .fetch r) : s.fetchIn id ents =
      (s.endRead id).fetchedEnts r id ((List.range (p.len / 64)).map (fun i => ents.getD i 0 % 2 ^ 512)) := by
  simp only [State.fetchIn, hread, hwho, hlive, Bool.false_eq_true, if_false]

/-! ### Jobs (R425, R426) -/

section
variable {idx : Nat} {j : RJob} (hst : (s.ring r).st ≠ .stoppedBme) (hfence : s.devFenced = false) (hmaster : s.ringMaster r = true)
  (ht : t = s.updJob r j.id (fun j => { j with st := 1 }))
include hst hfence hmaster ht

/-- A fetched job runs on a ring that masters the bus and that no fence stops. -/
theorem State.runJob_starts {op : Nat} (go : RJob → State → State)
    (hjob : (s.ring r).jobs.find? (fun j => j.idx = idx && j.st = 0 && j.op = op) = some j) : s.runJob r idx op go = go j t := by
  subst ht
  simp only [State.runJob, hjob, hst, hfence, hmaster, Bool.false_eq_true, Bool.true_eq_false, or_self, if_false]

/-- A command that runs a job does with it what its opcode says. -/
theorem exec_job {i : Instr} {op : Nat} {go : RJob → State → State} {u : State}
    (hi : exec i s = s.act (fun v => v.runJob r idx op go))
    (hjob : (s.ring r).jobs.find? (fun j => j.idx = idx && j.st = 0 && j.op = op) = some j) (hu : go j t = u) :
    exec i s = .next (Ends s u) :=
  exec_ends hi ((State.runJob_starts hst hfence hmaster ht go hjob).trans hu)

end

/-! ### Completion and signals (R430, R431, R437) -/

theorem State.jobComplete_lands {idx : Nat} {j : RJob} (hjob : (s.ring r).jobs.find? (fun j => j.idx = idx && j.st = 2) = some j)
    (hmay : s.mayLand r j = true) : s.jobComplete r idx = s.land r j := by
  simp only [State.jobComplete, hjob, hmay, if_true]

theorem State.holdoffOver_signals {q : Nat} (hquiet : (s.ring r).quiet = some q) (hover : q ≤ s.clk.ns) (hwait : (s.ring r).sigWait = true)
    (hpend : (s.ring r).pend = true) : s.holdoffOver r = (s.updRing r (fun x => { x with quiet := none })).ringSignal r := by
  simp only [State.holdoffOver, hquiet, Nat.not_lt.mpr hover, hwait, hpend, and_self, if_true, if_false]

/-! ### The control register (R435, R436, R438) -/

section
variable {f w : Nat}

/-- What a write of `RING_CTRL` sets besides what it starts. -/
def State.ringTuned (s : State) (r w : Nat) : State :=
  s.updRing r (fun x => { x with strict := if x.st = .disabled then bit w 1 else x.strict, weight := bits w 8 8, burst := bits w 16 7 })

theorem State.ringCtrl_enables (hen : bit w 0 = true) (hst : (s.ring r).st = .disabled) :
    s.ringCtrl f r w = (s.ringTuned r w).ringEnable f r :=
  (if_neg (ne_false_of_eq_true hen)).trans (if_pos hst)

theorem State.ringCtrl_disables (hdis : bit w 0 = false) : s.ringCtrl f r w = (s.ringTuned r w).ringDisable r := if_pos hdis

theorem State.ringCtrl_restarts (hen : bit w 0 = true) (hrestart : bit w 2 = true) (hst : (s.ring r).st = .stoppedErr) :
    s.ringCtrl f r w = (s.ringTuned r w).ringRestart r :=
  (if_neg (ne_false_of_eq_true hen)).trans ((if_neg (by simp [hst])).trans (if_pos hrestart))

/-- A control write of a function's ring reaches the ring as `EN` and `RESTART` of its command make it. -/
theorem exec_ringCtrl {i : Instr} {n v : Nat} (hi : exec i s = s.act (fun u => u.posted i)) (hopen : s.barOpen)
    (hring : s.ringAt f n = some r)
    (hctrl : i = .ringEnable f n v ∧ w = clearBit (orBit v 0) 2 ∨ i = .ringDisable f n v ∧ w = clearBit (clearBit v 0) 2
      ∨ i = .ringRestart f n v ∧ w = orBit (orBit v 0) 2) (ht : s.ringCtrl f r w = t) : exec i s = .next (Ends s t) := by
  refine exec_posted hi hopen ?_
  rcases hctrl with ⟨rfl, rfl⟩ | ⟨rfl, rfl⟩ | ⟨rfl, rfl⟩ <;> simp only [State.tlp, hring, ht]

/-- A ring that passes the checks of R436 starts afresh. -/
theorem State.ringEnable_of_sound (hst : (s.ring r).st = .disabled) (halign : (s.ring r).base % 64 = 0) (hlo : 4 ≤ (s.ring r).log2)
    (hhi : (s.ring r).log2 ≤ 16) (hvec : 2048 ≤ r ∨ vecOk f (s.ring r).vec = true) : s.ringEnable f r = (s.updRing r (fun x => { x with
      st := if s.ringMaster r then .running else .stoppedBme, fetch := 0, lap := true, strictOn := x.strict, active := false, db := false
      inRound := false, part := [], reads := [], errIdx := 0, errCause := 0, errOfs := 0 })).fenServe 8 r := by
  refine (if_neg (not_not_intro hst)).trans (if_neg ?_)
  rintro (h | h | h | ⟨hring, hbad⟩)
  · exact h halign
  · omega
  · omega
  · rcases hvec with hiring | hok
    · omega
    · simp [hok] at hbad

end

end Sys2Proof.Machine

open Sys2Proof Sys2Proof.Machine

/-- Settles O36: doorbell and fetch, each opcode's job through `exec_job`, the landing, then the control writes through `exec_ringCtrl`. -/
theorem ringCommands : Obligations.RingCommands := by
  unfold Obligations.RingCommands
  refine ⟨fun s f i r hopen hring => ⟨fun hst => ?doorbell, fun hst => ?doorbellKept⟩, fun s r hnext => ?turn,
    fun s id r ents p hread hlive hwho => ?fetched, fun s t r idx j hst hfence hmaster ht => ?jobs,
    fun s r idx j hjob hmay => ?complete, fun s t f i v r hopen hring => ⟨fun w hw hen hst ht => ?enable, fun w hw hdis ht => ?disable,
      fun w hw hen hrestart hst ht => ?restart⟩,
    fun s f r hst halign hlo hhi hvec => State.ringEnable_of_sound hst halign hlo hhi hvec,
    fun s r q hquiet hover hwait hpend => ?holdoff⟩
  case doorbell =>
    exact exec_posted (exec_ringDb f i s) hopen ((State.tlp_ringDb hring).trans (State.doorbell_of_running hst))
  case doorbellKept =>
    exact exec_posted (exec_ringDb f i s) hopen ((State.tlp_ringDb hring).trans (State.doorbell_of_stoppedErr hst))
  case turn => exact exec_ends (exec_ringFetchTurn s) (State.fetchTurn_of_next hnext)
  case fetched => exact exec_ends (exec_ringFetchDone id ents s) (State.fetchIn_of_issued ents hread hlive hwho)
  case jobs =>
    refine ⟨fun hjob => ?nop, fun hjob => ?nsRead, fun hjob => ?nsWrite, fun v id hjob heye hadmit => ?eyeRead,
      fun hjob heye => ?eyeWriteRefused, fun v u id hjob heye hadmit hu => ?eyeWrite, fun hjob => ?eyeFlush⟩
    case nop => exact exec_job hst hfence hmaster ht (exec_nop r idx s) hjob rfl
    case nsRead => exact exec_job hst hfence hmaster ht (exec_nsRead r idx s) hjob rfl
    case nsWrite => exact exec_job hst hfence hmaster ht (exec_nsWrite r idx s) hjob rfl
    case eyeRead =>
      exact exec_job hst hfence hmaster ht (exec_eyeRead r idx s) hjob ((if_neg (not_not_intro heye)).trans (by simp only [hadmit]))
    case eyeWriteRefused => exact exec_job hst hfence hmaster ht (exec_eyeWrite r idx s) hjob (if_pos heye)
    case eyeWrite =>
      exact exec_job hst hfence hmaster ht (exec_eyeWrite r idx s) hjob ((if_neg (not_not_intro heye)).trans (by simp only [hadmit, hu]))
    case eyeFlush => exact exec_job hst hfence hmaster ht (exec_eyeFlush r idx s) hjob rfl
  case complete => exact exec_ends (exec_ringJobComplete r idx s) (State.jobComplete_lands hjob hmay)
  case enable =>
    subst ht
    exact exec_ringCtrl (exec_ringEnable f i v s) hopen hring (.inl ⟨rfl, hw⟩) (State.ringCtrl_enables hen hst)
  case disable =>
    subst ht
    exact exec_ringCtrl (exec_ringDisable f i v s) hopen hring (.inr (.inl ⟨rfl, hw⟩)) (State.ringCtrl_disables hdis)
  case restart =>
    subst ht
    exact exec_ringCtrl (exec_ringRestart f i v s) hopen hring (.inr (.inr ⟨rfl, hw⟩)) (State.ringCtrl_restarts hen hrestart hst)
  case holdoff => exact exec_ends (exec_irqHoldoffExpiry r s) (State.holdoffOver_signals hquiet hover hwait hpend)
end

section
/-!
PROOFS. Shuttle channels (R439, R440, R442, R444, R445, R448). That `SHTL_CQ_HEAD` is written in any state and that `GO` takes the next
list at once are the model's choices (log entry 37).
-/

namespace Sys2Proof.Machine

variable {s t : State} {c : Nat}

/-! ### Lists and controls (R448, Table 13-11) -/

theorem State.shEnqueue_full (v : Nat) (hfull : 16 ≤ (s.chan c).fifo.length) :
    s.shEnqueue c v = s.updChan c (fun x => { x with enqOvf := true }) := if_pos hfull

theorem State.shEnqueue_room {v : Nat} (hroom : (s.chan c).fifo.length < 16)
    (ht : t = s.updChan c (fun x => { x with fifo := x.fifo ++ [(s.chan c).enqLo + v % 2 ^ 32 * 2 ^ 32] })) :
    s.shEnqueue c v = if (s.chan c).st = .idle ∧ s.chanReady c ∧ s.chanFree c then t.chanNext c else t := by
  subst ht
  exact if_neg (Nat.not_le.mpr hroom)

theorem State.shGo_of_stopped (hst : (s.chan c).st = .stopped) (hbme : (s.chan c).bme = false) (hfree : s.chanFree c = true) :
    s.shGo c = s.chanNext c := if_pos ⟨hst, hbme, hfree⟩

theorem State.shGo_elsewhere (hst : (s.chan c).st ≠ .stopped) : s.shGo c = s := if_neg fun h => hst h.1

theorem State.shStop_with_descriptor (hrun : (s.chan c).run ≠ none) : s.shStop c = s.updChan c (fun x =>
    if x.st = .running then { x with st := .stopping } else if x.st = .cqBlocked then { x with stop := true } else x) :=
  if_neg fun h => hrun h.2.1

/-- The channel `c` as `RESET` leaves it, its fence row served again. -/
def State.chanCleared (s : State) (c : Nat) : State :=
  (((s.killReads (fun q => decide (q.chan = some c)) none).updChan c (fun x => { x with
    st := .idle, fifo := [], held := none, cqBp := false, next := 0, run := none, asked := false, stop := false, bme := false
    ranges := [] })).fenLet 9 c).fenServe 9 c

theorem State.shReset_of_stopped (hst : (s.chan c).st = .stopped ∨ (s.chan c).st = .error) :
    s.shReset c = (s.shDiscard c).chanCleared c := if_pos hst

theorem State.shDiscard_of_none (hheld : (s.chan c).held = none) : s.shDiscard c = s := if_pos hheld

theorem State.shDiscard_of_held {r : CqRec} (hheld : (s.chan c).held = some r) : s.shDiscard c = s.addCnt 32 Obj.shDiscarded c 1 :=
  if_neg (by simp [hheld])

/-! ### Completion records (R444, R445) -/

section
variable {v : Nat} (ht : t = s.updChan c (fun x => { x with cqHead := v % 65536 }))
include ht

theorem State.shCqHead_without_record (hheld : (t.chan c).held = none) : s.shCqHead c v = t := by
  subst ht
  simp only [State.shCqHead, hheld]

theorem State.shCqHead_still_full {r : CqRec} (hheld : (t.chan c).held = some r) (hfull : (t.chan c).full = true) :
    s.shCqHead c v = t := by
  subst ht
  simp only [State.shCqHead, hheld, hfull, true_or, if_true]

/-- With room the held record is written, and a channel it blocked goes on. -/
theorem State.shCqHead_writes {u : State} {r : CqRec} (hu : u = (t.putRec c r).updChan c (fun x => { x with held := none, cqBp := false }))
    (hheld : (t.chan c).held = some r) (hroom : (t.chan c).full = false) (hmaster : s.chanMaster c = true)
    (hbme : (t.chan c).bme = false) (hst : (t.chan c).st = .cqBlocked) : s.shCqHead c v = u.chanGoOn c (t.chan c).after := by
  subst hu ht
  simp only [State.shCqHead, hheld, hroom, hmaster, hbme, hst, Bool.false_eq_true, Bool.true_eq_false, or_self, if_false, if_true]

end

section
variable (hmaster : s.chanMaster c = true) (hfrozen : s.frozen = false) (r : CqRec) (a : ChanSt)
include hmaster hfrozen

theorem State.record_blocked (hfull : (s.chan c).full = true) : s.record_ c r a = ((s.updChan c (fun x => { x with
    held := some r, after := a, st := .cqBlocked, cqBp := true })).addCnt 32 Obj.shCqBlocks c 1).chanSignal c :=
  (if_neg (by simp [hmaster, hfrozen])).trans (if_pos hfull)

theorem State.record_written (hroom : (s.chan c).full = false) : s.record_ c r a = (s.putRec c r).chanGoOn c a :=
  (if_neg (by simp [hmaster, hfrozen])).trans (if_neg (ne_true_of_eq_false hroom))

end

/-! ### Descriptors (R439, R440, R442) -/

theorem State.descIn_of_issued {id w : Nat} {p : PRead} (hread : s.issuedRead id = some p) (hwho : p.who = .desc c) (hlive : p.dead = false) :
    s.descIn id w = (s.endRead id).shFetched c (w % 2 ^ 256) := by
  simp only [State.descIn, hread, hwho, State.completion, hlive, Bool.false_eq_true, if_false, if_true, State.deliverRead]

theorem State.shFetched_starts {d : Nat} (hasked : (s.chan c).asked = true) (hst : (s.chan c).st = .running) :
    s.shFetched c d = s.shStart c d := if_pos ⟨hasked, .inl hst⟩

section
variable {w : Nat} (ht : t = s.updChan c (fun x => { x with
  cur := x.next, asked := false, run := some { addr := x.next, word := w }, next := desNext w }))
include ht

theorem State.shStart_malformed (hbad : desBad c w ≠ 0) : s.shStart c w = t.shFail c 4 (desBad c w) := by
  subst ht
  exact if_pos hbad

section
variable (hgood : desBad c w = 0) (hdst : desDstT w = 0) (hlen : desLen w ≠ 0)
include hgood hdst hlen

/-- From host memory to host memory no eyelet is checked: the source is read. -/
theorem State.shStart_from_host (hsrc : desSrcT w = 0) :
    s.shStart c w = t.askRead ((s.chanFn c).getD 0) (desSrc w) (desLen w) (desRoh w) (.data c) 0 := by
  subst ht
  simp [State.shStart, hgood, hsrc, hdst, hlen]

/-- A fill has its bytes at once. -/
theorem State.shStart_fill (hsrc : desSrcT w = 5) : s.shStart c w = t.shFeed c 0 (desLen w) 0 := by
  subst ht
  simp [State.shStart, hgood, hsrc, hdst, hlen]

end
end

section
variable {d : ShRun} (hrun : (s.chan c).run = some d) (hdone : s.shComplete c d = true) (hst : (s.chan c).st = .running)
  (ht : t = (s.addCnt 64 Obj.shDescs c 1).updChan c (fun x => { x with
    run := none, ranges := if shBarrier c d.word then [] else x.ranges, stop := x.stop || x.st = .stopping }))
include hrun hdone hst ht

theorem State.shDone_with_record (hcmp : desCmp d.word = true) :
    s.shDone c = t.record_ c ⟨1, 0, desLen d.word, d.addr, desIrq d.word⟩ .running := by
  subst ht
  simp only [State.shDone, hrun, hdone, hst, Bool.true_eq_false, true_or, not_true_eq_false, or_self, if_false, hcmp, if_true]

theorem State.shDone_without_record (hcmp : desCmp d.word = false) (hbme : (t.chan c).bme = false) (hirq : desIrq d.word = false) :
    s.shDone c = t.chanGoOn c .running := by
  subst ht
  simp only [State.shDone, hrun, hdone, hst, Bool.true_eq_false, Bool.false_eq_true, true_or, not_true_eq_false, or_self, if_false, hcmp,
    hbme, hirq]

end

/-- A command of a channel of the function `f` acts on the channel. -/
theorem exec_chan {i : Instr} {f : Nat} {go : State} (hi : exec i s = s.act (fun u => u.posted i)) (hopen : s.barOpen)
    (hchan : s.chanFn c = some f) (hgo : s.tlp i = if s.chanFn c = some f then go else s) (ht : go = t) : exec i s = .next (Ends s t) :=
  exec_posted hi hopen (hgo.trans ((if_pos hchan).trans ht))

end Sys2Proof.Machine

open Sys2Proof Sys2Proof.Machine

/-- Settles O37: each control in the state of Table 13-11 it acts in, then the descriptor from its read to its record. -/
theorem shuttleCommands : Obligations.ShuttleCommands := by
  unfold Obligations.ShuttleCommands
  refine ⟨fun s f c v hopen hchan => ⟨fun hfull => ?dropped, fun t hroom ht => ?enqueued⟩,
    fun s f c hopen hchan => ⟨fun hst hbme hfree => ?go, fun hst => ?goIgnored, fun hrun => ?stop, fun hst hheld => ?reset,
      fun r hst hheld => ?resetDiscards⟩,
    fun s t u f c v r hopen hchan ht hu => ⟨fun hheld => ?head, fun hheld hfull => ?headFull,
      fun hheld hroom hmaster hbme hst => ?headWrites⟩,
    fun s id w c p hread hwho hlive hasked hst => ?fetched,
    fun s t c w ht => ⟨fun hbad => State.shStart_malformed ht hbad,
      fun hgood hsrc hdst hlen => State.shStart_from_host ht hgood hdst hlen hsrc,
      fun hgood hsrc hdst hlen => State.shStart_fill ht hgood hdst hlen hsrc⟩,
    fun s t c d hrun hdone hst ht => ⟨fun hcmp => ?record, fun hcmp hbme hirq => ?noRecord⟩,
    fun s c r a hmaster hfrozen => ⟨State.record_blocked hmaster hfrozen r a, State.record_written hmaster hfrozen r a⟩⟩
  case dropped => exact exec_chan (exec_shuttleEnqueue f c v s) hopen hchan rfl (State.shEnqueue_full v hfull)
  case enqueued => exact exec_chan (exec_shuttleEnqueue f c v s) hopen hchan rfl (State.shEnqueue_room hroom ht)
  case go => exact exec_chan (exec_shuttleGo f c s) hopen hchan rfl (State.shGo_of_stopped hst hbme hfree)
  case goIgnored => exact exec_chan (exec_shuttleGo f c s) hopen hchan rfl (State.shGo_elsewhere hst)
  case stop => exact exec_chan (exec_shuttleStop f c s) hopen hchan rfl (State.shStop_with_descriptor hrun)
  case reset =>
    refine exec_chan (exec_shuttleReset f c s) hopen hchan rfl ((State.shReset_of_stopped hst).trans ?_)
    rw [State.shDiscard_of_none hheld]
    rfl
  case resetDiscards =>
    refine exec_chan (exec_shuttleReset f c s) hopen hchan rfl ((State.shReset_of_stopped hst).trans ?_)
    rw [State.shDiscard_of_held hheld]
    rfl
  case head => exact exec_chan (exec_shuttleCqHead f c v s) hopen hchan rfl (State.shCqHead_without_record ht hheld)
  case headFull => exact exec_chan (exec_shuttleCqHead f c v s) hopen hchan rfl (State.shCqHead_still_full ht hheld hfull)
  case headWrites =>
    exact exec_chan (exec_shuttleCqHead f c v s) hopen hchan rfl (State.shCqHead_writes ht hu hheld hroom hmaster hbme hst)
  case fetched =>
    exact exec_ends (exec_shuttleDescriptorFetched id w s)
      ((State.descIn_of_issued hread hwho hlive).trans (State.shFetched_starts hasked hst))
  case record => exact exec_ends (exec_shuttleDescriptorDone c s) (State.shDone_with_record hrun hdone hst ht hcmp)
  case noRecord => exact exec_ends (exec_shuttleDescriptorDone c s) (State.shDone_without_record hrun hdone hst ht hcmp hbme hirq)
end

section
/-!
PROOFS. The messages of the skein (R453 to R456, R460, R467, R469, R473, R475): what each does once its sender counts as heard. What an
entry of the directory and a reply carry is the model's choice (log entries 40 and 41).
-/

namespace Sys2Proof.Machine

/-- A skein message that is acted on in `u` leaves what its own effect makes of `u`. -/
theorem exec_skein_ends {i : Instr} {s u v : State} {h : SkHdr} {b : SkBody} {f : State → State}
    (hi : exec i s = s.act (fun t => t.skIn h b f)) (hgets : s.skGets h b u) (hf : f u = v) : exec i s = .next (Ends s v) := by
  rw [exec_skein hi hgets, hf]

variable {u : State} {r : Nat}

/-! ### Rows: HEARTBEAT, JOIN, WELCOME, LEAVE (R453 to R456, R460) -/

theorem State.beatIn_eq (u : State) (r flags : Nat) : u.beatIn r flags =
    if u.skn.partner = some r then
      if bit flags 2 then State.partnerLost { u with sk := { u.sk with peerSolo := bit flags 0 } } true
      else { u with sk := { u.sk with peerSolo := bit flags 0 } }
    else u := rfl

section
variable {v : State} {digest : Nat} (hother : u.skn.partner ≠ some r) (hv : v = u.updSkRow r (fun x => { x with left := false }))
include hother hv

/-- JOIN of a row that is not the partner goes by the digest of the rows and by this device's role. -/
theorem State.joinIn_of_other (role hosts : Nat) (hworker : u.sk.role ≠ 0) : u.joinIn r role digest hosts =
    if digest ≠ v.rowDigest then if role = 0 then (v.setRole 3).note 0xD05 0 0 0 0 else v else v := by
  have hpartner : v.skn.partner ≠ some r := hv ▸ hother
  have hrole : v.sk.role ≠ 0 := hv ▸ hworker
  simp only [State.joinIn, ← hv, hpartner, hrole, false_and, if_false]

theorem State.joinIn_welcomes (role hosts : Nat) (hdigest : digest = v.rowDigest) (hmgr : u.sk.role = 0) : u.joinIn r role digest hosts =
    ((v.nameDeputy).dirSet (v.rowEnts r)).skSend allPaths r (.welcome ((v.nameDeputy).dirSet (v.rowEnts r)).sk.deputy
      ((v.nameDeputy).dirSet (v.rowEnts r)).sk.dir.version ((v.nameDeputy).dirSet (v.rowEnts r)).sk.dir.ents) := by
  have hpartner : v.skn.partner ≠ some r := hv ▸ hother
  have hrole : v.sk.role = 0 := hv ▸ hmgr
  simp only [State.joinIn, ← hv, hpartner, hrole, hdigest, false_and, if_false, if_true, ne_eq, not_true_eq_false]

end

theorem State.welcomeIn_of_manager {t v : State} {deputy version : Nat} {dir : List DirEnt} (hworker : u.sk.role ≠ 0) (hmgr : u.sk.mgr = r)
    (ht : t = u.takeDir version dir true) (hv : v = { t with sk := { t.sk with deputy := deputy } }) :
    u.welcomeIn r deputy version dir =
      if v.skn.row = some deputy ∧ v.sk.role = 2 then (v.setRole 1).dirReport (v.setRole 1).shelfEnts else v.dirReport v.shelfEnts := by
  subst hv ht
  refine (if_neg (by simp [hworker, hmgr])).trans ?_
  dsimp only
  split <;> rfl

theorem State.leaveIn_of_other {t : State} (hother : u.skn.partner ≠ some r)
    (ht : t = u.updSkRow r (fun x => { x with inView := false, left := true })) (hdeputy : t.sk.deputy ≠ r ∨ t.sk.role ≠ 0) :
    u.leaveIn r = (t.elect true).dirSet ((t.elect true).rowEnts r) := by
  have hstays : ¬ (t.sk.deputy = r ∧ t.sk.role = 0) := by tauto
  subst ht
  have hpartner : (u.updSkRow r (fun x => { x with inView := false, left := true })).skn.partner ≠ some r := hother
  simp only [State.leaveIn, if_neg hpartner, if_neg hstays]

/-! ### The directory: DIR_UPDATE and DIR_ACK (R475) -/

theorem State.dirUpdateIn_as_manager (version : Nat) (dir : List DirEnt) (hmgr : u.sk.role = 0) :
    u.dirUpdateIn r version dir = u.dirSet dir := if_pos hmgr

theorem State.dirUpdateIn_of_manager (version : Nat) (dir : List DirEnt) (hworker : u.sk.role ≠ 0) (hmgr : u.sk.mgr = r) :
    u.dirUpdateIn r version dir = (u.takeDir version dir false).skSend allPaths r (.dirAck version) :=
  (if_neg hworker).trans (if_neg (not_not_intro hmgr))

theorem State.dirAckIn_of_deputy {t : State} {version : Nat} (hmgr : u.sk.role = 0) (hdeputy : u.sk.deputy = r)
    (hversion : version = u.sk.dir.version) (hwaiting : u.sk.dir.waiting ≠ [])
    (ht : t = { u with sk := { u.sk with dir := { u.sk.dir with waiting := [] } } }) :
    u.dirAckIn r version = (t.skRows.filter (fun q => t.skn.row ≠ some q && q ≠ r)).foldl
      (fun v q => v.skSend allPaths q (.dirUpdate version u.sk.dir.waiting)) t := by
  subst ht
  exact if_neg (by simp [hmgr, hdeputy, hversion, hwaiting])

/-! ### The partner: queries, replies, takeovers (R467, R469) -/

section
variable {row : Nat} (hrole : u.sk.role = 0 ∨ u.sk.role = 1)
include hrole

theorem State.confirmQueryIn_of_heard {n : Nat} (hheard : (u.skRow row).heard = some n) : u.confirmQueryIn r row =
    u.skSend allPaths r (.confirmReply row (!u.inView row) (min ((u.clk.ns - n) / 1000000) 0xFFFFFFFF)) := by
  simp only [State.confirmQueryIn, if_pos hrole, hheard]

theorem State.confirmQueryIn_of_unheard (hheard : (u.skRow row).heard = none) : u.confirmQueryIn r row =
    u.skSend allPaths r (.confirmReply row (!u.inView row) 0xFFFFFFFF) := by
  simp only [State.confirmQueryIn, if_pos hrole, hheard, Nat.min_self]

end

section
variable {row : Nat} {missing : Bool} (hpartner : u.skn.partner = some row) (hfrom : r = u.sk.mgr ∨ r = u.sk.deputy)
include hpartner hfrom

theorem State.confirmReplyIn_decides (taken : List Nat) (hst : u.sk.tko.st = 1) (hopen : u.sk.tko.decided = none) :
    u.confirmReplyIn r row missing taken = u.confirmed missing := by
  refine (if_neg (by simp [hpartner, hfrom])).trans ((if_neg (by simp [hst])).trans (if_pos ⟨hst, hopen⟩))

/-- A device held without a reply first gives up what the ownership records name the partner's. -/
theorem State.confirmReplyIn_of_isolated (taken : List Nat) (hst : u.sk.tko.st = 4) : u.confirmReplyIn r row missing taken =
    (((taken.foldl (fun v n => v.loseNs n) u).updTko (fun k => { k with st := 1 })).ownNss.foldl (fun v n => v.later (.ana n))
      ((taken.foldl (fun v n => v.loseNs n) u).updTko (fun k => { k with st := 1 }))).confirmed missing :=
  (if_neg (by simp [hpartner, hfrom])).trans (if_pos hst)

end

theorem State.noticeIn_as_manager {lost : Nat} (hmgr : u.sk.role = 0) (hshelf : u.rw Obj.srowShelf lost = u.rw Obj.srowShelf r) :
    u.noticeIn r lost = u.dirSet (((u.sk.dir.nss.filter (fun e => e.1 / 4096 = u.rw Obj.srowShelf r && e.2 = 2 - (if r < lost then 0 else 1))).map
      (fun e => DirEnt.ns (u.rw Obj.srowShelf r) (e.1 % 4096) (if r < lost then 0 else 1))) ++ u.rowEnts lost) :=
  if_neg (by simp [hmgr, hshelf])

/-! ### Moves: HANDOVER (R473) -/

section
variable {nss : List Nat}

theorem State.handoverIn_starts (hnone : u.sk.move = none) : u.handoverIn nss 1 =
    u.moveStart { nss := nss, since := u.clk.ns, mine := nss.all (fun n => (u.nsp n).owner ≠ u.skn.side)
                  theirs := nss.all (fun n => (u.nsp n).owner = u.skn.side) } := by
  simp only [State.handoverIn, hnone]

variable {m : Move} (hmove : u.sk.move = some m)
include hmove

theorem State.handoverIn_drained : u.handoverIn nss 2 =
    State.moveReady { u with sk := { u.sk with move := some { m with theirs := true } } } := by
  simp only [State.handoverIn, hmove]

theorem State.handoverIn_switched (hkeeper : u.keeper = false) : u.handoverIn nss 3 = u.moveSwitch := by
  simp only [State.handoverIn, hmove, hkeeper, Bool.false_eq_true, if_false]

theorem State.handoverIn_undone : u.handoverIn nss 0 = u.moveUndo 2 := by
  simp only [State.handoverIn, hmove]

end

end Sys2Proof.Machine

open Sys2Proof Sys2Proof.Machine

/-- Settles O38: every message through `exec_skein_ends` and the lemma of what it says. -/
theorem skeinMessageCommands : Obligations.SkeinMessageCommands := by
  unfold Obligations.SkeinMessageCommands
  refine ⟨fun s u h stage flags owned dirver hgets => ?heartbeat,
    fun s u v h digest hosts hgets hother hv => ⟨fun hdigest hmgr => ?join, fun hdigest hworker => ?joinNoted,
      fun hdigest hworker hrole => ?joinRefused⟩,
    fun s u t v h deputy version dir hgets hworker hmgr ht hv => ?welcome, fun s u t h hgets hother ht hdeputy => ?leave,
    fun s u h version dir hgets => ⟨fun hmgr => ?report, fun hworker hmgr => ?push⟩,
    fun s u t h version hgets hmgr hdeputy hversion hwaiting ht => ?ack,
    fun s u h row hgets hrole => ⟨fun n hheard => ?query, fun hheard => ?queryUnheard⟩,
    fun s u h row ms missing taken hgets hpartner hfrom => ⟨fun hst hopen => ?reply, fun hst => ?replyIsolated⟩,
    fun s u h cause hgets => exec_skein_ends (exec_takeoverRequest h cause s) hgets rfl,
    fun s u h lost adopted hgets hmgr hshelf => ?notice,
    fun s u h nss hpartner => ⟨fun hgets hnone => ?start, fun m hgets hmove => ?drained, fun m hgets hmove hkeeper => ?switched,
      fun m hgets hmove => ?undone⟩⟩
  case heartbeat =>
    exact exec_skein_ends (exec_heartbeat h stage flags owned dirver s) hgets (u.beatIn_eq h.row flags)
  case join =>
    exact exec_skein_ends (exec_joinMsg h digest hosts s) hgets (State.joinIn_welcomes hother hv h.role hosts hdigest hmgr)
  case joinNoted =>
    exact exec_skein_ends (exec_joinMsg h digest hosts s) hgets
      ((State.joinIn_of_other hother hv h.role hosts hworker).trans (if_neg (not_not_intro hdigest)))
  case joinRefused =>
    exact exec_skein_ends (exec_joinMsg h digest hosts s) hgets
      ((State.joinIn_of_other hother hv h.role hosts hworker).trans ((if_pos hdigest).trans (if_pos hrole)))
  case welcome =>
    exact exec_skein_ends (exec_welcome h deputy version dir s) hgets (State.welcomeIn_of_manager hworker hmgr ht hv)
  case leave => exact exec_skein_ends (exec_leaveMsg h s) hgets (State.leaveIn_of_other hother ht hdeputy)
  case report => exact exec_skein_ends (exec_dirUpdate h version dir s) hgets (State.dirUpdateIn_as_manager version dir hmgr)
  case push => exact exec_skein_ends (exec_dirUpdate h version dir s) hgets (State.dirUpdateIn_of_manager version dir hworker hmgr)
  case ack => exact exec_skein_ends (exec_dirAck h version s) hgets (State.dirAckIn_of_deputy hmgr hdeputy hversion hwaiting ht)
  case query => exact exec_skein_ends (exec_confirmQuery h row s) hgets (State.confirmQueryIn_of_heard hrole hheard)
  case queryUnheard => exact exec_skein_ends (exec_confirmQuery h row s) hgets (State.confirmQueryIn_of_unheard hrole hheard)
  case reply =>
    exact exec_skein_ends (exec_confirmReply h row missing ms taken s) hgets (State.confirmReplyIn_decides hpartner hfrom taken hst hopen)
  case replyIsolated =>
    exact exec_skein_ends (exec_confirmReply h row missing ms taken s) hgets (State.confirmReplyIn_of_isolated hpartner hfrom taken hst)
  case notice => exact exec_skein_ends (exec_takeoverNotice h lost adopted s) hgets (State.noticeIn_as_manager hmgr hshelf)
  case start =>
    exact exec_skein_ends (exec_handover h nss 1 s) hgets ((if_pos hpartner).trans (State.handoverIn_starts hnone))
  case drained =>
    exact exec_skein_ends (exec_handover h nss 2 s) hgets ((if_pos hpartner).trans (State.handoverIn_drained hmove))
  case switched =>
    exact exec_skein_ends (exec_handover h nss 3 s) hgets ((if_pos hpartner).trans (State.handoverIn_switched hmove hkeeper))
  case undone =>
    exact exec_skein_ends (exec_handover h nss 0 s) hgets ((if_pos hpartner).trans (State.handoverIn_undone hmove))
end

section
/-!
PROOFS. The skein's clock, takeovers and moves (R453, R456, R460, R467 to R469, R473, R474). The order in which a contest asks the positions
and what undoing a move leaves are the model's choices (log entries 40 and 41).
-/

namespace Sys2Proof.Machine

variable {s t : State}

/-! ### Heartbeats and views (R453, R460) -/

theorem State.beatOut_without_row (hrow : s.skn.row = none) : s.beatOut = s := if_pos (.inl hrow)

/-- The rows besides the partner that a device sends its heartbeats to: a manager to all, another to the manager and the deputy. -/
def State.beatRows (t : State) : List Nat :=
  if t.sk.role = 0 then t.skRows.filter (fun r => t.skn.row ≠ some r && t.skn.partner ≠ some r)
  else ([t.sk.mgr, t.sk.deputy].filter (fun r => r ≠ 0xFF && t.skn.row ≠ some r && t.skn.partner ≠ some r)).eraseDups

theorem State.beatOut_of_calm {u : State} {p r : Nat} (hrow : s.skn.row = some r) (h7 : s.inS7 = true) (hpartner : s.skn.partner = some p)
    (ht : t = s.skSend allPaths p s.beat) (hu : u = t.beatRows.foldl (fun v r => v.skSend [1, 2] r s.beat) t)
    (hheld : u.sk.tko.st ≠ 4) (hcontest : u.sk.tko.st ≠ 2) : s.beatOut = u := by
  subst ht
  refine (if_neg (by simp [hrow, h7])).trans ?_
  simp only [hpartner]
  rw [← State.beatRows, ← hu, if_neg hheld, if_neg fun h => hcontest h.1]

section
variable {r : Nat} (h7 : s.inS7 = true) (hin : s.skn.row ≠ none) (hown : s.skn.row ≠ some r) (hrow : s.skRows.contains r = true)
  (hother : s.skn.partner ≠ some r) (ht : t = (s.updSkRow r (fun x => { x with inView := false })).elect true)
  (hdeputy : s.sk.deputy ≠ r ∨ s.sk.role ≠ 0)
include h7 hin hown hrow hother ht hdeputy

/-- A silent row that is neither the partner nor the deputy leaves the view, and the directory where it was in it. -/
theorem State.viewExpiry_of_other (hstays : ((if (s.skRow r).inView then t.dirSet (t.rowEnts r) else t) : State).skn.partner ≠ some r) :
    s.viewExpiry r = if (s.skRow r).inView then t.dirSet (t.rowEnts r) else t := by
  have hkept : ¬ ((s.updSkRow r (fun x => { x with inView := false })).sk.deputy = r
      ∧ (s.updSkRow r (fun x => { x with inView := false })).sk.role = 0) := fun h => hdeputy.elim (· h.1) (· h.2)
  refine (if_neg ?_).trans ((if_neg fun h => hother h.1).trans ?_)
  · rintro (h | h | h | h)
    · exact ne_false_of_eq_true h7 h
    · exact hin h
    · exact hown h
    · exact ne_false_of_eq_true hrow h
  · dsimp only
    rw [if_neg hkept, ← ht, if_neg fun h => hstays h.1]

end

/-! ### The contest (R467 to R469) -/

theorem State.guardExpiry_contests {d : Nat} (hst : s.sk.tko.st = 1) (hdecided : s.sk.tko.decided = some d) :
    s.guardExpiry = s.contest := by
  simp only [State.guardExpiry, hst, hdecided, ne_eq, not_true_eq_false, if_false, Option.isSome_some, if_true]

theorem State.guardExpiry_isolates (hst : s.sk.tko.st = 1) (hopen : s.sk.tko.decided = none) (hmulti : s.multiShelf = true) :
    s.guardExpiry = ((s.setRole 3).updTko (fun k => { k with st := 4 })).ownNss.foldl (fun u n => u.later (.ana n))
      ((s.setRole 3).updTko (fun k => { k with st := 4 })) := by
  simp only [State.guardExpiry, hst, hopen, hmulti, ne_eq, not_true_eq_false, if_false, Option.isSome_none, Bool.false_eq_true, if_true]

theorem State.contest_starts {a : Nat} {l : List Nat} (hpos : s.contestPos = a :: l) : s.contest = (s.updTko (fun k => { k with
    st := 2, again := false, rest := l, asked := [a], ok := 0, none_ := 0, failed := 0 })).emit (.preempt a s.partnerKey) := by
  simp only [State.contest, hpos]

theorem State.contestLost_eq (s : State) : s.contestLost = ((((s.setRole 3).updTko (fun k => { k with
      st := 5, decided := none, rest := [], asked := [], again := false })).theirNss.foldl (fun u n => u.setAna 3 n)
    ((s.setRole 3).updTko (fun k => { k with st := 5, decided := none, rest := [], asked := [], again := false }))).later
      (.detect 0xD07 0 0 0)) := rfl

section
variable {pos : Nat} (solo : Nat) (recs : List JArg) (hst : s.sk.tko.st = 2) (hasked : s.sk.tko.asked.contains pos = true)
include hst hasked

theorem State.preemptDone_conflict : s.preemptDone pos 1 solo recs = s.contestLost := by
  simp only [State.preemptDone, hst, hasked, ne_eq, not_true_eq_false, Bool.true_eq_false, or_self, if_false, if_true]

variable (ht : t = s.updTko (fun k => { k with asked := k.asked.erase pos, ok := k.ok + 1 }))
include ht

/-- After a success the positions left are all asked; after the last answer the contest ends. -/
theorem State.preemptDone_success : s.preemptDone pos 0 solo recs =
    if s.sk.tko.rest ≠ [] then s.sk.tko.rest.foldl (fun u a => u.emit (.preempt a s.partnerKey))
      (t.updTko (fun k => { k with rest := [], asked := k.asked ++ k.rest }))
    else if s.sk.tko.asked.erase pos = [] then t.contestEnd solo recs else t := by
  subst ht
  exact if_neg (not_or.mpr ⟨not_not_intro hst, ne_false_of_eq_true hasked⟩)

theorem State.preemptDone_asks_rest (hrest : s.sk.tko.rest ≠ []) : s.preemptDone pos 0 solo recs =
    s.sk.tko.rest.foldl (fun u a => u.emit (.preempt a s.partnerKey)) (t.updTko (fun k => { k with rest := [], asked := k.asked ++ k.rest })) :=
  (State.preemptDone_success solo recs hst hasked ht).trans (if_pos hrest)

theorem State.preemptDone_last (hrest : s.sk.tko.rest = []) (hlast : s.sk.tko.asked.erase pos = []) :
    s.preemptDone pos 0 solo recs = t.contestEnd solo recs :=
  (State.preemptDone_success solo recs hst hasked ht).trans ((if_neg (not_not_intro hrest)).trans (if_pos hlast))

end

theorem State.anattExpiry_of_abandoned {d : Nat} (hst : s.sk.tko.st = 2) (hagain : s.sk.tko.again = true)
    (hdecided : s.sk.tko.decided = some d) : s.anattExpiry = s.theirNss.foldl (fun t n => t.setAna 3 n) s :=
  if_pos ⟨hst, hagain, hdecided ▸ rfl⟩

theorem State.anattExpiry_without_contest (hst : s.sk.tko.st ≠ 2) : s.anattExpiry = s := if_neg fun h => hst h.1

/-! ### Moves (R473) -/

theorem State.ownMoveOp_asks {n : Nat} (hok : s.moveOk = true) (hbolts : (s.nsp n).bolts ≠ 0) :
    s.ownMoveOp n = (s.actRun Obj.ownMove n).moveAsk [n] (some (Obj.ownMove, n)) 0 := if_neg (by simp [hok, hbolts])

theorem State.moveHomeOp_of_ok {l : List Nat} (hok : s.moveOk = true)
    (hl : l = (s.place.nss.filter (fun e => e.2.bolts ≠ 0 && e.2.owner ≠ s.rw Obj.ownHome e.1)).map (fun e => e.1)) :
    s.moveHomeOp = if l = [] then s.actDone Obj.ownMoveHome 0
      else (s.actRun Obj.ownMoveHome 0).moveAsk l (some (Obj.ownMoveHome, 0)) 0 := by
  subst hl
  exact if_neg (ne_false_of_eq_true hok)

section
variable {m : Move} (hmove : s.sk.move = some m)
include hmove

theorem State.moveDrainDone_of_drained (hwait : m.mine = false) (hdrained : s.moveDrained m = true)
    (ht : t = { s with sk := { s.sk with move := some { m with mine := true } } }) :
    s.moveDrainDone = if t.keeper then t.moveReady else t.handover m.nss 2 := by
  subst ht
  simp only [State.moveDrainDone, hmove, hwait, hdrained, Bool.false_eq_true, Bool.true_eq_false, or_self, if_false]

theorem State.moveTimeout_undoes : s.moveTimeout = (s.moveUndo 2).handover m.nss 0 := by
  simp only [State.moveTimeout, hmove]

end

/-! ### Leaving and rejoining (R456, R474) -/

theorem State.leaveOp_at_once (hrow : s.skn.row ≠ none) (hfree : s.skn.present = false ∨ s.ownNss = []) :
    s.leaveOp = (s.actDone Obj.sknLeave 0).sendLeave := (if_neg hrow).trans (if_pos hfree)

theorem State.leaveOp_moves (hrow : s.skn.row ≠ none) (hpresent : s.skn.present = true) (howns : s.ownNss ≠ []) (hok : s.moveOk = true) :
    s.leaveOp = (s.actRun Obj.sknLeave 0).moveAsk s.ownNss (some (Obj.sknLeave, 0)) 1 :=
  (if_neg hrow).trans ((if_neg (by simp [hpresent, howns])).trans (if_neg (ne_false_of_eq_true hok)))

theorem State.rejoinOp_of_row (hrow : s.skn.row ≠ none) : s.rejoinOp =
    ((State.joinSkein { s with sk := { s.sk with left := false } }).ownNss.foldl (fun v n => v.later (.ana n))
      (State.joinSkein { s with sk := { s.sk with left := false } })).actDone Obj.sknLeave 0 := if_neg hrow

end Sys2Proof.Machine

open Sys2Proof Sys2Proof.Machine

/-- Settles O39: heartbeats and views, the contest from its guard to its end, moves, and the device that leaves and rejoins. -/
theorem takeoverCommands : Obligations.TakeoverCommands := by
  unfold Obligations.TakeoverCommands
  refine ⟨fun s => ⟨fun hrow => ?noBeat, fun p r t u rs hrow h7 hpartner ht hrs hu hheld hcontest => ?beat⟩,
    fun s t r h7 hin hown hrow hother ht hdeputy hstays => ⟨fun hview hdir => ?view, fun hview => ?viewGone⟩,
    fun s hst => ⟨fun d hdecided => ?guard, fun hopen hmulti => ?isolated⟩,
    fun s t pos solo recs hst hasked ht => ⟨?conflict, fun hrest => ?asksRest, fun hrest hlast => ?last⟩,
    State.contestLost_eq, fun s a l hpos => State.contest_starts hpos, fun h ns => ?move, fun h l => ?moveHome,
    fun s t m hmove hwait hdrained ht => ?drained, fun s m hmove => ?timeout, fun h => ?leave, fun h => ?leaveMoves, fun h => ?rejoin,
    fun s => ⟨fun d hst hagain hdecided => ?anatt, fun hst => ?anattIdle⟩⟩
  case noBeat => exact exec_ends (exec_heartbeatPeriod s) (State.beatOut_without_row hrow)
  case beat =>
    subst hrs
    exact exec_ends (exec_heartbeatPeriod s) (State.beatOut_of_calm hrow h7 hpartner ht hu hheld hcontest)
  case view =>
    have hgone := State.viewExpiry_of_other h7 hin hown hrow hother ht hdeputy (by rwa [if_pos hview])
    exact exec_ends (exec_viewExpiry r s) (hgone.trans (if_pos hview))
  case viewGone =>
    have hout := ne_true_of_eq_false hview
    have hgone := State.viewExpiry_of_other h7 hin hown hrow hother ht hdeputy (by rwa [if_neg hout])
    exact exec_ends (exec_viewExpiry r s) (hgone.trans (if_neg hout))
  case guard => exact exec_ends (exec_guardExpiry s) (State.guardExpiry_contests hst hdecided)
  case isolated => exact exec_ends (exec_guardExpiry s) (State.guardExpiry_isolates hst hopen hmulti)
  case conflict =>
    exact exec_ends (exec_takeoverPreemptDone pos 1 solo recs s) (State.preemptDone_conflict solo recs hst hasked)
  case asksRest =>
    exact exec_ends (exec_takeoverPreemptDone pos 0 solo recs s) (State.preemptDone_asks_rest solo recs hst hasked ht hrest)
  case last =>
    exact exec_ends (exec_takeoverPreemptDone pos 0 solo recs s) (State.preemptDone_last solo recs hst hasked ht hrest hlast)
  case move =>
    exact ActionRuns.of_actionReq _ (exec_ownMove h ns) fun _ ⟨hok, hbolts⟩ => State.ownMoveOp_asks hok hbolts
  case moveHome =>
    exact ActionRuns.of_actionReq _ (exec_ownMoveHome h) fun _ ⟨hok, hl⟩ => State.moveHomeOp_of_ok hok hl
  case drained => exact exec_ends (exec_moveDrainDone s) (State.moveDrainDone_of_drained hmove hwait hdrained ht)
  case timeout => exact exec_ends (exec_moveTimeout s) (State.moveTimeout_undoes hmove)
  case leave => exact ActionRuns.of_actionReq _ (exec_sknLeave h) fun _ ⟨hrow, hfree⟩ => State.leaveOp_at_once hrow hfree
  case leaveMoves =>
    exact ActionRuns.of_actionReq _ (exec_sknLeave h) fun _ ⟨hrow, hpresent, howns, hok⟩ =>
      State.leaveOp_moves hrow hpresent howns hok
  case rejoin => exact ActionRuns.of_actionReq _ (exec_sknRejoin h) fun _ hrow => State.rejoinOp_of_row hrow
  case anatt => exact exec_ends (exec_anattExpiry s) (State.anattExpiry_of_abandoned hst hagain hdecided)
  case anattIdle => exact exec_ends (exec_anattExpiry s) (State.anattExpiry_without_contest hst)
end

section
/-!
PROOFS. The twin link (R461 to R466). That a frame out of sequence, and one that is resent, has no other effect is the model's choice (log
entries 39 and 41).
-/

namespace Sys2Proof.Machine

variable {s : State}

/-! ### The link comes up and goes down (R461, R464) -/

/-- The link comes up with eight lanes, or four and an event. -/
theorem State.twinLinkUp_of_ready {lanes : Nat} (h7 : s.inS7 = true) (hhold : s.boot.hold = false) (hon : (Tbl.get {} s.pd 8).st = .on)
    (hfence : s.isFenced 1 8 = false) (hdown : s.sk.twin.st < 2) (hlanes : lanes = 8 ∨ lanes = 4) :
    s.twinLinkUp lanes =
      let u := s.setTwin { s.sk.twin with st := if lanes = 8 then 2 else 3, held := false }
      (if lanes = 4 then u.note 0xD02 1 8 0 0 else u).sendPair :=
  if_neg (by simp [h7, hhold, hon, hfence, hdown, hlanes])

theorem State.twinDown_of_up (hup : 2 ≤ s.sk.twin.st) : s.twinDown = (((s.setTwin { s.sk.twin with
    st := 1, paired := false, replay := [], queue := [], resends := [], nakSent := false }).addCnt 32 Obj.twinDowns 0 1).note
      0xD01 1 8 0 0).toSolo := if_neg (Nat.not_lt.mpr hup)

theorem State.twinDown_of_down (hdown : s.sk.twin.st < 2) : s.twinDown = s := if_pos hdown

/-! ### PAIR (R466) -/

/-- A link that is up and not held takes what comes. -/
theorem State.twin_takes (hup : 2 ≤ s.sk.twin.st) (hheld : s.sk.twin.held = false) : ¬ (s.sk.twin.st < 2 ∨ s.sk.twin.held = true) :=
  not_or.mpr ⟨Nat.not_lt.mpr hup, ne_true_of_eq_false hheld⟩

/-- Until it has paired it takes a PAIR. -/
theorem State.twin_takes_pair (hup : 2 ≤ s.sk.twin.st) (hheld : s.sk.twin.held = false) (hnew : s.sk.twin.paired = false) :
    ¬ (s.sk.twin.st < 2 ∨ s.sk.twin.held = true ∨ s.sk.twin.paired = true) :=
  not_or.mpr ⟨Nat.not_lt.mpr hup, not_or.mpr ⟨ne_true_of_eq_false hheld, ne_true_of_eq_false hnew⟩⟩

section
variable {h : TwHdr} {dev side ceiling : Nat} {region : Bool} (hup : 2 ≤ s.sk.twin.st) (hheld : s.sk.twin.held = false)
  (hnew : s.sk.twin.paired = false)
include hup hheld hnew

theorem State.pairIn_damaged (hcrc : h.crcOk = false) :
    s.pairIn h dev side region ceiling = (s.addCnt 64 Obj.twinCrcErrors 0 1).twinNakOnce :=
  (if_neg (State.twin_takes_pair hup hheld hnew)).trans (if_pos hcrc)

variable {p : Nat} (hcrc : h.crcOk = true) (hseq : h.seq = 0) (hpartner : s.skn.partner = some p)
include hcrc hseq hpartner

theorem State.pairIn_of_stranger (hdev : s.rw Obj.srowDeviceId p ≠ dev) : s.pairIn h dev side region ceiling =
    (s.setTwin { s.sk.twin with st := 0, held := true, replay := [], queue := [] }).note 0xD03 1 8 0 0 := by
  refine (if_neg (State.twin_takes_pair hup hheld hnew)).trans ((if_neg (ne_false_of_eq_true hcrc)).trans ((if_neg (not_not_intro hseq)).trans ?_))
  simp only [hpartner, if_neg hdev]

/-- The partner has not restarted since the link was last paired, nor has this device: what each holds for the other is dropped, or opened
again. -/
theorem State.pairIn_again {t u : State} (hdev : s.rw Obj.srowDeviceId p = dev) (hepoch : s.sk.twin.lastEpoch = some h.epoch)
    (hown : s.sk.twin.ownEpoch = some (s.cntAt Obj.bootEpoch 0))
    (ht : t = ((((s.setTwin { s.sk.twin with
          paired := true, rx := 1, nakSent := false, lastEpoch := some h.epoch
          ownEpoch := some (s.cntAt Obj.bootEpoch 0) }).setCnt Obj.twinPartnerId 0 dev).setCnt Obj.twinPartnerEpoch 0 h.epoch).twinAcked
            h.ack h.credit).hearPartner)
    (hu : u = { t with
          sk := { t.sk with ceiling := ceiling }, hoop := { t.hoop with regionBytes := ceiling * mib, region := [] }
          jour := { t.jour with partner := [] } }) :
    s.pairIn h dev side region ceiling = if region = false then u.giveUpFrames.startResync else u.framesBack.startResync := by
  have hsame : ¬ s.sk.twin.lastEpoch ≠ some h.epoch := not_not_intro hepoch
  subst hu ht
  refine (if_neg (State.twin_takes_pair hup hheld hnew)).trans ((if_neg (ne_false_of_eq_true hcrc)).trans ((if_neg (not_not_intro hseq)).trans ?_))
  simp only [hpartner, if_pos hdev, if_neg hsame, if_pos hown]

end

/-! ### Acknowledgment, credit and resends (R462 to R464) -/

section
variable {h : TwHdr} (hup : 2 ≤ s.sk.twin.st) (hheld : s.sk.twin.held = false)
include hup hheld

theorem State.twinIdleIn_served : s.twinIdleIn h =
    if h.crcOk = false then s.addCnt 64 Obj.twinCrcErrors 0 1 else (s.twinAcked h.ack h.credit).hearPartner :=
  if_neg (State.twin_takes hup hheld)

theorem State.twinNakIn_served (hcrc : h.crcOk = true) : s.twinNakIn h = ((s.twinAcked h.ack h.credit).hearPartner).twinResend :=
  (if_neg (State.twin_takes hup hheld)).trans (if_neg (ne_false_of_eq_true hcrc))

theorem State.twinIdleTimer_served : s.twinIdleTimer = s.emit (.twinIdle s.sk.twin.rx) := if_neg (State.twin_takes hup hheld)

/-- A frame of a paired link that is not the one expected is answered by one NAK and has no effect of its own. -/
theorem State.twinIn_of_gap (f : State → State) (hcrc : h.crcOk = true) (hgap : h.seq ≠ s.sk.twin.rx) : s.twinIn h f = s.twinNakOnce :=
  (if_neg (State.twin_takes hup hheld)).trans ((if_neg (ne_false_of_eq_true hcrc)).trans (if_pos (.inr hgap)))

end

theorem State.twinNakOnce_first (hfirst : s.sk.twin.nakSent = false) :
    s.twinNakOnce = (s.setTwin { s.sk.twin with nakSent := true }).emit (.twinNak s.sk.twin.rx) := if_neg (ne_true_of_eq_false hfirst)

theorem State.twinNakOnce_again (hsent : s.sk.twin.nakSent = true) : s.twinNakOnce = s := if_pos hsent

theorem State.twinResend_nothing (hempty : s.sk.twin.replay = []) : s.twinResend = s := if_pos (.inl hempty)

/-- Every frame not yet acknowledged goes out again; the sixteenth resend of one takes the link down. -/
theorem State.twinResend_all {v : State} (hsome : s.sk.twin.replay ≠ []) (hup : 2 ≤ s.sk.twin.st)
    (hv : v = s.sk.twin.replay.foldl (fun v e => v.emit (.twin e.1 s.sk.twin.rx (s.cntAt Obj.bootEpoch 0) e.2))
      ((s.setTwin { s.sk.twin with resends := s.sk.twin.resent }).addCnt 64 Obj.twinReplays 0 s.sk.twin.replay.length)) :
    s.twinResend = if s.sk.twin.resent.any (fun e => decide (16 ≤ e.2)) then v.twinDown else v := by
  subst hv
  exact if_neg (by simp [hsome, Nat.not_lt.mpr hup])

/-- The frames of the twin link that carry a message to act on. -/
theorem exec_eq_twinIn {i : Instr} {h : TwHdr} (hi : (∃ l, i = .mirrorAck h l) ∨ (∃ l, i = .mirrorRelease h l)
      ∨ (∃ l, i = .journalFrame h l) ∨ i = .vaultNotice h ∨ (∃ m, i = .keeperFrame h m) ∨ (∃ t st d, i = .proxyCpl h t st d)) :
    ∃ f, ∀ s, exec i s = s.act (fun t => t.twinIn h f) := by
  rcases hi with ⟨l, rfl⟩ | ⟨l, rfl⟩ | ⟨l, rfl⟩ | rfl | ⟨m, rfl⟩ | ⟨t, st, d, rfl⟩
  · exact ⟨_, exec_mirrorAck h l⟩
  · exact ⟨_, exec_mirrorRelease h l⟩
  · exact ⟨_, exec_journalFrame h l⟩
  · exact ⟨_, exec_vaultNotice h⟩
  · exact ⟨_, exec_keeperFrame h m⟩
  · exact ⟨_, exec_proxyCpl h t st d⟩

end Sys2Proof.Machine

open Sys2Proof Sys2Proof.Machine

/-- Settles O40: the link's ends, PAIR by who sends it, then acknowledgments, resends and the frames out of sequence. -/
theorem twinLinkCommands : Obligations.TwinLinkCommands := by
  unfold Obligations.TwinLinkCommands
  refine ⟨fun s h7 hhold hon hfence hdown => ⟨?up8, ?up4⟩, fun s => ⟨fun hup => ?down, fun hdown => ?downAlready⟩,
    fun s h dev side ceiling region hup hheld hnew => ⟨fun hcrc => ?damaged, fun p hcrc hseq hpartner hdev => ?stranger,
      fun p t u hcrc hseq hpartner hdev hepoch hown ht hu => ?paired⟩,
    fun s h hup hheld => ⟨fun hcrc => ?idle, fun hcrc => ?idleDamaged, fun hcrc => ?nak, ?idleTimer⟩,
    fun s v hsome hup hv => ⟨fun hfew => ?resend, fun hmany => ?lastResend⟩, fun s hempty => ?nothing,
    fun s h i hi hup hheld hcrc hpaired hgap => ?gap⟩
  case up8 => exact exec_ends (exec_twinLinkUp 8 s) (State.twinLinkUp_of_ready h7 hhold hon hfence hdown (.inl rfl))
  case up4 => exact exec_ends (exec_twinLinkUp 4 s) (State.twinLinkUp_of_ready h7 hhold hon hfence hdown (.inr rfl))
  case down => exact exec_ends (exec_twinLinkDown s) (State.twinDown_of_up hup)
  case downAlready => exact exec_ends (exec_twinLinkDown s) (State.twinDown_of_down hdown)
  case damaged => exact exec_ends (exec_pair h dev side region ceiling s) (State.pairIn_damaged hup hheld hnew hcrc)
  case stranger =>
    exact exec_ends (exec_pair h dev side region ceiling s) (State.pairIn_of_stranger hup hheld hnew hcrc hseq hpartner hdev)
  case paired =>
    exact exec_ends (exec_pair h dev side region ceiling s)
      (State.pairIn_again hup hheld hnew hcrc hseq hpartner hdev hepoch hown ht hu)
  case idle => exact exec_ends (exec_twinIdle h s) ((State.twinIdleIn_served hup hheld).trans (if_neg (ne_false_of_eq_true hcrc)))
  case idleDamaged => exact exec_ends (exec_twinIdle h s) ((State.twinIdleIn_served hup hheld).trans (if_pos hcrc))
  case nak => exact exec_ends (exec_twinNak h s) (State.twinNakIn_served hup hheld hcrc)
  case idleTimer => exact exec_ends (exec_twinIdleTimer s) (State.twinIdleTimer_served hup hheld)
  case resend =>
    exact exec_ends (exec_twinAckTimeout s) ((State.twinResend_all hsome hup hv).trans (if_neg (ne_true_of_eq_false hfew)))
  case lastResend => exact exec_ends (exec_twinAckTimeout s) ((State.twinResend_all hsome hup hv).trans (if_pos hmany))
  case nothing => exact exec_ends (exec_twinAckTimeout s) (State.twinResend_nothing hempty)
  case gap =>
    obtain ⟨f, hf⟩ := exec_eq_twinIn hi
    have hnak : s.twinIn h f = s.twinNakOnce := State.twinIn_of_gap hup hheld f hcrc hgap
    exact ⟨fun hfirst => exec_ends (hf s) (hnak.trans (State.twinNakOnce_first hfirst)),
      fun hsent => exec_ends (hf s) (hnak.trans (State.twinNakOnce_again hsent))⟩
end

section
/-!
PROOFS. Firmware slots (R493 to R497, R503). That `fwu.data` writes over what was written before is the model's choice (log entry 42).
-/

namespace Sys2Proof.Machine

variable {s : State}

/-! ### Erasing (R495, R503) -/

theorem State.fwuBegin_of_settled (h : s.boot.isTrial = false) :
    s.fwuBegin = ((s.updFw (1 - s.boot.running) (fun _ => {})).setCnt Obj.fwuState 0 1).actRun Obj.fwuBegin 0 :=
  if_neg (ne_true_of_eq_false h)

theorem State.fwuBegin_on_trial (h : s.boot.isTrial = true) : s.fwuBegin = s.actFail Obj.fwuBegin 0 1 := if_pos h

theorem State.fwuErased_of_erasing (h : s.cntAt Obj.fwuState 0 = 1) :
    s.fwuErased = (s.setCnt Obj.fwuState 0 2).actDone Obj.fwuBegin 0 := if_neg (not_not_intro h)

/-- The end of the erase hands the writes that waited to the state in which data is received. -/
theorem State.eraseDone_of_erasing {t : State} (hst : s.cntAt Obj.fwuState 0 = 1)
    (ht : t = (s.setCnt Obj.fwuState 0 2).actDone Obj.fwuBegin 0) :
    s.eraseDone = State.fwResume s.boot.fwWait { t with boot := { t.boot with fwWait := [] } } := by
  subst ht
  rw [State.eraseDone, State.fwuErased_of_erasing hst]
  rfl

theorem State.eraseDone_without_writes (hst : s.cntAt Obj.fwuState 0 = 1) (hwait : s.boot.fwWait = []) :
    s.eraseDone = (s.setCnt Obj.fwuState 0 2).actDone Obj.fwuBegin 0 := by
  rw [State.eraseDone_of_erasing hst rfl, hwait, State.fwResume, ← hwait]
  rfl

/-! ### Data (R495, R503) -/

section
variable {v : Nat} {b : Bytes} (hhex : hexBytes (decStr v) = some b) (hsome : b ≠ [])
include hhex hsome

theorem State.fwuStore_receiving {o : Nat} (hst : s.cntAt Obj.fwuState 0 = 2) (ho : o = s.rw Obj.fwuOffset 0)
    (hfits : o + b.length ≤ fwSlotBytes) : s.fwuStore v =
      ((s.updFw (1 - s.boot.running) (fun x => { x with factory := false, image := storeBytes x.image o b })).setRw Obj.fwuOffset 0
        (o + b.length), 0) := by
  subst ho
  simp only [State.fwuStore, hhex, hsome, hst, Nat.not_lt.mpr hfits, ne_eq, not_true_eq_false, or_self, if_false, State.inactive]

theorem State.fwuStore_refused (h : s.cntAt Obj.fwuState 0 ≠ 2 ∨ fwSlotBytes < s.rw Obj.fwuOffset 0 + b.length) :
    s.fwuStore v = (s, 0x07) := by
  simp only [State.fwuStore, hhex, if_neg hsome, if_pos h]

end

theorem State.writeValue_fwuData (x : Session) (v : Nat) (h : s.cntAt Obj.fwuState 0 ≠ 1) :
    s.writeValue x Obj.fwuData 0 v = some (s.fwuStore v) := (if_pos rfl).trans (if_neg h)

theorem State.writeValue_fwuData_erasing (x : Session) (v : Nat) (h : s.cntAt Obj.fwuState 0 = 1) :
    s.writeValue x Obj.fwuData 0 v = none := (if_pos rfl).trans (if_pos h)

/-- A body of one item whose value has to wait is left whole. -/
theorem State.writeItems_one_waits {x : Session} {i : Item} {code row v : Nat} (htgt : s.writeTarget x i = (0, code, row, v))
    (hwait : s.writeValue x code row v = none) : State.writeItems x [i] s [] = (s, [], [i]) := by
  simp [State.writeItems, htgt, hwait]

section
variable {h : Hdr} {value : Bytes} {r v : Nat} {x : Session} {u : State}
  (htake : s.takes h 0x09 (encItems [itemFor Obj.fwuData 0 value]) r x) (hu : u = s.accepted h r x)
  (htgt : u.writeTarget x (itemFor Obj.fwuData 0 value) = (0, Obj.fwuData, 0, v))
include htake hu htgt

theorem exec_fwuData_receiving {b : Bytes} {o : Nat} (hst : u.cntAt Obj.fwuState 0 = 2) (hhex : hexBytes (decStr v) = some b) (hsome : b ≠ [])
    (ho : o = u.rw Obj.fwuOffset 0) (hfits : o + b.length ≤ fwSlotBytes) :
    exec (.fwuData h value) s = .next (Ends s (State.finish
      ((u.updFw (1 - u.boot.running) (fun x => { x with factory := false, image := storeBytes x.image o b })).setRw Obj.fwuOffset 0
        (o + b.length)) h 0x09 x (itemsReply [answer (itemFor Obj.fwuData 0 value) {}]))) := by
  subst hu
  have hvalue := State.writeValue_fwuData (s := s.accepted h r x) x v (by rw [hst]; decide)
  rw [State.fwuStore_receiving hhex hsome hst ho hfits] at hvalue
  have hone := State.writeItems_one htgt hvalue
  refine exec_ends (exec_fwuData h value s) (State.request_answered htake ?_)
  simp only [hone]
  rfl

theorem exec_fwuData_erasing (hst : u.cntAt Obj.fwuState 0 = 1) : exec (.fwuData h value) s = .next (Ends s { u with boot := { u.boot with
    fwWait := u.boot.fwWait ++ [{ hdr := h, session := x, done := [], rest := [itemFor Obj.fwuData 0 value] }] } }) := by
  subst hu
  have hone := State.writeItems_one_waits htgt (State.writeValue_fwuData_erasing x v hst)
  refine exec_ends (exec_fwuData h value s) (State.request_deferred htake ?_)
  simp only [hone]
  rfl

end

/-! ### Verification, the trial and the rollback number (R493, R495, R497) -/

section
variable {a b c : Bool} {e : Nat} (he : e = (if a = false then 3 else if b = false then 4 else if c = false then 5 else 0))
include he

theorem State.fwuVerify_eq (s : State) : s.fwuVerify a b c =
    let f := s.fwCheck (1 - s.boot.running) e
    let t := s.updFw (1 - s.boot.running) (fun x => { x with fail := f })
    if f = 0 then (t.setCnt Obj.fwuState 0 4).actDone Obj.fwuVerify 0 else (t.setCnt Obj.fwuState 0 6).actFail Obj.fwuVerify 0 f := by
  subst he
  rfl

theorem State.fwuVerify_valid (h : s.fwCheck (1 - s.boot.running) e = 0) : s.fwuVerify a b c =
    ((s.updFw (1 - s.boot.running) (fun x => { x with fail := 0 })).setCnt Obj.fwuState 0 4).actDone Obj.fwuVerify 0 := by
  simp only [State.fwuVerify_eq he, h, if_true]

theorem State.fwuVerify_failed {f : Nat} (hbad : f ≠ 0) (h : s.fwCheck (1 - s.boot.running) e = f) : s.fwuVerify a b c =
    ((s.updFw (1 - s.boot.running) (fun x => { x with fail := f })).setCnt Obj.fwuState 0 6).actFail Obj.fwuVerify 0 f := by
  simp only [State.fwuVerify_eq he, h, if_neg hbad]

end

theorem State.fwuActivate_verified (h : s.cntAt Obj.fwuState 0 = 4) : s.fwuActivate =
    (State.setCnt { s with boot := { s.boot with trial := some (1 - s.boot.running, false) } } Obj.fwuState 0 5).actDone
      Obj.fwuActivate 0 := if_neg (not_not_intro h)

theorem State.fwuConfirm_on_trial (h : s.boot.isTrial = true) : s.fwuConfirm =
    State.actDone { s with boot := { s.boot with active := s.boot.running, trial := none, isTrial := false } } Obj.fwuConfirm 0 := if_pos h

theorem State.fwuConfirm_of_settled (h : s.boot.isTrial = false) : s.fwuConfirm = s.actFail Obj.fwuConfirm 0 1 :=
  if_neg (ne_true_of_eq_false h)

theorem State.fwuTrialOver_confirms (htrial : s.boot.isTrial = true) (h7 : s.inS7 = true) (htime : s.rw Obj.fwuTrialConfirm 0 ≠ 0)
    (hwd : s.boot.wdSeen = false) : s.fwuTrialOver =
      { s with boot := { s.boot with active := s.boot.running, trial := none, isTrial := false } } := if_pos ⟨htrial, h7, htime, hwd⟩

theorem State.fwuRaise_burns (h : s.boot.isTrial = false) : s.fwuRaise true =
    State.actDone { s with boot := { s.boot with otpSvn := (s.fwSlot s.boot.running).svn } } Obj.fwuRaiseSvn 0 :=
  if_neg (ne_true_of_eq_false h)

theorem State.fwuRaise_without_cells (h : s.boot.isTrial = false) : s.fwuRaise false = s.actFail Obj.fwuRaiseSvn 0 2 :=
  if_neg (ne_true_of_eq_false h)

end Sys2Proof.Machine

open Sys2Proof Sys2Proof.Machine

/-- Settles O44: each action on a slot in the state it acts in, and data as it is stored or waits. -/
theorem firmwareCommands : Obligations.FirmwareCommands := by
  unfold Obligations.FirmwareCommands
  refine ⟨fun h => ?begin_, fun h => ?beginRefused, fun s hwait hst => ?erased,
    fun s h value r v x u htake hu htgt => ⟨fun b o hst hhex hsome ho hfits => ?stored, fun hst => ?waits⟩,
    fun h a b c e he => ?valid, fun h a b c e f he hbad => ?invalid, fun h => ?activate, fun h => ?confirm, fun h => ?confirmRefused,
    fun s htrial h7 htime hwd => ?trialOver, fun h => ?raise, fun h => ?raiseRefused⟩
  case begin_ => exact ActionRuns.of_actionReq _ (exec_fwuBegin h) fun _ hok => State.fwuBegin_of_settled hok
  case beginRefused => exact ActionRuns.of_actionReq _ (exec_fwuBegin h) fun _ hok => State.fwuBegin_on_trial hok
  case erased => exact exec_ends (exec_fwuEraseDone s) (State.eraseDone_without_writes hst hwait)
  case stored => exact exec_fwuData_receiving htake hu htgt hst hhex hsome ho hfits
  case waits => exact exec_fwuData_erasing htake hu htgt hst
  case valid => exact ActionRuns.of_actionReq _ (exec_fwuVerify h a b c) fun _ hok => State.fwuVerify_valid he hok
  case invalid => exact ActionRuns.of_actionReq _ (exec_fwuVerify h a b c) fun _ hok => State.fwuVerify_failed he hbad hok
  case activate => exact ActionRuns.of_actionReq _ (exec_fwuActivate h) fun _ hok => State.fwuActivate_verified hok
  case confirm => exact ActionRuns.of_actionReq _ (exec_fwuConfirm h) fun _ hok => State.fwuConfirm_on_trial hok
  case confirmRefused => exact ActionRuns.of_actionReq _ (exec_fwuConfirm h) fun _ hok => State.fwuConfirm_of_settled hok
  case trialOver => exact exec_ends (exec_fwuTrialConfirmExpiry s) (State.fwuTrialOver_confirms htrial h7 htime hwd)
  case raise => exact ActionRuns.of_actionReq _ (exec_fwuRaiseSvn h true) fun _ hok => State.fwuRaise_burns hok
  case raiseRefused => exact ActionRuns.of_actionReq _ (exec_fwuRaiseSvn h false) fun _ hok => State.fwuRaise_without_cells hok

/-- Settles O60: what the store refuses, then the write that waits for the erase and goes on after it. -/
theorem firmwareDataConditions : Obligations.FirmwareDataConditions := by
  unfold Obligations.FirmwareDataConditions
  refine ⟨fun s x v b hhex hsome => ⟨fun hnot1 hnot2 => ?closed, fun hst hpast => ?pastEnd, State.writeValue_fwuData_erasing x v⟩,
    fun s u h value r v x htake hu htgt hst => exec_fwuData_erasing htake hu htgt hst, fun s t w l hst hwait ht => ?resumed⟩
  case closed => rw [State.writeValue_fwuData x v hnot1, State.fwuStore_refused hhex hsome (.inl hnot2)]
  case pastEnd =>
    have hnot1 : s.cntAt Obj.fwuState 0 ≠ 1 := by rw [hst]; decide
    rw [State.writeValue_fwuData x v hnot1, State.fwuStore_refused hhex hsome (.inr hpast)]
  case resumed => exact exec_ends (exec_fwuEraseDone s) (hwait ▸ State.eraseDone_of_erasing hst ht)
end

section
/-!
PROOFS. Self-management (R504, R505, R507 to R511, R515 to R517, R527, R528). That 0x103 is raised at each pass for each invalid sensor, and that
a pass polls the Skamo die and restarts the watchdogs, is the model's choice (log entry 43); the detail of 0xE03 is log entry 29.
-/

namespace Sys2Proof.Machine

variable {s : State}

/-! ### The safety pass and its deadline (R504, R507 to R511, R516) -/

theorem State.pollSilent_begins (h : s.boot.silentAt = none) :
    s.pollSilent = { s with boot := { s.boot with silentAt := some (s.clk.sk - 100000000) } } :=
  if_neg (by simp [h])

section
variable {a b c d : State} {sensors : List Int} {watts : Nat} {tj : Option Int} (hot : Bool) (idle : List Nat) (busyE busyG : Bool)
  (hstage : 3 ≤ s.cntAt Obj.bootStage 0) (hrun : s.cntAt Obj.bootHalted 0 = 0) (ha : a = s.pollBack.throttleNoted)
  (hb : b = (List.range (sensors.filter (fun t => !sensorOk sensors t)).length).foldl (fun t _ => t.later (.detect 0x103 0 0 0)) a)
  (htj : tj = maxInt (sensors.filter (sensorOk sensors)))
  (hc : c = { b with boot := { b.boot with
    tj := tj, watts := watts, therm := b.thermLoop tj, power := b.powerLoop watts, forced := false, wdOnce := [] } })
  (hd : d = (c.setCnt Obj.thermSensors 0 (sensors.zipIdx.foldl (fun m e => if sensorOk sensors e.1 then orBit m e.2 else m) 0)).levelMoved
    s.level)
include hstage hrun ha hb htj hc hd

/-- A safety pass once bring-up has reached S3: after the levels have moved the hot die is reported, the loop sheds and grants are given. -/
theorem State.safetyPass_runs : s.safetyPass sensors watts hot idle busyE busyG =
    ((if hot && tj.any (fun t => decide (123 ≤ t)) then d.later (.detect 0x102 0 0 0) else d).shedStep idle busyE busyG).grants := by
  subst hd hc htj hb ha
  refine (if_neg (by omega)).trans ?_
  cases maxInt (sensors.filter (sensorOk sensors)) <;> rfl

theorem State.safetyPass_cool : s.safetyPass sensors watts false idle busyE busyG = (d.shedStep idle busyE busyG).grants :=
  State.safetyPass_runs false idle busyE busyG hstage hrun ha hb htj hc hd

theorem State.safetyPass_hot {t : Int} (hsome : tj = some t) (hlimit : 123 ≤ t) : s.safetyPass sensors watts true idle busyE busyG =
    ((d.later (.detect 0x102 0 0 0)).shedStep idle busyE busyG).grants := by
  rw [State.safetyPass_runs true idle busyE busyG hstage hrun ha hb htj hc hd, if_pos]
  simpa [hsome] using hlimit

end

theorem State.level_of_forced (h : s.boot.forced = true) : s.level = 8 := if_pos h

theorem State.deadline_forces {t : State} (ht : t = { s.throttleNoted with boot := { s.throttleNoted.boot with forced := true } }) :
    s.deadline = (t.later (.detect 0xE07 0 0 0)).levelMoved s.level := by
  subst ht
  rfl

/-! ### Watchdogs and telemetry (R505, R515) -/

theorem State.watchdog_before_s3 (core : Nat) (hstage : s.cntAt Obj.bootStage 0 < 3) : s.watchdog core = s := if_pos (.inr hstage)

section
variable {t : State} {core : Nat} (hcore : core < 4) (hstage : 3 ≤ s.cntAt Obj.bootStage 0)
  (ht : t = { s.addCnt 32 Obj.wdExpiries 0 1 with boot := { s.boot with wdSeen := true } })
include hcore hstage ht

theorem State.watchdog_once (honce : s.boot.wdOnce.contains core = false) : s.watchdog core =
    State.later { t with boot := { t.boot with wdOnce := t.boot.wdOnce ++ [core] } } (.detect 0xE03 0 0 core) := by
  subst ht
  exact (if_neg (by omega)).trans (if_neg (ne_true_of_eq_false honce))

theorem State.watchdog_twice (htwice : s.boot.wdOnce.contains core = true) : s.watchdog core = t.drainFor 5 false := by
  subst ht
  exact (if_neg (by omega)).trans (if_pos htwice)

end

theorem State.telemetry_publishes {t : State} {loads : List Nat} {lag f99 : Nat} (r99 : Nat)
    (ht : t = (((List.range 6).foldl (fun u r => u.setCnt Obj.thmLoad r (min 100 (loads.getD r 0))) s).setCnt Obj.thmTelemetryLag 0
      (lag % 2 ^ 32)).setCnt Obj.ordFlushP99 0 (f99 % 2 ^ 32)) :
    s.telemetry loads lag f99 r99 = { t with darn := { t.darn with p99 := r99 } } := by
  subst ht
  rfl

/-! ### Injection (R527, R528) -/

theorem State.injDetail_disabled (det row : Nat) (h : s.rw Obj.injEnable 0 = 0) : s.injDetail det row = 1 := if_pos h

/-- The state with no injection of the point under way. -/
def State.withoutInj (s : State) (det row : Nat) : State :=
  { s with ev := { s.ev with inj := s.ev.inj.filter (fun j => !(j.det = det && j.row = row)) } }

/-- The state with an injection of the point that has `left` occurrences to come. -/
def State.withInj (s : State) (det row left : Nat) : State :=
  { s with ev := { s.ev with inj := s.ev.inj ++ [({ det := det, row := row, left := left } : InjRun)] } }

theorem State.actInject_of_count {n : Nat} (det row : Nat) (hlo : 1 ≤ n) (hhi : n ≤ 255) :
    s.actInject det row n = (s.injectOp det row n, 0) := if_pos ⟨hlo, hhi⟩

section
variable {det row n : Nat}

theorem State.injectOp_refused {d : Nat} (hd : d ≠ 0) (hdetail : s.injDetail det row = d) :
    s.injectOp det row n = s.actFail (injCode det) row d := by
  subst hdetail
  simp only [State.injectOp, hd, ne_eq, not_false_eq_true, if_true]

section
variable (hdetail : s.injDetail det row = 0) (hfree : s.ev.inj.any (fun i => i.det = det && i.row = row) = false)
include hdetail hfree

/-- An injection that passes the checks fires now; what is left of it waits for the later occurrences. -/
theorem State.injectOp_fires : s.injectOp det row n =
    (if n = 1 then s.actDone (injCode det) row else (s.withInj det row (n - 1)).actRun (injCode det) row).injFire det row := by
  simp only [State.injectOp, hdetail, hfree, ne_eq, not_true_eq_false, if_false, Bool.false_eq_true, State.withInj]

theorem State.injectOp_repeats (hmany : 1 < n) :
    s.injectOp det row n = ((s.withInj det row (n - 1)).actRun (injCode det) row).injFire det row := by
  rw [State.injectOp_fires hdetail hfree, if_neg hmany.ne']

theorem State.injectOp_once : s.injectOp det row 1 = (s.actDone (injCode det) row).injFire det row := by
  rw [State.injectOp_fires hdetail hfree, if_pos rfl]

end

section
variable {i : InjRun} (hrun : s.ev.inj.find? (fun i => i.det = det && i.row = row) = some i)
include hrun

theorem State.injNext_of_run : s.injNext det row =
    if s.injDetail det row ≠ 0 then (s.withoutInj det row).actFail (injCode det) row (s.injDetail det row)
    else if i.left ≤ 1 then ((s.withoutInj det row).actDone (injCode det) row).injFire det row
    else ((s.withoutInj det row).withInj det row (i.left - 1)).injFire det row := by
  simp only [State.injNext, hrun, State.withoutInj, State.withInj]

theorem State.injNext_last (hdetail : s.injDetail det row = 0) (hlast : i.left ≤ 1) :
    s.injNext det row = ((s.withoutInj det row).actDone (injCode det) row).injFire det row :=
  (State.injNext_of_run hrun).trans ((if_neg (not_not_intro hdetail)).trans (if_pos hlast))

theorem State.injNext_goes_on (hdetail : s.injDetail det row = 0) (hmore : 1 < i.left) :
    s.injNext det row = ((s.withoutInj det row).withInj det row (i.left - 1)).injFire det row :=
  (State.injNext_of_run hrun).trans ((if_neg (not_not_intro hdetail)).trans (if_neg (Nat.not_le.mpr hmore)))

theorem State.injNext_fails (hdetail : s.injDetail det row ≠ 0) :
    s.injNext det row = (s.withoutInj det row).actFail (injCode det) row (s.injDetail det row) :=
  (State.injNext_of_run hrun).trans (if_pos hdetail)

end

end

end Sys2Proof.Machine

open Sys2Proof Sys2Proof.Machine

/-- Settles O45: silence, pass, watchdogs, deadline and telemetry each through its lemma, then injections by their checks and count. -/
theorem selfManagementCommands : Obligations.SelfManagementCommands := by
  unfold Obligations.SelfManagementCommands
  refine ⟨fun s hsilent => ?silence,
    fun s a b c d sensors watts hot busyE busyG idle tj hstage hrun ha hb htj hc hd => ⟨fun hcool => ?cool, fun t hhot hsome hlimit => ?hot⟩,
    fun s i hstage => ?watchdogEarly, fun s t core hcore hstage ht => ⟨fun honce => ?watchdog, fun htwice => ?watchdogAgain⟩,
    fun s t ht => ⟨?deadline, ht ▸ State.level_of_forced rfl⟩, fun s t loads lag f99 r99 ht => ?telemetry,
    fun h det row n hmany hhi => ?repeated, fun h det row => ?single, fun h det row n d hlo hhi hd => ?refused,
    fun s det row => State.injDetail_disabled det row,
    fun s det row i hrun => ⟨fun hdetail hlast => ?last, fun hdetail hmore => ?next, fun hdetail => ?failed⟩⟩
  case silence => exact exec_ends (exec_pollSilenceTimeout s) (State.pollSilent_begins hsilent)
  case cool =>
    subst hcool
    exact exec_ends (exec_safetyPass sensors watts false idle busyE busyG s)
      (State.safetyPass_cool idle busyE busyG hstage hrun ha hb htj hc hd)
  case hot =>
    subst hhot
    exact exec_ends (exec_safetyPass sensors watts true idle busyE busyG s)
      (State.safetyPass_hot idle busyE busyG hstage hrun ha hb htj hc hd hsome hlimit)
  case watchdogEarly => exact exec_ends (exec_watchdogExpiry i s) (State.watchdog_before_s3 i hstage)
  case watchdog => exact exec_ends (exec_watchdogExpiry core s) (State.watchdog_once hcore hstage ht honce)
  case watchdogAgain => exact exec_ends (exec_watchdogExpiry core s) (State.watchdog_twice hcore hstage ht htwice)
  case deadline => exact exec_ends (exec_safetyDeadlineExpiry s) (State.deadline_forces ht)
  case telemetry => exact exec_ends (exec_telemetryPass loads lag f99 r99 s) (State.telemetry_publishes r99 ht)
  case repeated =>
    exact ActionRuns.of _ (exec_injection h det row n) fun u ⟨hdetail, hfree⟩ => by
      rw [State.actInject_of_count det row hmany.le hhi, State.injectOp_repeats hdetail hfree hmany]
      rfl
  case single =>
    exact ActionRuns.of _ (exec_injection h det row 1) fun u ⟨hdetail, hfree⟩ => by
      rw [State.actInject_of_count det row le_rfl (by decide), State.injectOp_once hdetail hfree]
  case refused =>
    exact ActionRuns.of _ (exec_injection h det row n) fun u hdetail => by
      rw [State.actInject_of_count det row hlo hhi, State.injectOp_refused hd hdetail]
  case last => exact exec_ends (exec_injectionOccurrence det row s) (State.injNext_last hrun hdetail hlast)
  case next => exact exec_ends (exec_injectionOccurrence det row s) (State.injNext_goes_on hrun hdetail hmore)
  case failed => exact exec_ends (exec_injectionOccurrence det row s) (State.injNext_fails hrun hdetail)
end
